-- ==== Sys2Proof/Word.lean ====
section
/-!
DEFINITION. The word types of the VLR-8800 model and their plainest arithmetic.
Registers are little-endian 32-bit words (R6); packets are lists of bytes in network order (R6).
-/

namespace Sys2Proof

/-- One byte. -/
abbrev Byte := BitVec 8

/-- One 32-bit register word (R6). -/
abbrev Word := BitVec 32

/-- A frame, a head or a table entry, first byte first (R6). -/
abbrev Bytes := List Byte

/-! ### Operands that come together -/

/-- What a read names: a byte address and how many bytes (R34). -/
structure Access where
  addr : Nat
  size : Nat
  deriving DecidableEq, Repr

/-- A piece of a frame as it arrives, and the FEC codewords corrected and uncorrectable since the last piece (R73, R75). -/
structure RxPart where
  bytes : Bytes
  corr : Nat
  uncorr : Nat
  deriving DecidableEq, Repr

/-- A reference input within limits again, and whether TIMEREF is found at 25 MHz (R313, R454). -/
structure RefInput where
  i : Nat
  mhz25 : Bool
  deriving DecidableEq, Repr

/-- Template bytes ahead of a session's control packet, and whether a read of its block is uncorrectable (R325, R230). -/
structure BfdRead where
  n : Nat
  ecc : Bool
  deriving DecidableEq, Repr

/-- Period and detection time of a session, in microseconds (R325). -/
structure SessionTimes where
  period : Nat
  det : Nat
  deriving DecidableEq, Repr

end Sys2Proof
end

