-- ==== Sys2Proof/Syntax.lean ====
section
/-!
DEFINITION. The commands of the VLR-8800, one constructor per row of the command table: writes and reads of its
registers and windows, operations of its buses and protocols, events on its pins and inside it.
-/

namespace Sys2Proof

/-- The commands. -/
inductive Instr where
  /-- REGISTER_WRITE: A write to a register field with no row of its own, judged by access type and change class and
  applied or refused. -/
  | registerWrite (req : Nat) (a : Nat) (size : Nat) (v : Nat)
  /-- LIVE_VALUE_APPLY: A class L value written earlier is applied by the block at its next unit boundary, within 1
  µs. -/
  | liveValueApply (a : Nat)
  /-- COMMIT: PAGE_CTL.COMMIT sets COMMIT_PENDING so that every shadow of the page is applied together. -/
  | commit (req : Nat) (page : Nat)
  /-- SHADOW_APPLY: At the next unit boundary after COMMIT the block copies all shadows to active values in one step
  and clears COMMIT_PENDING. -/
  | shadowApply (page : Nat)
  /-- DISCARD: PAGE_CTL.DISCARD copies the active class S values into their shadows. -/
  | discard (req : Nat) (page : Nat)
  /-- EPOCH_BIND: A PAGE_CTL write that changes EPOCH_BIND is accepted or refused and takes effect at the next epoch
  commit. -/
  | epochBind (req : Nat) (page : Nat) (b : Bool)
  /-- SNAPSHOT: PAGE_CTL.SNAPSHOT starts copying every counter of the page into the snapshot buffer. -/
  | snapshot (req : Nat) (page : Nat)
  /-- SNAP_CLEAR: PAGE_CTL.SNAP_CLEAR takes a snapshot and zeroes the counters in the same BCLK. -/
  | snapClear (req : Nat) (page : Nat)
  /-- SNAPSHOT_COMPLETE: The snapshot copy completes within 32 BCLK, SNAP_BUSY clears and SNAP_VALID is set. -/
  | snapshotComplete (page : Nat)
  /-- SOFT_RESET: PAGE_CTL.SOFT_RESET sets IN_RESET and returns block registers and shadows to reset values with the
  block's own effects. -/
  | softReset (req : Nat) (page : Nat)
  /-- SOFT_RESET_COMPLETE: IN_RESET clears when the block is ready after a soft reset. -/
  | softResetComplete (page : Nat)
  /-- QUIESCE: PAGE_CTL.QUIESCE written to 1 or 0 closes or reopens the block to new units. -/
  | quiesce (req : Nat) (page : Nat) (b : Bool)
  /-- QUIESCE_COMPLETE: QUIESCED is set once no unit of a quiescing block remains in flight. -/
  | quiesceComplete (page : Nat)
  /-- ENABLE: PAGE_CTL.ENABLE written to enable or disable the block. -/
  | enable (req : Nat) (page : Nat) (b : Bool)
  /-- REFUSED_CLEAR: Writing 1 to PAGE_STS.REFUSED clears it together with OFFSET, REASON and MORE of WRITE_REFUSED. -/
  | refusedClear (req : Nat) (page : Nat)
  /-- ERR_STS_CLEAR: Writing 1 to an ERR_STS bit clears it and the source's ERR_CLASS bits. -/
  | errStsClear (req : Nat) (page : Nat) (mask : Nat)
  /-- ERR_INJECT: ERR_INJECT with GO injects one error of the given source and class along the path of a real one. -/
  | errInject (req : Nat) (page : Nat) (src : Nat) (cls : Nat)
  /-- LOW_WORD_WRITE: A write of a 64-bit register's low word goes into the requester's holding word. -/
  | lowWordWrite (req : Nat) (a : Nat) (v : Word)
  /-- HIGH_WORD_WRITE: A write of the high word applies both halves as one write when paired, or the high half alone,
  and empties the holding word. -/
  | highWordWrite (req : Nat) (a : Nat) (v : Word)
  /-- LOW_WORD_READ: A read of the low word latches the high word into the requester's holding word. -/
  | lowWordRead (req : Nat) (a : Access)
  /-- HIGH_WORD_READ: A read of the high word returns the latched or current value and empties the holding word. -/
  | highWordRead (req : Nat) (a : Nat)
  /-- RC_LAG_READ: Reading RC_LAG returns the largest release lag and clears it. -/
  | rcLagRead (req : Nat)
  /-- TAE_HSQ_TAIL: A host write of TAE_HSQ_TAIL posts commands when it advances TAIL by no more than the free slots,
  or is ignored with IRQ_STS bit 1. -/
  | taeHsqTail (req : Nat) (v : Nat)
  /-- TAE_HCQ_HEAD: A host write of TAE_HCQ_HEAD consumes completion slots so the TAE may write them again. -/
  | taeHcqHead (req : Nat) (v : Nat)
  /-- INSERT: TAE INSERT adds an entry by key, placing it under R137 for EMT or R160 for Thicket. -/
  | insert (q : Nat) (ecc : Bool)
  /-- DELETE: TAE DELETE removes every selected entry of a key. -/
  | delete (q : Nat) (ecc : Bool)
  /-- MODIFY: TAE MODIFY replaces the action of each selected entry of a key. -/
  | modify (q : Nat) (ecc : Bool)
  /-- SEARCH: TAE SEARCH returns the selected entry that holds a key. -/
  | search (q : Nat) (ecc : Bool)
  /-- WRITE: TAE WRITE writes the entry at INDEX of an indexed or keyed space in one committing write. -/
  | write (q : Nat) (ecc : Bool)
  /-- READ: TAE READ returns the entry at INDEX. -/
  | read (q : Nat) (ecc : Bool)
  /-- READ_CLEAR: TAE READ_CLEAR returns a counter pair from one BCLK instant and zeroes it. -/
  | readClear (q : Nat) (ecc : Bool)
  /-- SET_MEMB: TAE SET_MEMB sets the membership bits of the entry holding a key, or deletes it for MEMB 0b00. -/
  | setMemb (q : Nat) (ecc : Bool)
  /-- FENCE: TAE FENCE completes after every earlier command of both queues has completed. -/
  | fence (q : Nat) (ecc : Bool)
  /-- MAC_CFG: A write of MAC_CFG changes port mode, FEC, Trail, EEE, Coppice, loopback and flow-control enables
  under class and combination checks. -/
  | macCfg (req : Nat) (p : Nat) (v : Word)
  /-- AUTO_NEGOTIATION: Clause 73 auto-negotiation on a 0x1F port resolves a common type, or restarts under PLL
  contention. -/
  | autoNegotiation (p : Nat) (types : Nat) (fec : Nat) (eee : Bool)
  /-- LINK_TRAINING: Link training of a B-port completes or fails within the clause's maximum wait, recording
  TRAIN_FAIL and restarting. -/
  | linkTraining (p : Nat) (ok : Bool)
  /-- LINK_UP: The port's link comes up and IRQ_STS bit 0 is set. -/
  | linkUp (p : Nat) (snr : Nat)
  /-- LINK_DOWN: The port's link goes down and IRQ_STS bit 1 is set. -/
  | linkDown (p : Nat)
  /-- PLL_LOSS_OF_LOCK: A quad PLL loses lock, its lanes go down, and they retrain when lock returns. -/
  | pllLossOfLock (page : Nat) (k : Nat)
  /-- FRAME_RECEIVE: The receive MAC takes a frame, checks it, stores the body in the Clearing and passes the head
  toward dispatch. -/
  | frameReceive (p : Nat) (part : RxPart) (last : Bool)
  /-- PAUSE: A received PAUSE frame loads or ends the port's pause timer. -/
  | pause (p : Nat) (q : Nat)
  /-- PFC: A received PFC frame loads the timers of its enabled priorities. -/
  | pfc (p : Nat) (en : Nat) (qs : List Nat)
  /-- PAUSE_TIMER_EXPIRE: A PAUSE or PFC priority timer runs out and the paused traffic becomes eligible again. -/
  | pauseTimerExpire (p : Nat) (i : Nat)
  /-- PAUSE_STORM: A pause hold exceeds HOLD_MS; the timer is zeroed, IGNORED set and a partner violation recorded. -/
  | pauseStorm (p : Nat) (i : Nat)
  /-- IGNORE_EXPIRE: IGNORED clears after IGNORE_MS and the next pause frame is applied again. -/
  | ignoreExpire (p : Nat) (i : Nat)
  /-- FC_FRAME_SEND: The device sends a PAUSE or PFC frame ahead of queued frames once the frame in progress ends. -/
  | fcFrameSend (p : Nat)
  /-- FC_REFRESH: While a flow-control condition persists, the frame is resent each time QUANTA/2 quanta have
  elapsed. -/
  | fcRefresh (p : Nat) (i : Nat)
  /-- LPI_ENTER: The transmitter enters LPI after LPI_IDLE_US with no eligible frame. -/
  | lpiEnter (p : Nat)
  /-- LPI_WAKE: A frame becomes eligible and the transmitter leaves LPI, the frame waiting for the wake time. -/
  | lpiWake (p : Nat)
  /-- HELLO: A Coppice port sends a HELLO every 100 ms, or receives one and sets COPPICE_ACTIVE. -/
  | hello (p : Nat) (recv : Bool)
  /-- SHED_REQ: A port whose utilisation has stayed low for HOLD_MS sends SHED_REQ, or a received SHED_REQ is
  answered ACK or NAK. -/
  | shedReq (p : Nat) (recv : Bool) (target : Nat) (seq : Nat) (nonce : Nat)
  /-- SHED_ACK: A received SHED_ACK makes each transmitter switch to fewer lanes at its next flagged alignment
  marker. -/
  | shedAck (p : Nat)
  /-- SHED_NAK: A received SHED_NAK makes the initiator wait HOLD_MS before asking again. -/
  | shedNak (p : Nat)
  /-- WAKE_REQ: A wake trigger sends WAKE_REQ, or a received WAKE_REQ wakes the quiet lanes and is answered WAKE_ACK. -/
  | wakeReq (p : Nat) (recv : Bool) (seq : Nat) (nonce : Nat)
  /-- WAKE_ACK: A received WAKE_ACK completes the return to all lanes. -/
  | wakeAck (p : Nat)
  /-- UTILISATION_WINDOW: A 100 µs utilisation window ends and is tested against the shed and wake bounds. -/
  | utilisationWindow (p : Nat)
  /-- COPPICE_TIMEOUT: A lane-count change not complete within 20 µs records COPPICE_TIMEOUT and wakes or retrains
  the port. -/
  | coppiceTimeout (p : Nat) (nonce : Nat)
  /-- FRAME_TRANSMIT: The transmit MAC sends a selected frame, inserting the Trail header, padding and FCS, or drops
  it as TX_OVERSIZE. -/
  | frameTransmit (p : Nat) (under : Bool)
  /-- HEAD_ENQUEUE: A head enters its dispatch queue, or is dropped as DISPATCH_OVERRUN when the queue is full. -/
  | headEnqueue (src : Nat)
  /-- DISPATCH_GRANT: Each CCLK dispatch grants up to 16 heads to open Groves in tier order and reserves a thread for
  each. -/
  | dispatchGrant
  /-- PARSE_WALK: A parse unit walks the graph from the port's start node, building the PRV and ending with a status. -/
  | parseWalk (k : Nat)
  /-- HOLD_TIMEOUT: A held later fragment reaches HOLD_US and becomes ORPHAN. -/
  | holdTimeout
  /-- FRAG_AGED: A fragment record is removed AGE_MS after its creation. -/
  | fragAged
  /-- FRAG_SEED: A write of FRAG_SEED empties Fragment Memory and orphans held fragments. -/
  | fragSeed (req : Nat) (v : Word)
  /-- PGU_NODE_READ: PGU_NODE_CMD with OP 0 loads a node into D0–D3. -/
  | pguNodeRead (req : Nat) (bank : Nat) (node : Nat)
  /-- PGU_NODE_WRITE: PGU_NODE_CMD with OP 1 replaces a node with D0–D3 at most 16 CCLK later, or is refused. -/
  | pguNodeWrite (req : Nat) (bank : Nat) (node : Nat)
  /-- DISPATCH_ENTRY: A reserved thread starts at the routine entry of its profile and parity, or the packet is
  dropped as NO_ROUTINE. -/
  | dispatchEntry (t : Nat)
  /-- ALU_NOP: ALU opcode NOP does nothing. -/
  | aluNop (eng : Nat) (slot : Nat)
  /-- ALU_MOV: ALU opcode MOV writes operand B. -/
  | aluMov (eng : Nat) (slot : Nat)
  /-- ALU_ADD: ALU opcode ADD writes A + B. -/
  | aluAdd (eng : Nat) (slot : Nat)
  /-- ALU_SUB: ALU opcode SUB writes A − B. -/
  | aluSub (eng : Nat) (slot : Nat)
  /-- ALU_AND: ALU opcode AND writes A AND B. -/
  | aluAnd (eng : Nat) (slot : Nat)
  /-- ALU_OR: ALU opcode OR writes A OR B. -/
  | aluOr (eng : Nat) (slot : Nat)
  /-- ALU_XOR: ALU opcode XOR writes A XOR B. -/
  | aluXor (eng : Nat) (slot : Nat)
  /-- ALU_ANDN: ALU opcode ANDN writes A AND NOT B. -/
  | aluAndn (eng : Nat) (slot : Nat)
  /-- ALU_SHL: ALU opcode SHL shifts A left. -/
  | aluShl (eng : Nat) (slot : Nat)
  /-- ALU_SHR: ALU opcode SHR shifts A right logically. -/
  | aluShr (eng : Nat) (slot : Nat)
  /-- ALU_ROR: ALU opcode ROR rotates A right. -/
  | aluRor (eng : Nat) (slot : Nat)
  /-- ALU_EXT: ALU opcode EXT extracts a bit field of A. -/
  | aluExt (eng : Nat) (slot : Nat)
  /-- ALU_INS: ALU opcode INS inserts low bits of A into the destination. -/
  | aluIns (eng : Nat) (slot : Nat)
  /-- ALU_MIN: ALU opcode MIN writes the unsigned lesser of A and B. -/
  | aluMin (eng : Nat) (slot : Nat)
  /-- ALU_MAX: ALU opcode MAX writes the unsigned greater of A and B. -/
  | aluMax (eng : Nat) (slot : Nat)
  /-- ALU_CMP: ALU opcode CMP sets the flags of A − B. -/
  | aluCmp (eng : Nat) (slot : Nat)
  /-- ALU_LDP: ALU opcode LDP loads PRV bytes. -/
  | aluLdp (eng : Nat) (slot : Nat)
  /-- ALU_LDH: ALU opcode LDH loads head-window bytes of the thread's copy. -/
  | aluLdh (eng : Nat) (slot : Nat)
  /-- ALU_LDL: ALU opcode LDL loads a word of a lookup-result register. -/
  | aluLdl (eng : Nat) (slot : Nat)
  /-- ALU_LDM: ALU opcode LDM loads a scratch word. -/
  | aluLdm (eng : Nat) (slot : Nat)
  /-- ALU_STM: ALU opcode STM stores a scratch word. -/
  | aluStm (eng : Nat) (slot : Nat)
  /-- ALU_HASH: ALU opcode HASH advances a CRC-32C register over 4 bytes. -/
  | aluHash (eng : Nat) (slot : Nat)
  /-- ALU_POPC: ALU opcode POPC counts the 1 bits of B. -/
  | aluPopc (eng : Nat) (slot : Nat)
  /-- ALU_FFS: ALU opcode FFS finds the lowest 1 bit of B. -/
  | aluFfs (eng : Nat) (slot : Nat)
  /-- ALU_LDT: ALU opcode LDT loads the nanoseconds of the time counter. -/
  | aluLdt (eng : Nat) (slot : Nat)
  /-- SEQ_CONT: Sequencing CONT goes to NEXT. -/
  | seqCont (eng : Nat)
  /-- SEQ_TWOWAY: Sequencing TWOWAY branches on the word's condition. -/
  | seqTwoway (eng : Nat)
  /-- SEQ_DISP4: Sequencing DISP4 branches four ways on a register field. -/
  | seqDisp4 (eng : Nat)
  /-- SEQ_DISP16: Sequencing DISP16 branches sixteen ways on a register field. -/
  | seqDisp16 (eng : Nat)
  /-- SEQ_CALL: Sequencing CALL branches and loads the return register. -/
  | seqCall (eng : Nat)
  /-- SEQ_RETURN: Sequencing RETURN goes to the return register. -/
  | seqReturn (eng : Nat)
  /-- SEQ_WAIT: Sequencing WAIT sleeps the thread until its awaited result registers are no longer PENDING. -/
  | seqWait (eng : Nat)
  /-- SEQ_END: Sequencing END ends the pass and offers its commit. -/
  | seqEnd (eng : Nat)
  /-- SEQ_ABANDON: Sequencing ABANDON abandons the attempt with cause MICROCODE. -/
  | seqAbandon (eng : Nat)
  /-- RESTART: An abandoned pass is reserved a thread again and restarts at its entry without a new walk. -/
  | restart
  /-- LOOKUP_EMT: A LOOKUP field of SPACE EMT sends a key to the hash store and sets its result registers PENDING. -/
  | lookupEmt (eng : Nat) (ecc : Bool) (kind : Nat) (i : Nat)
  /-- LOOKUP_THICKET: A LOOKUP field of SPACE Thicket sends a key to a copy of the table. -/
  | lookupThicket (eng : Nat) (ecc : Bool)
  /-- LOOKUP_RESULT: A lookup result lands in its result register with HIT, MISS or UNCORRECTABLE, waking a waiting
  thread. -/
  | lookupResult (t : Nat) (grp : Nat)
  /-- HDR_SET: HEADER op SET overwrites bytes of the head copy from a source. -/
  | hdrSet (eng : Nat)
  /-- HDR_PUSH: HEADER op PUSH inserts bytes of an encapsulation template. -/
  | hdrPush (eng : Nat)
  /-- HDR_POP: HEADER op POP removes bytes of the head copy. -/
  | hdrPop (eng : Nat)
  /-- HDR_INC: HEADER op INC adds 1 to a big-endian field. -/
  | hdrInc (eng : Nat)
  /-- HDR_DEC: HEADER op DEC subtracts 1 from a big-endian field. -/
  | hdrDec (eng : Nat)
  /-- HDR_CSUM4: HEADER op CSUM4 recomputes an IPv4 header checksum incrementally. -/
  | hdrCsum4 (eng : Nat)
  /-- HDR_UDP0: HEADER op UDP0 zeroes two bytes. -/
  | hdrUdp0 (eng : Nat)
  /-- MEM_CNT: MEM op CNT stages a counter-pair increment. -/
  | memCnt (eng : Nat)
  /-- MEM_POL: MEM op POL meters the packet against a policer and reserves its tokens at once. -/
  | memPol (eng : Nat) (ecc : Bool)
  /-- MEM_CTX_RD: MEM op CTX_RD reads flow contexts into result registers under the context lock. -/
  | memCtxRd (eng : Nat) (ecc : Bool)
  /-- MEM_CTX_WRT: MEM op CTX_WRT stages contexts from a key template. -/
  | memCtxWrt (eng : Nat)
  /-- MEM_CTX_WRL: MEM op CTX_WRL stages a result register as a context. -/
  | memCtxWrl (eng : Nat)
  /-- MEM_CTX_ADD: MEM op CTX_ADD stages an addition to a context word. -/
  | memCtxAdd (eng : Nat)
  /-- MEM_LEARN: MEM op LEARN stages a LEARN or MARK notice. -/
  | memLearn (eng : Nat)
  /-- CONTEXT_LOCK_GRANT: A waiting context-lock request is granted in the BCLK after the release. -/
  | contextLockGrant (i : Nat)
  /-- DISP_FWD: DISPOSITION op FWD sets ACTION, DEST, QUEUE and latches the Trail word. -/
  | dispFwd (eng : Nat)
  /-- DISP_CLASS: DISPOSITION op CLASS sets the staged class. -/
  | dispClass (eng : Nat)
  /-- DISP_COLOUR: DISPOSITION op COLOUR sets the staged colour. -/
  | dispColour (eng : Nat)
  /-- DISP_MIRROR: DISPOSITION op MIRROR requests a flow mirror session. -/
  | dispMirror (eng : Nat)
  /-- DISP_OAM: DISPOSITION op OAM sets the OAM flag. -/
  | dispOam (eng : Nat)
  /-- DISP_RESTORE: DISPOSITION op RESTORE loads the record from PRV bytes 40–47. -/
  | dispRestore (eng : Nat)
  /-- DISP_COMMIT: DISPOSITION op COMMIT ends the pass with the record as staged. -/
  | dispCommit (eng : Nat)
  /-- DISP_DROP: DISPOSITION op DROP ends the pass with ACTION DROP. -/
  | dispDrop (eng : Nat)
  /-- DISP_TO_HOST: DISPOSITION op TO_HOST ends the pass toward the host with a reason. -/
  | dispToHost (eng : Nat)
  /-- DISP_RECIRC: DISPOSITION op RECIRC ends the pass toward port 257 or 258. -/
  | dispRecirc (eng : Nat)
  /-- COMMIT_ACCEPT: An END word's commit is accepted into X6, X7 and X8 once all have room, applying its updates and
  writing its head. -/
  | commitAccept (t : Nat) (x6 : Bool) (x7 : List Nat) (x8 : List Nat)
  /-- REORDER_RELEASE: A descriptor leaves the reorder stage behind every earlier packet of its port and goes to
  enqueue, its notices entering the Learn Queue. -/
  | reorderRelease (k : Nat)
  /-- LQ_HEAD: The consumer's write of LQ_HEAD releases consumed notices. -/
  | lqHead (req : Nat) (v : Nat)
  /-- EMT_TBL_GEO: A write of EMT_TBL_GEO_n changes a table's geometry or enables it, starting its clear. -/
  | emtTblGeo (req : Nat) (t : Nat) (v : Word)
  /-- TABLE_CLEAR_DONE: An EMT table clear finishes, CLEARING drops and IRQ_STS bit 3 is set. -/
  | tableClearDone (t : Nat)
  /-- AGING_SWEEP: Every TICK_MS a table's sweep ages its entries, queueing AGED notices and removing under REMOVE. -/
  | agingSweep (t : Nat)
  /-- THK_TBL_CFG: A write of THK_TBL_CFG_n changes a Thicket table's configuration or enables it, starting its
  clear. -/
  | thkTblCfg (req : Nat) (t : Nat) (v : Word)
  /-- THK_TABLE_CLEAR_DONE: A Thicket table clear finishes after 2,048 BCLK. -/
  | thkTableClearDone (t : Nat)
  /-- SHIFT_MOVE: A shifter moves one Thicket row by one position, and after the last move writes the new entry and
  commits it. -/
  | shiftMove (t : Nat) (c : Nat)
  /-- THICKET_SCRUB: The scrubber reads one row per bank every 16 BCLK. -/
  | thicketScrub (bad : List Nat)
  /-- THK_ROW_REPAIR: An uncorrected Thicket row is rewritten from the next copy within 1 µs, or recorded lost. -/
  | thkRowRepair (bank : Nat) (row : Nat)
  /-- CS_SCRUB: A control-store read port gives up one CCLK in 128 to scrub the next word. -/
  | csScrub (g : Nat) (q : Nat) (ecc : Nat)
  /-- CS_REPAIR: An uncorrectable control-store word is rewritten from another copy within 1 µs. -/
  | csRepair (g : Nat) (q : Nat) (a : Nat)
  /-- GRV_CS_WR: A write of GRV_CS_WR stores D0–D4 into all eight copies and updates GRV_CS_CRC, or is refused. -/
  | grvCsWr (req : Nat) (g : Nat) (addr : Nat)
  /-- GRV_CS_RD: A write of GRV_CS_RD loads a word into D0–D4 in the copy's next scrub slot. -/
  | grvCsRd (req : Nat) (g : Nat) (copy : Nat) (addr : Nat)
  /-- GRV_CS_CRC: A write of GRV_CS_CRC restarts the CRC stream. -/
  | grvCsCrc (req : Nat) (g : Nat) (v : Word)
  /-- IN_SERVICE: A write of GRV_ENG_SVC places engines in service or takes them out of dispatch. -/
  | inService (req : Nat) (g : Nat) (v : Word)
  /-- FENCED: A write of GRV_ENG_FENCE fences engines, abandoning their threads and placing a spare in service, or
  unfences them. -/
  | fenced (req : Nat) (g : Nat) (v : Word)
  /-- DRAIN_TIMEOUT: Threads of a quiescing Grove not FREE DRAIN_US after the write are abandoned with cause DRAIN. -/
  | drainTimeout (g : Nat)
  /-- EPOCH_COMMIT: EPOCH_CTL.COMMIT is checked and, when accepted, switches the current epoch within 1 µs. -/
  | epochCommit (req : Nat) (e : Nat)
  /-- EPOCH_ARM: EPOCH_CTL.ARM arms an epoch for the EPOCH_TIME instant, and with CHAIN sends EPOCH_ARM messages. -/
  | epochArm (req : Nat) (e : Nat) (chain : Bool) (target : Nat)
  /-- EPOCH_DISARM: EPOCH_CTL.DISARM clears a pending arm. -/
  | epochDisarm (req : Nat) (chain : Bool) (target : Nat)
  /-- EPOCH_ARM_FIRE: An armed commit switches epochs in the first CCLK whose time is at or after the instant. -/
  | epochArmFire
  /-- EPOCH_RETIRE: The previous epoch retires once its in-flight count is 0 and both grace times have passed. -/
  | epochRetire
  /-- CELL_PUSH: A cell whose last reference is released is pushed onto its free list. -/
  | cellPush (b : Nat)
  /-- RESIDUE_VISIT: Each BCLK the residue engine retests the held copies of one entry and admits those that pass. -/
  | residueVisit
  /-- RESIDUE_EXPIRE: A residue entry expires at RESIDUE_US and its held copies are dropped. -/
  | residueExpire
  /-- WP_AUDIT: WP_AUDIT.GO starts an audit that marks reachable cells. -/
  | wpAudit (req : Nat)
  /-- AUDIT_DONE: The audit completes, pushes unmarked cells, sets RETURNED and IRQ_STS bit 0. -/
  | auditDone
  /-- SELECTION: Each BCLK a selector chooses one frame of an eligible port through branch, twig and queue by
  priority, DWRR and shapers. -/
  | selection (g : Nat)
  /-- SCH_READ: SCH_CMD READ loads a tree entry into D0–D3. -/
  | schRead (req : Nat) (ty : Nat) (i : Nat)
  /-- SCH_WRITE: SCH_CMD WRITE writes a tree entry from D0–D3 under class and encoding checks. -/
  | schWrite (req : Nat) (ty : Nat) (i : Nat)
  /-- FLUSH: SCH_CMD FLUSH drops every copy of a queue except the frame in transmission. -/
  | flush (req : Nat) (ty : Nat) (i : Nat)
  /-- WHEEL_RELEASE: The Ring Calendar releases the entries of a reached slot or transfers coarse entries to the fine
  wheel. -/
  | wheelRelease
  /-- POLICER_REFRESH: The refresh sweep updates every policer at least once every 100 ms. -/
  | policerRefresh (i : Nat) (ecc : Bool)
  /-- GATE_READ: GATE_CMD READ loads an admin, running, status or pool entry. -/
  | gateRead (req : Nat) (ty : Nat) (i : Nat)
  /-- GATE_WRITE: GATE_CMD WRITE writes an admin entry or a pool entry outside running or pending lists. -/
  | gateWrite (req : Nat) (ty : Nat) (i : Nat)
  /-- CONFIGURATION_CHANGE: GATE_CMD OP 2 latches the admin entry as pending and computes the change time. -/
  | configurationChange (req : Nat) (ty : Nat) (i : Nat)
  /-- CONFIG_CHANGE_TAKE: At the change time the pending gate list becomes the running one, applying
  CycleTimeExtension. -/
  | configChangeTake (p : Nat)
  /-- GATE_ENTRY_ADVANCE: A running list moves to its next entry or starts a new cycle at an exact TCLK ns. -/
  | gateEntryAdvance (p : Nat)
  /-- GATE_EN: A write of GATE_EN_m enables a port's gates at ADMIN_GATES or discards its lists. -/
  | gateEn (req : Nat) (m : Nat) (v : Word)
  /-- TIME_READ: TIME_CTL READ latches the counter into TIME_D0–D3. -/
  | timeRead (req : Nat)
  /-- TIME_SET: TIME_CTL SET steps the counter to TIME_D0–D3. -/
  | timeSet (req : Nat)
  /-- TIME_ADD: TIME_CTL ADD steps the counter by a signed ns value. -/
  | timeAdd (req : Nat)
  /-- TIMEREF_LOSS: Loss of TIMEREF switches TCLK to SYSCLK and enters holdover. -/
  | timerefLoss
  /-- TIMEREF_RELOCK: After 10 ms of TIMEREF presence TCLK relocks without a phase step and HOLDOVER clears. -/
  | timerefRelock (mhz25 : Bool)
  /-- TREF_25: A write of PTP_CFG.TREF_25 retunes the TCLK PLL. -/
  | tref25 (req : Nat) (b : Bool)
  /-- PPS_IN: A rising edge on PPS_IN latches the counter and sets IRQ_STS bit 0. -/
  | ppsIn
  /-- PPS_OUT: PPS_OUT rises as the counter passes each second plus OFFSET and falls after WIDTH_US. -/
  | ppsOut
  /-- SQUELCHED: A SyncE output is squelched or released at a whole output period. -/
  | squelched (n : Nat)
  /-- TXTS_3: Reading TXTS_3 removes the head entry of the TX timestamp FIFO. -/
  | txts3 (req : Nat)
  /-- SVC_CFG: A write of SVC_CFG.PROFILE stops or starts the firing of timer entries. -/
  | svcCfg (req : Nat) (v : Word)
  /-- TIMER_FIRE: An enabled timer entry fires, placing a head in the injector FIFO or counting TMR_SKIPPED. -/
  | timerFire (i : Nat)
  /-- TIMER_INJECT: The injector passes one timer head per 32 BCLK into the timer dispatch queue with a built PRV. -/
  | timerInject
  /-- TMR_READ: TMR_CMD READ loads a timer entry and its OUT status. -/
  | tmrRead (req : Nat) (i : Nat)
  /-- TMR_WRITE: TMR_CMD WRITE writes a timer entry. -/
  | tmrWrite (req : Nat) (i : Nat)
  /-- BFD_TICK: A BFD timer pass advances MISS, may bring the session down, and sends a control packet every TXDIV
  ticks. -/
  | bfdTick (t : Nat) (b : BfdRead)
  /-- BFD_RECEIVE: A received BFD control packet is checked and runs the session state machine. -/
  | bfdReceive (t : Nat) (off : Nat) (b : BfdRead)
  /-- CCM_TICK: A MEP timer pass sends a CCM and checks loss of continuity. -/
  | ccmTick (t : Nat) (cfg : Bool) (own : Bool) (cnt : Bool)
  /-- CFM_RECEIVE: A received CFM frame is matched to its MEP and answered or recorded. -/
  | cfmReceive (t : Nat) (ecc : Bool) (kind : Nat) (x : Nat) (c0 : Bool) (c1 : Bool) (c2 : Bool) (c3 : Bool)
  /-- LM_DM_TICK: A timer pass sends an LMM or DMM from a MEP. -/
  | lmDmTick (t : Nat) (cfg : Bool) (cnt : Bool)
  /-- FIRMWARE_LEARN: The Sapwood firmware turns a Learn Queue notice into a TAE insert, modify or delete. -/
  | firmwareLearn
  /-- ROOTWAY_FRAME_RECEIVE: A Rootway frame is accepted in sequence or discarded, its ACK processed and the message
  routed. -/
  | rootwayFrameReceive (l : Nat)
  /-- DISCOVER: A DISCOVER message is sent toward the Canopy or delivered to its receive ring. -/
  | discover (recv : Bool)
  /-- ASSIGN_ID: An ASSIGN_ID message gives the device with the matching serial its new id. -/
  | assignId
  /-- REG_WRITE: A REG_WRITE message executes register writes and is answered with one REG_RESP. -/
  | regWrite
  /-- REG_READ: A REG_READ message reads registers and is answered with one REG_RESP. -/
  | regRead
  /-- REG_RESP: A REG_RESP is delivered to the originator's receive ring and its TAG released. -/
  | regResp
  /-- TABLE_OP: A TABLE_OP is submitted to the TAE host queue and answered with its completion. -/
  | tableOp
  /-- EVENT: An EVENT message is sent to the Canopy when an enabled IRQ_STS bit rises, at most one per page per 100
  µs. -/
  | event (recv : Bool) (page : Nat)
  /-- EPOCH_ARM_MESSAGE: A received EPOCH_ARM acts as an ARM write and is answered with one EPOCH_ACK. -/
  | epochArmMessage
  /-- EPOCH_ACK: A received EPOCH_ACK updates EPOCH_CHAIN_STS and EPOCH_CHAIN_BAD on the Canopy. -/
  | epochAck
  /-- MANAGER_HEARTBEAT: A manager HEARTBEAT is sent every HB_MS, or received and relayed, setting the upstream. -/
  | managerHeartbeat (recv : Bool)
  /-- LINK_HEARTBEAT: A link HEARTBEAT is sent every 100 µs or when an ACK is due, or received and shown in
  RW_LINK_STS. -/
  | linkHeartbeat (l : Nat) (recv : Bool)
  /-- IMAGE_CHUNK: An IMAGE_CHUNK is placed in the staging area and answered OK or AUTH. -/
  | imageChunk
  /-- RW_RTX: When the oldest unacknowledged Rootway frame is older than RTX_US, all unacknowledged frames are
  resent. -/
  | rwRtx (l : Nat)
  /-- ROOTWAY_DOWN: After RETRY_MAX retransmissions or 300 µs of silence the link is Rootway-down and its frames are
  lost. -/
  | rootwayDown (l : Nat)
  /-- ORPHAN: No manager HEARTBEAT for HB_MISS × HB_MS makes an Understory device an orphan. -/
  | orphan
  /-- RW_TIMEOUT: No REG_RESP within E2E_MS writes a TIMEOUT REG_RESP into the receive ring. -/
  | rwTimeout
  /-- RW_TXR_TAIL: A write of the transmit ring TAIL makes the device send the messages in ring order. -/
  | rwTxrTail (req : Nat) (v : Nat)
  /-- TR_SWITCH: A write of TR_SWITCH quiesces the B-port, sets TRAIL_EN and MAXLEN, and clears QUIESCE. -/
  | trSwitch (req : Nat) (p : Nat) (trail : Bool) (maxlen : Nat)
  /-- TR_SWITCH_COMPLETE: Once QUIESCED is set the TR_SWITCH writes its values, clears QUIESCE and BUSY. -/
  | trSwitchComplete
  /-- COLD_RESET: VDD_KEEP rising through 90 % starts a cold device reset. -/
  | coldReset (mode : Nat) (boot : Nat) (bpgen : Nat) (lngen : Nat)
  /-- RST_N: RST_N held low for at least 1 µs starts a warm device reset. -/
  | rstN (high : Bool) (mode : Nat) (boot : Nat) (bpgen : Nat) (lngen : Nat)
  /-- DEV_RST: DEV_RST written with KEY 0xB007 and WARM 1 starts a warm reset, other keys are refused. -/
  | devRst (req : Nat) (key : Nat) (warm : Bool)
  /-- BOOT: After a device reset Heartwood runs the boot from strap sampling through the staggered start to
  BOOT_DONE. -/
  | boot (auth : Bool) (flashOk : Bool)
  /-- STATUS: Mailbox STATUS returns serial, boot status, levels and SVN floor. -/
  | status (slot : Nat)
  /-- FETCH: Mailbox FETCH reads host memory into the staging area. -/
  | fetch (slot : Nat)
  /-- VERIFY_LOAD: Mailbox VERIFY_LOAD checks the staged image and loads it. -/
  | verifyLoad (slot : Nat)
  /-- ACTIVATE: Mailbox ACTIVATE makes the loaded bank active and restarts the cores. -/
  | activate (slot : Nat)
  /-- RESTART_CORE: Mailbox RESTART_CORE halts, clears and restarts the named Sapwood cores. -/
  | restartCore (slot : Nat)
  /-- LOCK_COMMAND: Mailbox LOCK sets the reaction or behaviour-level locks. -/
  | lockCommand (slot : Nat)
  /-- COMMIT_SVN: Mailbox COMMIT_SVN raises the OTP floor of a signed kind to the running SVN. -/
  | commitSvn (slot : Nat)
  /-- FLASH_WRITE: Mailbox FLASH_WRITE programs flash from the staging area. -/
  | flashWrite (slot : Nat)
  /-- FLASH_ERASE: Mailbox FLASH_ERASE erases a flash range. -/
  | flashErase (slot : Nat)
  /-- SAFE_STATE: Mailbox SAFE_STATE puts the device into the safe state. -/
  | safeState (slot : Nat)
  /-- SW_KICK: A core's write of SW_KICK restarts its watchdog interval. -/
  | swKick (n : Nat) (v : Word)
  /-- SAPWOOD_WATCHDOG: A core that misses TIMEOUT_MS is restarted and IRQ_STS bit 2 of page 0x003 set. -/
  | sapwoodWatchdog (n : Nat)
  /-- HEARTWOOD_WATCHDOG: A missed Heartwood kick stops ALIVE and restarts Heartwood from ROM. -/
  | heartwoodWatchdog (patchOk : Bool)
  /-- API_CMD_TAIL: A host write of API_CMD_TAIL posts commands to the firmware's host API. -/
  | apiCmdTail (req : Nat) (v : Nat)
  /-- COUNTER_READ: API opcode COUNTER_READ snapshots a page's counters into a host buffer. -/
  | counterRead (tag : Nat) (page : Nat) (buf : Nat)
  /-- ROOTWAY_SEND: API opcode ROOTWAY_SEND places a message into the Canopy transmit ring. -/
  | rootwaySend (tag : Nat) (msg : Bytes)
  /-- SESSION_ADD: API opcode SESSION_ADD creates a BFD or MEP session. -/
  | sessionAdd (tag : Nat) (mep : Bool) (n : Nat) (i : Nat) (tm : SessionTimes) (blk : Bytes)
  /-- SESSION_DEL: API opcode SESSION_DEL removes a session. -/
  | sessionDel (tag : Nat) (mep : Bool) (n : Nat)
  /-- TABLE_FLUSH_PORT: API opcode TABLE_FLUSH_PORT deletes the learned entries naming a port. -/
  | tableFlushPort (tag : Nat) (port : Nat)
  /-- FW_INFO: API opcode FW_INFO returns firmware information. -/
  | fwInfo (tag : Nat)
  /-- HOST_LINK_RESET: PERST, hot reset, link-down or FLR resets only the host link, its rings and the TAE host
  queue. -/
  | hostLinkReset (perst : Option Bool)
  /-- RING_TAIL: A host write of a ring's RING_TAIL posts transmit frames or receive buffers. -/
  | ringTail (recv : Bool) (i : Nat) (v : Nat)
  /-- HOST_TX_FETCH: A posted host frame is fetched and enters port 256's dispatch queue, or is discarded as
  HOST_TX_BAD. -/
  | hostTxFetch (ready : Nat) (lens : List Nat) (flags : List Nat) (data : Bytes) (err : Bool)
  /-- HOST_RX_DELIVER: A copy to port 256 is written into receive-ring buffers with its record. -/
  | hostRxDeliver (bufs : List Nat) (err : Bool)
  /-- EXCEPTION_DELIVER: The exception queue delivers a parse HOST or final-abandon packet into EXC_RING. -/
  | exceptionDeliver (bufs : List Nat) (err : Bool)
  /-- HEV_ACK: A write of HEV_ACK returns a vector to IDLE and resamples its lines. -/
  | hevAck (req : Nat) (v : Nat)
  /-- SMBUS_IDENTITY: SMBus command 0x01 returns serial, levels and boot status. -/
  | smbusIdentity
  /-- SMBUS_STATUS: SMBus command 0x02 returns the status word. -/
  | smbusStatus
  /-- SMBUS_TEMPERATURE: SMBus command 0x03 returns the hottest junction temperature. -/
  | smbusTemperature
  /-- SMBUS_POWER: SMBus command 0x04 returns VDD_CORE power. -/
  | smbusPower (power : Nat)
  /-- SMBUS_LKO_TOP: SMBus command 0x05 returns LKO_TOP. -/
  | smbusLkoTop
  /-- SMBUS_ADDRESS: SMBus command 0x06 sets a new target address unless locked. -/
  | smbusAddress (a : Nat)
  /-- AVS_RETRY: A failed AVS transaction is repeated every 1 ms and reported. -/
  | avsRetry (ok : Bool)
  /-- AGING_MONITOR: Every second Heartwood reads the aging monitors and raises the VDD_CORE target. -/
  | agingMonitor (ppm : Nat) (margin : Nat) (target : Nat)
  /-- IC_SGI: A write of IC_SGI raises an edge on a software-generated source. -/
  | icSgi (req : Nat) (q : Nat)
  /-- IC_TMR: A core timer expires and raises an edge on its source. -/
  | icTmr (n : Nat)
  /-- INTERRUPT_ENTRY: A core takes a presented source, pushes its frame, claims at the claim cycle and jumps to the
  vector. -/
  | interruptEntry (n : Nat) (rival : Nat)
  /-- RETURN_FROM_INTERRUPT: A handler returns, restoring RP, and chains to a presented source or pops its frame. -/
  | returnFromInterrupt (n : Nat) (rival : Nat)
  /-- IC_EOI: A write of IC_EOI_n completes an ACTIVE source on core n or counts BAD_EOI. -/
  | icEoi (req : Nat) (n : Nat) (q : Nat)
  /-- ERROR_REPORT: A block asserts an error line and the Lookout captures the report within 8 KCLK. -/
  | errorReport (page : Nat) (src : Nat) (index : Nat) (partner : Bool)
  /-- REPORT_DECIDE: The Lookout decides a captured report: echo, count, persistence and reaction. -/
  | reportDecide
  /-- ERR_WINDOW_CLOSE: A source's or tracker entry's persistence window closes after ERR_WINDOW and its counts
  return to 0. -/
  | errWindowClose (page : Nat) (src : Nat)
  /-- ECHO_WINDOW_END: A page's echo window ends ECHO_US after its condition ends. -/
  | echoWindowEnd (page : Nat)
  /-- REMAP: A persistent SRAM row is remapped to a spare within 1 µs, or REPAIR_EXHAUSTED counted. -/
  | remap (res : Nat)
  /-- OTP_REPAIR_WRITE: Heartwood writes a repair record into OTP within 10 ms of the remap. -/
  | otpRepairWrite
  /-- ALIVE_TOGGLE: ALIVE toggles every 0.5 ms while Heartwood kicks, no safe state holds and the self-check passes. -/
  | aliveToggle
  /-- COLLECTOR_FAULT: A mismatch or ECC error in the Lookout's state enters the safe state with CAUSE 3. -/
  | collectorFault
  /-- RAIL_OUT_OF_TOLERANCE: A rail outside its tolerance for over 1 µs raises an FT report. -/
  | railOutOfTolerance
  /-- JUNCTION_OVER_LIMIT: The junction exceeds the ordering code's limit and raises source 0 of page 0x1C8. -/
  | junctionOverLimit (sensor : Nat) (temp : Nat)
  /-- THERM_TRIP_N: The hottest sensor reaching 125 °C asserts THERM_TRIP_N until cold reset. -/
  | thermTripN
  /-- CLOCK_LOSS: A reference input absent for 200 ns or out of limits is lost and reported. -/
  | clockLoss (i : Nat)
  /-- CLOCK_RETURN: A lost input is present again after 10 ms within limits. -/
  | clockReturn (r : RefInput)
  /-- FIRST_VERDICT: After 1 ms of checking at start-up the clock monitor gives its first verdict on every input. -/
  | firstVerdict (present : Nat) (mhz25 : Bool)
  /-- BYPASS: JTAG instruction BYPASS selects the bypass register. -/
  | bypass
  /-- IDCODE: JTAG instruction IDCODE selects the identification register. -/
  | idcode
  /-- SAMPLE_PRELOAD: JTAG instruction SAMPLE/PRELOAD is accepted only while TEST_EN is 1. -/
  | samplePreload
  /-- EXTEST: JTAG instruction EXTEST is accepted only while TEST_EN is 1. -/
  | extest
  /-- CLAMP: JTAG instruction CLAMP is accepted only while TEST_EN is 1. -/
  | clamp
  /-- HIGHZ: JTAG instruction HIGHZ is accepted only while TEST_EN is 1. -/
  | highz
  /-- PLL_LOCK: A quad PLL achieves or regains lock, and the lanes of that PLL come up or retrain. -/
  | pllLock (page : Nat) (k : Nat)
  /-- PCIE_LINK_TRAINING: The PCIe endpoint trains its link no earlier than 1 ms after RST_N and PCIE_PERST_N are
  both high, or after a link-down. -/
  | pcieLinkTraining
  /-- RX_LPI: The link partner enters or leaves LPI, setting or clearing MAC_STS.RX_LPI, or being treated as idle
  with LPI_UNNEG when EEE is not in use. -/
  | rxLpi (p : Nat) (on : Bool)
  /-- UPSTREAM_CHANGE: A device changes its upstream when a heartbeat sequence arrived on another link and no copy
  arrived on the upstream within HB_MS. -/
  | upstreamChange
  /-- VDD_KEEP_FALL: VDD_KEEP falls below 90 % of nominal and the device is held in cold reset. -/
  | vddKeepFall
  /-- KEEPCLK_LOSS: KEEPCLK stops, so the Lookout and ALIVE stop without FAULT_N being asserted. -/
  | keepclkLoss
  /-- TEST_EN: TEST_EN changes level, holding the device as under RST_N low (except the TAP) while it is 1 and
  releasing it when it falls. -/
  | testEn (high : Bool)
  /-- ITR_US_EXPIRY: A ring's vector message held back by ITR_US is sent once that time has passed since its last
  message. -/
  | itrUsExpiry (r : Nat)
  /-- HMB_DONE: A Heartwood mailbox request that took time (FETCH, VERIFY_LOAD, FLASH_WRITE, FLASH_ERASE) ends, its
  response is written, BUSY clears and DONE sets IRQ_STS bit s. -/
  | hmbDone (slot : Nat) (ok : Bool) (auth : Bool) (data : Bytes)
  deriving DecidableEq, Repr

end Sys2Proof
end

