-- ==== Sys2Proof/Decode.lean ====
section
/-!
DEFINITION. The command table gives no row any bits: its rows are commands with operands, not words. No word spells one.
-/

namespace Sys2Proof

/-- The command that a word of the command table spells: none, since the table gives its rows no bits. -/
def decodeTableWord (_nbits _w : Nat) : Option Instr := none

end Sys2Proof
end

