-- ==== Sys2Proof/Machine/Flags.lean ====
section
/-!
DEFINITION. The flags Z, N, C and V of a thread (R187, R190) and the ALU results that set them.
-/

namespace Sys2Proof.Machine
open Sys2Proof

/-- An ALU result with the flags it sets. -/
structure AluOut where
  r : Word
  z : Bool
  n : Bool
  c : Bool
  v : Bool
  deriving DecidableEq, Repr

/-- Logic and most other results: Z and N of the result, C and V cleared (R190). -/
def outLogic (r : Word) : AluOut := ⟨r, r == 0, r.msb, false, false⟩

/-- A + B: C is the carry out, V the signed overflow (R190). -/
def outAdd (a b : Word) : AluOut :=
  let r := a + b
  ⟨r, r == 0, r.msb, decide (2 ^ 32 ≤ a.toNat + b.toNat), (a.msb == b.msb) && (r.msb != a.msb)⟩

/-- A − B: C is 1 when A ≥ B unsigned, V the signed overflow (R190). -/
def outSub (a b : Word) : AluOut :=
  let r := a - b
  ⟨r, r == 0, r.msb, decide (b.toNat ≤ a.toNat), (a.msb != b.msb) && (r.msb != a.msb)⟩

end Sys2Proof.Machine
end

