-- ==== Sys2Proof/Config.lean ====
section
/-!
DEFINITION. What an implementation of the VLR-8800 fixes and the manual does not: free values and per-part constants,
each an uninterpreted constant. Nothing in the model or in a proof can see a value of one.
-/

namespace Sys2Proof.Config

/-- A value the manual leaves open, one for each value of the model's counter `freeCtr` (log entry 6, DESIGN CHOICE). -/
opaque freeValue : Nat → Nat

/-- Contents of the engine scratch areas that no routine has written since device reset (R187; log entry 6, DESIGN CHOICE). -/
opaque scratch : Nat → Nat

/-- The ROM microcode of the default bridge, by control-store address (R435; log entry 5, DESIGN CHOICE). -/
opaque romWord : Nat → Nat

/-- The dispatch entries the ROM installs (R435; log entry 5, DESIGN CHOICE). -/
opaque romDispatch : Nat → Nat

/-- The key templates the ROM installs (R435; log entry 5, DESIGN CHOICE). -/
opaque romTemplate : Nat → Nat

/-- The parse-graph nodes the ROM installs, by bank × 256 + node (R435; log entry 5, DESIGN CHOICE). -/
opaque romNode : Nat → Nat

/-- The parse transition entries the ROM installs (R435; log entry 5, DESIGN CHOICE). -/
opaque romTransition : Nat → Nat

/-- ENTRY of the base Sapwood image in ROM (R365; log entry 5, DESIGN CHOICE). -/
opaque romEntry : Nat

/-- SVN of the base Sapwood image in ROM (R365; log entry 5, DESIGN CHOICE). -/
opaque romSvn : Nat

/-- DEV_ID.STEPPING, 8 bits (R431; log entry 4, DESIGN CHOICE). -/
opaque stepping : Nat

/-- DEV_BL.HIGHEST, 4 bits, 1 or more (R438; log entry 4, DESIGN CHOICE). -/
opaque highest : Nat

/-- PT_AVS.FUSED_MV of the die, of which the model takes a value in the range of R451 (R460; log entry 4, DESIGN CHOICE). -/
opaque fusedMv : Nat

/-- The die's 64-bit serial number (R383; log entry 4, DESIGN CHOICE). -/
opaque serial : Nat

/-- The retrigger decision of the service timers for an entry and a firing, whose generator the manual does not
give (R320; log entry 7, DESIGN CHOICE). -/
opaque timerPhase : Nat → Nat → Nat

/-- The ordering code: true for VLR-8800-EB, false for VLR-8800-CB (R439, R442; log entry 4, DESIGN CHOICE). -/
opaque orderEb : Bool

/-- The manufacturer code of the JTAG IDCODE, 11 bits, which the BSDL file gives (R459; log entry 4, DESIGN CHOICE). -/
opaque manufacturer : Nat

/-- The boundary cell of ball i, in the order of R447, which the BSDL file gives (R459; log entry 125, DESIGN CHOICE). -/
opaque boundaryCell : Nat → Nat

/-- The ROM public key of a key id: the two coordinates of its point (R368; log entry 52, DESIGN CHOICE). -/
opaque romKeyX : Nat → Nat
opaque romKeyY : Nat → Nat

/-- Priority of a source of Heartwood's controller, 4 bits, and whether it is an edge source; the ROM fixes them (R400; log entry
128, DESIGN CHOICE). -/
opaque hicPrio : Nat → Nat
opaque hicEdge : Nat → Bool

/-- PAGE_ID.LAYOUT of a behaviour level above BL1 (R438; log entry 4, DESIGN CHOICE). -/
opaque layoutOf : Nat → Nat

/-- STATUS of the firmware's host API, for success and for failure (R376; log entry 28, DESIGN CHOICE). -/
opaque apiStatus : Bool → Nat

/-- Key of table 62 for a receive port, a VID and a MEG level, and the MEP that an entry of it names (R328; log entry 120,
DESIGN CHOICE). -/
opaque mepKey : Nat → Nat → Nat → List (BitVec 8)
opaque mepEntry : List (BitVec 8) → Nat

/-- What the 48 configured bytes of a MEP's block say (R328; log entry 120, DESIGN CHOICE): MEG ID, level, MEP ID, the remote
MEP's ID, period code, LM bit, forwarding word, and the bytes ahead of the PDU for an opcode. -/
opaque mepMeg : List (BitVec 8) → List (BitVec 8)
opaque mepLevel : List (BitVec 8) → Nat
opaque mepId : List (BitVec 8) → Nat
opaque mepRemote : List (BitVec 8) → Nat
opaque mepPeriod : List (BitVec 8) → Nat
opaque mepLm : List (BitVec 8) → Bool
opaque mepFw : List (BitVec 8) → Nat
opaque mepHead : List (BitVec 8) → Nat → List (BitVec 8)

/-- Whether a tick of profile 0xF6 with a context index sends a DMM, not an LMM (R328; log entry 120, DESIGN CHOICE). -/
opaque mepDm : Nat → Bool

/-- The TLVs of an LTR, by the configured bytes and the LTM (R328; log entry 120, DESIGN CHOICE). -/
opaque ltrTlvs : List (BitVec 8) → List (BitVec 8) → List (BitVec 8)

end Sys2Proof.Config
end

