-- ==== Sys2Proof/Machine/Bits.lean ====
section
/-!
DEFINITION. Bit fields, byte order and the check codes the manual names (R6, R123, R204).
-/

namespace Sys2Proof.Machine
open Sys2Proof

/-- A bit field `[hi:lo]`, both bounds included (R6). -/
structure Fld where
  hi : Nat
  lo : Nat
  deriving DecidableEq, Repr

/-- The width of a field. -/
def fldWidth (f : Fld) : Nat := f.hi + 1 - f.lo

/-- The value of bits `[hi:lo]` of a number. -/
def natField (n hi lo : Nat) : Nat := (n >>> lo) % 2 ^ (hi + 1 - lo)

/-- The value of field `f` of a register word. -/
def fget (w : Word) (f : Fld) : Nat := natField w.toNat f.hi f.lo

/-- A register word with field `f` replaced by the low bits of `v`. -/
def fset (w : Word) (f : Fld) (v : Nat) : Word :=
  let width := fldWidth f
  BitVec.ofNat 32 (w.toNat - (natField w.toNat f.hi f.lo) * 2 ^ f.lo + (v % 2 ^ width) * 2 ^ f.lo)

/-- Field `f` of a register word read as one bit. -/
def fbit (w : Word) (f : Fld) : Bool := fget w f != 0

/-- Bit `i` of a number. -/
def natBit (n i : Nat) : Bool := n.testBit i

/-- The number with bit `i` set to `b`. -/
def natSetBit (n i : Nat) (b : Bool) : Nat :=
  if n.testBit i = b then n else if b then n + 2 ^ i else n - 2 ^ i

/-- A number as `k` little-endian bytes (R6). -/
def leBytes : Nat → Nat → Bytes
  | 0, _ => []
  | k + 1, n => BitVec.ofNat 8 n :: leBytes k (n / 256)

/-- Little-endian bytes as a number (R6). -/
def leNat : Bytes → Nat
  | [] => 0
  | b :: bs => b.toNat + 256 * leNat bs

/-- A number as `k` bytes in network order (R6). -/
def beBytes (k n : Nat) : Bytes := (leBytes k n).reverse

/-- Bytes in network order as a number (R6). -/
def beNat (bs : Bytes) : Nat := leNat bs.reverse

/-- Byte `i` of a list, 0 beyond its end. -/
def byteAt (bs : Bytes) (i : Nat) : Byte := bs.getD i 0

/-- `n` bytes from offset `off`, filled with 0 beyond the end of the list. -/
def slice (bs : Bytes) (off n : Nat) : Bytes :=
  let part := (bs.drop off).take n
  part ++ List.replicate (n - part.length) 0

/-- `n` bytes at offset `off` in network order, as a number. -/
def beAt (bs : Bytes) (off n : Nat) : Nat := beNat (slice bs off n)

/-- `n` bytes at offset `off`, little-endian, as a number. -/
def leAt (bs : Bytes) (off n : Nat) : Nat := leNat (slice bs off n)

/-- The bytes of a list with those from offset `off` on overwritten by `new`; nothing beyond the end is added. -/
def overwrite (bs : Bytes) (off : Nat) (new : Bytes) : Bytes :=
  (bs.take off ++ new ++ bs.drop (off + new.length)).take bs.length

/-- A list filled up with zero bytes, or cut, to `n` bytes. -/
def padTo (n : Nat) (bs : Bytes) : Bytes := slice bs 0 n

/-- One bit step of a reflected CRC-32 with polynomial `poly`. -/
def crcBit (poly : Nat) (r : Nat) : Nat :=
  if r.testBit 0 then (r / 2) ^^^ poly else r / 2

/-- `k` bit steps of a reflected CRC-32. -/
def crcBits (poly : Nat) : Nat → Nat → Nat
  | 0, r => r
  | k + 1, r => crcBits poly k (crcBit poly r)

/-- A reflected CRC-32 register advanced over bytes. -/
def crcRun (poly : Nat) (r : Nat) : Bytes → Nat
  | [] => r
  | b :: bs => crcRun poly (crcBits poly 8 (r ^^^ b.toNat)) bs

/-- The reflected Castagnoli polynomial of CRC-32C. -/
def polyC : Nat := 0x82F63B78

/-- The reflected IEEE 802.3 polynomial of CRC-32. -/
def polyE : Nat := 0xEDB88320

/-- The IEEE 802.3 frame check sequence over bytes. -/
def crc32 (bs : Bytes) : Nat := crcRun polyE 0xFFFFFFFF bs ^^^ 0xFFFFFFFF

/-- The one's complement sum of 16-bit words folded to 16 bits, the last odd byte filled with 0. -/
def foldSum (n : Nat) : Nat :=
  let a := n % 65536 + n / 65536
  let b := a % 65536 + a / 65536
  b

/-- The sum of the 16-bit network-order words of a byte list. -/
def sum16 : Bytes → Nat
  | [] => 0
  | [a] => a.toNat * 256
  | a :: b :: bs => a.toNat * 256 + b.toNat + sum16 bs

/-- The low `n` bits of an integer in two's complement. -/
def twos (n : Nat) (i : Int) : Nat := (i % (2 ^ n : Int)).toNat

/-- A number of `n` bits read as a signed one. -/
def signed (n v : Nat) : Int := if v % 2 ^ n ≥ 2 ^ (n - 1) then (v % 2 ^ n : Int) - 2 ^ n else (v % 2 ^ n : Int)

end Sys2Proof.Machine
end

