-- ==== Sys2Proof/Machine/RegTable.lean ====
section
/-!
DEFINITION. The register tables of the manual as data: every register of every page with its fields, their access
types and change classes (R9), reset values and legal encodings (R7), register by register from the tables of spec/.
-/

namespace Sys2Proof.Machine

/-- Access type of a field (00, the access table). -/
inductive Acc where
  | rw | ro | wo | w1c | rc
  deriving DecidableEq, Repr

/-- Change class of a field (R9). -/
inductive Cls where
  | none | live | staged | quiet
  deriving DecidableEq, Repr

/-- The values of a field that are not reserved (R7). -/
inductive Legal where
  | any
  | range (lo hi : Nat)
  | zeroOr (lo hi : Nat)
  deriving DecidableEq, Repr

/-- Whether a register word is one half of a 64-bit register (R46). -/
inductive Half where
  | single | low | high
  deriving DecidableEq, Repr

/-- One row of a register table. -/
structure FieldRow where
  hi : Nat
  lo : Nat
  acc : Acc
  cls : Cls
  rst : Nat
  legal : Legal
  deriving DecidableEq, Repr

/-- One register word, or an array of `n` of them `stride` bytes apart. -/
structure RegRow where
  off : Nat
  stride : Nat
  n : Nat
  half : Half
  fields : List FieldRow
  deriving DecidableEq, Repr

/-- The page kinds of R35, with the ring and MSI-X blocks of BAR2 (R377, R378). -/
inductive PageKind where
  | dev | lko | ic | hmb | sap0 | sap | pgu | grv | emt | tae | thk0 | thk | clr | wp | mc | sch | rc | pol | gate | ptp | rw | lmac | bmac | sdql | sdqb | sdl | pcie | pt | clk | txr | rxr | msix | pba
  deriving DecidableEq, Repr

/-- Offset of PAGE_ID (R37). -/
abbrev offPAGE_ID : Nat := 0x0
/-- Offset of PAGE_CAP (R37). -/
abbrev offPAGE_CAP : Nat := 0x4
/-- Offset of PAGE_CTL (R37). -/
abbrev offPAGE_CTL : Nat := 0x8
/-- Offset of PAGE_STS (R37). -/
abbrev offPAGE_STS : Nat := 0xC
/-- Offset of WRITE_REFUSED (R38). -/
abbrev offWRITE_REFUSED : Nat := 0x38
/-- Offset of TAE_HSQ_TAIL (R53). -/
abbrev offTAE_HSQ_TAIL : Nat := 0x40
/-- Offset of TAE_HSQ_HEAD (R53). -/
abbrev offTAE_HSQ_HEAD : Nat := 0x44
/-- Offset of TAE_HCQ_HEAD (R53). -/
abbrev offTAE_HCQ_HEAD : Nat := 0x48
/-- Offset of TAE_APER (R53). -/
abbrev offTAE_APER (n : Nat) : Nat := 0x60 + 4 * n
/-- Offset of TAE_ABORT (R59). -/
abbrev offTAE_ABORT : Nat := 0x4C
/-- Offset of TAE_ABORT_TAG (R59). -/
abbrev offTAE_ABORT_TAG : Nat := 0x50
/-- Offset of MAC_CFG (R69). -/
abbrev offMAC_CFG : Nat := 0x40
/-- Offset of MAC_STS (R70). -/
abbrev offMAC_STS : Nat := 0x44
/-- Offset of MAC_MAXLEN (R70). -/
abbrev offMAC_MAXLEN : Nat := 0x48
/-- Offset of ANMASK (R70). -/
abbrev offANMASK : Nat := 0x5C
/-- Offset of SDQ_LANE (R70). -/
abbrev offSDQ_LANE (n : Nat) : Nat := 0x80 + 4 * n
/-- Offset of SDQ_PLL (R70). -/
abbrev offSDQ_PLL : Nat := 0x40
/-- Offset of SDQ_LSTS (R70). -/
abbrev offSDQ_LSTS (n : Nat) : Nat := 0x40 + 4 * n
/-- Offset of FC_CFG (R80). -/
abbrev offFC_CFG : Nat := 0x4C
/-- Offset of PFC_MAP (R80). -/
abbrev offPFC_MAP : Nat := 0x50
/-- Offset of PAUSE_WD (R80). -/
abbrev offPAUSE_WD : Nat := 0x54
/-- Offset of FC_STS (R80). -/
abbrev offFC_STS : Nat := 0x58
/-- Offset of PV_STS (R82). -/
abbrev offPV_STS : Nat := 0x70
/-- Offset of PV_LAST (R82). -/
abbrev offPV_LAST : Nat := 0x74
/-- Offset of EEE_CFG (R83). -/
abbrev offEEE_CFG : Nat := 0x60
/-- Offset of COP_CFG (R88). -/
abbrev offCOP_CFG : Nat := 0x64
/-- Offset of COP_WAKE (R88). -/
abbrev offCOP_WAKE : Nat := 0x68
/-- Offset of PGU_CFG (R119). -/
abbrev offPGU_CFG : Nat := 0x40
/-- Offset of PGU_ACT (R119). -/
abbrev offPGU_ACT : Nat := 0x44
/-- Offset of FRAG_CFG (R119). -/
abbrev offFRAG_CFG : Nat := 0x48
/-- Offset of FRAG_SEED (R119). -/
abbrev offFRAG_SEED : Nat := 0x4C
/-- Offset of PGU_NODE_CMD (R119). -/
abbrev offPGU_NODE_CMD : Nat := 0x50
/-- Offset of PGU_NODE_D (R119). -/
abbrev offPGU_NODE_D (n : Nat) : Nat := 0x60 + 4 * n
/-- Offset of PGU_PORT (R120). -/
abbrev offPGU_PORT (n : Nat) : Nat := 0x300 + 4 * n
/-- Offset of EMT_TBL_GEO (R128). -/
abbrev offEMT_TBL_GEO (n : Nat) : Nat := 0x100 + 16 * n
/-- Offset of EMT_TBL_OVF (R128). -/
abbrev offEMT_TBL_OVF (n : Nat) : Nat := 0x104 + 16 * n
/-- Offset of EMT_TBL_SEED (R128). -/
abbrev offEMT_TBL_SEED (n : Nat) : Nat := 0x108 + 16 * n
/-- Offset of EMT_TBL_AGE (R128). -/
abbrev offEMT_TBL_AGE (n : Nat) : Nat := 0x10C + 16 * n
/-- Offset of EMT_TBL_STS (R128). -/
abbrev offEMT_TBL_STS (n : Nat) : Nat := 0x500 + 4 * n
/-- Offset of LQ_CFG (R143). -/
abbrev offLQ_CFG : Nat := 0x40
/-- Offset of LQ_TAIL (R143). -/
abbrev offLQ_TAIL : Nat := 0x44
/-- Offset of LQ_HEAD (R143). -/
abbrev offLQ_HEAD : Nat := 0x48
/-- Offset of LF_CFG (R143). -/
abbrev offLF_CFG : Nat := 0x4C
/-- Offset of THK_TBL_CFG (R149). -/
abbrev offTHK_TBL_CFG (n : Nat) : Nat := 0x100 + 8 * n
/-- Offset of THK_TBL_STS (R149). -/
abbrev offTHK_TBL_STS (n : Nat) : Nat := 0x104 + 8 * n
/-- Offset of THK_BANK (R152). -/
abbrev offTHK_BANK (n : Nat) : Nat := 0x40 + 4 * n
/-- Offset of THK_LOST (R168). -/
abbrev offTHK_LOST : Nat := 0x60
/-- Offset of GRV_CFG (R204). -/
abbrev offGRV_CFG : Nat := 0x40
/-- Offset of GRV_ENG_SVC (R204). -/
abbrev offGRV_ENG_SVC : Nat := 0x44
/-- Offset of GRV_ENG_FENCE (R204). -/
abbrev offGRV_ENG_FENCE : Nat := 0x48
/-- Offset of GRV_ENG_PERM (R204). -/
abbrev offGRV_ENG_PERM : Nat := 0x4C
/-- Offset of GRV_ENG_LOAN (R204). -/
abbrev offGRV_ENG_LOAN : Nat := 0x50
/-- Offset of GRV_STS (R204). -/
abbrev offGRV_STS : Nat := 0x54
/-- Offset of GRV_ERR_ENG (R204). -/
abbrev offGRV_ERR_ENG : Nat := 0x58
/-- Offset of GRV_CS_WR (R204). -/
abbrev offGRV_CS_WR : Nat := 0x60
/-- Offset of GRV_CS_RD (R204). -/
abbrev offGRV_CS_RD : Nat := 0x64
/-- Offset of GRV_CS_D (R204). -/
abbrev offGRV_CS_D (n : Nat) : Nat := 0x68 + 4 * n
/-- Offset of GRV_CS_CRC (R204). -/
abbrev offGRV_CS_CRC : Nat := 0x7C
/-- Offset of ACT_CFG (R229). -/
abbrev offACT_CFG : Nat := 0x200
/-- Offset of ACT_CTXH (R229). -/
abbrev offACT_CTXH : Nat := 0x204
/-- Offset of ACT_CNT_FW (R229). -/
abbrev offACT_CNT_FW : Nat := 0x208
/-- Offset of EPOCH_STS (R241). -/
abbrev offEPOCH_STS : Nat := 0x300
/-- Offset of EPOCH_CTL (R241). -/
abbrev offEPOCH_CTL : Nat := 0x304
/-- Offset of EPOCH_TIME (R241). -/
abbrev offEPOCH_TIME : Nat := 0x308
/-- Offset of EPOCH_CFG (R241). -/
abbrev offEPOCH_CFG : Nat := 0x310
/-- Offset of EPOCH_INFLIGHT (R241). -/
abbrev offEPOCH_INFLIGHT : Nat := 0x314
/-- Offset of EPOCH_CHAIN_STS (R241). -/
abbrev offEPOCH_CHAIN_STS : Nat := 0x318
/-- Offset of EPOCH_CHAIN_BAD (R241). -/
abbrev offEPOCH_CHAIN_BAD : Nat := 0x31C
/-- Offset of CLR_PROF (R263). -/
abbrev offCLR_PROF (n : Nat) : Nat := 0x100 + 4 * n
/-- Offset of CLR_PORT_PROF (R263). -/
abbrev offCLR_PORT_PROF (n : Nat) : Nat := 0x600 + 4 * n
/-- Offset of CLR_CFG (R263). -/
abbrev offCLR_CFG : Nat := 0x40
/-- Offset of CLR_CNT_BASE (R263). -/
abbrev offCLR_CNT_BASE : Nat := 0x44
/-- Offset of CLR_FREE (R263). -/
abbrev offCLR_FREE : Nat := 0x48
/-- Offset of CLR_OCC_SEL (R263). -/
abbrev offCLR_OCC_SEL : Nat := 0x50
/-- Offset of CLR_OCC (R263). -/
abbrev offCLR_OCC : Nat := 0x54
/-- Offset of CLR_CT_RX (R275). -/
abbrev offCLR_CT_RX (n : Nat) : Nat := 0x500 + 4 * n
/-- Offset of CLR_CT_TX (R275). -/
abbrev offCLR_CT_TX (n : Nat) : Nat := 0x520 + 4 * n
/-- Offset of WP_LIST (R275). -/
abbrev offWP_LIST (n : Nat) : Nat := 0x100 + 4 * n
/-- Offset of WP_AUDIT (R275). -/
abbrev offWP_AUDIT : Nat := 0x40
/-- Offset of MC_CFG (R276). -/
abbrev offMC_CFG : Nat := 0x40
/-- Offset of MIR_CFG (R276). -/
abbrev offMIR_CFG (n : Nat) : Nat := 0x100 + 16 * n
/-- Offset of MIR_SAMP (R276). -/
abbrev offMIR_SAMP (n : Nat) : Nat := 0x104 + 16 * n
/-- Offset of MIR_Q (R276). -/
abbrev offMIR_Q (n : Nat) : Nat := 0x108 + 16 * n
/-- Offset of SCH_CMD (R292). -/
abbrev offSCH_CMD : Nat := 0x50
/-- Offset of SCH_D (R292). -/
abbrev offSCH_D (n : Nat) : Nat := 0x60 + 4 * n
/-- Offset of SCH_CFG (R292). -/
abbrev offSCH_CFG : Nat := 0x40
/-- Offset of SCH_CNT_BASE (R292). -/
abbrev offSCH_CNT_BASE : Nat := 0x44
/-- Offset of RC_LAG (R292). -/
abbrev offRC_LAG : Nat := 0x40
/-- Offset of RC_OCC (R292). -/
abbrev offRC_OCC : Nat := 0x44
/-- Offset of POL_ACT (R296). -/
abbrev offPOL_ACT : Nat := 0x40
/-- Offset of POL_LOST (R296). -/
abbrev offPOL_LOST : Nat := 0x44
/-- Offset of GATE_CMD (R303). -/
abbrev offGATE_CMD : Nat := 0x50
/-- Offset of GATE_D (R303). -/
abbrev offGATE_D (n : Nat) : Nat := 0x60 + 4 * n
/-- Offset of GATE_EN (R303). -/
abbrev offGATE_EN (n : Nat) : Nat := 0x100 + 4 * n
/-- Offset of TIME_CTL (R315). -/
abbrev offTIME_CTL : Nat := 0x40
/-- Offset of TIME_D (R315). -/
abbrev offTIME_D (n : Nat) : Nat := 0x44 + 4 * n
/-- Offset of TIME_FREQ (R315). -/
abbrev offTIME_FREQ : Nat := 0x54
/-- Offset of TIME_STS (R315). -/
abbrev offTIME_STS : Nat := 0x58
/-- Offset of PTP_CFG (R315). -/
abbrev offPTP_CFG : Nat := 0x5C
/-- Offset of PTP_PORT (R315). -/
abbrev offPTP_PORT (n : Nat) : Nat := 0x200 + 4 * n
/-- Offset of SVC_CFG (R317). -/
abbrev offSVC_CFG : Nat := 0x400
/-- Offset of TMR_CMD (R322). -/
abbrev offTMR_CMD : Nat := 0x50
/-- Offset of TMR_D (R322). -/
abbrev offTMR_D (n : Nat) : Nat := 0x60 + 4 * n
/-- Offset of TMR_STS (R322). -/
abbrev offTMR_STS : Nat := 0x48
/-- Offset of RW_LINK_STS (R360). -/
abbrev offRW_LINK_STS (n : Nat) : Nat := 0x400 + 4 * n
/-- Offset of HW_BOOT_STS (R372). -/
abbrev offHW_BOOT_STS : Nat := 0x40
/-- Offset of HW_SWD (R372). -/
abbrev offHW_SWD : Nat := 0x44
/-- Offset of IC_SRC_CFG (R387). -/
abbrev offIC_SRC_CFG (n : Nat) : Nat := 0x400 + 4 * n
/-- Offset of IC_VBAR (R396). -/
abbrev offIC_VBAR (n : Nat) : Nat := 0x40 + 16 * n
/-- Offset of IC_TH (R396). -/
abbrev offIC_TH (n : Nat) : Nat := 0x44 + 16 * n
/-- Offset of IC_RP (R396). -/
abbrev offIC_RP (n : Nat) : Nat := 0x48 + 16 * n
/-- Offset of IC_EOI (R396). -/
abbrev offIC_EOI (n : Nat) : Nat := 0x4C + 16 * n
/-- Offset of IC_SGI (R396). -/
abbrev offIC_SGI : Nat := 0x84
/-- Offset of IC_TMR (R396). -/
abbrev offIC_TMR (n : Nat) : Nat := 0x90 + 4 * n
/-- Offset of DEV_ID (R431). -/
abbrev offDEV_ID : Nat := 0x40
/-- Offset of DEV_STRAP (R431). -/
abbrev offDEV_STRAP : Nat := 0x44
/-- Offset of DEV_RST (R431). -/
abbrev offDEV_RST : Nat := 0x48
/-- Offset of DEV_RST_STS (R431). -/
abbrev offDEV_RST_STS : Nat := 0x4C
/-- Offset of DEV_BL (R431). -/
abbrev offDEV_BL : Nat := 0x50
/-- Offset of PT_AGE (R441). -/
abbrev offPT_AGE : Nat := 0x80
/-- Offset of CLK_STS (R454). -/
abbrev offCLK_STS : Nat := 0x40
/-- Offset of SDQ_TXEQ (R457). -/
abbrev offSDQ_TXEQ (n : Nat) : Nat := 0xC0 + 4 * n
/-- Offset of PT_TEMP (R460). -/
abbrev offPT_TEMP : Nat := 0x40
/-- Offset of PT_AVS (R460). -/
abbrev offPT_AVS : Nat := 0x44
/-- Offset of ERR_STS (R37). -/
abbrev offERR_STS : Nat := 0x10
/-- Offset of ERR_MASK (R37). -/
abbrev offERR_MASK : Nat := 0x14
/-- Offset of ERR_CLASS (R37). -/
abbrev offERR_CLASS : Nat := 0x18
/-- Offset of ERR_INJECT (R37). -/
abbrev offERR_INJECT : Nat := 0x1C
/-- Offset of ERR_WINDOW (R37). -/
abbrev offERR_WINDOW : Nat := 0x20
/-- Offset of ERR_THRESH (R37). -/
abbrev offERR_THRESH : Nat := 0x24
/-- Offset of ERR_COUNT (R37). -/
abbrev offERR_COUNT : Nat := 0x28
/-- Offset of ECHO_STS (R37). -/
abbrev offECHO_STS : Nat := 0x2C
/-- Offset of IRQ_STS (R37). -/
abbrev offIRQ_STS : Nat := 0x30
/-- Offset of IRQ_EN (R37). -/
abbrev offIRQ_EN : Nat := 0x34
/-- Offset of PPS_IN_NS (R314). -/
abbrev offPPS_IN_NS : Nat := 0x60
/-- Offset of PPS_IN_SEC (R314). -/
abbrev offPPS_IN_SEC : Nat := 0x64
/-- Offset of PPS_OUT (R314). -/
abbrev offPPS_OUT : Nat := 0x68
/-- Offset of PPS_OFS (R314). -/
abbrev offPPS_OFS : Nat := 0x6C
/-- Offset of SYNCE (R315). -/
abbrev offSYNCE (n : Nat) : Nat := 0x70 + 4 * n
/-- Offset of TXTS (R312). -/
abbrev offTXTS (n : Nat) : Nat := 0x80 + 4 * n
/-- Offset of TXTS_CNT (R312). -/
abbrev offTXTS_CNT : Nat := 0x90
/-- Offset of RW_CFG (R342). -/
abbrev offRW_CFG : Nat := 0x40
/-- Offset of RW_REL (R340). -/
abbrev offRW_REL : Nat := 0x44
/-- Offset of RW_HB (R346). -/
abbrev offRW_HB : Nat := 0x48
/-- Offset of RW_ID (R335). -/
abbrev offRW_ID : Nat := 0x4C
/-- Offset of RW_UP (R343). -/
abbrev offRW_UP : Nat := 0x50
/-- Offset of RW_GEN (R346). -/
abbrev offRW_GEN : Nat := 0x54
/-- Offset of TR_CFG (R354). -/
abbrev offTR_CFG : Nat := 0x58
/-- Offset of TR_SWITCH (R358). -/
abbrev offTR_SWITCH : Nat := 0x5C
/-- Offset of RW_LINK_EN (R336). -/
abbrev offRW_LINK_EN (n : Nat) : Nat := 0x60 + 4 * n
/-- Offset of RW_VLINK (R353). -/
abbrev offRW_VLINK : Nat := 0x70
/-- Offset of RW_TXR_CFG (R352). -/
abbrev offRW_TXR_CFG : Nat := 0x80
/-- Offset of RW_RXR_CFG (R352). -/
abbrev offRW_RXR_CFG : Nat := 0x90
/-- Offset of RW_TXR_TAIL (R352). -/
abbrev offRW_TXR_TAIL : Nat := 0x84
/-- Offset of RW_TXR_HEAD (R352). -/
abbrev offRW_TXR_HEAD : Nat := 0x88
/-- Offset of RW_RXR_TAIL (R352). -/
abbrev offRW_RXR_TAIL : Nat := 0x94
/-- Offset of RW_RXR_HEAD (R352). -/
abbrev offRW_RXR_HEAD : Nat := 0x98
/-- Offset of HMB_REQ_D (R372). -/
abbrev offHMB_REQ_D (n : Nat) : Nat := 0x100 + 4 * n
/-- Offset of HMB_RSP_D (R372). -/
abbrev offHMB_RSP_D (n : Nat) : Nat := 0x120 + 4 * n
/-- Offset of HMB_GO (R372). -/
abbrev offHMB_GO : Nat := 0x140
/-- Offset of HMB_STS (R372). -/
abbrev offHMB_STS : Nat := 0x144
/-- Offset of HMB1_REQ_D (R372). -/
abbrev offHMB1_REQ_D (n : Nat) : Nat := 0x180 + 4 * n
/-- Offset of HMB1_RSP_D (R372). -/
abbrev offHMB1_RSP_D (n : Nat) : Nat := 0x1A0 + 4 * n
/-- Offset of HMB1_GO (R372). -/
abbrev offHMB1_GO : Nat := 0x1C0
/-- Offset of HMB1_STS (R372). -/
abbrev offHMB1_STS : Nat := 0x1C4
/-- Offset of SW_KICK (R373). -/
abbrev offSW_KICK : Nat := 0x40
/-- Offset of API_CMD_BASE (R376). -/
abbrev offAPI_CMD_BASE : Nat := 0x100
/-- Offset of API_RSP_BASE (R376). -/
abbrev offAPI_RSP_BASE : Nat := 0x108
/-- Offset of API_CFG (R376). -/
abbrev offAPI_CFG : Nat := 0x110
/-- Offset of API_CMD_TAIL (R376). -/
abbrev offAPI_CMD_TAIL : Nat := 0x114
/-- Offset of API_RSP_HEAD (R376). -/
abbrev offAPI_RSP_HEAD : Nat := 0x118
/-- Offset of TXR_BASE (R378). -/
abbrev offTXR_BASE (n : Nat) : Nat := 0x0 + 256 * n
/-- Offset of TXR_CFG (R378). -/
abbrev offTXR_CFG (n : Nat) : Nat := 0x8 + 256 * n
/-- Offset of TXR_TAIL (R378). -/
abbrev offTXR_TAIL (n : Nat) : Nat := 0xC + 256 * n
/-- Offset of TXR_HEAD (R378). -/
abbrev offTXR_HEAD (n : Nat) : Nat := 0x10 + 256 * n
/-- Offset of TXR_WB (R378). -/
abbrev offTXR_WB (n : Nat) : Nat := 0x18 + 256 * n
/-- Offset of RXR_BASE (R378). -/
abbrev offRXR_BASE (n : Nat) : Nat := 0x0 + 256 * n
/-- Offset of RXR_CFG (R378). -/
abbrev offRXR_CFG (n : Nat) : Nat := 0x8 + 256 * n
/-- Offset of RXR_TAIL (R378). -/
abbrev offRXR_TAIL (n : Nat) : Nat := 0xC + 256 * n
/-- Offset of RXR_HEAD (R378). -/
abbrev offRXR_HEAD (n : Nat) : Nat := 0x10 + 256 * n
/-- Offset of MSIX_TABLE (R377). -/
abbrev offMSIX_TABLE (n : Nat) : Nat := 0x0 + 4 * n
/-- Offset of MSIX_PBA (R377). -/
abbrev offMSIX_PBA (n : Nat) : Nat := 0x0 + 4 * n
/-- Offset of IC_PEND (R397). -/
abbrev offIC_PEND (n : Nat) : Nat := 0x100 + 4 * n
/-- Offset of IC_ACT (R397). -/
abbrev offIC_ACT (n : Nat) : Nat := 0x140 + 4 * n
/-- Offset of IC_LINE (R397). -/
abbrev offIC_LINE (n : Nat) : Nat := 0x180 + 4 * n
/-- Offset of HEV_MAP (R398). -/
abbrev offHEV_MAP (n : Nat) : Nat := 0x220 + 4 * n
/-- Offset of HEV_SENT (R398). -/
abbrev offHEV_SENT : Nat := 0x400
/-- Offset of HEV_ACK (R398). -/
abbrev offHEV_ACK : Nat := 0x408
/-- Offset of LKO_TOP (R404). -/
abbrev offLKO_TOP : Nat := 0x40
/-- Offset of LKO_ECHO_TOP (R404). -/
abbrev offLKO_ECHO_TOP : Nat := 0x48
/-- Offset of LKO_CFG (R408). -/
abbrev offLKO_CFG : Nat := 0x50
/-- Offset of LKO_DIR_SEL (R404). -/
abbrev offLKO_DIR_SEL : Nat := 0x54
/-- Offset of LKO_DIR (R404). -/
abbrev offLKO_DIR (n : Nat) : Nat := 0x58 + 4 * n
/-- Offset of LKO_SAFE (R419). -/
abbrev offLKO_SAFE : Nat := 0x68
/-- Offset of LKO_SAFE_TIME (R420). -/
abbrev offLKO_SAFE_TIME : Nat := 0x70
/-- Offset of LKO_LAST (R413). -/
abbrev offLKO_LAST : Nat := 0x78
/-- Offset of LKO_REPAIR_LAST (R416). -/
abbrev offLKO_REPAIR_LAST : Nat := 0x80
/-- Offset of LKO_REACT (R412). -/
abbrev offLKO_REACT (n : Nat) : Nat := 0x100 + 4 * n

/-- PAGE_ID.TYPE, bits [31:16]. -/
abbrev fPAGE_ID_TYPE : Fld := ⟨31, 16⟩
/-- PAGE_ID.INSTANCE, bits [15:8]. -/
abbrev fPAGE_ID_INSTANCE : Fld := ⟨15, 8⟩
/-- PAGE_ID.LAYOUT, bits [7:0]. -/
abbrev fPAGE_ID_LAYOUT : Fld := ⟨7, 0⟩
/-- PAGE_CAP.BLOCK_CAP, bits [31:16]. -/
abbrev fPAGE_CAP_BLOCK_CAP : Fld := ⟨31, 16⟩
/-- PAGE_CAP.INJECT, bits [5:5]. -/
abbrev fPAGE_CAP_INJECT : Fld := ⟨5, 5⟩
/-- PAGE_CAP.SNAP, bits [4:4]. -/
abbrev fPAGE_CAP_SNAP : Fld := ⟨4, 4⟩
/-- PAGE_CAP.EPOCH, bits [3:3]. -/
abbrev fPAGE_CAP_EPOCH : Fld := ⟨3, 3⟩
/-- PAGE_CAP.STAGED, bits [2:2]. -/
abbrev fPAGE_CAP_STAGED : Fld := ⟨2, 2⟩
/-- PAGE_CAP.RESET, bits [1:1]. -/
abbrev fPAGE_CAP_RESET : Fld := ⟨1, 1⟩
/-- PAGE_CAP.QUIESCE, bits [0:0]. -/
abbrev fPAGE_CAP_QUIESCE : Fld := ⟨0, 0⟩
/-- PAGE_CTL.SNAP_CLEAR, bits [7:7]. -/
abbrev fPAGE_CTL_SNAP_CLEAR : Fld := ⟨7, 7⟩
/-- PAGE_CTL.DISCARD, bits [6:6]. -/
abbrev fPAGE_CTL_DISCARD : Fld := ⟨6, 6⟩
/-- PAGE_CTL.SNAPSHOT, bits [5:5]. -/
abbrev fPAGE_CTL_SNAPSHOT : Fld := ⟨5, 5⟩
/-- PAGE_CTL.EPOCH_BIND, bits [4:4]. -/
abbrev fPAGE_CTL_EPOCH_BIND : Fld := ⟨4, 4⟩
/-- PAGE_CTL.COMMIT, bits [3:3]. -/
abbrev fPAGE_CTL_COMMIT : Fld := ⟨3, 3⟩
/-- PAGE_CTL.SOFT_RESET, bits [2:2]. -/
abbrev fPAGE_CTL_SOFT_RESET : Fld := ⟨2, 2⟩
/-- PAGE_CTL.QUIESCE, bits [1:1]. -/
abbrev fPAGE_CTL_QUIESCE : Fld := ⟨1, 1⟩
/-- PAGE_CTL.ENABLE, bits [0:0]. -/
abbrev fPAGE_CTL_ENABLE : Fld := ⟨0, 0⟩
/-- PAGE_STS.SNAP_VALID, bits [6:6]. -/
abbrev fPAGE_STS_SNAP_VALID : Fld := ⟨6, 6⟩
/-- PAGE_STS.SNAP_BUSY, bits [5:5]. -/
abbrev fPAGE_STS_SNAP_BUSY : Fld := ⟨5, 5⟩
/-- PAGE_STS.REFUSED, bits [4:4]. -/
abbrev fPAGE_STS_REFUSED : Fld := ⟨4, 4⟩
/-- PAGE_STS.COMMIT_PENDING, bits [3:3]. -/
abbrev fPAGE_STS_COMMIT_PENDING : Fld := ⟨3, 3⟩
/-- PAGE_STS.IN_RESET, bits [2:2]. -/
abbrev fPAGE_STS_IN_RESET : Fld := ⟨2, 2⟩
/-- PAGE_STS.QUIESCED, bits [1:1]. -/
abbrev fPAGE_STS_QUIESCED : Fld := ⟨1, 1⟩
/-- PAGE_STS.RUNNING, bits [0:0]. -/
abbrev fPAGE_STS_RUNNING : Fld := ⟨0, 0⟩
/-- WRITE_REFUSED.MORE, bits [20:20]. -/
abbrev fWRITE_REFUSED_MORE : Fld := ⟨20, 20⟩
/-- WRITE_REFUSED.REASON, bits [19:16]. -/
abbrev fWRITE_REFUSED_REASON : Fld := ⟨19, 16⟩
/-- WRITE_REFUSED.OFFSET, bits [11:0]. -/
abbrev fWRITE_REFUSED_OFFSET : Fld := ⟨11, 0⟩
/-- TAE_HSQ_TAIL.TAIL, bits [8:0]. -/
abbrev fTAE_HSQ_TAIL_TAIL : Fld := ⟨8, 0⟩
/-- TAE_HSQ_HEAD.HEAD, bits [8:0]. -/
abbrev fTAE_HSQ_HEAD_HEAD : Fld := ⟨8, 0⟩
/-- TAE_HCQ_HEAD.HEAD, bits [8:0]. -/
abbrev fTAE_HCQ_HEAD_HEAD : Fld := ⟨8, 0⟩
/-- TAE_APER.BASE, bits [31:16]. -/
abbrev fTAE_APER_BASE : Fld := ⟨31, 16⟩
/-- TAE_APER.TABLE, bits [13:8]. -/
abbrev fTAE_APER_TABLE : Fld := ⟨13, 8⟩
/-- TAE_APER.SPACE, bits [7:0]. -/
abbrev fTAE_APER_SPACE : Fld := ⟨7, 0⟩
/-- TAE_ABORT.VALID, bits [31:31]. -/
abbrev fTAE_ABORT_VALID : Fld := ⟨31, 31⟩
/-- TAE_ABORT.EXEC, bits [30:30]. -/
abbrev fTAE_ABORT_EXEC : Fld := ⟨30, 30⟩
/-- TAE_ABORT.STATUS, bits [23:16]. -/
abbrev fTAE_ABORT_STATUS : Fld := ⟨23, 16⟩
/-- TAE_ABORT.COUNT, bits [8:0]. -/
abbrev fTAE_ABORT_COUNT : Fld := ⟨8, 0⟩
/-- TAE_ABORT_TAG.TAG, bits [31:0]. -/
abbrev fTAE_ABORT_TAG_TAG : Fld := ⟨31, 0⟩
/-- MAC_CFG.LOOPBACK, bits [18:17]. -/
abbrev fMAC_CFG_LOOPBACK : Fld := ⟨18, 17⟩
/-- MAC_CFG.COPPICE_EN, bits [16:16]. -/
abbrev fMAC_CFG_COPPICE_EN : Fld := ⟨16, 16⟩
/-- MAC_CFG.EEE_EN, bits [15:15]. -/
abbrev fMAC_CFG_EEE_EN : Fld := ⟨15, 15⟩
/-- MAC_CFG.PFC_TX_EN, bits [14:14]. -/
abbrev fMAC_CFG_PFC_TX_EN : Fld := ⟨14, 14⟩
/-- MAC_CFG.PAUSE_TX_EN, bits [13:13]. -/
abbrev fMAC_CFG_PAUSE_TX_EN : Fld := ⟨13, 13⟩
/-- MAC_CFG.PFC_RX_EN, bits [12:12]. -/
abbrev fMAC_CFG_PFC_RX_EN : Fld := ⟨12, 12⟩
/-- MAC_CFG.PAUSE_RX_EN, bits [11:11]. -/
abbrev fMAC_CFG_PAUSE_RX_EN : Fld := ⟨11, 11⟩
/-- MAC_CFG.TRAIL_EN, bits [10:10]. -/
abbrev fMAC_CFG_TRAIL_EN : Fld := ⟨10, 10⟩
/-- MAC_CFG.FEC_MODE, bits [7:5]. -/
abbrev fMAC_CFG_FEC_MODE : Fld := ⟨7, 5⟩
/-- MAC_CFG.PORT_MODE, bits [4:0]. -/
abbrev fMAC_CFG_PORT_MODE : Fld := ⟨4, 0⟩
/-- MAC_STS.RX_LPI, bits [23:23]. -/
abbrev fMAC_STS_RX_LPI : Fld := ⟨23, 23⟩
/-- MAC_STS.TX_LPI, bits [22:22]. -/
abbrev fMAC_STS_TX_LPI : Fld := ⟨22, 22⟩
/-- MAC_STS.COPPICE_ACTIVE, bits [21:21]. -/
abbrev fMAC_STS_COPPICE_ACTIVE : Fld := ⟨21, 21⟩
/-- MAC_STS.EEE_ACTIVE, bits [20:20]. -/
abbrev fMAC_STS_EEE_ACTIVE : Fld := ⟨20, 20⟩
/-- MAC_STS.ACTIVE_LANES, bits [19:17]. -/
abbrev fMAC_STS_ACTIVE_LANES : Fld := ⟨19, 17⟩
/-- MAC_STS.CFG_ERR, bits [16:14]. -/
abbrev fMAC_STS_CFG_ERR : Fld := ⟨16, 14⟩
/-- MAC_STS.FEC, bits [13:11]. -/
abbrev fMAC_STS_FEC : Fld := ⟨13, 11⟩
/-- MAC_STS.RESOLVED, bits [10:6]. -/
abbrev fMAC_STS_RESOLVED : Fld := ⟨10, 6⟩
/-- MAC_STS.LSTATE, bits [5:3]. -/
abbrev fMAC_STS_LSTATE : Fld := ⟨5, 3⟩
/-- MAC_STS.LINK, bits [0:0]. -/
abbrev fMAC_STS_LINK : Fld := ⟨0, 0⟩
/-- MAC_MAXLEN.MAXLEN, bits [13:0]. -/
abbrev fMAC_MAXLEN_MAXLEN : Fld := ⟨13, 0⟩
/-- ANMASK.EEE_ADV, bits [12:12]. -/
abbrev fANMASK_EEE_ADV : Fld := ⟨12, 12⟩
/-- ANMASK.FEC_REQ_RS, bits [11:11]. -/
abbrev fANMASK_FEC_REQ_RS : Fld := ⟨11, 11⟩
/-- ANMASK.FEC_REQ_BASER, bits [10:10]. -/
abbrev fANMASK_FEC_REQ_BASER : Fld := ⟨10, 10⟩
/-- ANMASK.TYPES, bits [9:0]. -/
abbrev fANMASK_TYPES : Fld := ⟨9, 0⟩
/-- SDQ_LANE.PLL_SEL, bits [2:2]. -/
abbrev fSDQ_LANE_PLL_SEL : Fld := ⟨2, 2⟩
/-- SDQ_LANE.RX_INV, bits [1:1]. -/
abbrev fSDQ_LANE_RX_INV : Fld := ⟨1, 1⟩
/-- SDQ_LANE.TX_INV, bits [0:0]. -/
abbrev fSDQ_LANE_TX_INV : Fld := ⟨0, 0⟩
/-- SDQ_PLL.PLL1_LOCK, bits [5:5]. -/
abbrev fSDQ_PLL_PLL1_LOCK : Fld := ⟨5, 5⟩
/-- SDQ_PLL.PLL0_LOCK, bits [4:4]. -/
abbrev fSDQ_PLL_PLL0_LOCK : Fld := ⟨4, 4⟩
/-- SDQ_PLL.PLL1_FAM, bits [3:2]. -/
abbrev fSDQ_PLL_PLL1_FAM : Fld := ⟨3, 2⟩
/-- SDQ_PLL.PLL0_FAM, bits [1:0]. -/
abbrev fSDQ_PLL_PLL0_FAM : Fld := ⟨1, 0⟩
/-- SDQ_LSTS.SNR, bits [15:8]. -/
abbrev fSDQ_LSTS_SNR : Fld := ⟨15, 8⟩
/-- SDQ_LSTS.TRAINED, bits [3:3]. -/
abbrev fSDQ_LSTS_TRAINED : Fld := ⟨3, 3⟩
/-- SDQ_LSTS.QUIET_WARM, bits [2:2]. -/
abbrev fSDQ_LSTS_QUIET_WARM : Fld := ⟨2, 2⟩
/-- SDQ_LSTS.SIGNAL, bits [1:1]. -/
abbrev fSDQ_LSTS_SIGNAL : Fld := ⟨1, 1⟩
/-- SDQ_LSTS.CDR_LOCK, bits [0:0]. -/
abbrev fSDQ_LSTS_CDR_LOCK : Fld := ⟨0, 0⟩
/-- FC_CFG.GATE_CLASS, bits [18:16]. -/
abbrev fFC_CFG_GATE_CLASS : Fld := ⟨18, 16⟩
/-- FC_CFG.QUANTA, bits [15:0]. -/
abbrev fFC_CFG_QUANTA : Fld := ⟨15, 0⟩
/-- PFC_MAP.CLASS0, bits [2:0]. -/
abbrev fPFC_MAP_CLASS0 : Fld := ⟨2, 0⟩
/-- PFC_MAP.CLASS1, bits [6:4]. -/
abbrev fPFC_MAP_CLASS1 : Fld := ⟨6, 4⟩
/-- PFC_MAP.CLASS2, bits [10:8]. -/
abbrev fPFC_MAP_CLASS2 : Fld := ⟨10, 8⟩
/-- PFC_MAP.CLASS3, bits [14:12]. -/
abbrev fPFC_MAP_CLASS3 : Fld := ⟨14, 12⟩
/-- PFC_MAP.CLASS4, bits [18:16]. -/
abbrev fPFC_MAP_CLASS4 : Fld := ⟨18, 16⟩
/-- PFC_MAP.CLASS5, bits [22:20]. -/
abbrev fPFC_MAP_CLASS5 : Fld := ⟨22, 20⟩
/-- PFC_MAP.CLASS6, bits [26:24]. -/
abbrev fPFC_MAP_CLASS6 : Fld := ⟨26, 24⟩
/-- PFC_MAP.CLASS7, bits [30:28]. -/
abbrev fPFC_MAP_CLASS7 : Fld := ⟨30, 28⟩
/-- PAUSE_WD.IGNORE_MS, bits [31:16]. -/
abbrev fPAUSE_WD_IGNORE_MS : Fld := ⟨31, 16⟩
/-- PAUSE_WD.HOLD_MS, bits [15:0]. -/
abbrev fPAUSE_WD_HOLD_MS : Fld := ⟨15, 0⟩
/-- FC_STS.IGNORED_ALL, bits [17:17]. -/
abbrev fFC_STS_IGNORED_ALL : Fld := ⟨17, 17⟩
/-- FC_STS.PAUSED_ALL, bits [16:16]. -/
abbrev fFC_STS_PAUSED_ALL : Fld := ⟨16, 16⟩
/-- FC_STS.IGNORED, bits [15:8]. -/
abbrev fFC_STS_IGNORED : Fld := ⟨15, 8⟩
/-- FC_STS.PAUSED, bits [7:0]. -/
abbrev fFC_STS_PAUSED : Fld := ⟨7, 0⟩
/-- PV_STS.TYPE, bits [8:1]. -/
abbrev fPV_STS_TYPE : Fld := ⟨8, 1⟩
/-- PV_LAST.SEC, bits [31:8]. -/
abbrev fPV_LAST_SEC : Fld := ⟨31, 8⟩
/-- PV_LAST.TYPE, bits [3:0]. -/
abbrev fPV_LAST_TYPE : Fld := ⟨3, 0⟩
/-- EEE_CFG.LPI_IDLE_US, bits [15:0]. -/
abbrev fEEE_CFG_LPI_IDLE_US : Fld := ⟨15, 0⟩
/-- COP_CFG.HOLD_MS, bits [27:16]. -/
abbrev fCOP_CFG_HOLD_MS : Fld := ⟨27, 16⟩
/-- COP_CFG.WAKE_PCT, bits [15:8]. -/
abbrev fCOP_CFG_WAKE_PCT : Fld := ⟨15, 8⟩
/-- COP_CFG.SHED_PCT, bits [7:0]. -/
abbrev fCOP_CFG_SHED_PCT : Fld := ⟨7, 0⟩
/-- COP_WAKE.WAKE_CELLS, bits [15:0]. -/
abbrev fCOP_WAKE_WAKE_CELLS : Fld := ⟨15, 0⟩
/-- PGU_CFG.L2_PROFILE, bits [23:16]. -/
abbrev fPGU_CFG_L2_PROFILE : Fld := ⟨23, 16⟩
/-- PGU_CFG.LATER_PROFILE, bits [15:8]. -/
abbrev fPGU_CFG_LATER_PROFILE : Fld := ⟨15, 8⟩
/-- PGU_CFG.FRAG_EN, bits [4:4]. -/
abbrev fPGU_CFG_FRAG_EN : Fld := ⟨4, 4⟩
/-- PGU_CFG.DOM_SLOT, bits [3:0]. -/
abbrev fPGU_CFG_DOM_SLOT : Fld := ⟨3, 0⟩
/-- PGU_ACT.TRAIL, bits [13:12]. -/
abbrev fPGU_ACT_TRAIL : Fld := ⟨13, 12⟩
/-- PGU_ACT.GRAPH, bits [11:10]. -/
abbrev fPGU_ACT_GRAPH : Fld := ⟨11, 10⟩
/-- PGU_ACT.ORPHAN, bits [9:8]. -/
abbrev fPGU_ACT_ORPHAN : Fld := ⟨9, 8⟩
/-- PGU_ACT.OVERLONG, bits [7:6]. -/
abbrev fPGU_ACT_OVERLONG : Fld := ⟨7, 6⟩
/-- PGU_ACT.TRUNC, bits [5:4]. -/
abbrev fPGU_ACT_TRUNC : Fld := ⟨5, 4⟩
/-- PGU_ACT.MALF, bits [3:2]. -/
abbrev fPGU_ACT_MALF : Fld := ⟨3, 2⟩
/-- PGU_ACT.DEEP, bits [1:0]. -/
abbrev fPGU_ACT_DEEP : Fld := ⟨1, 0⟩
/-- FRAG_CFG.HOLD_US, bits [23:16]. -/
abbrev fFRAG_CFG_HOLD_US : Fld := ⟨23, 16⟩
/-- FRAG_CFG.AGE_MS, bits [15:0]. -/
abbrev fFRAG_CFG_AGE_MS : Fld := ⟨15, 0⟩
/-- FRAG_SEED.SEED, bits [31:0]. -/
abbrev fFRAG_SEED_SEED : Fld := ⟨31, 0⟩
/-- PGU_NODE_CMD.BUSY, bits [31:31]. -/
abbrev fPGU_NODE_CMD_BUSY : Fld := ⟨31, 31⟩
/-- PGU_NODE_CMD.OP, bits [9:9]. -/
abbrev fPGU_NODE_CMD_OP : Fld := ⟨9, 9⟩
/-- PGU_NODE_CMD.BANK, bits [8:8]. -/
abbrev fPGU_NODE_CMD_BANK : Fld := ⟨8, 8⟩
/-- PGU_NODE_CMD.NODE, bits [7:0]. -/
abbrev fPGU_NODE_CMD_NODE : Fld := ⟨7, 0⟩
/-- PGU_NODE_D.DATA, bits [31:0]. -/
abbrev fPGU_NODE_D_DATA : Fld := ⟨31, 0⟩
/-- PGU_PORT.DOMSEL, bits [25:25]. -/
abbrev fPGU_PORT_DOMSEL : Fld := ⟨25, 25⟩
/-- PGU_PORT.TCONT, bits [24:24]. -/
abbrev fPGU_PORT_TCONT : Fld := ⟨24, 24⟩
/-- PGU_PORT.TNEXT, bits [23:16]. -/
abbrev fPGU_PORT_TNEXT : Fld := ⟨23, 16⟩
/-- PGU_PORT.PROFILE, bits [15:8]. -/
abbrev fPGU_PORT_PROFILE : Fld := ⟨15, 8⟩
/-- PGU_PORT.START, bits [7:0]. -/
abbrev fPGU_PORT_START : Fld := ⟨7, 0⟩
/-- EMT_TBL_GEO.ENABLE, bits [31:31]. -/
abbrev fEMT_TBL_GEO_ENABLE : Fld := ⟨31, 31⟩
/-- EMT_TBL_GEO.EVICT, bits [30:29]. -/
abbrev fEMT_TBL_GEO_EVICT : Fld := ⟨30, 29⟩
/-- EMT_TBL_GEO.WIDTH, bits [28:27]. -/
abbrev fEMT_TBL_GEO_WIDTH : Fld := ⟨28, 27⟩
/-- EMT_TBL_GEO.KEY_BYTES, bits [26:20]. -/
abbrev fEMT_TBL_GEO_KEY_BYTES : Fld := ⟨26, 20⟩
/-- EMT_TBL_GEO.SIZE_LOG2, bits [16:13]. -/
abbrev fEMT_TBL_GEO_SIZE_LOG2 : Fld := ⟨16, 13⟩
/-- EMT_TBL_GEO.BASE, bits [12:0]. -/
abbrev fEMT_TBL_GEO_BASE : Fld := ⟨12, 0⟩
/-- EMT_TBL_OVF.OVF_COUNT, bits [29:15]. -/
abbrev fEMT_TBL_OVF_OVF_COUNT : Fld := ⟨29, 15⟩
/-- EMT_TBL_OVF.OVF_BASE, bits [13:0]. -/
abbrev fEMT_TBL_OVF_OVF_BASE : Fld := ⟨13, 0⟩
/-- EMT_TBL_SEED.SEED, bits [31:0]. -/
abbrev fEMT_TBL_SEED_SEED : Fld := ⟨31, 0⟩
/-- EMT_TBL_AGE.AGE_EN, bits [31:31]. -/
abbrev fEMT_TBL_AGE_AGE_EN : Fld := ⟨31, 31⟩
/-- EMT_TBL_AGE.AGE_MODE, bits [30:30]. -/
abbrev fEMT_TBL_AGE_AGE_MODE : Fld := ⟨30, 30⟩
/-- EMT_TBL_AGE.AGE_LIMIT, bits [23:20]. -/
abbrev fEMT_TBL_AGE_AGE_LIMIT : Fld := ⟨23, 20⟩
/-- EMT_TBL_AGE.TICK_MS, bits [15:0]. -/
abbrev fEMT_TBL_AGE_TICK_MS : Fld := ⟨15, 0⟩
/-- EMT_TBL_STS.OVF_FULL, bits [24:24]. -/
abbrev fEMT_TBL_STS_OVF_FULL : Fld := ⟨24, 24⟩
/-- EMT_TBL_STS.CLEARING, bits [23:23]. -/
abbrev fEMT_TBL_STS_CLEARING : Fld := ⟨23, 23⟩
/-- EMT_TBL_STS.COUNT, bits [22:0]. -/
abbrev fEMT_TBL_STS_COUNT : Fld := ⟨22, 0⟩
/-- LQ_CFG.WATER, bits [31:16]. -/
abbrev fLQ_CFG_WATER : Fld := ⟨31, 16⟩
/-- LQ_CFG.OVF_RET, bits [1:1]. -/
abbrev fLQ_CFG_OVF_RET : Fld := ⟨1, 1⟩
/-- LQ_CFG.OWNER, bits [0:0]. -/
abbrev fLQ_CFG_OWNER : Fld := ⟨0, 0⟩
/-- LQ_TAIL.TAIL, bits [16:0]. -/
abbrev fLQ_TAIL_TAIL : Fld := ⟨16, 0⟩
/-- LQ_HEAD.HEAD, bits [16:0]. -/
abbrev fLQ_HEAD_HEAD : Fld := ⟨16, 0⟩
/-- LF_CFG.FILTER_US, bits [15:0]. -/
abbrev fLF_CFG_FILTER_US : Fld := ⟨15, 0⟩
/-- THK_TBL_CFG.ENABLE, bits [31:31]. -/
abbrev fTHK_TBL_CFG_ENABLE : Fld := ⟨31, 31⟩
/-- THK_TBL_CFG.MODE, bits [30:30]. -/
abbrev fTHK_TBL_CFG_MODE : Fld := ⟨30, 30⟩
/-- THK_TBL_CFG.WIDE, bits [29:29]. -/
abbrev fTHK_TBL_CFG_WIDE : Fld := ⟨29, 29⟩
/-- THK_TBL_CFG.COPIES, bits [22:16]. -/
abbrev fTHK_TBL_CFG_COPIES : Fld := ⟨22, 16⟩
/-- THK_TBL_CFG.DEPTH, bits [14:8]. -/
abbrev fTHK_TBL_CFG_DEPTH : Fld := ⟨14, 8⟩
/-- THK_TBL_CFG.FIRST_BANK, bits [5:0]. -/
abbrev fTHK_TBL_CFG_FIRST_BANK : Fld := ⟨5, 0⟩
/-- THK_TBL_STS.SHIFTING, bits [31:31]. -/
abbrev fTHK_TBL_STS_SHIFTING : Fld := ⟨31, 31⟩
/-- THK_TBL_STS.CLEARING, bits [30:30]. -/
abbrev fTHK_TBL_STS_CLEARING : Fld := ⟨30, 30⟩
/-- THK_TBL_STS.COUNT, bits [17:0]. -/
abbrev fTHK_TBL_STS_COUNT : Fld := ⟨17, 0⟩
/-- THK_BANK.OWNED, bits [31:31]. -/
abbrev fTHK_BANK_OWNED : Fld := ⟨31, 31⟩
/-- THK_BANK.TABLE, bits [30:25]. -/
abbrev fTHK_BANK_TABLE : Fld := ⟨30, 25⟩
/-- THK_BANK.COPY, bits [24:19]. -/
abbrev fTHK_BANK_COPY : Fld := ⟨24, 19⟩
/-- THK_BANK.STAGE, bits [18:12]. -/
abbrev fTHK_BANK_STAGE : Fld := ⟨18, 12⟩
/-- THK_BANK.SPARE_USED, bits [11:0]. -/
abbrev fTHK_BANK_SPARE_USED : Fld := ⟨11, 0⟩
/-- THK_LOST.VALID, bits [31:31]. -/
abbrev fTHK_LOST_VALID : Fld := ⟨31, 31⟩
/-- THK_LOST.MORE, bits [30:30]. -/
abbrev fTHK_LOST_MORE : Fld := ⟨30, 30⟩
/-- THK_LOST.TABLE, bits [29:24]. -/
abbrev fTHK_LOST_TABLE : Fld := ⟨29, 24⟩
/-- THK_LOST.POSITION, bits [16:0]. -/
abbrev fTHK_LOST_POSITION : Fld := ⟨16, 0⟩
/-- GRV_CFG.DRAIN_US, bits [15:8]. -/
abbrev fGRV_CFG_DRAIN_US : Fld := ⟨15, 8⟩
/-- GRV_CFG.AUTO_SPARE, bits [0:0]. -/
abbrev fGRV_CFG_AUTO_SPARE : Fld := ⟨0, 0⟩
/-- GRV_ENG_SVC.IN_SERVICE, bits [31:0]. -/
abbrev fGRV_ENG_SVC_IN_SERVICE : Fld := ⟨31, 0⟩
/-- GRV_ENG_FENCE.FENCED, bits [31:0]. -/
abbrev fGRV_ENG_FENCE_FENCED : Fld := ⟨31, 0⟩
/-- GRV_ENG_PERM.PERM, bits [31:0]. -/
abbrev fGRV_ENG_PERM_PERM : Fld := ⟨31, 0⟩
/-- GRV_ENG_LOAN.LOAN, bits [31:0]. -/
abbrev fGRV_ENG_LOAN_LOAN : Fld := ⟨31, 0⟩
/-- GRV_STS.FREE_THREADS, bits [23:16]. -/
abbrev fGRV_STS_FREE_THREADS : Fld := ⟨23, 16⟩
/-- GRV_STS.BUSY_THREADS, bits [15:8]. -/
abbrev fGRV_STS_BUSY_THREADS : Fld := ⟨15, 8⟩
/-- GRV_STS.LOANING, bits [2:2]. -/
abbrev fGRV_STS_LOANING : Fld := ⟨2, 2⟩
/-- GRV_STS.DRAINING, bits [1:1]. -/
abbrev fGRV_STS_DRAINING : Fld := ⟨1, 1⟩
/-- GRV_STS.OPEN, bits [0:0]. -/
abbrev fGRV_STS_OPEN : Fld := ⟨0, 0⟩
/-- GRV_ERR_ENG.VALID, bits [31:31]. -/
abbrev fGRV_ERR_ENG_VALID : Fld := ⟨31, 31⟩
/-- GRV_ERR_ENG.MORE, bits [30:30]. -/
abbrev fGRV_ERR_ENG_MORE : Fld := ⟨30, 30⟩
/-- GRV_ERR_ENG.SOURCE, bits [11:8]. -/
abbrev fGRV_ERR_ENG_SOURCE : Fld := ⟨11, 8⟩
/-- GRV_ERR_ENG.THREAD, bits [6:5]. -/
abbrev fGRV_ERR_ENG_THREAD : Fld := ⟨6, 5⟩
/-- GRV_ERR_ENG.ENGINE, bits [4:0]. -/
abbrev fGRV_ERR_ENG_ENGINE : Fld := ⟨4, 0⟩
/-- GRV_CS_WR.ADDR, bits [11:0]. -/
abbrev fGRV_CS_WR_ADDR : Fld := ⟨11, 0⟩
/-- GRV_CS_RD.BUSY, bits [31:31]. -/
abbrev fGRV_CS_RD_BUSY : Fld := ⟨31, 31⟩
/-- GRV_CS_RD.UNCORR, bits [30:30]. -/
abbrev fGRV_CS_RD_UNCORR : Fld := ⟨30, 30⟩
/-- GRV_CS_RD.COPY, bits [14:12]. -/
abbrev fGRV_CS_RD_COPY : Fld := ⟨14, 12⟩
/-- GRV_CS_RD.ADDR, bits [11:0]. -/
abbrev fGRV_CS_RD_ADDR : Fld := ⟨11, 0⟩
/-- GRV_CS_D.DATA, bits [31:0]. -/
abbrev fGRV_CS_D_DATA : Fld := ⟨31, 0⟩
/-- GRV_CS_CRC.CRC, bits [31:0]. -/
abbrev fGRV_CS_CRC_CRC : Fld := ⟨31, 0⟩
/-- ACT_CFG.EXC_RING, bits [15:12]. -/
abbrev fACT_CFG_EXC_RING : Fld := ⟨15, 12⟩
/-- ACT_CFG.EXC_DROP, bits [8:8]. -/
abbrev fACT_CFG_EXC_DROP : Fld := ⟨8, 8⟩
/-- ACT_CFG.RESTART_MAX, bits [2:0]. -/
abbrev fACT_CFG_RESTART_MAX : Fld := ⟨2, 0⟩
/-- ACT_CTXH.LOG2, bits [24:20]. -/
abbrev fACT_CTXH_LOG2 : Fld := ⟨24, 20⟩
/-- ACT_CTXH.BASE, bits [19:0]. -/
abbrev fACT_CTXH_BASE : Fld := ⟨19, 0⟩
/-- ACT_CNT_FW.BASE, bits [18:0]. -/
abbrev fACT_CNT_FW_BASE : Fld := ⟨18, 0⟩
/-- EPOCH_STS.RESULT, bits [31:28]. -/
abbrev fEPOCH_STS_RESULT : Fld := ⟨31, 28⟩
/-- EPOCH_STS.ARM_EPOCH, bits [27:20]. -/
abbrev fEPOCH_STS_ARM_EPOCH : Fld := ⟨27, 20⟩
/-- EPOCH_STS.FRESH, bits [19:19]. -/
abbrev fEPOCH_STS_FRESH : Fld := ⟨19, 19⟩
/-- EPOCH_STS.ARMED, bits [18:18]. -/
abbrev fEPOCH_STS_ARMED : Fld := ⟨18, 18⟩
/-- EPOCH_STS.PREV_LIVE, bits [17:17]. -/
abbrev fEPOCH_STS_PREV_LIVE : Fld := ⟨17, 17⟩
/-- EPOCH_STS.PREVIOUS, bits [15:8]. -/
abbrev fEPOCH_STS_PREVIOUS : Fld := ⟨15, 8⟩
/-- EPOCH_STS.CURRENT, bits [7:0]. -/
abbrev fEPOCH_STS_CURRENT : Fld := ⟨7, 0⟩
/-- EPOCH_CTL.TARGET, bits [27:16]. -/
abbrev fEPOCH_CTL_TARGET : Fld := ⟨27, 16⟩
/-- EPOCH_CTL.EPOCH, bits [15:8]. -/
abbrev fEPOCH_CTL_EPOCH : Fld := ⟨15, 8⟩
/-- EPOCH_CTL.CHAIN, bits [3:3]. -/
abbrev fEPOCH_CTL_CHAIN : Fld := ⟨3, 3⟩
/-- EPOCH_CTL.DISARM, bits [2:2]. -/
abbrev fEPOCH_CTL_DISARM : Fld := ⟨2, 2⟩
/-- EPOCH_CTL.ARM, bits [1:1]. -/
abbrev fEPOCH_CTL_ARM : Fld := ⟨1, 1⟩
/-- EPOCH_CTL.COMMIT, bits [0:0]. -/
abbrev fEPOCH_CTL_COMMIT : Fld := ⟨0, 0⟩
/-- EPOCH_TIME.SEC, bits [63:32]. -/
abbrev fEPOCH_TIME_SEC : Fld := ⟨63, 32⟩
/-- EPOCH_TIME.NS, bits [31:0]. -/
abbrev fEPOCH_TIME_NS : Fld := ⟨31, 0⟩
/-- EPOCH_CFG.GRACE_US, bits [15:0]. -/
abbrev fEPOCH_CFG_GRACE_US : Fld := ⟨15, 0⟩
/-- EPOCH_INFLIGHT.ODD, bits [31:16]. -/
abbrev fEPOCH_INFLIGHT_ODD : Fld := ⟨31, 16⟩
/-- EPOCH_INFLIGHT.EVEN, bits [15:0]. -/
abbrev fEPOCH_INFLIGHT_EVEN : Fld := ⟨15, 0⟩
/-- EPOCH_CHAIN_STS.ACK_BAD, bits [23:12]. -/
abbrev fEPOCH_CHAIN_STS_ACK_BAD : Fld := ⟨23, 12⟩
/-- EPOCH_CHAIN_STS.ACK_OK, bits [11:0]. -/
abbrev fEPOCH_CHAIN_STS_ACK_OK : Fld := ⟨11, 0⟩
/-- EPOCH_CHAIN_BAD.VALID, bits [31:31]. -/
abbrev fEPOCH_CHAIN_BAD_VALID : Fld := ⟨31, 31⟩
/-- EPOCH_CHAIN_BAD.MORE, bits [30:30]. -/
abbrev fEPOCH_CHAIN_BAD_MORE : Fld := ⟨30, 30⟩
/-- EPOCH_CHAIN_BAD.RESULT, bits [15:12]. -/
abbrev fEPOCH_CHAIN_BAD_RESULT : Fld := ⟨15, 12⟩
/-- EPOCH_CHAIN_BAD.DEVICE, bits [11:0]. -/
abbrev fEPOCH_CHAIN_BAD_DEVICE : Fld := ⟨11, 0⟩
/-- CLR_PROF.CELLS, bits [19:0]. -/
abbrev fCLR_PROF_CELLS : Fld := ⟨19, 0⟩
/-- CLR_PORT_PROF.PROF0, bits [2:0]. -/
abbrev fCLR_PORT_PROF_PROF0 : Fld := ⟨2, 0⟩
/-- CLR_PORT_PROF.PROF1, bits [6:4]. -/
abbrev fCLR_PORT_PROF_PROF1 : Fld := ⟨6, 4⟩
/-- CLR_PORT_PROF.PROF2, bits [10:8]. -/
abbrev fCLR_PORT_PROF_PROF2 : Fld := ⟨10, 8⟩
/-- CLR_PORT_PROF.PROF3, bits [14:12]. -/
abbrev fCLR_PORT_PROF_PROF3 : Fld := ⟨14, 12⟩
/-- CLR_PORT_PROF.PROF4, bits [18:16]. -/
abbrev fCLR_PORT_PROF_PROF4 : Fld := ⟨18, 16⟩
/-- CLR_PORT_PROF.PROF5, bits [22:20]. -/
abbrev fCLR_PORT_PROF_PROF5 : Fld := ⟨22, 20⟩
/-- CLR_PORT_PROF.PROF6, bits [26:24]. -/
abbrev fCLR_PORT_PROF_PROF6 : Fld := ⟨26, 24⟩
/-- CLR_PORT_PROF.PROF7, bits [30:28]. -/
abbrev fCLR_PORT_PROF_PROF7 : Fld := ⟨30, 28⟩
/-- CLR_CFG.CNT_EN, bits [31:31]. -/
abbrev fCLR_CFG_CNT_EN : Fld := ⟨31, 31⟩
/-- CLR_CFG.MIR_FREE, bits [19:0]. -/
abbrev fCLR_CFG_MIR_FREE : Fld := ⟨19, 0⟩
/-- CLR_CNT_BASE.BASE, bits [18:0]. -/
abbrev fCLR_CNT_BASE_BASE : Fld := ⟨18, 0⟩
/-- CLR_FREE.FREE, bits [19:0]. -/
abbrev fCLR_FREE_FREE : Fld := ⟨19, 0⟩
/-- CLR_OCC_SEL.WHAT, bits [13:9]. -/
abbrev fCLR_OCC_SEL_WHAT : Fld := ⟨13, 9⟩
/-- CLR_OCC_SEL.PORT, bits [8:0]. -/
abbrev fCLR_OCC_SEL_PORT : Fld := ⟨8, 0⟩
/-- CLR_OCC.CELLS, bits [19:0]. -/
abbrev fCLR_OCC_CELLS : Fld := ⟨19, 0⟩
/-- CLR_CT_RX.EN, bits [31:0]. -/
abbrev fCLR_CT_RX_EN : Fld := ⟨31, 0⟩
/-- CLR_CT_TX.EN, bits [31:0]. -/
abbrev fCLR_CT_TX_EN : Fld := ⟨31, 0⟩
/-- WP_LIST.FREE, bits [14:0]. -/
abbrev fWP_LIST_FREE : Fld := ⟨14, 0⟩
/-- WP_AUDIT.BUSY, bits [31:31]. -/
abbrev fWP_AUDIT_BUSY : Fld := ⟨31, 31⟩
/-- WP_AUDIT.GO, bits [30:30]. -/
abbrev fWP_AUDIT_GO : Fld := ⟨30, 30⟩
/-- WP_AUDIT.RETURNED, bits [19:0]. -/
abbrev fWP_AUDIT_RETURNED : Fld := ⟨19, 0⟩
/-- MC_CFG.RESIDUE_US, bits [15:0]. -/
abbrev fMC_CFG_RESIDUE_US : Fld := ⟨15, 0⟩
/-- MIR_CFG.EN, bits [31:31]. -/
abbrev fMIR_CFG_EN : Fld := ⟨31, 31⟩
/-- MIR_CFG.TYPE, bits [30:29]. -/
abbrev fMIR_CFG_TYPE : Fld := ⟨30, 29⟩
/-- MIR_CFG.SRC_PORT, bits [28:20]. -/
abbrev fMIR_CFG_SRC_PORT : Fld := ⟨28, 20⟩
/-- MIR_CFG.DEST_PORT, bits [19:11]. -/
abbrev fMIR_CFG_DEST_PORT : Fld := ⟨19, 11⟩
/-- MIR_CFG.CLASS, bits [10:8]. -/
abbrev fMIR_CFG_CLASS : Fld := ⟨10, 8⟩
/-- MIR_SAMP.SAMPLE_N, bits [31:16]. -/
abbrev fMIR_SAMP_SAMPLE_N : Fld := ⟨31, 16⟩
/-- MIR_SAMP.TRUNC, bits [13:0]. -/
abbrev fMIR_SAMP_TRUNC : Fld := ⟨13, 0⟩
/-- MIR_Q.QUEUE, bits [11:0]. -/
abbrev fMIR_Q_QUEUE : Fld := ⟨11, 0⟩
/-- SCH_CMD.BUSY, bits [31:31]. -/
abbrev fSCH_CMD_BUSY : Fld := ⟨31, 31⟩
/-- SCH_CMD.STATUS, bits [30:28]. -/
abbrev fSCH_CMD_STATUS : Fld := ⟨30, 28⟩
/-- SCH_CMD.OP, bits [25:24]. -/
abbrev fSCH_CMD_OP : Fld := ⟨25, 24⟩
/-- SCH_CMD.TYPE, bits [18:16]. -/
abbrev fSCH_CMD_TYPE : Fld := ⟨18, 16⟩
/-- SCH_CMD.INDEX, bits [14:0]. -/
abbrev fSCH_CMD_INDEX : Fld := ⟨14, 0⟩
/-- SCH_D.DATA, bits [31:0]. -/
abbrev fSCH_D_DATA : Fld := ⟨31, 0⟩
/-- SCH_CFG.CNT_EN, bits [0:0]. -/
abbrev fSCH_CFG_CNT_EN : Fld := ⟨0, 0⟩
/-- SCH_CNT_BASE.BASE, bits [18:0]. -/
abbrev fSCH_CNT_BASE_BASE : Fld := ⟨18, 0⟩
/-- RC_LAG.LAG, bits [15:0]. -/
abbrev fRC_LAG_LAG : Fld := ⟨15, 0⟩
/-- RC_OCC.COARSE, bits [31:16]. -/
abbrev fRC_OCC_COARSE : Fld := ⟨31, 16⟩
/-- RC_OCC.FINE, bits [15:0]. -/
abbrev fRC_OCC_FINE : Fld := ⟨15, 0⟩
/-- POL_ACT.RED_DROP, bits [7:0]. -/
abbrev fPOL_ACT_RED_DROP : Fld := ⟨7, 0⟩
/-- POL_LOST.VALID, bits [31:31]. -/
abbrev fPOL_LOST_VALID : Fld := ⟨31, 31⟩
/-- POL_LOST.MORE, bits [30:30]. -/
abbrev fPOL_LOST_MORE : Fld := ⟨30, 30⟩
/-- POL_LOST.INDEX, bits [17:0]. -/
abbrev fPOL_LOST_INDEX : Fld := ⟨17, 0⟩
/-- GATE_CMD.BUSY, bits [31:31]. -/
abbrev fGATE_CMD_BUSY : Fld := ⟨31, 31⟩
/-- GATE_CMD.STATUS, bits [30:28]. -/
abbrev fGATE_CMD_STATUS : Fld := ⟨30, 28⟩
/-- GATE_CMD.OP, bits [25:24]. -/
abbrev fGATE_CMD_OP : Fld := ⟨25, 24⟩
/-- GATE_CMD.TYPE, bits [18:16]. -/
abbrev fGATE_CMD_TYPE : Fld := ⟨18, 16⟩
/-- GATE_CMD.INDEX, bits [15:0]. -/
abbrev fGATE_CMD_INDEX : Fld := ⟨15, 0⟩
/-- GATE_D.DATA, bits [31:0]. -/
abbrev fGATE_D_DATA : Fld := ⟨31, 0⟩
/-- GATE_EN.EN, bits [31:0]. -/
abbrev fGATE_EN_EN : Fld := ⟨31, 0⟩
/-- TIME_CTL.OP, bits [1:0]. -/
abbrev fTIME_CTL_OP : Fld := ⟨1, 0⟩
/-- TIME_D.DATA, bits [31:0]. -/
abbrev fTIME_D_DATA : Fld := ⟨31, 0⟩
/-- TIME_FREQ.FREQ, bits [31:0]. -/
abbrev fTIME_FREQ_FREQ : Fld := ⟨31, 0⟩
/-- TIME_STS.STEPPED, bits [3:3]. -/
abbrev fTIME_STS_STEPPED : Fld := ⟨3, 3⟩
/-- TIME_STS.STOPPED, bits [2:2]. -/
abbrev fTIME_STS_STOPPED : Fld := ⟨2, 2⟩
/-- TIME_STS.HOLDOVER, bits [1:1]. -/
abbrev fTIME_STS_HOLDOVER : Fld := ⟨1, 1⟩
/-- TIME_STS.TREF_LOCK, bits [0:0]. -/
abbrev fTIME_STS_TREF_LOCK : Fld := ⟨0, 0⟩
/-- PTP_CFG.TRAIL_MAX, bits [31:16]. -/
abbrev fPTP_CFG_TRAIL_MAX : Fld := ⟨31, 16⟩
/-- PTP_CFG.TREF_25, bits [9:9]. -/
abbrev fPTP_CFG_TREF_25 : Fld := ⟨9, 9⟩
/-- PTP_CFG.LAYER, bits [8:6]. -/
abbrev fPTP_CFG_LAYER : Fld := ⟨8, 6⟩
/-- PTP_CFG.UDP_BIT, bits [5:3]. -/
abbrev fPTP_CFG_UDP_BIT : Fld := ⟨5, 3⟩
/-- PTP_CFG.EVT_BIT, bits [2:0]. -/
abbrev fPTP_CFG_EVT_BIT : Fld := ⟨2, 0⟩
/-- PTP_PORT.LINK_DELAY, bits [31:16]. -/
abbrev fPTP_PORT_LINK_DELAY : Fld := ⟨31, 16⟩
/-- PTP_PORT.ADJ, bits [15:8]. -/
abbrev fPTP_PORT_ADJ : Fld := ⟨15, 8⟩
/-- PTP_PORT.CAPTURE, bits [3:3]. -/
abbrev fPTP_PORT_CAPTURE : Fld := ⟨3, 3⟩
/-- PTP_PORT.ONESTEP, bits [2:2]. -/
abbrev fPTP_PORT_ONESTEP : Fld := ⟨2, 2⟩
/-- PTP_PORT.TC_MODE, bits [1:0]. -/
abbrev fPTP_PORT_TC_MODE : Fld := ⟨1, 0⟩
/-- SVC_CFG.PROFILE, bits [0:0]. -/
abbrev fSVC_CFG_PROFILE : Fld := ⟨0, 0⟩
/-- TMR_CMD.BUSY, bits [31:31]. -/
abbrev fTMR_CMD_BUSY : Fld := ⟨31, 31⟩
/-- TMR_CMD.STATUS, bits [30:28]. -/
abbrev fTMR_CMD_STATUS : Fld := ⟨30, 28⟩
/-- TMR_CMD.OUT, bits [27:27]. -/
abbrev fTMR_CMD_OUT : Fld := ⟨27, 27⟩
/-- TMR_CMD.OP, bits [25:24]. -/
abbrev fTMR_CMD_OP : Fld := ⟨25, 24⟩
/-- TMR_CMD.INDEX, bits [16:0]. -/
abbrev fTMR_CMD_INDEX : Fld := ⟨16, 0⟩
/-- TMR_D.DATA, bits [31:0]. -/
abbrev fTMR_D_DATA : Fld := ⟨31, 0⟩
/-- TMR_STS.FIFO, bits [12:0]. -/
abbrev fTMR_STS_FIFO : Fld := ⟨12, 0⟩
/-- RW_LINK_STS.PARTNER, bits [31:31]. -/
abbrev fRW_LINK_STS_PARTNER : Fld := ⟨31, 31⟩
/-- RW_LINK_STS.PEER_TRAIL, bits [30:30]. -/
abbrev fRW_LINK_STS_PEER_TRAIL : Fld := ⟨30, 30⟩
/-- RW_LINK_STS.MISMATCH, bits [29:29]. -/
abbrev fRW_LINK_STS_MISMATCH : Fld := ⟨29, 29⟩
/-- RW_LINK_STS.PEER_UP, bits [28:28]. -/
abbrev fRW_LINK_STS_PEER_UP : Fld := ⟨28, 28⟩
/-- RW_LINK_STS.RW_UP, bits [27:27]. -/
abbrev fRW_LINK_STS_RW_UP : Fld := ⟨27, 27⟩
/-- RW_LINK_STS.PEER_BL, bits [23:20]. -/
abbrev fRW_LINK_STS_PEER_BL : Fld := ⟨23, 20⟩
/-- RW_LINK_STS.PEER_ID, bits [11:0]. -/
abbrev fRW_LINK_STS_PEER_ID : Fld := ⟨11, 0⟩
/-- HW_BOOT_STS.BOOT_DONE, bits [31:31]. -/
abbrev fHW_BOOT_STS_BOOT_DONE : Fld := ⟨31, 31⟩
/-- HW_BOOT_STS.STEP, bits [30:28]. -/
abbrev fHW_BOOT_STS_STEP : Fld := ⟨30, 28⟩
/-- HW_BOOT_STS.SOURCE, bits [27:26]. -/
abbrev fHW_BOOT_STS_SOURCE : Fld := ⟨27, 26⟩
/-- HW_BOOT_STS.ROM_FALLBACK, bits [25:25]. -/
abbrev fHW_BOOT_STS_ROM_FALLBACK : Fld := ⟨25, 25⟩
/-- HW_BOOT_STS.PATCHED, bits [24:24]. -/
abbrev fHW_BOOT_STS_PATCHED : Fld := ⟨24, 24⟩
/-- HW_BOOT_STS.BANK, bits [23:23]. -/
abbrev fHW_BOOT_STS_BANK : Fld := ⟨23, 23⟩
/-- HW_BOOT_STS.ERROR, bits [19:16]. -/
abbrev fHW_BOOT_STS_ERROR : Fld := ⟨19, 16⟩
/-- HW_BOOT_STS.ERR_ARG, bits [15:0]. -/
abbrev fHW_BOOT_STS_ERR_ARG : Fld := ⟨15, 0⟩
/-- HW_SWD.EN, bits [31:31]. -/
abbrev fHW_SWD_EN : Fld := ⟨31, 31⟩
/-- HW_SWD.TIMEOUT_MS, bits [15:0]. -/
abbrev fHW_SWD_TIMEOUT_MS : Fld := ⟨15, 0⟩
/-- IC_SRC_CFG.EN1, bits [25:25]. -/
abbrev fIC_SRC_CFG_EN1 : Fld := ⟨25, 25⟩
/-- IC_SRC_CFG.TRIG1, bits [24:24]. -/
abbrev fIC_SRC_CFG_TRIG1 : Fld := ⟨24, 24⟩
/-- IC_SRC_CFG.TARGET1, bits [23:20]. -/
abbrev fIC_SRC_CFG_TARGET1 : Fld := ⟨23, 20⟩
/-- IC_SRC_CFG.PRIO1, bits [19:16]. -/
abbrev fIC_SRC_CFG_PRIO1 : Fld := ⟨19, 16⟩
/-- IC_SRC_CFG.EN, bits [9:9]. -/
abbrev fIC_SRC_CFG_EN : Fld := ⟨9, 9⟩
/-- IC_SRC_CFG.TRIG, bits [8:8]. -/
abbrev fIC_SRC_CFG_TRIG : Fld := ⟨8, 8⟩
/-- IC_SRC_CFG.TARGET, bits [7:4]. -/
abbrev fIC_SRC_CFG_TARGET : Fld := ⟨7, 4⟩
/-- IC_SRC_CFG.PRIO, bits [3:0]. -/
abbrev fIC_SRC_CFG_PRIO : Fld := ⟨3, 0⟩
/-- IC_VBAR.BASE, bits [31:14]. -/
abbrev fIC_VBAR_BASE : Fld := ⟨31, 14⟩
/-- IC_TH.TH, bits [4:0]. -/
abbrev fIC_TH_TH : Fld := ⟨4, 0⟩
/-- IC_RP.HALTED, bits [31:31]. -/
abbrev fIC_RP_HALTED : Fld := ⟨31, 31⟩
/-- IC_RP.SOURCE, bits [24:16]. -/
abbrev fIC_RP_SOURCE : Fld := ⟨24, 16⟩
/-- IC_RP.DEPTH, bits [12:8]. -/
abbrev fIC_RP_DEPTH : Fld := ⟨12, 8⟩
/-- IC_RP.RP, bits [4:0]. -/
abbrev fIC_RP_RP : Fld := ⟨4, 0⟩
/-- IC_EOI.SOURCE, bits [8:0]. -/
abbrev fIC_EOI_SOURCE : Fld := ⟨8, 0⟩
/-- IC_SGI.SOURCE, bits [8:0]. -/
abbrev fIC_SGI_SOURCE : Fld := ⟨8, 0⟩
/-- IC_TMR.EN, bits [31:31]. -/
abbrev fIC_TMR_EN : Fld := ⟨31, 31⟩
/-- IC_TMR.PERIODIC, bits [30:30]. -/
abbrev fIC_TMR_PERIODIC : Fld := ⟨30, 30⟩
/-- IC_TMR.INTERVAL_US, bits [23:0]. -/
abbrev fIC_TMR_INTERVAL_US : Fld := ⟨23, 0⟩
/-- DEV_ID.PART, bits [31:16]. -/
abbrev fDEV_ID_PART : Fld := ⟨31, 16⟩
/-- DEV_ID.STEPPING, bits [15:8]. -/
abbrev fDEV_ID_STEPPING : Fld := ⟨15, 8⟩
/-- DEV_STRAP.LNGEN, bits [8:7]. -/
abbrev fDEV_STRAP_LNGEN : Fld := ⟨8, 7⟩
/-- DEV_STRAP.BPGEN, bits [6:4]. -/
abbrev fDEV_STRAP_BPGEN : Fld := ⟨6, 4⟩
/-- DEV_STRAP.BOOT, bits [3:2]. -/
abbrev fDEV_STRAP_BOOT : Fld := ⟨3, 2⟩
/-- DEV_STRAP.MODE, bits [1:0]. -/
abbrev fDEV_STRAP_MODE : Fld := ⟨1, 0⟩
/-- DEV_RST.KEY, bits [31:16]. -/
abbrev fDEV_RST_KEY : Fld := ⟨31, 16⟩
/-- DEV_RST.WARM, bits [0:0]. -/
abbrev fDEV_RST_WARM : Fld := ⟨0, 0⟩
/-- DEV_RST_STS.LAST_CAUSE, bits [2:0]. -/
abbrev fDEV_RST_STS_LAST_CAUSE : Fld := ⟨2, 0⟩
/-- DEV_BL.LOCKED, bits [7:4]. -/
abbrev fDEV_BL_LOCKED : Fld := ⟨7, 4⟩
/-- DEV_BL.HIGHEST, bits [3:0]. -/
abbrev fDEV_BL_HIGHEST : Fld := ⟨3, 0⟩
/-- PT_AGE.MARGIN_MV, bits [23:16]. -/
abbrev fPT_AGE_MARGIN_MV : Fld := ⟨23, 16⟩
/-- PT_AGE.SLOW_PPM, bits [15:0]. -/
abbrev fPT_AGE_SLOW_PPM : Fld := ⟨15, 0⟩
/-- CLK_STS.PCIE_REF_OK, bits [4:4]. -/
abbrev fCLK_STS_PCIE_REF_OK : Fld := ⟨4, 4⟩
/-- CLK_STS.SDREF_B_OK, bits [3:3]. -/
abbrev fCLK_STS_SDREF_B_OK : Fld := ⟨3, 3⟩
/-- CLK_STS.SDREF_L_OK, bits [2:2]. -/
abbrev fCLK_STS_SDREF_L_OK : Fld := ⟨2, 2⟩
/-- CLK_STS.TIMEREF_OK, bits [1:1]. -/
abbrev fCLK_STS_TIMEREF_OK : Fld := ⟨1, 1⟩
/-- CLK_STS.SYSCLK_OK, bits [0:0]. -/
abbrev fCLK_STS_SYSCLK_OK : Fld := ⟨0, 0⟩
/-- SDQ_TXEQ.C1, bits [21:16]. -/
abbrev fSDQ_TXEQ_C1 : Fld := ⟨21, 16⟩
/-- SDQ_TXEQ.CM1, bits [13:8]. -/
abbrev fSDQ_TXEQ_CM1 : Fld := ⟨13, 8⟩
/-- SDQ_TXEQ.CM2, bits [5:0]. -/
abbrev fSDQ_TXEQ_CM2 : Fld := ⟨5, 0⟩
/-- PT_TEMP.SENSOR, bits [19:16]. -/
abbrev fPT_TEMP_SENSOR : Fld := ⟨19, 16⟩
/-- PT_TEMP.TEMP, bits [15:0]. -/
abbrev fPT_TEMP_TEMP : Fld := ⟨15, 0⟩
/-- PT_AVS.FUSED_MV, bits [27:16]. -/
abbrev fPT_AVS_FUSED_MV : Fld := ⟨27, 16⟩
/-- PT_AVS.TARGET_MV, bits [11:0]. -/
abbrev fPT_AVS_TARGET_MV : Fld := ⟨11, 0⟩
/-- ERR_STS.SRC, bits [15:0]. -/
abbrev fERR_STS_SRC : Fld := ⟨15, 0⟩
/-- ERR_MASK.MASK, bits [15:0]. -/
abbrev fERR_MASK_MASK : Fld := ⟨15, 0⟩
/-- ERR_CLASS.CLASS, bits [31:0]. -/
abbrev fERR_CLASS_CLASS : Fld := ⟨31, 0⟩
/-- ERR_INJECT.SRC, bits [3:0]. -/
abbrev fERR_INJECT_SRC : Fld := ⟨3, 0⟩
/-- ERR_INJECT.CLASS, bits [5:4]. -/
abbrev fERR_INJECT_CLASS : Fld := ⟨5, 4⟩
/-- ERR_INJECT.GO, bits [8:8]. -/
abbrev fERR_INJECT_GO : Fld := ⟨8, 8⟩
/-- ERR_WINDOW.MS, bits [15:0]. -/
abbrev fERR_WINDOW_MS : Fld := ⟨15, 0⟩
/-- ERR_THRESH.CE, bits [7:0]. -/
abbrev fERR_THRESH_CE : Fld := ⟨7, 0⟩
/-- ERR_THRESH.UC, bits [15:8]. -/
abbrev fERR_THRESH_UC : Fld := ⟨15, 8⟩
/-- ERR_COUNT.UC_COUNT, bits [23:16]. -/
abbrev fERR_COUNT_UC_COUNT : Fld := ⟨23, 16⟩
/-- ERR_COUNT.SEL, bits [11:8]. -/
abbrev fERR_COUNT_SEL : Fld := ⟨11, 8⟩
/-- ERR_COUNT.COUNT, bits [7:0]. -/
abbrev fERR_COUNT_COUNT : Fld := ⟨7, 0⟩
/-- ECHO_STS.SRC, bits [15:0]. -/
abbrev fECHO_STS_SRC : Fld := ⟨15, 0⟩
/-- IRQ_STS.EVT, bits [31:0]. -/
abbrev fIRQ_STS_EVT : Fld := ⟨31, 0⟩
/-- IRQ_EN.EN, bits [31:0]. -/
abbrev fIRQ_EN_EN : Fld := ⟨31, 0⟩
/-- PPS_IN_NS.NS, bits [31:0]. -/
abbrev fPPS_IN_NS_NS : Fld := ⟨31, 0⟩
/-- PPS_IN_SEC.SEC, bits [31:0]. -/
abbrev fPPS_IN_SEC_SEC : Fld := ⟨31, 0⟩
/-- PPS_OUT.EN, bits [31:31]. -/
abbrev fPPS_OUT_EN : Fld := ⟨31, 31⟩
/-- PPS_OUT.WIDTH_US, bits [15:0]. -/
abbrev fPPS_OUT_WIDTH_US : Fld := ⟨15, 0⟩
/-- PPS_OFS.OFS, bits [31:0]. -/
abbrev fPPS_OFS_OFS : Fld := ⟨31, 0⟩
/-- SYNCE.EN, bits [31:31]. -/
abbrev fSYNCE_EN : Fld := ⟨31, 31⟩
/-- SYNCE.SQUELCHED, bits [30:30]. -/
abbrev fSYNCE_SQUELCHED : Fld := ⟨30, 30⟩
/-- SYNCE.SRC_LANE, bits [23:16]. -/
abbrev fSYNCE_SRC_LANE : Fld := ⟨23, 16⟩
/-- SYNCE.DIV, bits [15:0]. -/
abbrev fSYNCE_DIV : Fld := ⟨15, 0⟩
/-- TXTS.DATA, bits [31:0]. -/
abbrev fTXTS_DATA : Fld := ⟨31, 0⟩
/-- TXTS_CNT.CNT, bits [8:0]. -/
abbrev fTXTS_CNT_CNT : Fld := ⟨8, 0⟩
/-- RW_CFG.ETYPE, bits [31:16]. -/
abbrev fRW_CFG_ETYPE : Fld := ⟨31, 16⟩
/-- RW_CFG.QUEUE, bits [11:0]. -/
abbrev fRW_CFG_QUEUE : Fld := ⟨11, 0⟩
/-- RW_REL.RETRY_MAX, bits [23:16]. -/
abbrev fRW_REL_RETRY_MAX : Fld := ⟨23, 16⟩
/-- RW_REL.RTX_US, bits [7:0]. -/
abbrev fRW_REL_RTX_US : Fld := ⟨7, 0⟩
/-- RW_HB.HB_MISS, bits [31:24]. -/
abbrev fRW_HB_HB_MISS : Fld := ⟨31, 24⟩
/-- RW_HB.E2E_MS, bits [23:16]. -/
abbrev fRW_HB_E2E_MS : Fld := ⟨23, 16⟩
/-- RW_HB.HB_MS, bits [15:0]. -/
abbrev fRW_HB_HB_MS : Fld := ⟨15, 0⟩
/-- RW_ID.MODE, bits [31:30]. -/
abbrev fRW_ID_MODE : Fld := ⟨31, 30⟩
/-- RW_ID.ORPHAN, bits [29:29]. -/
abbrev fRW_ID_ORPHAN : Fld := ⟨29, 29⟩
/-- RW_ID.STRAP_ERR, bits [28:28]. -/
abbrev fRW_ID_STRAP_ERR : Fld := ⟨28, 28⟩
/-- RW_ID.ID, bits [11:0]. -/
abbrev fRW_ID_ID : Fld := ⟨11, 0⟩
/-- RW_UP.VALID, bits [31:31]. -/
abbrev fRW_UP_VALID : Fld := ⟨31, 31⟩
/-- RW_UP.PORT, bits [20:12]. -/
abbrev fRW_UP_PORT : Fld := ⟨20, 12⟩
/-- RW_UP.HOPS, bits [11:0]. -/
abbrev fRW_UP_HOPS : Fld := ⟨11, 0⟩
/-- RW_GEN.GEN, bits [31:0]. -/
abbrev fRW_GEN_GEN : Fld := ⟨31, 0⟩
/-- TR_CFG.ETYPE, bits [15:0]. -/
abbrev fTR_CFG_ETYPE : Fld := ⟨15, 0⟩
/-- TR_SWITCH.BUSY, bits [31:31]. -/
abbrev fTR_SWITCH_BUSY : Fld := ⟨31, 31⟩
/-- TR_SWITCH.TRAIL_EN, bits [30:30]. -/
abbrev fTR_SWITCH_TRAIL_EN : Fld := ⟨30, 30⟩
/-- TR_SWITCH.MAXLEN, bits [29:16]. -/
abbrev fTR_SWITCH_MAXLEN : Fld := ⟨29, 16⟩
/-- TR_SWITCH.PORT, bits [8:0]. -/
abbrev fTR_SWITCH_PORT : Fld := ⟨8, 0⟩
/-- RW_LINK_EN.EN, bits [31:0]. -/
abbrev fRW_LINK_EN_EN : Fld := ⟨31, 0⟩
/-- RW_VLINK.EN, bits [0:0]. -/
abbrev fRW_VLINK_EN : Fld := ⟨0, 0⟩
/-- RW_TXR_CFG.BASE, bits [31:11]. -/
abbrev fRW_TXR_CFG_BASE : Fld := ⟨31, 11⟩
/-- RW_TXR_CFG.LOG2, bits [3:0]. -/
abbrev fRW_TXR_CFG_LOG2 : Fld := ⟨3, 0⟩
/-- RW_RXR_CFG.BASE, bits [31:11]. -/
abbrev fRW_RXR_CFG_BASE : Fld := ⟨31, 11⟩
/-- RW_RXR_CFG.LOG2, bits [3:0]. -/
abbrev fRW_RXR_CFG_LOG2 : Fld := ⟨3, 0⟩
/-- RW_TXR_TAIL.POS, bits [15:0]. -/
abbrev fRW_TXR_TAIL_POS : Fld := ⟨15, 0⟩
/-- RW_TXR_HEAD.POS, bits [15:0]. -/
abbrev fRW_TXR_HEAD_POS : Fld := ⟨15, 0⟩
/-- RW_RXR_TAIL.POS, bits [15:0]. -/
abbrev fRW_RXR_TAIL_POS : Fld := ⟨15, 0⟩
/-- RW_RXR_HEAD.POS, bits [15:0]. -/
abbrev fRW_RXR_HEAD_POS : Fld := ⟨15, 0⟩
/-- HMB_REQ_D.DATA, bits [31:0]. -/
abbrev fHMB_REQ_D_DATA : Fld := ⟨31, 0⟩
/-- HMB_RSP_D.DATA, bits [31:0]. -/
abbrev fHMB_RSP_D_DATA : Fld := ⟨31, 0⟩
/-- HMB_GO.GO, bits [0:0]. -/
abbrev fHMB_GO_GO : Fld := ⟨0, 0⟩
/-- HMB_STS.BUSY, bits [31:31]. -/
abbrev fHMB_STS_BUSY : Fld := ⟨31, 31⟩
/-- HMB_STS.DONE, bits [30:30]. -/
abbrev fHMB_STS_DONE : Fld := ⟨30, 30⟩
/-- HMB1_REQ_D.DATA, bits [31:0]. -/
abbrev fHMB1_REQ_D_DATA : Fld := ⟨31, 0⟩
/-- HMB1_RSP_D.DATA, bits [31:0]. -/
abbrev fHMB1_RSP_D_DATA : Fld := ⟨31, 0⟩
/-- HMB1_GO.GO, bits [0:0]. -/
abbrev fHMB1_GO_GO : Fld := ⟨0, 0⟩
/-- HMB1_STS.BUSY, bits [31:31]. -/
abbrev fHMB1_STS_BUSY : Fld := ⟨31, 31⟩
/-- HMB1_STS.DONE, bits [30:30]. -/
abbrev fHMB1_STS_DONE : Fld := ⟨30, 30⟩
/-- SW_KICK.KICK, bits [31:0]. -/
abbrev fSW_KICK_KICK : Fld := ⟨31, 0⟩
/-- API_CMD_BASE.BASE, bits [63:6]. -/
abbrev fAPI_CMD_BASE_BASE : Fld := ⟨63, 6⟩
/-- API_RSP_BASE.BASE, bits [63:6]. -/
abbrev fAPI_RSP_BASE_BASE : Fld := ⟨63, 6⟩
/-- API_CFG.EN, bits [31:31]. -/
abbrev fAPI_CFG_EN : Fld := ⟨31, 31⟩
/-- API_CFG.LOG2, bits [3:0]. -/
abbrev fAPI_CFG_LOG2 : Fld := ⟨3, 0⟩
/-- API_CMD_TAIL.POS, bits [15:0]. -/
abbrev fAPI_CMD_TAIL_POS : Fld := ⟨15, 0⟩
/-- API_RSP_HEAD.POS, bits [15:0]. -/
abbrev fAPI_RSP_HEAD_POS : Fld := ⟨15, 0⟩
/-- TXR_BASE.BASE, bits [63:4]. -/
abbrev fTXR_BASE_BASE : Fld := ⟨63, 4⟩
/-- TXR_CFG.EN, bits [31:31]. -/
abbrev fTXR_CFG_EN : Fld := ⟨31, 31⟩
/-- TXR_CFG.ERR, bits [30:30]. -/
abbrev fTXR_CFG_ERR : Fld := ⟨30, 30⟩
/-- TXR_CFG.VEC, bits [29:24]. -/
abbrev fTXR_CFG_VEC : Fld := ⟨29, 24⟩
/-- TXR_CFG.ITR_US, bits [23:16]. -/
abbrev fTXR_CFG_ITR_US : Fld := ⟨23, 16⟩
/-- TXR_CFG.LOG2, bits [3:0]. -/
abbrev fTXR_CFG_LOG2 : Fld := ⟨3, 0⟩
/-- TXR_TAIL.POS, bits [12:0]. -/
abbrev fTXR_TAIL_POS : Fld := ⟨12, 0⟩
/-- TXR_HEAD.POS, bits [12:0]. -/
abbrev fTXR_HEAD_POS : Fld := ⟨12, 0⟩
/-- TXR_WB.ADDR, bits [63:2]. -/
abbrev fTXR_WB_ADDR : Fld := ⟨63, 2⟩
/-- RXR_BASE.BASE, bits [63:4]. -/
abbrev fRXR_BASE_BASE : Fld := ⟨63, 4⟩
/-- RXR_CFG.EN, bits [31:31]. -/
abbrev fRXR_CFG_EN : Fld := ⟨31, 31⟩
/-- RXR_CFG.ERR, bits [30:30]. -/
abbrev fRXR_CFG_ERR : Fld := ⟨30, 30⟩
/-- RXR_CFG.VEC, bits [29:24]. -/
abbrev fRXR_CFG_VEC : Fld := ⟨29, 24⟩
/-- RXR_CFG.ITR_US, bits [23:16]. -/
abbrev fRXR_CFG_ITR_US : Fld := ⟨23, 16⟩
/-- RXR_CFG.BUFSZ, bits [13:8]. -/
abbrev fRXR_CFG_BUFSZ : Fld := ⟨13, 8⟩
/-- RXR_CFG.LOG2, bits [3:0]. -/
abbrev fRXR_CFG_LOG2 : Fld := ⟨3, 0⟩
/-- RXR_TAIL.POS, bits [12:0]. -/
abbrev fRXR_TAIL_POS : Fld := ⟨12, 0⟩
/-- RXR_HEAD.POS, bits [12:0]. -/
abbrev fRXR_HEAD_POS : Fld := ⟨12, 0⟩
/-- MSIX_TABLE.DATA, bits [31:0]. -/
abbrev fMSIX_TABLE_DATA : Fld := ⟨31, 0⟩
/-- MSIX_PBA.PEND, bits [31:0]. -/
abbrev fMSIX_PBA_PEND : Fld := ⟨31, 0⟩
/-- IC_PEND.BITS, bits [31:0]. -/
abbrev fIC_PEND_BITS : Fld := ⟨31, 0⟩
/-- IC_ACT.BITS, bits [31:0]. -/
abbrev fIC_ACT_BITS : Fld := ⟨31, 0⟩
/-- IC_LINE.BITS, bits [31:0]. -/
abbrev fIC_LINE_BITS : Fld := ⟨31, 0⟩
/-- HEV_MAP.EN0, bits [7:7]. -/
abbrev fHEV_MAP_EN0 : Fld := ⟨7, 7⟩
/-- HEV_MAP.VEC0, bits [5:0]. -/
abbrev fHEV_MAP_VEC0 : Fld := ⟨5, 0⟩
/-- HEV_MAP.EN1, bits [15:15]. -/
abbrev fHEV_MAP_EN1 : Fld := ⟨15, 15⟩
/-- HEV_MAP.VEC1, bits [13:8]. -/
abbrev fHEV_MAP_VEC1 : Fld := ⟨13, 8⟩
/-- HEV_MAP.EN2, bits [23:23]. -/
abbrev fHEV_MAP_EN2 : Fld := ⟨23, 23⟩
/-- HEV_MAP.VEC2, bits [21:16]. -/
abbrev fHEV_MAP_VEC2 : Fld := ⟨21, 16⟩
/-- HEV_MAP.EN3, bits [31:31]. -/
abbrev fHEV_MAP_EN3 : Fld := ⟨31, 31⟩
/-- HEV_MAP.VEC3, bits [29:24]. -/
abbrev fHEV_MAP_VEC3 : Fld := ⟨29, 24⟩
/-- HEV_SENT.SENT, bits [63:0]. -/
abbrev fHEV_SENT_SENT : Fld := ⟨63, 0⟩
/-- HEV_ACK.VEC, bits [5:0]. -/
abbrev fHEV_ACK_VEC : Fld := ⟨5, 0⟩
/-- LKO_TOP.AREA, bits [63:0]. -/
abbrev fLKO_TOP_AREA : Fld := ⟨63, 0⟩
/-- LKO_ECHO_TOP.AREA, bits [63:0]. -/
abbrev fLKO_ECHO_TOP_AREA : Fld := ⟨63, 0⟩
/-- LKO_CFG.REPAIR_EN, bits [8:8]. -/
abbrev fLKO_CFG_REPAIR_EN : Fld := ⟨8, 8⟩
/-- LKO_CFG.ECHO_US, bits [7:0]. -/
abbrev fLKO_CFG_ECHO_US : Fld := ⟨7, 0⟩
/-- LKO_DIR_SEL.AREA, bits [5:0]. -/
abbrev fLKO_DIR_SEL_AREA : Fld := ⟨5, 0⟩
/-- LKO_DIR.PAGES, bits [31:0]. -/
abbrev fLKO_DIR_PAGES : Fld := ⟨31, 0⟩
/-- LKO_SAFE.SAFE, bits [31:31]. -/
abbrev fLKO_SAFE_SAFE : Fld := ⟨31, 31⟩
/-- LKO_SAFE.CAUSE, bits [30:28]. -/
abbrev fLKO_SAFE_CAUSE : Fld := ⟨30, 28⟩
/-- LKO_SAFE.AREA, bits [25:20]. -/
abbrev fLKO_SAFE_AREA : Fld := ⟨25, 20⟩
/-- LKO_SAFE.SOURCE, bits [19:16]. -/
abbrev fLKO_SAFE_SOURCE : Fld := ⟨19, 16⟩
/-- LKO_SAFE.PAGE, bits [11:0]. -/
abbrev fLKO_SAFE_PAGE : Fld := ⟨11, 0⟩
/-- LKO_SAFE_TIME.SEC, bits [63:32]. -/
abbrev fLKO_SAFE_TIME_SEC : Fld := ⟨63, 32⟩
/-- LKO_SAFE_TIME.NS, bits [31:0]. -/
abbrev fLKO_SAFE_TIME_NS : Fld := ⟨31, 0⟩
/-- LKO_LAST.RESOURCE, bits [47:24]. -/
abbrev fLKO_LAST_RESOURCE : Fld := ⟨47, 24⟩
/-- LKO_LAST.PERSIST, bits [18:18]. -/
abbrev fLKO_LAST_PERSIST : Fld := ⟨18, 18⟩
/-- LKO_LAST.CLASS, bits [17:16]. -/
abbrev fLKO_LAST_CLASS : Fld := ⟨17, 16⟩
/-- LKO_LAST.SOURCE, bits [15:12]. -/
abbrev fLKO_LAST_SOURCE : Fld := ⟨15, 12⟩
/-- LKO_LAST.PAGE, bits [11:0]. -/
abbrev fLKO_LAST_PAGE : Fld := ⟨11, 0⟩
/-- LKO_REPAIR_LAST.VALID, bits [31:31]. -/
abbrev fLKO_REPAIR_LAST_VALID : Fld := ⟨31, 31⟩
/-- LKO_REPAIR_LAST.SPARE, bits [27:24]. -/
abbrev fLKO_REPAIR_LAST_SPARE : Fld := ⟨27, 24⟩
/-- LKO_REPAIR_LAST.RESOURCE, bits [23:0]. -/
abbrev fLKO_REPAIR_LAST_RESOURCE : Fld := ⟨23, 0⟩
/-- LKO_REACT.UC_P, bits [14:12]. -/
abbrev fLKO_REACT_UC_P : Fld := ⟨14, 12⟩
/-- LKO_REACT.UC, bits [10:8]. -/
abbrev fLKO_REACT_UC : Fld := ⟨10, 8⟩
/-- LKO_REACT.CE_P, bits [6:4]. -/
abbrev fLKO_REACT_CE_P : Fld := ⟨6, 4⟩
/-- LKO_REACT.CE, bits [2:0]. -/
abbrev fLKO_REACT_CE : Fld := ⟨2, 0⟩

/-- Registers of page kind hdr. -/
def rowsHdr : List RegRow := [
  -- PAGE_ID
  ⟨0x0, 0, 1, .single, [⟨31, 16, .ro, .none, 0, .any⟩, ⟨15, 8, .ro, .none, 0, .any⟩, ⟨7, 0, .ro, .none, 1, .any⟩]⟩,
  -- PAGE_CAP
  ⟨0x4, 0, 1, .single, [⟨31, 16, .ro, .none, 0, .any⟩, ⟨5, 5, .ro, .none, 0, .any⟩, ⟨4, 4, .ro, .none, 0, .any⟩, ⟨3, 3, .ro, .none, 0, .any⟩, ⟨2, 2, .ro, .none, 0, .any⟩, ⟨1, 1, .ro, .none, 0, .any⟩, ⟨0, 0, .ro, .none, 0, .any⟩]⟩,
  -- PAGE_CTL
  ⟨0x8, 0, 1, .single, [⟨7, 7, .wo, .live, 0, .any⟩, ⟨6, 6, .wo, .live, 0, .any⟩, ⟨5, 5, .wo, .live, 0, .any⟩, ⟨4, 4, .rw, .live, 0, .any⟩, ⟨3, 3, .wo, .live, 0, .any⟩, ⟨2, 2, .wo, .live, 0, .any⟩, ⟨1, 1, .rw, .live, 0, .any⟩, ⟨0, 0, .rw, .live, 0, .any⟩]⟩,
  -- PAGE_STS
  ⟨0xC, 0, 1, .single, [⟨6, 6, .ro, .none, 0, .any⟩, ⟨5, 5, .ro, .none, 0, .any⟩, ⟨4, 4, .w1c, .none, 0, .any⟩, ⟨3, 3, .ro, .none, 0, .any⟩, ⟨2, 2, .ro, .none, 0, .any⟩, ⟨1, 1, .ro, .none, 0, .any⟩, ⟨0, 0, .ro, .none, 0, .any⟩]⟩,
  -- WRITE_REFUSED
  ⟨0x38, 0, 1, .single, [⟨20, 20, .ro, .none, 0, .any⟩, ⟨19, 16, .ro, .none, 0, .any⟩, ⟨11, 0, .ro, .none, 0, .any⟩]⟩,
  -- ERR_STS
  ⟨0x10, 0, 1, .single, [⟨15, 0, .w1c, .none, 0, .any⟩]⟩,
  -- ERR_MASK
  ⟨0x14, 0, 1, .single, [⟨15, 0, .rw, .live, 0, .any⟩]⟩,
  -- ERR_CLASS
  ⟨0x18, 0, 1, .single, [⟨31, 0, .ro, .none, 0, .any⟩]⟩,
  -- ERR_INJECT
  ⟨0x1C, 0, 1, .single, [⟨3, 0, .wo, .live, 0, .any⟩, ⟨5, 4, .wo, .live, 0, .range 1 3⟩, ⟨8, 8, .wo, .live, 0, .any⟩]⟩,
  -- ERR_WINDOW
  ⟨0x20, 0, 1, .single, [⟨15, 0, .rw, .live, 1000, .range 1 65535⟩]⟩,
  -- ERR_THRESH
  ⟨0x24, 0, 1, .single, [⟨7, 0, .rw, .live, 64, .any⟩, ⟨15, 8, .rw, .live, 4, .any⟩]⟩,
  -- ERR_COUNT
  ⟨0x28, 0, 1, .single, [⟨23, 16, .ro, .none, 0, .any⟩, ⟨11, 8, .rw, .live, 0, .any⟩, ⟨7, 0, .ro, .none, 0, .any⟩]⟩,
  -- ECHO_STS
  ⟨0x2C, 0, 1, .single, [⟨15, 0, .w1c, .none, 0, .any⟩]⟩,
  -- IRQ_STS
  ⟨0x30, 0, 1, .single, [⟨31, 0, .w1c, .none, 0, .any⟩]⟩,
  -- IRQ_EN
  ⟨0x34, 0, 1, .single, [⟨31, 0, .rw, .live, 0, .any⟩]⟩]

/-- Registers of page kind dev. -/
def rowsDev : List RegRow := [
  -- ACT_CFG
  ⟨0x200, 0, 1, .single, [⟨15, 12, .rw, .live, 15, .any⟩, ⟨8, 8, .rw, .live, 0, .any⟩, ⟨2, 0, .rw, .live, 2, .any⟩]⟩,
  -- ACT_CTXH
  ⟨0x204, 0, 1, .single, [⟨24, 20, .rw, .live, 20, .range 0 20⟩, ⟨19, 0, .rw, .live, 0, .any⟩]⟩,
  -- ACT_CNT_FW
  ⟨0x208, 0, 1, .single, [⟨18, 0, .rw, .live, 0, .any⟩]⟩,
  -- EPOCH_STS
  ⟨0x300, 0, 1, .single, [⟨31, 28, .ro, .none, 0, .any⟩, ⟨27, 20, .ro, .none, 0, .any⟩, ⟨19, 19, .ro, .none, 1, .any⟩, ⟨18, 18, .ro, .none, 0, .any⟩, ⟨17, 17, .ro, .none, 0, .any⟩, ⟨15, 8, .ro, .none, 0, .any⟩, ⟨7, 0, .ro, .none, 0, .any⟩]⟩,
  -- EPOCH_CTL
  ⟨0x304, 0, 1, .single, [⟨27, 16, .wo, .live, 0, .any⟩, ⟨15, 8, .wo, .live, 0, .any⟩, ⟨3, 3, .wo, .live, 0, .any⟩, ⟨2, 2, .wo, .live, 0, .any⟩, ⟨1, 1, .wo, .live, 0, .any⟩, ⟨0, 0, .wo, .live, 0, .any⟩]⟩,
  -- EPOCH_TIME
  ⟨0x308, 0, 1, .low, [⟨31, 0, .rw, .live, 0, .range 0 999999999⟩]⟩,
  -- EPOCH_TIME
  ⟨0x30C, 0, 1, .high, [⟨31, 0, .rw, .live, 0, .any⟩]⟩,
  -- EPOCH_CFG
  ⟨0x310, 0, 1, .single, [⟨15, 0, .rw, .live, 50, .range 1 65535⟩]⟩,
  -- EPOCH_INFLIGHT
  ⟨0x314, 0, 1, .single, [⟨31, 16, .ro, .none, 0, .any⟩, ⟨15, 0, .ro, .none, 0, .any⟩]⟩,
  -- EPOCH_CHAIN_STS
  ⟨0x318, 0, 1, .single, [⟨23, 12, .ro, .none, 0, .any⟩, ⟨11, 0, .ro, .none, 0, .any⟩]⟩,
  -- EPOCH_CHAIN_BAD
  ⟨0x31C, 0, 1, .single, [⟨31, 31, .w1c, .none, 0, .any⟩, ⟨30, 30, .ro, .none, 0, .any⟩, ⟨15, 12, .ro, .none, 0, .any⟩, ⟨11, 0, .ro, .none, 0, .any⟩]⟩,
  -- SVC_CFG
  ⟨0x400, 0, 1, .single, [⟨0, 0, .rw, .live, 0, .any⟩]⟩,
  -- DEV_ID
  ⟨0x40, 0, 1, .single, [⟨31, 16, .ro, .none, 34816, .any⟩, ⟨15, 8, .ro, .none, 0, .any⟩]⟩,
  -- DEV_STRAP
  ⟨0x44, 0, 1, .single, [⟨8, 7, .ro, .none, 0, .any⟩, ⟨6, 4, .ro, .none, 0, .any⟩, ⟨3, 2, .ro, .none, 0, .any⟩, ⟨1, 0, .ro, .none, 0, .any⟩]⟩,
  -- DEV_RST
  ⟨0x48, 0, 1, .single, [⟨31, 16, .wo, .live, 0, .any⟩, ⟨0, 0, .wo, .live, 0, .any⟩]⟩,
  -- DEV_RST_STS
  ⟨0x4C, 0, 1, .single, [⟨2, 0, .ro, .none, 0, .any⟩]⟩,
  -- DEV_BL
  ⟨0x50, 0, 1, .single, [⟨7, 4, .ro, .none, 0, .any⟩, ⟨3, 0, .ro, .none, 0, .any⟩]⟩]

/-- Registers of page kind lko. -/
def rowsLko : List RegRow := [
  -- LKO_TOP
  ⟨0x40, 0, 1, .low, [⟨31, 0, .ro, .none, 0, .any⟩]⟩,
  -- LKO_TOP
  ⟨0x44, 0, 1, .high, [⟨31, 0, .ro, .none, 0, .any⟩]⟩,
  -- LKO_ECHO_TOP
  ⟨0x48, 0, 1, .low, [⟨31, 0, .ro, .none, 0, .any⟩]⟩,
  -- LKO_ECHO_TOP
  ⟨0x4C, 0, 1, .high, [⟨31, 0, .ro, .none, 0, .any⟩]⟩,
  -- LKO_CFG
  ⟨0x50, 0, 1, .single, [⟨8, 8, .rw, .live, 1, .any⟩, ⟨7, 0, .rw, .live, 2, .range 1 255⟩]⟩,
  -- LKO_DIR_SEL
  ⟨0x54, 0, 1, .single, [⟨5, 0, .rw, .live, 0, .any⟩]⟩,
  -- LKO_DIR
  ⟨0x58, 4, 4, .single, [⟨31, 0, .ro, .none, 0, .any⟩]⟩,
  -- LKO_SAFE
  ⟨0x68, 0, 1, .single, [⟨31, 31, .ro, .none, 0, .any⟩, ⟨30, 28, .ro, .none, 0, .any⟩, ⟨25, 20, .ro, .none, 0, .any⟩, ⟨19, 16, .ro, .none, 0, .any⟩, ⟨11, 0, .ro, .none, 0, .any⟩]⟩,
  -- LKO_SAFE_TIME
  ⟨0x70, 0, 1, .low, [⟨31, 0, .ro, .none, 0, .any⟩]⟩,
  -- LKO_SAFE_TIME
  ⟨0x74, 0, 1, .high, [⟨31, 0, .ro, .none, 0, .any⟩]⟩,
  -- LKO_LAST
  ⟨0x78, 0, 1, .low, [⟨31, 24, .ro, .none, 0, .any⟩, ⟨18, 18, .ro, .none, 0, .any⟩, ⟨17, 16, .ro, .none, 0, .any⟩, ⟨15, 12, .ro, .none, 0, .any⟩, ⟨11, 0, .ro, .none, 0, .any⟩]⟩,
  -- LKO_LAST
  ⟨0x7C, 0, 1, .high, [⟨15, 0, .ro, .none, 0, .any⟩]⟩,
  -- LKO_REPAIR_LAST
  ⟨0x80, 0, 1, .single, [⟨31, 31, .w1c, .none, 0, .any⟩, ⟨27, 24, .ro, .none, 0, .any⟩, ⟨23, 0, .ro, .none, 0, .any⟩]⟩,
  -- LKO_REACT
  ⟨0x100, 4, 64, .single, [⟨14, 12, .rw, .live, 0, .range 0 5⟩, ⟨10, 8, .rw, .live, 0, .range 0 5⟩, ⟨6, 4, .rw, .live, 0, .range 0 5⟩, ⟨2, 0, .rw, .live, 0, .range 0 5⟩]⟩]

/-- Registers of page kind ic. -/
def rowsIc : List RegRow := [
  -- IC_SRC_CFG
  ⟨0x400, 4, 256, .single, [⟨25, 25, .rw, .live, 0, .any⟩, ⟨24, 24, .rw, .live, 0, .any⟩, ⟨23, 20, .rw, .live, 0, .any⟩, ⟨19, 16, .rw, .live, 15, .any⟩, ⟨9, 9, .rw, .live, 0, .any⟩, ⟨8, 8, .rw, .live, 0, .any⟩, ⟨7, 4, .rw, .live, 0, .any⟩, ⟨3, 0, .rw, .live, 15, .any⟩]⟩,
  -- IC_VBAR
  ⟨0x40, 16, 4, .single, [⟨31, 14, .rw, .live, 0, .any⟩]⟩,
  -- IC_TH
  ⟨0x44, 16, 4, .single, [⟨4, 0, .rw, .live, 16, .range 0 16⟩]⟩,
  -- IC_RP
  ⟨0x48, 16, 4, .single, [⟨31, 31, .ro, .none, 0, .any⟩, ⟨24, 16, .ro, .none, 0, .any⟩, ⟨12, 8, .ro, .none, 0, .any⟩, ⟨4, 0, .ro, .none, 16, .any⟩]⟩,
  -- IC_EOI
  ⟨0x4C, 16, 4, .single, [⟨8, 0, .wo, .live, 0, .any⟩]⟩,
  -- IC_SGI
  ⟨0x84, 0, 1, .single, [⟨8, 0, .wo, .live, 0, .range 1 15⟩]⟩,
  -- IC_TMR
  ⟨0x90, 4, 4, .single, [⟨31, 31, .rw, .live, 0, .any⟩, ⟨30, 30, .rw, .live, 0, .any⟩, ⟨23, 0, .rw, .live, 0, .range 1 16777215⟩]⟩,
  -- IC_PEND
  ⟨0x100, 4, 16, .single, [⟨31, 0, .ro, .none, 0, .any⟩]⟩,
  -- IC_ACT
  ⟨0x140, 4, 16, .single, [⟨31, 0, .ro, .none, 0, .any⟩]⟩,
  -- IC_LINE
  ⟨0x180, 4, 16, .single, [⟨31, 0, .ro, .none, 0, .any⟩]⟩]

/-- Registers of page kind hmb. -/
def rowsHmb : List RegRow := [
  -- HW_BOOT_STS
  ⟨0x40, 0, 1, .single, [⟨31, 31, .ro, .none, 0, .any⟩, ⟨30, 28, .ro, .none, 0, .any⟩, ⟨27, 26, .ro, .none, 0, .any⟩, ⟨25, 25, .ro, .none, 0, .any⟩, ⟨24, 24, .ro, .none, 0, .any⟩, ⟨23, 23, .ro, .none, 0, .any⟩, ⟨19, 16, .ro, .none, 0, .any⟩, ⟨15, 0, .ro, .none, 0, .any⟩]⟩,
  -- HW_SWD
  ⟨0x44, 0, 1, .single, [⟨31, 31, .rw, .live, 1, .any⟩, ⟨15, 0, .rw, .live, 100, .range 1 65535⟩]⟩,
  -- HMB_REQ_D
  ⟨0x100, 4, 8, .single, [⟨31, 0, .rw, .live, 0, .any⟩]⟩,
  -- HMB_RSP_D
  ⟨0x120, 4, 8, .single, [⟨31, 0, .ro, .none, 0, .any⟩]⟩,
  -- HMB_GO
  ⟨0x140, 0, 1, .single, [⟨0, 0, .wo, .live, 0, .any⟩]⟩,
  -- HMB_STS
  ⟨0x144, 0, 1, .single, [⟨31, 31, .ro, .none, 0, .any⟩, ⟨30, 30, .w1c, .none, 0, .any⟩]⟩,
  -- HMB1_REQ_D
  ⟨0x180, 4, 8, .single, [⟨31, 0, .rw, .live, 0, .any⟩]⟩,
  -- HMB1_RSP_D
  ⟨0x1A0, 4, 8, .single, [⟨31, 0, .ro, .none, 0, .any⟩]⟩,
  -- HMB1_GO
  ⟨0x1C0, 0, 1, .single, [⟨0, 0, .wo, .live, 0, .any⟩]⟩,
  -- HMB1_STS
  ⟨0x1C4, 0, 1, .single, [⟨31, 31, .ro, .none, 0, .any⟩, ⟨30, 30, .w1c, .none, 0, .any⟩]⟩]

/-- Registers of page kind sap0. -/
def rowsSap0 : List RegRow := [
  -- SW_KICK
  ⟨0x40, 0, 1, .single, [⟨31, 0, .wo, .live, 0, .any⟩]⟩,
  -- API_CMD_BASE
  ⟨0x100, 0, 1, .low, [⟨31, 6, .rw, .live, 0, .any⟩]⟩,
  -- API_CMD_BASE
  ⟨0x104, 0, 1, .high, [⟨31, 0, .rw, .live, 0, .any⟩]⟩,
  -- API_RSP_BASE
  ⟨0x108, 0, 1, .low, [⟨31, 6, .rw, .live, 0, .any⟩]⟩,
  -- API_RSP_BASE
  ⟨0x10C, 0, 1, .high, [⟨31, 0, .rw, .live, 0, .any⟩]⟩,
  -- API_CFG
  ⟨0x110, 0, 1, .single, [⟨31, 31, .rw, .live, 0, .any⟩, ⟨3, 0, .rw, .live, 6, .range 4 12⟩]⟩,
  -- API_CMD_TAIL
  ⟨0x114, 0, 1, .single, [⟨15, 0, .rw, .live, 0, .any⟩]⟩,
  -- API_RSP_HEAD
  ⟨0x118, 0, 1, .single, [⟨15, 0, .rw, .live, 0, .any⟩]⟩]

/-- Registers of page kind sap. -/
def rowsSap : List RegRow := [
  -- SW_KICK
  ⟨0x40, 0, 1, .single, [⟨31, 0, .wo, .live, 0, .any⟩]⟩]

/-- Registers of page kind pgu. -/
def rowsPgu : List RegRow := [
  -- PGU_CFG
  ⟨0x40, 0, 1, .single, [⟨23, 16, .rw, .live, 0, .any⟩, ⟨15, 8, .rw, .live, 0, .any⟩, ⟨4, 4, .rw, .live, 1, .any⟩, ⟨3, 0, .rw, .live, 0, .any⟩]⟩,
  -- PGU_ACT
  ⟨0x44, 0, 1, .single, [⟨13, 12, .rw, .live, 2, .any⟩, ⟨11, 10, .rw, .live, 2, .any⟩, ⟨9, 8, .rw, .live, 0, .any⟩, ⟨7, 6, .rw, .live, 0, .any⟩, ⟨5, 4, .rw, .live, 2, .any⟩, ⟨3, 2, .rw, .live, 2, .any⟩, ⟨1, 0, .rw, .live, 1, .any⟩]⟩,
  -- FRAG_CFG
  ⟨0x48, 0, 1, .single, [⟨23, 16, .rw, .live, 4, .range 1 255⟩, ⟨15, 0, .rw, .live, 250, .range 1 65535⟩]⟩,
  -- FRAG_SEED
  ⟨0x4C, 0, 1, .single, [⟨31, 0, .rw, .live, 0, .any⟩]⟩,
  -- PGU_NODE_CMD
  ⟨0x50, 0, 1, .single, [⟨31, 31, .ro, .none, 0, .any⟩, ⟨9, 9, .wo, .live, 0, .any⟩, ⟨8, 8, .wo, .live, 0, .any⟩, ⟨7, 0, .wo, .live, 0, .any⟩]⟩,
  -- PGU_NODE_D
  ⟨0x60, 4, 4, .single, [⟨31, 0, .rw, .live, 0, .any⟩]⟩,
  -- PGU_PORT
  ⟨0x300, 4, 260, .single, [⟨25, 25, .rw, .live, 0, .any⟩, ⟨24, 24, .rw, .live, 0, .any⟩, ⟨23, 16, .rw, .live, 0, .any⟩, ⟨15, 8, .rw, .live, 0, .any⟩, ⟨7, 0, .rw, .live, 0, .any⟩]⟩]

/-- Registers of page kind grv. -/
def rowsGrv : List RegRow := [
  -- GRV_CFG
  ⟨0x40, 0, 1, .single, [⟨15, 8, .rw, .live, 2, .range 1 255⟩, ⟨0, 0, .rw, .live, 1, .any⟩]⟩,
  -- GRV_ENG_SVC
  ⟨0x44, 0, 1, .single, [⟨31, 0, .rw, .live, 1073741823, .any⟩]⟩,
  -- GRV_ENG_FENCE
  ⟨0x48, 0, 1, .single, [⟨31, 0, .rw, .live, 0, .any⟩]⟩,
  -- GRV_ENG_PERM
  ⟨0x4C, 0, 1, .single, [⟨31, 0, .ro, .none, 0, .any⟩]⟩,
  -- GRV_ENG_LOAN
  ⟨0x50, 0, 1, .single, [⟨31, 0, .ro, .none, 0, .any⟩]⟩,
  -- GRV_STS
  ⟨0x54, 0, 1, .single, [⟨23, 16, .ro, .none, 120, .any⟩, ⟨15, 8, .ro, .none, 0, .any⟩, ⟨2, 2, .ro, .none, 0, .any⟩, ⟨1, 1, .ro, .none, 0, .any⟩, ⟨0, 0, .ro, .none, 0, .any⟩]⟩,
  -- GRV_ERR_ENG
  ⟨0x58, 0, 1, .single, [⟨31, 31, .w1c, .none, 0, .any⟩, ⟨30, 30, .ro, .none, 0, .any⟩, ⟨11, 8, .ro, .none, 0, .any⟩, ⟨6, 5, .ro, .none, 0, .any⟩, ⟨4, 0, .ro, .none, 0, .any⟩]⟩,
  -- GRV_CS_WR
  ⟨0x60, 0, 1, .single, [⟨11, 0, .wo, .quiet, 0, .any⟩]⟩,
  -- GRV_CS_RD
  ⟨0x64, 0, 1, .single, [⟨31, 31, .ro, .none, 0, .any⟩, ⟨30, 30, .ro, .none, 0, .any⟩, ⟨14, 12, .wo, .live, 0, .any⟩, ⟨11, 0, .wo, .live, 0, .any⟩]⟩,
  -- GRV_CS_D
  ⟨0x68, 4, 5, .single, [⟨31, 0, .rw, .live, 0, .any⟩]⟩,
  -- GRV_CS_CRC
  ⟨0x7C, 0, 1, .single, [⟨31, 0, .rw, .live, 0, .any⟩]⟩]

/-- Registers of page kind emt. -/
def rowsEmt : List RegRow := [
  -- EMT_TBL_GEO
  ⟨0x100, 16, 64, .single, [⟨31, 31, .rw, .live, 0, .any⟩, ⟨30, 29, .rw, .live, 0, .range 0 2⟩, ⟨28, 27, .rw, .quiet, 0, .range 0 2⟩, ⟨26, 20, .rw, .quiet, 8, .range 1 64⟩, ⟨16, 13, .rw, .quiet, 0, .range 0 13⟩, ⟨12, 0, .rw, .quiet, 0, .any⟩]⟩,
  -- EMT_TBL_OVF
  ⟨0x104, 16, 64, .single, [⟨29, 15, .rw, .quiet, 0, .range 0 16384⟩, ⟨13, 0, .rw, .quiet, 0, .any⟩]⟩,
  -- EMT_TBL_SEED
  ⟨0x108, 16, 64, .single, [⟨31, 0, .rw, .quiet, 4294967295, .any⟩]⟩,
  -- EMT_TBL_AGE
  ⟨0x10C, 16, 64, .single, [⟨31, 31, .rw, .live, 0, .any⟩, ⟨30, 30, .rw, .live, 0, .any⟩, ⟨23, 20, .rw, .live, 15, .range 1 15⟩, ⟨15, 0, .rw, .live, 20000, .range 1 65535⟩]⟩,
  -- EMT_TBL_STS
  ⟨0x500, 4, 64, .single, [⟨24, 24, .ro, .none, 0, .any⟩, ⟨23, 23, .ro, .none, 0, .any⟩, ⟨22, 0, .ro, .none, 0, .any⟩]⟩,
  -- LQ_CFG
  ⟨0x40, 0, 1, .single, [⟨31, 16, .rw, .live, 1024, .range 1 65535⟩, ⟨1, 1, .rw, .live, 0, .any⟩, ⟨0, 0, .rw, .live, 0, .any⟩]⟩,
  -- LQ_TAIL
  ⟨0x44, 0, 1, .single, [⟨16, 0, .ro, .none, 0, .any⟩]⟩,
  -- LQ_HEAD
  ⟨0x48, 0, 1, .single, [⟨16, 0, .rw, .live, 0, .any⟩]⟩,
  -- LF_CFG
  ⟨0x4C, 0, 1, .single, [⟨15, 0, .rw, .live, 1000, .any⟩]⟩]

/-- Registers of page kind tae. -/
def rowsTae : List RegRow := [
  -- TAE_HSQ_TAIL
  ⟨0x40, 0, 1, .single, [⟨8, 0, .rw, .live, 0, .any⟩]⟩,
  -- TAE_HSQ_HEAD
  ⟨0x44, 0, 1, .single, [⟨8, 0, .ro, .none, 0, .any⟩]⟩,
  -- TAE_HCQ_HEAD
  ⟨0x48, 0, 1, .single, [⟨8, 0, .rw, .live, 0, .any⟩]⟩,
  -- TAE_APER
  ⟨0x60, 4, 8, .single, [⟨31, 16, .rw, .live, 0, .any⟩, ⟨13, 8, .rw, .live, 0, .any⟩, ⟨7, 0, .rw, .live, 0, .range 0 10⟩]⟩,
  -- TAE_ABORT
  ⟨0x4C, 0, 1, .single, [⟨31, 31, .w1c, .none, 0, .any⟩, ⟨30, 30, .ro, .none, 0, .any⟩, ⟨23, 16, .ro, .none, 0, .any⟩, ⟨8, 0, .ro, .none, 0, .any⟩]⟩,
  -- TAE_ABORT_TAG
  ⟨0x50, 0, 1, .single, [⟨31, 0, .ro, .none, 0, .any⟩]⟩]

/-- Registers of page kind thk0. -/
def rowsThk0 : List RegRow := [
  -- THK_TBL_CFG
  ⟨0x100, 8, 64, .single, [⟨31, 31, .rw, .live, 0, .any⟩, ⟨30, 30, .rw, .quiet, 0, .any⟩, ⟨29, 29, .rw, .quiet, 0, .any⟩, ⟨22, 16, .rw, .quiet, 1, .range 1 64⟩, ⟨14, 8, .rw, .quiet, 1, .range 1 64⟩, ⟨5, 0, .rw, .quiet, 0, .any⟩]⟩,
  -- THK_TBL_STS
  ⟨0x104, 8, 64, .single, [⟨31, 31, .ro, .none, 0, .any⟩, ⟨30, 30, .ro, .none, 0, .any⟩, ⟨17, 0, .ro, .none, 0, .any⟩]⟩,
  -- THK_BANK
  ⟨0x40, 4, 8, .single, [⟨31, 31, .ro, .none, 0, .any⟩, ⟨30, 25, .ro, .none, 0, .any⟩, ⟨24, 19, .ro, .none, 0, .any⟩, ⟨18, 12, .ro, .none, 0, .any⟩, ⟨11, 0, .ro, .none, 0, .any⟩]⟩,
  -- THK_LOST
  ⟨0x60, 0, 1, .single, [⟨31, 31, .w1c, .none, 0, .any⟩, ⟨30, 30, .ro, .none, 0, .any⟩, ⟨29, 24, .ro, .none, 0, .any⟩, ⟨16, 0, .ro, .none, 0, .any⟩]⟩]

/-- Registers of page kind thk. -/
def rowsThk : List RegRow := [
  -- THK_BANK
  ⟨0x40, 4, 8, .single, [⟨31, 31, .ro, .none, 0, .any⟩, ⟨30, 25, .ro, .none, 0, .any⟩, ⟨24, 19, .ro, .none, 0, .any⟩, ⟨18, 12, .ro, .none, 0, .any⟩, ⟨11, 0, .ro, .none, 0, .any⟩]⟩]

/-- Registers of page kind clr. -/
def rowsClr : List RegRow := [
  -- CLR_PROF
  ⟨0x100, 4, 28, .single, [⟨19, 0, .rw, .live, 0, .range 0 524288⟩]⟩,
  ⟨0x180, 4, 28, .single, [⟨19, 0, .rw, .live, 0, .range 0 524288⟩]⟩,
  ⟨0x200, 4, 28, .single, [⟨19, 0, .rw, .live, 0, .range 0 524288⟩]⟩,
  ⟨0x280, 4, 28, .single, [⟨19, 0, .rw, .live, 0, .range 0 524288⟩]⟩,
  ⟨0x300, 4, 28, .single, [⟨19, 0, .rw, .live, 0, .range 0 524288⟩]⟩,
  ⟨0x380, 4, 28, .single, [⟨19, 0, .rw, .live, 0, .range 0 524288⟩]⟩,
  ⟨0x400, 4, 28, .single, [⟨19, 0, .rw, .live, 0, .range 0 524288⟩]⟩,
  ⟨0x480, 4, 28, .single, [⟨19, 0, .rw, .live, 0, .range 0 524288⟩]⟩,
  -- CLR_PORT_PROF
  ⟨0x600, 4, 32, .single, [⟨2, 0, .rw, .live, 0, .any⟩, ⟨6, 4, .rw, .live, 0, .any⟩, ⟨10, 8, .rw, .live, 0, .any⟩, ⟨14, 12, .rw, .live, 0, .any⟩, ⟨18, 16, .rw, .live, 0, .any⟩, ⟨22, 20, .rw, .live, 0, .any⟩, ⟨26, 24, .rw, .live, 0, .any⟩, ⟨30, 28, .rw, .live, 0, .any⟩]⟩,
  ⟨0x680, 0, 1, .single, [⟨2, 0, .rw, .live, 0, .any⟩, ⟨6, 4, .rw, .live, 0, .any⟩, ⟨10, 8, .rw, .live, 0, .any⟩, ⟨14, 12, .rw, .live, 0, .any⟩]⟩,
  -- CLR_CFG
  ⟨0x40, 0, 1, .single, [⟨31, 31, .rw, .live, 0, .any⟩, ⟨19, 0, .rw, .live, 65536, .range 0 524288⟩]⟩,
  -- CLR_CNT_BASE
  ⟨0x44, 0, 1, .single, [⟨18, 0, .rw, .live, 516096, .any⟩]⟩,
  -- CLR_FREE
  ⟨0x48, 0, 1, .single, [⟨19, 0, .ro, .none, 0, .any⟩]⟩,
  -- CLR_OCC_SEL
  ⟨0x50, 0, 1, .single, [⟨13, 9, .rw, .live, 0, .range 0 17⟩, ⟨8, 0, .rw, .live, 0, .range 0 259⟩]⟩,
  -- CLR_OCC
  ⟨0x54, 0, 1, .single, [⟨19, 0, .ro, .none, 0, .any⟩]⟩,
  -- CLR_CT_RX
  ⟨0x500, 4, 8, .single, [⟨31, 0, .rw, .live, 0, .any⟩]⟩,
  -- CLR_CT_TX
  ⟨0x520, 4, 8, .single, [⟨31, 0, .rw, .live, 0, .any⟩]⟩]

/-- Registers of page kind wp. -/
def rowsWp : List RegRow := [
  -- WP_LIST
  ⟨0x100, 4, 32, .single, [⟨14, 0, .ro, .none, 0, .any⟩]⟩,
  -- WP_AUDIT
  ⟨0x40, 0, 1, .single, [⟨31, 31, .ro, .none, 0, .any⟩, ⟨30, 30, .wo, .live, 0, .any⟩, ⟨19, 0, .ro, .none, 0, .any⟩]⟩]

/-- Registers of page kind mc. -/
def rowsMc : List RegRow := [
  -- MC_CFG
  ⟨0x40, 0, 1, .single, [⟨15, 0, .rw, .live, 100, .range 1 65535⟩]⟩,
  -- MIR_CFG
  ⟨0x100, 16, 16, .single, [⟨31, 31, .rw, .staged, 0, .any⟩, ⟨30, 29, .rw, .staged, 0, .range 0 2⟩, ⟨28, 20, .rw, .staged, 0, .range 0 258⟩, ⟨19, 11, .rw, .staged, 0, .range 0 258⟩, ⟨10, 8, .rw, .staged, 0, .any⟩]⟩,
  -- MIR_SAMP
  ⟨0x104, 16, 16, .single, [⟨31, 16, .rw, .staged, 1, .range 1 65535⟩, ⟨13, 0, .rw, .staged, 0, .zeroOr 64 12288⟩]⟩,
  -- MIR_Q
  ⟨0x108, 16, 16, .single, [⟨11, 0, .rw, .staged, 0, .any⟩]⟩]

/-- Registers of page kind sch. -/
def rowsSch : List RegRow := [
  -- SCH_CMD
  ⟨0x50, 0, 1, .single, [⟨31, 31, .ro, .none, 0, .any⟩, ⟨30, 28, .ro, .none, 0, .any⟩, ⟨25, 24, .wo, .live, 0, .range 0 2⟩, ⟨18, 16, .wo, .live, 0, .any⟩, ⟨14, 0, .wo, .live, 0, .any⟩]⟩,
  -- SCH_D
  ⟨0x60, 4, 4, .single, [⟨31, 0, .rw, .live, 0, .any⟩]⟩,
  -- SCH_CFG
  ⟨0x40, 0, 1, .single, [⟨0, 0, .rw, .live, 0, .any⟩]⟩,
  -- SCH_CNT_BASE
  ⟨0x44, 0, 1, .single, [⟨18, 0, .rw, .live, 483328, .any⟩]⟩]

/-- Registers of page kind rc. -/
def rowsRc : List RegRow := [
  -- RC_LAG
  ⟨0x40, 0, 1, .single, [⟨15, 0, .rc, .none, 0, .any⟩]⟩,
  -- RC_OCC
  ⟨0x44, 0, 1, .single, [⟨31, 16, .ro, .none, 0, .any⟩, ⟨15, 0, .ro, .none, 0, .any⟩]⟩,
  -- TMR_CMD
  ⟨0x50, 0, 1, .single, [⟨31, 31, .ro, .none, 0, .any⟩, ⟨30, 28, .ro, .none, 0, .any⟩, ⟨27, 27, .ro, .none, 0, .any⟩, ⟨25, 24, .wo, .live, 0, .range 0 1⟩, ⟨16, 0, .wo, .live, 0, .any⟩]⟩,
  -- TMR_D
  ⟨0x60, 4, 2, .single, [⟨31, 0, .rw, .live, 0, .any⟩]⟩,
  -- TMR_STS
  ⟨0x48, 0, 1, .single, [⟨12, 0, .ro, .none, 0, .any⟩]⟩]

/-- Registers of page kind pol. -/
def rowsPol : List RegRow := [
  -- POL_ACT
  ⟨0x40, 0, 1, .single, [⟨7, 0, .rw, .staged, 0, .any⟩]⟩,
  -- POL_LOST
  ⟨0x44, 0, 1, .single, [⟨31, 31, .w1c, .none, 0, .any⟩, ⟨30, 30, .ro, .none, 0, .any⟩, ⟨17, 0, .ro, .none, 0, .any⟩]⟩]

/-- Registers of page kind gate. -/
def rowsGate : List RegRow := [
  -- GATE_CMD
  ⟨0x50, 0, 1, .single, [⟨31, 31, .ro, .none, 0, .any⟩, ⟨30, 28, .ro, .none, 0, .any⟩, ⟨25, 24, .wo, .live, 0, .range 0 2⟩, ⟨18, 16, .wo, .live, 0, .any⟩, ⟨15, 0, .wo, .live, 0, .any⟩]⟩,
  -- GATE_D
  ⟨0x60, 4, 8, .single, [⟨31, 0, .rw, .live, 0, .any⟩]⟩,
  -- GATE_EN
  ⟨0x100, 4, 8, .single, [⟨31, 0, .rw, .live, 0, .any⟩]⟩]

/-- Registers of page kind ptp. -/
def rowsPtp : List RegRow := [
  -- TIME_CTL
  ⟨0x40, 0, 1, .single, [⟨1, 0, .wo, .live, 0, .any⟩]⟩,
  -- TIME_D
  ⟨0x44, 4, 4, .single, [⟨31, 0, .rw, .live, 0, .any⟩]⟩,
  -- TIME_FREQ
  ⟨0x54, 0, 1, .single, [⟨31, 0, .rw, .live, 0, .any⟩]⟩,
  -- TIME_STS
  ⟨0x58, 0, 1, .single, [⟨3, 3, .w1c, .none, 0, .any⟩, ⟨2, 2, .ro, .none, 0, .any⟩, ⟨1, 1, .ro, .none, 0, .any⟩, ⟨0, 0, .ro, .none, 0, .any⟩]⟩,
  -- PTP_CFG
  ⟨0x5C, 0, 1, .single, [⟨31, 16, .rw, .live, 20000, .any⟩, ⟨9, 9, .rw, .live, 1, .any⟩, ⟨8, 6, .rw, .live, 0, .any⟩, ⟨5, 3, .rw, .live, 0, .any⟩, ⟨2, 0, .rw, .live, 0, .any⟩]⟩,
  -- PTP_PORT
  ⟨0x200, 4, 256, .single, [⟨31, 16, .rw, .live, 0, .any⟩, ⟨15, 8, .rw, .live, 0, .any⟩, ⟨3, 3, .rw, .live, 0, .any⟩, ⟨2, 2, .rw, .live, 0, .any⟩, ⟨1, 0, .rw, .live, 0, .range 0 2⟩]⟩,
  -- PPS_IN_NS
  ⟨0x60, 0, 1, .single, [⟨31, 0, .ro, .none, 0, .any⟩]⟩,
  -- PPS_IN_SEC
  ⟨0x64, 0, 1, .single, [⟨31, 0, .ro, .none, 0, .any⟩]⟩,
  -- PPS_OUT
  ⟨0x68, 0, 1, .single, [⟨31, 31, .rw, .live, 0, .any⟩, ⟨15, 0, .rw, .live, 0, .range 1 65535⟩]⟩,
  -- PPS_OFS
  ⟨0x6C, 0, 1, .single, [⟨31, 0, .rw, .live, 0, .any⟩]⟩,
  -- SYNCE
  ⟨0x70, 4, 2, .single, [⟨31, 31, .rw, .live, 0, .any⟩, ⟨30, 30, .ro, .none, 0, .any⟩, ⟨23, 16, .rw, .live, 0, .any⟩, ⟨15, 0, .rw, .live, 0, .range 1 65535⟩]⟩,
  -- TXTS
  ⟨0x80, 4, 4, .single, [⟨31, 0, .ro, .none, 0, .any⟩]⟩,
  -- TXTS_CNT
  ⟨0x90, 0, 1, .single, [⟨8, 0, .ro, .none, 0, .any⟩]⟩]

/-- Registers of page kind rw. -/
def rowsRw : List RegRow := [
  -- RW_LINK_STS
  ⟨0x400, 4, 128, .single, [⟨31, 31, .ro, .none, 0, .any⟩, ⟨30, 30, .ro, .none, 0, .any⟩, ⟨29, 29, .ro, .none, 0, .any⟩, ⟨28, 28, .ro, .none, 0, .any⟩, ⟨27, 27, .ro, .none, 0, .any⟩, ⟨23, 20, .ro, .none, 0, .any⟩, ⟨11, 0, .ro, .none, 0, .any⟩]⟩,
  -- RW_CFG
  ⟨0x40, 0, 1, .single, [⟨31, 16, .rw, .live, 34997, .any⟩, ⟨11, 0, .rw, .live, 7, .any⟩]⟩,
  -- RW_REL
  ⟨0x44, 0, 1, .single, [⟨23, 16, .rw, .live, 8, .range 1 255⟩, ⟨7, 0, .rw, .live, 20, .range 1 255⟩]⟩,
  -- RW_HB
  ⟨0x48, 0, 1, .single, [⟨31, 24, .rw, .live, 3, .range 1 255⟩, ⟨23, 16, .rw, .live, 10, .range 1 255⟩, ⟨15, 0, .rw, .live, 10, .range 1 65535⟩]⟩,
  -- RW_ID
  ⟨0x4C, 0, 1, .single, [⟨31, 30, .ro, .none, 0, .any⟩, ⟨29, 29, .ro, .none, 0, .any⟩, ⟨28, 28, .ro, .none, 0, .any⟩, ⟨11, 0, .ro, .none, 0, .any⟩]⟩,
  -- RW_UP
  ⟨0x50, 0, 1, .single, [⟨31, 31, .ro, .none, 0, .any⟩, ⟨20, 12, .ro, .none, 0, .any⟩, ⟨11, 0, .ro, .none, 0, .any⟩]⟩,
  -- RW_GEN
  ⟨0x54, 0, 1, .single, [⟨31, 0, .ro, .none, 0, .any⟩]⟩,
  -- TR_CFG
  ⟨0x58, 0, 1, .single, [⟨15, 0, .rw, .live, 34998, .any⟩]⟩,
  -- TR_SWITCH
  ⟨0x5C, 0, 1, .single, [⟨31, 31, .ro, .none, 0, .any⟩, ⟨30, 30, .wo, .live, 0, .any⟩, ⟨29, 16, .wo, .live, 0, .range 1518 12288⟩, ⟨8, 0, .wo, .live, 0, .range 128 255⟩]⟩,
  -- RW_LINK_EN
  ⟨0x60, 4, 4, .single, [⟨31, 0, .rw, .live, 4294967295, .any⟩]⟩,
  -- RW_VLINK
  ⟨0x70, 0, 1, .single, [⟨0, 0, .rw, .live, 0, .any⟩]⟩,
  -- RW_TXR_CFG
  ⟨0x80, 0, 1, .single, [⟨31, 11, .rw, .live, 0, .any⟩, ⟨3, 0, .rw, .live, 3, .range 3 8⟩]⟩,
  -- RW_RXR_CFG
  ⟨0x90, 0, 1, .single, [⟨31, 11, .rw, .live, 0, .any⟩, ⟨3, 0, .rw, .live, 3, .range 3 8⟩]⟩,
  -- RW_TXR_TAIL
  ⟨0x84, 0, 1, .single, [⟨15, 0, .rw, .live, 0, .any⟩]⟩,
  -- RW_TXR_HEAD
  ⟨0x88, 0, 1, .single, [⟨15, 0, .ro, .none, 0, .any⟩]⟩,
  -- RW_RXR_TAIL
  ⟨0x94, 0, 1, .single, [⟨15, 0, .ro, .none, 0, .any⟩]⟩,
  -- RW_RXR_HEAD
  ⟨0x98, 0, 1, .single, [⟨15, 0, .rw, .live, 0, .any⟩]⟩]

/-- Registers of page kind lmac. -/
def rowsLmac : List RegRow := [
  -- MAC_CFG
  ⟨0x40, 0, 1, .single, [⟨18, 17, .rw, .quiet, 0, .range 0 2⟩, ⟨14, 14, .rw, .live, 0, .any⟩, ⟨13, 13, .rw, .live, 0, .any⟩, ⟨12, 12, .rw, .live, 0, .any⟩, ⟨11, 11, .rw, .live, 0, .any⟩, ⟨7, 5, .rw, .quiet, 0, .range 0 4⟩, ⟨4, 0, .rw, .quiet, 0, .any⟩]⟩,
  -- MAC_STS
  ⟨0x44, 0, 1, .single, [⟨23, 23, .ro, .none, 0, .any⟩, ⟨22, 22, .ro, .none, 0, .any⟩, ⟨21, 21, .ro, .none, 0, .any⟩, ⟨20, 20, .ro, .none, 0, .any⟩, ⟨19, 17, .ro, .none, 0, .any⟩, ⟨16, 14, .ro, .none, 0, .any⟩, ⟨13, 11, .ro, .none, 0, .any⟩, ⟨10, 6, .ro, .none, 0, .any⟩, ⟨5, 3, .ro, .none, 0, .any⟩, ⟨0, 0, .ro, .none, 0, .any⟩]⟩,
  -- MAC_MAXLEN
  ⟨0x48, 0, 1, .single, [⟨13, 0, .rw, .live, 9216, .range 1518 12288⟩]⟩,
  -- FC_CFG
  ⟨0x4C, 0, 1, .single, [⟨18, 16, .rw, .live, 7, .any⟩, ⟨15, 0, .rw, .live, 65535, .range 1 65535⟩]⟩,
  -- PFC_MAP
  ⟨0x50, 0, 1, .single, [⟨2, 0, .rw, .live, 0, .any⟩, ⟨6, 4, .rw, .live, 1, .any⟩, ⟨10, 8, .rw, .live, 2, .any⟩, ⟨14, 12, .rw, .live, 3, .any⟩, ⟨18, 16, .rw, .live, 4, .any⟩, ⟨22, 20, .rw, .live, 5, .any⟩, ⟨26, 24, .rw, .live, 6, .any⟩, ⟨30, 28, .rw, .live, 7, .any⟩]⟩,
  -- PAUSE_WD
  ⟨0x54, 0, 1, .single, [⟨31, 16, .rw, .live, 1000, .range 1 65535⟩, ⟨15, 0, .rw, .live, 100, .any⟩]⟩,
  -- FC_STS
  ⟨0x58, 0, 1, .single, [⟨17, 17, .ro, .none, 0, .any⟩, ⟨16, 16, .ro, .none, 0, .any⟩, ⟨15, 8, .ro, .none, 0, .any⟩, ⟨7, 0, .ro, .none, 0, .any⟩]⟩,
  -- PV_STS
  ⟨0x70, 0, 1, .single, [⟨8, 1, .w1c, .none, 0, .any⟩]⟩,
  -- PV_LAST
  ⟨0x74, 0, 1, .single, [⟨31, 8, .ro, .none, 0, .any⟩, ⟨3, 0, .ro, .none, 0, .any⟩]⟩]

/-- Registers of page kind bmac. -/
def rowsBmac : List RegRow := [
  -- MAC_CFG
  ⟨0x40, 0, 1, .single, [⟨18, 17, .rw, .quiet, 0, .range 0 2⟩, ⟨16, 16, .rw, .quiet, 0, .any⟩, ⟨15, 15, .rw, .quiet, 0, .any⟩, ⟨14, 14, .rw, .live, 0, .any⟩, ⟨13, 13, .rw, .live, 0, .any⟩, ⟨12, 12, .rw, .live, 0, .any⟩, ⟨11, 11, .rw, .live, 0, .any⟩, ⟨10, 10, .rw, .quiet, 0, .any⟩, ⟨7, 5, .rw, .quiet, 0, .range 0 4⟩, ⟨4, 0, .rw, .quiet, 0, .any⟩]⟩,
  -- MAC_STS
  ⟨0x44, 0, 1, .single, [⟨23, 23, .ro, .none, 0, .any⟩, ⟨22, 22, .ro, .none, 0, .any⟩, ⟨21, 21, .ro, .none, 0, .any⟩, ⟨20, 20, .ro, .none, 0, .any⟩, ⟨19, 17, .ro, .none, 0, .any⟩, ⟨16, 14, .ro, .none, 0, .any⟩, ⟨13, 11, .ro, .none, 0, .any⟩, ⟨10, 6, .ro, .none, 0, .any⟩, ⟨5, 3, .ro, .none, 0, .any⟩, ⟨0, 0, .ro, .none, 0, .any⟩]⟩,
  -- MAC_MAXLEN
  ⟨0x48, 0, 1, .single, [⟨13, 0, .rw, .live, 9216, .range 1518 12288⟩]⟩,
  -- ANMASK
  ⟨0x5C, 0, 1, .single, [⟨12, 12, .rw, .quiet, 0, .any⟩, ⟨11, 11, .rw, .quiet, 1, .any⟩, ⟨10, 10, .rw, .quiet, 1, .any⟩, ⟨9, 0, .rw, .quiet, 75, .any⟩]⟩,
  -- FC_CFG
  ⟨0x4C, 0, 1, .single, [⟨18, 16, .rw, .live, 7, .any⟩, ⟨15, 0, .rw, .live, 65535, .range 1 65535⟩]⟩,
  -- PFC_MAP
  ⟨0x50, 0, 1, .single, [⟨2, 0, .rw, .live, 0, .any⟩, ⟨6, 4, .rw, .live, 1, .any⟩, ⟨10, 8, .rw, .live, 2, .any⟩, ⟨14, 12, .rw, .live, 3, .any⟩, ⟨18, 16, .rw, .live, 4, .any⟩, ⟨22, 20, .rw, .live, 5, .any⟩, ⟨26, 24, .rw, .live, 6, .any⟩, ⟨30, 28, .rw, .live, 7, .any⟩]⟩,
  -- PAUSE_WD
  ⟨0x54, 0, 1, .single, [⟨31, 16, .rw, .live, 1000, .range 1 65535⟩, ⟨15, 0, .rw, .live, 100, .any⟩]⟩,
  -- FC_STS
  ⟨0x58, 0, 1, .single, [⟨17, 17, .ro, .none, 0, .any⟩, ⟨16, 16, .ro, .none, 0, .any⟩, ⟨15, 8, .ro, .none, 0, .any⟩, ⟨7, 0, .ro, .none, 0, .any⟩]⟩,
  -- PV_STS
  ⟨0x70, 0, 1, .single, [⟨8, 1, .w1c, .none, 0, .any⟩]⟩,
  -- PV_LAST
  ⟨0x74, 0, 1, .single, [⟨31, 8, .ro, .none, 0, .any⟩, ⟨3, 0, .ro, .none, 0, .any⟩]⟩,
  -- EEE_CFG
  ⟨0x60, 0, 1, .single, [⟨15, 0, .rw, .live, 10, .range 1 65535⟩]⟩,
  -- COP_CFG
  ⟨0x64, 0, 1, .single, [⟨27, 16, .rw, .live, 10, .range 1 4095⟩, ⟨15, 8, .rw, .live, 80, .range 1 100⟩, ⟨7, 0, .rw, .live, 20, .range 1 100⟩]⟩,
  -- COP_WAKE
  ⟨0x68, 0, 1, .single, [⟨15, 0, .rw, .live, 256, .range 1 65535⟩]⟩]

/-- Registers of page kind sdql. -/
def rowsSdql : List RegRow := [
  -- SDQ_LANE
  ⟨0x80, 4, 8, .single, [⟨2, 2, .ro, .none, 0, .any⟩, ⟨1, 1, .rw, .quiet, 0, .any⟩, ⟨0, 0, .rw, .quiet, 0, .any⟩]⟩,
  -- SDQ_PLL
  ⟨0x40, 0, 1, .single, [⟨5, 5, .ro, .none, 0, .any⟩, ⟨4, 4, .ro, .none, 0, .any⟩, ⟨3, 2, .ro, .none, 0, .any⟩, ⟨1, 0, .ro, .none, 0, .any⟩]⟩,
  -- SDQ_TXEQ
  ⟨0xC0, 4, 8, .single, [⟨21, 16, .rw, .quiet, 0, .any⟩, ⟨13, 8, .rw, .quiet, 0, .any⟩, ⟨5, 0, .rw, .quiet, 0, .any⟩]⟩]

/-- Registers of page kind sdqb. -/
def rowsSdqb : List RegRow := [
  -- SDQ_LANE
  ⟨0x80, 4, 8, .single, [⟨2, 2, .ro, .none, 0, .any⟩, ⟨1, 1, .rw, .quiet, 0, .any⟩, ⟨0, 0, .rw, .quiet, 0, .any⟩]⟩,
  -- SDQ_PLL
  ⟨0x40, 0, 1, .single, [⟨5, 5, .ro, .none, 0, .any⟩, ⟨4, 4, .ro, .none, 0, .any⟩, ⟨3, 2, .ro, .none, 0, .any⟩, ⟨1, 0, .ro, .none, 0, .any⟩]⟩,
  -- SDQ_TXEQ
  ⟨0xC0, 4, 8, .single, [⟨21, 16, .ro, .quiet, 0, .any⟩, ⟨13, 8, .ro, .quiet, 0, .any⟩, ⟨5, 0, .ro, .quiet, 0, .any⟩]⟩]

/-- Registers of page kind sdl. -/
def rowsSdl : List RegRow := [
  -- SDQ_LSTS
  ⟨0x40, 4, 8, .single, [⟨15, 8, .ro, .none, 0, .any⟩, ⟨3, 3, .ro, .none, 0, .any⟩, ⟨2, 2, .ro, .none, 0, .any⟩, ⟨1, 1, .ro, .none, 0, .any⟩, ⟨0, 0, .ro, .none, 0, .any⟩]⟩]

/-- Registers of page kind pcie. -/
def rowsPcie : List RegRow := [
  -- HEV_MAP
  ⟨0x220, 4, 120, .single, [⟨7, 7, .rw, .live, 0, .any⟩, ⟨5, 0, .rw, .live, 0, .any⟩, ⟨15, 15, .rw, .live, 0, .any⟩, ⟨13, 8, .rw, .live, 0, .any⟩, ⟨23, 23, .rw, .live, 0, .any⟩, ⟨21, 16, .rw, .live, 0, .any⟩, ⟨31, 31, .rw, .live, 0, .any⟩, ⟨29, 24, .rw, .live, 0, .any⟩]⟩,
  -- HEV_SENT
  ⟨0x400, 0, 1, .low, [⟨31, 0, .ro, .none, 0, .any⟩]⟩,
  -- HEV_SENT
  ⟨0x404, 0, 1, .high, [⟨31, 0, .ro, .none, 0, .any⟩]⟩,
  -- HEV_ACK
  ⟨0x408, 0, 1, .single, [⟨5, 0, .wo, .live, 0, .any⟩]⟩]

/-- Registers of page kind pt. -/
def rowsPt : List RegRow := [
  -- PT_AGE
  ⟨0x80, 0, 1, .single, [⟨23, 16, .ro, .none, 0, .any⟩, ⟨15, 0, .ro, .none, 0, .any⟩]⟩,
  -- PT_TEMP
  ⟨0x40, 0, 1, .single, [⟨19, 16, .ro, .none, 0, .any⟩, ⟨15, 0, .ro, .none, 0, .any⟩]⟩,
  -- PT_AVS
  ⟨0x44, 0, 1, .single, [⟨27, 16, .ro, .none, 0, .any⟩, ⟨11, 0, .ro, .none, 0, .any⟩]⟩]

/-- Registers of page kind clk. -/
def rowsClk : List RegRow := [
  -- CLK_STS
  ⟨0x40, 0, 1, .single, [⟨4, 4, .ro, .none, 0, .any⟩, ⟨3, 3, .ro, .none, 0, .any⟩, ⟨2, 2, .ro, .none, 0, .any⟩, ⟨1, 1, .ro, .none, 0, .any⟩, ⟨0, 0, .ro, .none, 0, .any⟩]⟩]

/-- Registers of page kind txr. -/
def rowsTxr : List RegRow := [
  -- TXR_BASE
  ⟨0x0, 256, 16, .low, [⟨31, 4, .rw, .live, 0, .any⟩]⟩,
  -- TXR_BASE
  ⟨0x4, 256, 16, .high, [⟨31, 0, .rw, .live, 0, .any⟩]⟩,
  -- TXR_CFG
  ⟨0x8, 256, 16, .single, [⟨31, 31, .rw, .live, 0, .any⟩, ⟨30, 30, .w1c, .none, 0, .any⟩, ⟨29, 24, .rw, .live, 0, .any⟩, ⟨23, 16, .rw, .live, 0, .any⟩, ⟨3, 0, .rw, .live, 8, .range 4 12⟩]⟩,
  -- TXR_TAIL
  ⟨0xC, 256, 16, .single, [⟨12, 0, .rw, .live, 0, .any⟩]⟩,
  -- TXR_HEAD
  ⟨0x10, 256, 16, .single, [⟨12, 0, .ro, .none, 0, .any⟩]⟩,
  -- TXR_WB
  ⟨0x18, 256, 16, .low, [⟨31, 2, .rw, .live, 0, .any⟩]⟩,
  -- TXR_WB
  ⟨0x1C, 256, 16, .high, [⟨31, 0, .rw, .live, 0, .any⟩]⟩]

/-- Registers of page kind rxr. -/
def rowsRxr : List RegRow := [
  -- RXR_BASE
  ⟨0x0, 256, 16, .low, [⟨31, 4, .rw, .live, 0, .any⟩]⟩,
  -- RXR_BASE
  ⟨0x4, 256, 16, .high, [⟨31, 0, .rw, .live, 0, .any⟩]⟩,
  -- RXR_CFG
  ⟨0x8, 256, 16, .single, [⟨31, 31, .rw, .live, 0, .any⟩, ⟨30, 30, .w1c, .none, 0, .any⟩, ⟨29, 24, .rw, .live, 0, .any⟩, ⟨23, 16, .rw, .live, 0, .any⟩, ⟨13, 8, .rw, .live, 8, .range 1 48⟩, ⟨3, 0, .rw, .live, 8, .range 4 12⟩]⟩,
  -- RXR_TAIL
  ⟨0xC, 256, 16, .single, [⟨12, 0, .rw, .live, 0, .any⟩]⟩,
  -- RXR_HEAD
  ⟨0x10, 256, 16, .single, [⟨12, 0, .ro, .none, 0, .any⟩]⟩]

/-- Registers of page kind msix. -/
def rowsMsix : List RegRow := [
  -- MSIX_TABLE
  ⟨0x0, 4, 256, .single, [⟨31, 0, .rw, .live, 0, .any⟩]⟩]

/-- Registers of page kind pba. -/
def rowsPba : List RegRow := [
  -- MSIX_PBA
  ⟨0x0, 4, 2, .single, [⟨31, 0, .ro, .none, 0, .any⟩]⟩]

/-- The block registers of a page kind, its header apart. -/
def rowsOf : PageKind → List RegRow
  | .dev => rowsDev
  | .lko => rowsLko
  | .ic => rowsIc
  | .hmb => rowsHmb
  | .sap0 => rowsSap0
  | .sap => rowsSap
  | .pgu => rowsPgu
  | .grv => rowsGrv
  | .emt => rowsEmt
  | .tae => rowsTae
  | .thk0 => rowsThk0
  | .thk => rowsThk
  | .clr => rowsClr
  | .wp => rowsWp
  | .mc => rowsMc
  | .sch => rowsSch
  | .rc => rowsRc
  | .pol => rowsPol
  | .gate => rowsGate
  | .ptp => rowsPtp
  | .rw => rowsRw
  | .lmac => rowsLmac
  | .bmac => rowsBmac
  | .sdql => rowsSdql
  | .sdqb => rowsSdqb
  | .sdl => rowsSdl
  | .pcie => rowsPcie
  | .pt => rowsPt
  | .clk => rowsClk
  | .txr => rowsTxr
  | .rxr => rowsRxr
  | .msix => rowsMsix
  | .pba => rowsPba

/-- Offset of counter RX_FRAMES (R75). -/
abbrev cMac_RX_FRAMES : Nat := 0x100
/-- Offset of counter RX_BYTES (R75). -/
abbrev cMac_RX_BYTES : Nat := 0x108
/-- Offset of counter RX_FCS_ERR (R75). -/
abbrev cMac_RX_FCS_ERR : Nat := 0x110
/-- Offset of counter RX_RUNT (R75). -/
abbrev cMac_RX_RUNT : Nat := 0x118
/-- Offset of counter RX_OVERSIZE (R75). -/
abbrev cMac_RX_OVERSIZE : Nat := 0x120
/-- Offset of counter RX_PAUSE (R75). -/
abbrev cMac_RX_PAUSE : Nat := 0x128
/-- Offset of counter RX_PFC (R75). -/
abbrev cMac_RX_PFC : Nat := 0x130
/-- Offset of counter RX_MACCTL_DROP (R75). -/
abbrev cMac_RX_MACCTL_DROP : Nat := 0x138
/-- Offset of counter TX_FRAMES (R75). -/
abbrev cMac_TX_FRAMES : Nat := 0x140
/-- Offset of counter TX_BYTES (R75). -/
abbrev cMac_TX_BYTES : Nat := 0x148
/-- Offset of counter TX_PAUSE (R75). -/
abbrev cMac_TX_PAUSE : Nat := 0x150
/-- Offset of counter TX_PFC (R75). -/
abbrev cMac_TX_PFC : Nat := 0x158
/-- Offset of counter TX_STOMPED (R75). -/
abbrev cMac_TX_STOMPED : Nat := 0x160
/-- Offset of counter RX_INT_ERR (R75). -/
abbrev cMac_RX_INT_ERR : Nat := 0x168
/-- Offset of counter TX_OVERSIZE (R75). -/
abbrev cMac_TX_OVERSIZE : Nat := 0x170
/-- Offset of counter FEC_CORR_CW (R75). -/
abbrev cMac_FEC_CORR_CW : Nat := 0x178
/-- Offset of counter FEC_UNCORR_CW (R75). -/
abbrev cMac_FEC_UNCORR_CW : Nat := 0x180
/-- Offset of counter DISPATCH_OVERRUN (R75). -/
abbrev cMac_DISPATCH_OVERRUN : Nat := 0x188
/-- Offset of counter WOODPILE_EMPTY (R75). -/
abbrev cMac_WOODPILE_EMPTY : Nat := 0x190
/-- Offset of counter MC_RESIDUE_EXPIRED (R75). -/
abbrev cMac_MC_RESIDUE_EXPIRED : Nat := 0x198
/-- Offset of counter LPI_TX_US (R75). -/
abbrev cMac_LPI_TX_US : Nat := 0x1A0
/-- Offset of counter COPPICE_SHED_US (R75). -/
abbrev cMac_COPPICE_SHED_US : Nat := 0x1A8
/-- Offset of counter DEEP (R120). -/
abbrev cPgu_DEEP : Nat := 0x100
/-- Offset of counter MALFORMED (R120). -/
abbrev cPgu_MALFORMED : Nat := 0x108
/-- Offset of counter TRUNCATED (R120). -/
abbrev cPgu_TRUNCATED : Nat := 0x110
/-- Offset of counter OVERLONG (R120). -/
abbrev cPgu_OVERLONG : Nat := 0x118
/-- Offset of counter ORPHAN (R120). -/
abbrev cPgu_ORPHAN : Nat := 0x120
/-- Offset of counter GRAPH_ERROR (R120). -/
abbrev cPgu_GRAPH_ERROR : Nat := 0x128
/-- Offset of counter TRAIL_ERR (R120). -/
abbrev cPgu_TRAIL_ERR : Nat := 0x130
/-- Offset of counter EPOCH_STALE (R120). -/
abbrev cPgu_EPOCH_STALE : Nat := 0x138
/-- Offset of counter FRAG_FIRST (R120). -/
abbrev cPgu_FRAG_FIRST : Nat := 0x140
/-- Offset of counter FRAG_LATER (R120). -/
abbrev cPgu_FRAG_LATER : Nat := 0x148
/-- Offset of counter FRAG_MEM_FULL (R120). -/
abbrev cPgu_FRAG_MEM_FULL : Nat := 0x150
/-- Offset of counter FRAG_AGED (R120). -/
abbrev cPgu_FRAG_AGED : Nat := 0x158
/-- Offset of counter LQ_ENQ (R146). -/
abbrev cEmt_LQ_ENQ : Nat := 0x80
/-- Offset of counter LQ_FILTERED (R146). -/
abbrev cEmt_LQ_FILTERED : Nat := 0x88
/-- Offset of counter LQ_DROP_FULL (R146). -/
abbrev cEmt_LQ_DROP_FULL : Nat := 0x90
/-- Offset of counter LQ_LOST (R146). -/
abbrev cEmt_LQ_LOST : Nat := 0x98
/-- Offset of counter AGED_NOTIFY (R146). -/
abbrev cEmt_AGED_NOTIFY : Nat := 0xA0
/-- Offset of counter AGED_REMOVED (R146). -/
abbrev cEmt_AGED_REMOVED : Nat := 0xA8
/-- Offset of counter EVICTIONS (R146). -/
abbrev cEmt_EVICTIONS : Nat := 0xB0
/-- Offset of counter INSERT_FULL (R146). -/
abbrev cEmt_INSERT_FULL : Nat := 0xB8
/-- Offset of counter LOST_ENTRIES (R146). -/
abbrev cEmt_LOST_ENTRIES : Nat := 0xC0
/-- Offset of counter LOOKUP_UC (R146). -/
abbrev cEmt_LOOKUP_UC : Nat := 0xC8
/-- Offset of counter OVF_RETURNS (R146). -/
abbrev cEmt_OVF_RETURNS : Nat := 0xD0
/-- Offset of counter SEARCHES (R169). -/
abbrev cThk_SEARCHES : Nat := 0x300
/-- Offset of counter HITS (R169). -/
abbrev cThk_HITS : Nat := 0x308
/-- Offset of counter MOVES (R169). -/
abbrev cThk_MOVES : Nat := 0x310
/-- Offset of counter INSERT_FULL (R169). -/
abbrev cThk_INSERT_FULL : Nat := 0x318
/-- Offset of counter SEARCH_UC (R169). -/
abbrev cThk_SEARCH_UC : Nat := 0x320
/-- Offset of counter REPAIRS (R169). -/
abbrev cThk_REPAIRS : Nat := 0x328
/-- Offset of counter LOST_ENTRIES (R169). -/
abbrev cThk_LOST_ENTRIES : Nat := 0x330
/-- Offset of counter PASSES (R206). -/
abbrev cGrv_PASSES : Nat := 0x100
/-- Offset of counter ISSUES (R206). -/
abbrev cGrv_ISSUES : Nat := 0x108
/-- Offset of counter ABANDONS (R206). -/
abbrev cGrv_ABANDONS : Nat := 0x110
/-- Offset of counter WATCHDOG (R206). -/
abbrev cGrv_WATCHDOG : Nat := 0x118
/-- Offset of counter NO_ROUTINE (R206). -/
abbrev cGrv_NO_ROUTINE : Nat := 0x120
/-- Offset of counter HEAD_LOST (R206). -/
abbrev cGrv_HEAD_LOST : Nat := 0x128
/-- Offset of counter CS_REPAIRS (R206). -/
abbrev cGrv_CS_REPAIRS : Nat := 0x130
/-- Offset of counter ABANDON_ENGINE_UC (R230). -/
abbrev cAct_ABANDON_ENGINE_UC : Nat := 0x280
/-- Offset of counter ABANDON_CS_UC (R230). -/
abbrev cAct_ABANDON_CS_UC : Nat := 0x288
/-- Offset of counter ABANDON_LOOKUP_UC (R230). -/
abbrev cAct_ABANDON_LOOKUP_UC : Nat := 0x290
/-- Offset of counter ABANDON_WATCHDOG (R230). -/
abbrev cAct_ABANDON_WATCHDOG : Nat := 0x298
/-- Offset of counter ABANDON_MICROCODE (R230). -/
abbrev cAct_ABANDON_MICROCODE : Nat := 0x2A0
/-- Offset of counter ABANDON_DRAIN (R230). -/
abbrev cAct_ABANDON_DRAIN : Nat := 0x2A8
/-- Offset of counter ABANDON_FENCE (R230). -/
abbrev cAct_ABANDON_FENCE : Nat := 0x2B0
/-- Offset of counter ABANDON_LOCK (R230). -/
abbrev cAct_ABANDON_LOCK : Nat := 0x2B8
/-- Offset of counter EDIT_FAULT (R230). -/
abbrev cAct_EDIT_FAULT : Nat := 0x2C0
/-- Offset of counter RESTARTS (R230). -/
abbrev cAct_RESTARTS : Nat := 0x2C8
/-- Offset of counter EXCEPTIONS (R230). -/
abbrev cAct_EXCEPTIONS : Nat := 0x2D0
/-- Offset of counter EXC_DROPPED (R230). -/
abbrev cAct_EXC_DROPPED : Nat := 0x2D8
/-- Offset of counter NO_ACTION (R230). -/
abbrev cAct_NO_ACTION : Nat := 0x2E0
/-- Offset of counter COMMIT_LOST (R230). -/
abbrev cAct_COMMIT_LOST : Nat := 0x2E8
/-- Offset of counter UPDATE_LOST (R230). -/
abbrev cAct_UPDATE_LOST : Nat := 0x2F0
/-- Offset of counter NOTICE_LOST (R230). -/
abbrev cAct_NOTICE_LOST : Nat := 0x2F8
/-- Offset of counter NOBUF (R275). -/
abbrev cClr_NOBUF : Nat := 0x700
/-- Offset of counter WOODPILE_EMPTY (R275). -/
abbrev cClr_WOODPILE_EMPTY : Nat := 0x708
/-- Offset of counter RX_LIMIT_DROP (R275). -/
abbrev cClr_RX_LIMIT_DROP : Nat := 0x710
/-- Offset of counter ADMIT_DROP (R275). -/
abbrev cClr_ADMIT_DROP : Nat := 0x718
/-- Offset of counter DESC_EMPTY (R275). -/
abbrev cClr_DESC_EMPTY : Nat := 0x720
/-- Offset of counter CT_COPIES (R275). -/
abbrev cClr_CT_COPIES : Nat := 0x728
/-- Offset of counter CT_UNDERRUN (R275). -/
abbrev cClr_CT_UNDERRUN : Nat := 0x730
/-- Offset of counter LEAKED_CELLS (R275). -/
abbrev cClr_LEAKED_CELLS : Nat := 0x738
/-- Offset of counter MIR_COPIES_s (R276). -/
abbrev cMc_MIR_COPIES (i : Nat) : Nat := 0x300 + 16 * i
/-- Offset of counter MIR_DROPS_s (R276). -/
abbrev cMc_MIR_DROPS (i : Nat) : Nat := 0x308 + 16 * i
/-- Offset of counter MC_PACKETS (R276). -/
abbrev cMc_MC_PACKETS : Nat := 0x400
/-- Offset of counter MC_COPIES (R276). -/
abbrev cMc_MC_COPIES : Nat := 0x408
/-- Offset of counter MC_HELD (R276). -/
abbrev cMc_MC_HELD : Nat := 0x410
/-- Offset of counter MC_FROM_HELD (R276). -/
abbrev cMc_MC_FROM_HELD : Nat := 0x418
/-- Offset of counter MC_EXPIRED (R276). -/
abbrev cMc_MC_EXPIRED : Nat := 0x420
/-- Offset of counter MC_RESIDUE_FULL (R276). -/
abbrev cMc_MC_RESIDUE_FULL : Nat := 0x428
/-- Offset of counter MC_INVALID (R276). -/
abbrev cMc_MC_INVALID : Nat := 0x430
/-- Offset of counter RW_TX (R360). -/
abbrev cRw_RW_TX : Nat := 0x100
/-- Offset of counter RW_RX (R360). -/
abbrev cRw_RW_RX : Nat := 0x108
/-- Offset of counter RW_RTX (R360). -/
abbrev cRw_RW_RTX : Nat := 0x110
/-- Offset of counter RW_LOST (R360). -/
abbrev cRw_RW_LOST : Nat := 0x118
/-- Offset of counter RW_BAD (R360). -/
abbrev cRw_RW_BAD : Nat := 0x120
/-- Offset of counter RW_NOROUTE (R360). -/
abbrev cRw_RW_NOROUTE : Nat := 0x128
/-- Offset of counter RW_EVT_DROP (R360). -/
abbrev cRw_RW_EVT_DROP : Nat := 0x130
/-- Offset of counter RW_TIMEOUT (R360). -/
abbrev cRw_RW_TIMEOUT : Nat := 0x138
/-- Offset of counter TRAIL_HOP_DROP (R360). -/
abbrev cRw_TRAIL_HOP_DROP : Nat := 0x140
/-- Offset of counter LKO_ECHO_CNT_a (R423). -/
abbrev cLko_LKO_ECHO_CNT (i : Nat) : Nat := 0x200 + 8 * i
/-- Offset of counter REPAIRS (R423). -/
abbrev cLko_REPAIRS : Nat := 0x400
/-- Offset of counter REPAIR_EXHAUSTED (R423). -/
abbrev cLko_REPAIR_EXHAUSTED : Nat := 0x408
/-- Offset of counter RESETS_SUPPRESSED (R423). -/
abbrev cLko_RESETS_SUPPRESSED : Nat := 0x410
/-- Offset of counter LOOKOUT_FENCES (R423). -/
abbrev cLko_LOOKOUT_FENCES : Nat := 0x418
/-- Offset of counter TRACK_FULL (R423). -/
abbrev cLko_TRACK_FULL : Nat := 0x420
/-- Offset of counter OTP_REPAIR_FULL (R423). -/
abbrev cLko_OTP_REPAIR_FULL : Nat := 0x428
/-- Offset of counter QUEUE_FLUSHED (R292). -/
abbrev cSch_QUEUE_FLUSHED : Nat := 0x100
/-- Offset of counter STATE_UC_FLUSHED (R292). -/
abbrev cSch_STATE_UC_FLUSHED : Nat := 0x108
/-- Offset of counter SELECTIONS (R292). -/
abbrev cSch_SELECTIONS : Nat := 0x110
/-- Offset of counter RED_DROPPED (R296). -/
abbrev cPol_RED_DROPPED : Nat := 0x100
/-- Offset of counter POLICERS_LOST (R296). -/
abbrev cPol_POLICERS_LOST : Nat := 0x108
/-- Offset of counter CLOSE_DEFERRED (R303). -/
abbrev cGate_CLOSE_DEFERRED : Nat := 0x200
/-- Offset of counter CONFIG_CHANGES (R303). -/
abbrev cGate_CONFIG_CHANGES : Nat := 0x208
/-- Offset of counter ENTRY_UC (R303). -/
abbrev cGate_ENTRY_UC : Nat := 0x210
/-- Offset of counter PTP_CORRECTED (R315). -/
abbrev cPtp_PTP_CORRECTED : Nat := 0x600
/-- Offset of counter PTP_ONESTEP (R315). -/
abbrev cPtp_PTP_ONESTEP : Nat := 0x608
/-- Offset of counter TXTS_CAPTURED (R315). -/
abbrev cPtp_TXTS_CAPTURED : Nat := 0x610
/-- Offset of counter TXTS_OVERFLOW (R315). -/
abbrev cPtp_TXTS_OVERFLOW : Nat := 0x618
/-- Offset of counter PTP_TRAIL_BAD (R315). -/
abbrev cPtp_PTP_TRAIL_BAD : Nat := 0x620
/-- Offset of counter PTP_NOCORR (R315). -/
abbrev cPtp_PTP_NOCORR : Nat := 0x628
/-- Offset of counter TMR_INJECTED (R322). -/
abbrev cTmr_TMR_INJECTED : Nat := 0x100
/-- Offset of counter TMR_SKIPPED (R322). -/
abbrev cTmr_TMR_SKIPPED : Nat := 0x108
/-- Offset of counter TMR_LOST (R322). -/
abbrev cTmr_TMR_LOST : Nat := 0x110
/-- Offset of counter HOST_TX_FRAMES (R382). -/
abbrev cHst_HOST_TX_FRAMES : Nat := 0x100
/-- Offset of counter HOST_TX_BAD (R382). -/
abbrev cHst_HOST_TX_BAD : Nat := 0x108
/-- Offset of counter HOST_RX_FRAMES (R382). -/
abbrev cHst_HOST_RX_FRAMES : Nat := 0x110
/-- Offset of counter HOST_RX_ERR (R382). -/
abbrev cHst_HOST_RX_ERR : Nat := 0x118
/-- Offset of counter EXC_QUEUE_FULL (R382). -/
abbrev cHst_EXC_QUEUE_FULL : Nat := 0x120
/-- Offset of counter SPURIOUS_n (R396). -/
abbrev cIc_SPURIOUS (i : Nat) : Nat := 0x200 + 8 * i
/-- Offset of counter BAD_EOI (R396). -/
abbrev cIc_BAD_EOI : Nat := 0x220

/-- The counters of a page kind as (offset, stride, number); each is 64 bits (R47). -/
def countersOf : PageKind → List (Nat × Nat × Nat)
  | .dev => [(0x280, 0, 1), (0x288, 0, 1), (0x290, 0, 1), (0x298, 0, 1), (0x2A0, 0, 1), (0x2A8, 0, 1), (0x2B0, 0, 1), (0x2B8, 0, 1), (0x2C0, 0, 1), (0x2C8, 0, 1), (0x2D0, 0, 1), (0x2D8, 0, 1), (0x2E0, 0, 1), (0x2E8, 0, 1), (0x2F0, 0, 1), (0x2F8, 0, 1)]
  | .lko => [(0x200, 8, 64), (0x400, 0, 1), (0x408, 0, 1), (0x410, 0, 1), (0x418, 0, 1), (0x420, 0, 1), (0x428, 0, 1)]
  | .ic => [(0x200, 8, 4), (0x220, 0, 1)]
  | .pgu => [(0x100, 0, 1), (0x108, 0, 1), (0x110, 0, 1), (0x118, 0, 1), (0x120, 0, 1), (0x128, 0, 1), (0x130, 0, 1), (0x138, 0, 1), (0x140, 0, 1), (0x148, 0, 1), (0x150, 0, 1), (0x158, 0, 1)]
  | .grv => [(0x100, 0, 1), (0x108, 0, 1), (0x110, 0, 1), (0x118, 0, 1), (0x120, 0, 1), (0x128, 0, 1), (0x130, 0, 1)]
  | .emt => [(0x80, 0, 1), (0x88, 0, 1), (0x90, 0, 1), (0x98, 0, 1), (0xA0, 0, 1), (0xA8, 0, 1), (0xB0, 0, 1), (0xB8, 0, 1), (0xC0, 0, 1), (0xC8, 0, 1), (0xD0, 0, 1)]
  | .thk0 => [(0x300, 0, 1), (0x308, 0, 1), (0x310, 0, 1), (0x318, 0, 1), (0x320, 0, 1), (0x328, 0, 1), (0x330, 0, 1)]
  | .clr => [(0x700, 0, 1), (0x708, 0, 1), (0x710, 0, 1), (0x718, 0, 1), (0x720, 0, 1), (0x728, 0, 1), (0x730, 0, 1), (0x738, 0, 1)]
  | .mc => [(0x300, 16, 16), (0x308, 16, 16), (0x400, 0, 1), (0x408, 0, 1), (0x410, 0, 1), (0x418, 0, 1), (0x420, 0, 1), (0x428, 0, 1), (0x430, 0, 1)]
  | .sch => [(0x100, 0, 1), (0x108, 0, 1), (0x110, 0, 1)]
  | .rc => [(0x100, 0, 1), (0x108, 0, 1), (0x110, 0, 1)]
  | .pol => [(0x100, 0, 1), (0x108, 0, 1)]
  | .gate => [(0x200, 0, 1), (0x208, 0, 1), (0x210, 0, 1)]
  | .ptp => [(0x600, 0, 1), (0x608, 0, 1), (0x610, 0, 1), (0x618, 0, 1), (0x620, 0, 1), (0x628, 0, 1)]
  | .rw => [(0x100, 0, 1), (0x108, 0, 1), (0x110, 0, 1), (0x118, 0, 1), (0x120, 0, 1), (0x128, 0, 1), (0x130, 0, 1), (0x138, 0, 1), (0x140, 0, 1)]
  | .lmac => [(0x100, 0, 1), (0x108, 0, 1), (0x110, 0, 1), (0x118, 0, 1), (0x120, 0, 1), (0x128, 0, 1), (0x130, 0, 1), (0x138, 0, 1), (0x140, 0, 1), (0x148, 0, 1), (0x150, 0, 1), (0x158, 0, 1), (0x160, 0, 1), (0x168, 0, 1), (0x170, 0, 1), (0x178, 0, 1), (0x180, 0, 1), (0x188, 0, 1), (0x190, 0, 1), (0x198, 0, 1), (0x1A0, 0, 1), (0x1A8, 0, 1)]
  | .bmac => [(0x100, 0, 1), (0x108, 0, 1), (0x110, 0, 1), (0x118, 0, 1), (0x120, 0, 1), (0x128, 0, 1), (0x130, 0, 1), (0x138, 0, 1), (0x140, 0, 1), (0x148, 0, 1), (0x150, 0, 1), (0x158, 0, 1), (0x160, 0, 1), (0x168, 0, 1), (0x170, 0, 1), (0x178, 0, 1), (0x180, 0, 1), (0x188, 0, 1), (0x190, 0, 1), (0x198, 0, 1), (0x1A0, 0, 1), (0x1A8, 0, 1)]
  | .pcie => [(0x100, 0, 1), (0x108, 0, 1), (0x110, 0, 1), (0x118, 0, 1), (0x120, 0, 1)]
  | .hmb => []
  | .sap0 => []
  | .sap => []
  | .tae => []
  | .thk => []
  | .wp => []
  | .sdql => []
  | .sdqb => []
  | .sdl => []
  | .pt => []
  | .clk => []
  | .txr => []
  | .rxr => []
  | .msix => []
  | .pba => []

end Sys2Proof.Machine
end

