-- ==== Sys2Proof/Machine/Maps.lean ====
section
/-!
DEFINITION. Sparse maps in one canonical form: a list of (key, value) pairs, keys strictly rising, no entry equal
to what an unlisted key reads as. Every RAM, table and register group of the model is one of these.
-/

namespace Sys2Proof.Machine

/-- A sparse map from numbers. -/
abbrev NMap (α : Type) := List (Nat × α)

/-- The entry listed for a key, if one is. -/
def mfind {α : Type} : NMap α → Nat → Option α
  | [], _ => none
  | (k, v) :: m, q => if q = k then some v else mfind m q

/-- The value a key reads as; `d` gives what an unlisted key reads as. -/
def mget {α : Type} (d : Nat → α) (m : NMap α) (q : Nat) : α := (mfind m q).getD (d q)

/-- The map with an entry listed. -/
def mput {α : Type} : NMap α → Nat → α → NMap α
  | [], q, v => [(q, v)]
  | (k, u) :: m, q, v =>
    if q = k then (q, v) :: m
    else if q < k then (q, v) :: (k, u) :: m
    else (k, u) :: mput m q v

/-- The map with a key unlisted. -/
def mdel {α : Type} : NMap α → Nat → NMap α
  | [], _ => []
  | (k, u) :: m, q => if q = k then mdel m q else (k, u) :: mdel m q

/-- A write that keeps the canonical form: a value equal to the unlisted one removes the entry. -/
def mset {α : Type} [DecidableEq α] (d : Nat → α) (m : NMap α) (q : Nat) (v : α) : NMap α :=
  if v = d q then mdel m q else mput m q v

/-- Every key of the map is above `b`, or there is no bound, and the keys rise strictly. -/
def msorted {α : Type} : Option Nat → NMap α → Bool
  | _, [] => true
  | b, (k, _) :: m => (match b with | none => true | some x => decide (x < k)) && msorted (some k) m

/-- No listed entry equals what an unlisted key reads as. -/
def mlean {α : Type} [DecidableEq α] (d : Nat → α) : NMap α → Bool
  | [] => true
  | (k, v) :: m => decide (v ≠ d k) && mlean d m

/-- The canonical form. -/
def mwf {α : Type} [DecidableEq α] (d : Nat → α) (m : NMap α) : Bool := msorted none m && mlean d m

/-- The keys listed. -/
def mkeys {α : Type} (m : NMap α) : List Nat := m.map (fun e => e.1)

/-- The entries whose key satisfies `p`. -/
def mfilter {α : Type} (p : Nat → Bool) (m : NMap α) : NMap α := m.filter (fun e => p e.1)

/-- A finite set of numbers, kept sorted without repeats: a map to unit whose unlisted keys are absent. -/
abbrev NSet := List Nat

/-- Adds a number to a sorted set. -/
def nsInsert : NSet → Nat → NSet
  | [], q => [q]
  | k :: m, q => if q = k then k :: m else if q < k then q :: k :: m else k :: nsInsert m q

/-- Takes a number out of a sorted set. -/
def nsErase : NSet → Nat → NSet
  | [], _ => []
  | k :: m, q => if q = k then nsErase m q else k :: nsErase m q

/-- Finite maps without a default value: absent keys are absent. -/
def oput {α : Type} (m : NMap α) (q : Nat) (v : Option α) : NMap α :=
  match v with
  | none => mdel m q
  | some x => mput m q x

/-- Puts an element before the first of a list whose key is greater. -/
def insertBy {α : Type} (f : α → Nat) (x : α) : List α → List α
  | [] => [x]
  | y :: ys => if f x < f y then x :: y :: ys else y :: insertBy f x ys

/-- A list in rising order of a key, equal keys in the order given. -/
def sortBy {α : Type} (f : α → Nat) (l : List α) : List α := l.foldl (fun acc x => insertBy f x acc) []

end Sys2Proof.Machine
end

