-- ==== Sys2Proof/Machine/State.lean ====
section
/-!
DEFINITION. The state of the VLR-8800: every register, memory, queue, counter, mode and pin the manual gives it, as
plain data, the queue of waiting commands, and the state after device reset.
-/

namespace Sys2Proof.Machine
open Sys2Proof

/-! ### Register bus (02) -/

/-- The holding word of one requester (R46): the low word's address, and whether a write filled it. -/
structure Hold where
  addr : Nat
  isWrite : Bool
  val : Word
  deriving DecidableEq, Repr

/-- Register pages and the register bus (R33 to R48). -/
structure BusSt where
  /-- Register words by BAR0 byte address; unlisted words read as their reset value. -/
  regs : NMap Word
  /-- Class L values still in force at a block whose register already reads the new value (R40). -/
  old : NMap Word
  /-- Local count of the write behind each of them (R40). -/
  oldAt : NMap Nat
  /-- Class S shadows (R41). -/
  shadow : NMap Word
  /-- Class S active values of the even parity (R42, R234). -/
  even : NMap Word
  /-- Class S active values of the odd parity (R42, R234). -/
  odd : NMap Word
  /-- Pages whose binding to epochs is in force (R42). -/
  bound : NSet
  /-- 64-bit counters by byte address (R47). -/
  ctr : NMap Nat
  /-- Snapshot buffers by page; a page with a snapshot held or being taken is listed (R47). -/
  snap : NMap (NMap Nat)
  /-- Counters copied at a snapshot whose copy is not yet complete (R47). -/
  taking : NMap (NMap Nat)
  /-- Holding words by requester (R46). -/
  hold : NMap Hold
  /-- What the last read returned, and the high half of a 64-bit read: the model's own output. -/
  rdata : Word
  rdataHi : Word
  deriving DecidableEq, Repr

/-! ### Time (11, 12) -/

/-- A value of the time counter (R306): seconds, nanoseconds and 44 fraction bits. -/
structure Tstamp where
  sec : Nat
  ns : Nat
  frac : Nat
  deriving DecidableEq, Repr

/-- One entry of the TX timestamp FIFO (R312). -/
structure TxTs where
  port : Nat
  msgType : Nat
  domain : Nat
  seqId : Nat
  ts : Tstamp
  deriving DecidableEq, Repr

/-- Clocks and time (R288, R306, R312 to R315). -/
structure TimeSt where
  /-- Time since reset by KCLK, in thirds of a nanosecond: it goes on when SYSCLK is lost (R454). -/
  kclk : Nat
  /-- The local count in CCLK periods, thirds of a nanosecond (R288). -/
  cclk : Nat
  /-- The time counter (R306). -/
  now : Tstamp
  /-- TIMEREF absent or present, and since when by KCLK (R313). -/
  trefSince : Option Nat
  /-- Whether TIMEREF was present for 1 s before its loss, so that an averaged ratio exists (R313). -/
  ratio : Bool
  /-- TREF_25 written since reset (R313). -/
  tref25Written : Bool
  /-- TX timestamp FIFO, oldest first (R312). -/
  fifo : List TxTs
  /-- End of the pulse on PPS_OUT by KCLK, while it is high (R314). -/
  ppsEnd : Option Nat
  /-- Last whole second at which PPS_OUT rose (R314). -/
  ppsLast : Int
  deriving DecidableEq, Repr

/-! ### Ports (03) -/

/-- One PAUSE or PFC priority timer with its watchdog (R77, R78, R81); times on the local count, 0 when not set. -/
structure FcTimer where
  fin : Nat
  holdStart : Nat
  ignEnd : Nat
  deriving DecidableEq, Repr

/-- A frame in reception (R73, R271). -/
structure RxFrame where
  /-- Bytes received so far, FCS included. -/
  bytes : Bytes
  /-- Body cells taken so far, in order. -/
  cells : List Nat
  /-- The frame was not accepted at its start (R72, R419). -/
  ignore : Bool
  /-- The frame is being discarded as it arrives (R257). -/
  discard : Bool
  /-- Why a body cell was refused: 0 none, 1 RX_LIMIT, 2 NOBUF, 3 EMPTY; counted at the frame's end. -/
  why : Nat
  /-- Counter pairs that have counted a drop of this frame before its end, with the bytes they counted (R275). -/
  owed : List (Nat × Nat)
  /-- Class of its body cells: 8 until a pass dispatched early commits with a class (R259). -/
  cls : Nat
  /-- A body cell lost its data, or its link: no byte beyond that cell is found again (R277). -/
  broken : Bool
  cut : Option Nat
  /-- Receive timestamp (R308). -/
  ts : Tstamp
  /-- The pass whose head was dispatched early (R271). -/
  pass : Option Nat
  deriving DecidableEq, Repr

/-- A Coppice request outstanding or in progress (R86, R87). -/
structure CopReq where
  wake : Bool
  target : Nat
  nonce : Nat
  /-- Local count at which it was sent or acknowledged. -/
  t0 : Nat
  /-- An answer was received and the switch is under way. -/
  acked : Bool
  deriving DecidableEq, Repr

/-- A frame selected and not yet started: its descriptor, MAXLEN and its bytes at its selection. -/
structure TxSel where
  id : Nat
  max : Nat
  len : Nat
  deriving DecidableEq, Repr

/-- One port's MAC (03). -/
structure PortSt where
  /-- PAUSE timer (index 8) and PFC priority timers (0 to 7), R77, R78. -/
  timers : NMap FcTimer
  /-- Standing flow-control conditions: class 0 to 7, and 8 for PAUSE (R262). -/
  cond : NSet
  /-- Flow-control frames owed at once: condition index, and whether its quanta are nonzero (R79). -/
  fcOwed : List (Nat × Bool)
  /-- Local count of the last flow-control frame by condition (R79). -/
  fcLast : NMap Nat
  /-- Local count since which no frame has been eligible or in transmission (R83). -/
  idleSince : Nat
  /-- Local count up to which the LPI of this time is counted in LPI_TX_US, and the part of a µs still over (R75). -/
  lpiSince : Nat
  lpiRem : Nat
  /-- The link partner's EEE advertisement and enable as resolved (R83). -/
  partnerEee : Bool
  /-- Types advertised in Clause 73, bit i being type 0x10 + i, fixed as negotiation starts; none before (R64, R66). -/
  advert : Option Nat
  /-- Local count at which Clause 73 last resolved a type (R64). -/
  resolvedAt : Option Nat
  /-- Frame in reception. -/
  rx : Option RxFrame
  /-- Descriptor in transmission (R273, R283). -/
  tx : Option Nat
  /-- Transmit timestamp of the frame in transmission (R308). -/
  txAt : Tstamp
  /-- The cut-through frame in transmission is to end stomped (R273). -/
  txStomp : Bool
  /-- MAXLEN for the frame in transmission, taken when it was selected (R40, R74), and the bytes it then had (R285). -/
  txMax : Nat
  txLen : Nat
  /-- The frames selected to follow it, which wait in X9 in order (R282, R283). -/
  next : List TxSel
  /-- Local count from which a further frame's first bit can start: the end of the last one and its gap (R301). -/
  macFree : Nat
  /-- The last frame sent, FCS included: the model's own output. -/
  lastTx : Bytes
  /-- Coppice: lanes quiet since, window bytes, low-utilisation start, waits and requests (R84 to R87). -/
  copReq : Option CopReq
  copSeq : Nat
  copNakUntil : Nat
  copLowSince : Option Nat
  /-- Local count of the last HELLO received and of the last sent (R84, R87). -/
  copHello : Nat
  copSent : Option Nat
  /-- Local count up to which a time with fewer lanes is counted in COPPICE_SHED_US, and the part of a µs over (R75). -/
  copShedSince : Nat
  shedRem : Nat
  winBytes : Nat
  /-- Bytes sent in the last whole window (R86). -/
  winLast : Nat
  winStart : Nat
  deriving DecidableEq, Repr

/-- All ports (03). -/
structure PortsSt where
  port : NMap PortSt
  deriving DecidableEq, Repr

/-! ### Dispatch, passes and threads (01, 04, 07, 08) -/

/-- FRAME_LEN as far as it is known where a drop is counted, and the pass of a frame that is still in reception (R275). -/
structure FrameLen where
  n : Nat
  early : Option Nat
  deriving DecidableEq, Repr

/-- Part of a stored frame: `len` bytes from byte `off` of a cell. -/
structure Seg where
  cell : Nat
  off : Nat
  len : Nat
  deriving DecidableEq, Repr

/-- Where a pass stands between reception and enqueue. -/
inductive Phase where
  | arrived      -- head received, not yet in its dispatch queue
  | queued       -- in its dispatch queue (R16)
  | walking      -- granted a Grove and a thread, walk in progress (R90)
  | held         -- later fragment in the hold list (R113)
  | ready        -- walk ended, thread reserved, routine not started (R176)
  | running      -- routine running (R178)
  | restart      -- abandoned, waiting for a thread (R226)
  | reorder      -- committed, in the reorder stage (R15)
  | exception    -- in the exception queue toward the host (R381)
  deriving DecidableEq, Repr

/-- What a committed pass takes to enqueue (R222, R251). -/
structure Committed where
  /-- Head chain and the bytes it holds. -/
  headCells : List Nat
  headLen : Nat
  /-- Body as received or continued (R253). -/
  segs : List Seg
  /-- The disposition record (R221). -/
  dispo : Nat
  /-- Cells of the whole packet (R251). -/
  cells : Nat
  /-- Learn notices to release (R219), each 128 bits. -/
  notices : List Nat
  /-- Cut-through may be marked (R271). -/
  early : Bool
  deriving DecidableEq, Repr

/-- A packet pass (R12, R207, R225): everything it keeps outside a thread. -/
structure Pass where
  /-- Entry: port 0 to 259, or 260 for a timer packet. -/
  src : Nat
  /-- Entry port of the first pass, for accounts and order (R259). -/
  rxPort : Nat
  phase : Phase
  /-- Head window as received, at most 256 bytes (R73). -/
  raw : Bytes
  /-- Head buffer after the walk and after a Trail header was removed (R173). -/
  head : Bytes
  /-- Received Trail header, 16 bytes, or empty (R118). -/
  trail : Bytes
  /-- Body of the frame. -/
  segs : List Seg
  /-- Frame length with FCS as received; for a frame still in reception the bytes so far. -/
  flen : Nat
  /-- The frame was complete when its head was dispatched (R109). -/
  known : Bool
  /-- The frame is complete now (R271). -/
  complete : Bool
  /-- The frame failed its check after an early dispatch (R273). -/
  bad : Bool
  /-- A body cell holds an uncorrectable error: every copy made of the frame ends stomped (R277). -/
  broken : Bool
  /-- Recirculation passes made here (R251). -/
  recirc : Bool
  /-- Cells of the earlier frame still referenced by this pass (R253). -/
  prev : List Nat
  rxTime : Tstamp
  prv : Bytes
  epoch : Nat
  /-- The pass is counted in flight (R235). -/
  inflight : Bool
  grove : Nat
  /-- Parse unit of the walk in progress (R90). -/
  unit : Nat
  tid : Nat
  /-- A restart is owed for an abandoned attempt (R226). -/
  redo : Bool
  /-- Counted abandons, attempts, cause and place of the last abandon (R224, R227). -/
  counted : Nat
  attempts : Nat
  cause : Nat
  lastCounted : Nat
  lastTid : Nat
  faultPc : Nat
  editReason : Nat
  /-- The buffered head holds an uncorrectable error (R206). -/
  headLost : Bool
  /-- Fragment Memory entry made by this pass's walk, and its key (R112). -/
  fragRec : Option (Nat × Nat)
  /-- Fragment Memory entry a held fragment waits for, and since when (R113). -/
  fragWait : Option Nat
  holdSince : Nat
  /-- Host reason of a packet sent to the exception queue, and its exception record (R105, R227). -/
  reason : Nat
  exc : Bytes
  com : Option Committed
  deriving DecidableEq, Repr

/-- Thread states (R178). -/
inductive ThState where
  | free | reserved | ready | waiting | stalled | committing
  deriving DecidableEq, Repr

/-- Status of a lookup-result register (R187). -/
inductive LrStatus where
  | none | pending | hit | miss
  deriving DecidableEq, Repr

/-- A lookup or memory result on its way to a result register (R193, R196). -/
structure Pend where
  rreg : Nat
  hit : Bool
  /-- UNCORRECTABLE: the pass is abandoned when it lands (R131). -/
  uncorr : Bool
  val : Nat
  /-- A POL result whose colour is to become the staged colour (R216). -/
  apply : Bool
  /-- A context operation waiting for the lock of this context (R218); `val` then counts the operations staged before
  it. -/
  waitCtx : Option Nat
  /-- The request it belongs to: results of one request land together (R192, R196). -/
  grp : Nat
  /-- The crossing that holds its place (R17): 0 X3, 1 + b the X5 queue of bank b, 65 none. -/
  chan : Nat
  deriving DecidableEq, Repr

/-- A staged policer reservation (R207, R216): policer, and the bytes taken from each bucket in 1/256 byte. -/
structure PolRes where
  idx : Nat
  tc : Nat
  te : Nat
  deriving DecidableEq, Repr

/-- A staged context operation waiting for its lock or applied to the staged value (R217). -/
structure CtxOp where
  idx : Nat
  /-- `some v`: the context becomes v; `none`: the addition of `add` to word `word`. -/
  val : Option Nat
  word : Nat
  add : Nat
  deriving DecidableEq, Repr

/-- The staged state of an attempt (R207). -/
structure Staged where
  /-- The thread's copy of the head window. -/
  copy : Bytes
  /-- For each byte of the copy, the byte of the buffered original it came from (R212). -/
  orig : List (Option Nat)
  edits : Nat
  /-- Counter updates: pair and byte increment (R215). -/
  cnts : List (Nat × Nat)
  pols : List PolRes
  ctxs : List CtxOp
  notices : List Nat
  /-- The disposition record (R221). -/
  dispo : Nat
  /-- The Trail word latched by FWD (R355). -/
  trail : Nat
  deriving DecidableEq, Repr

/-- One thread (R187). -/
structure Thread where
  st : ThState
  pass : Nat
  w : NMap Word
  flagZ : Bool
  flagN : Bool
  flagC : Bool
  flagV : Bool
  lr : NMap Nat
  lrst : NMap LrStatus
  ret : Nat
  pc : Nat
  /-- Microwords issued in this attempt (R181). -/
  issued : Nat
  /-- Registers as they stood before the word in progress (R183). -/
  oldW : NMap Word
  oldZ : Bool
  oldN : Bool
  oldC : Bool
  oldV : Bool
  /-- Fields of the word in progress already done: 0 ALU_A, 1 ALU_B, 2 LOOKUP, 3 HEADER, 4 MEM, 5 DISPOSITION. -/
  done : NSet
  /-- The word's condition, once it has been evaluated (R183, step 2). -/
  cval : Option Bool
  /-- Registers awaited by a WAIT word, and where the thread goes on waking (R185). -/
  await : NSet
  staged : Staged
  pend : List Pend
  /-- ACT_CTXH and ACT_CNT_FW for the packet in work: class L values change between packets (R40). -/
  ctxh : Word
  cntFw : Word
  /-- Hand-off end by the local count after an accepted commit (R180). -/
  freeAt : Nat
  deriving DecidableEq, Repr

/-- Dispatch and reorder (R15, R16, R174). -/
structure DispSt where
  passes : NMap Pass
  /-- Next pass number; numbers are in order of arrival. -/
  nextPass : Nat
  /-- Age of each pass: the order of first dispatch (R218). -/
  age : NMap Nat
  nextAge : Nat
  /-- Dispatch queues: 0 to 31 receive quads, 32 port 256, 33 port 257, 34 port 258, 35 port 259, 36 timers (R16). -/
  queue : NMap (List Nat)
  /-- Queue last granted in the third tier (R174). -/
  last : Nat
  /-- Places in R15 order by receive port. -/
  order : NMap (List Nat)
  /-- Abandoned passes waiting for a thread, oldest first (R226). -/
  restarts : List Nat
  /-- The exception queue toward the host (R381). -/
  excQ : List Nat
  deriving DecidableEq, Repr

/-- A commit's entries in the crossings of its Grove (R17, R222): the local count of its commit point, and its head cells,
updates and notices. -/
structure Crossing where
  grove : Nat
  at_ : Nat
  cells : Nat
  ups : Nat
  nots : Nat
  deriving DecidableEq, Repr

/-- Groves and engines (07). -/
structure GrvSt where
  /-- Control store words by grove × 4096 + address (R170). -/
  cs : NMap Nat
  /-- Copies holding an uncorrectable word: (grove × 8 + copy) × 4096 + address (R172). -/
  csBad : NSet
  /-- Copies whose word a remap has written with zero data and nothing has written since, keyed alike (R416). -/
  csZero : NSet
  /-- The ROM image is in the control stores, dispatch tables and templates (R435). -/
  rom : Bool
  /-- Next scrub address by grove × 8 + copy (R171). -/
  scrub : NMap Nat
  /-- GRV_CS_RD in progress: grove to copy × 4096 + address (R204). -/
  csRead : NMap Nat
  threads : NMap Thread
  /-- 32-bit scratch words written since device reset, by thread × 512 + word (R187). -/
  scratch : NMap Word
  /-- Thread that issued last by engine (R178). -/
  last : NMap Nat
  /-- Hand-off end by engine (R180). -/
  handoff : NMap Nat
  /-- Dispatch entries 0 to 511 (R177). -/
  disp : NMap Nat
  /-- Key templates 0 to 63, 256 bits (R194). -/
  tmpl : NMap Nat
  /-- QUIESCE instant of draining Groves (R201). -/
  drainAt : NMap Nat
  /-- Commits whose entries may still stand in X6, X7 and X8 (R17, R222). -/
  cross : List Crossing
  deriving DecidableEq, Repr

/-- Parse graph and Fragment Memory (04). -/
structure PguSt where
  /-- Nodes by bank × 256 + number, 128 bits (R94). -/
  nodes : NMap Nat
  /-- Transition entries, 64 bits (R99). -/
  trans : NMap Nat
  /-- The ROM graph is installed (R435). -/
  rom : Bool
  /-- Node entries holding an uncorrectable error, and entries of the Groves' transition copies, as grove × 4096 + entry
  (R100, R119). The 32 copies are written together, so that one table holds the words of them all. -/
  nodeBad : NSet
  transBad : NSet
  /-- Fragment Memory entries, 512 bits, by set × 4 + way (R116). -/
  frag : NMap Nat
  /-- Creation of each record by the local count (R115). -/
  fragAt : NMap Nat
  /-- Held fragments, in order of receipt (R113). -/
  held : List Nat
  /-- The PGU_NODE_CMD command in progress: node key, the word it writes (none: a read), and the local count of its end
  (R120). -/
  cmd : Option (Nat × Option Nat × Nat)
  deriving DecidableEq, Repr

/-- Context locks and the passes waiting for them (R218). -/
structure CtxSt where
  /-- Flow contexts, 128 bits (R217). -/
  ctx : NMap Nat
  /-- Holder of each locked context. -/
  lock : NMap Nat
  /-- Waiting passes of each context. -/
  wait : NMap (List Nat)
  deriving DecidableEq, Repr

/-- The indexed stores (R53). -/
structure StoreSt where
  /-- Counter pairs: packets + 2^64 × bytes. -/
  pairs : NMap Nat
  /-- Policers, 256 bits (R293). -/
  pol : NMap Nat
  /-- Encapsulation templates, 512 bits (R210). -/
  encap : NMap Nat
  /-- Multicast groups, 512 bits (R264), and those holding an uncorrectable error (R277). -/
  mcg : NMap Nat
  mcgBad : NSet
  deriving DecidableEq, Repr

/-! ### Clearing, scheduler, gates (10, 11) -/

/-- A cell: 256 data bytes and the link word (R250). -/
structure Cell where
  data : Bytes
  link : Nat
  deriving DecidableEq, Repr

/-- References and account of a cell (R258, R259); class 8 before the packet's commit. -/
structure CellMeta where
  refs : Nat
  port : Nat
  cls : Nat
  deriving DecidableEq, Repr

/-- A free list (R254): rows `next` to `rows - 1` of the bank, then the cells pushed back, oldest first
(log entry 8, DESIGN CHOICE). -/
structure FreeList where
  next : Nat
  rows : Nat
  back : List Nat
  deriving DecidableEq, Repr

/-- A descriptor: one copy of a frame (R252). -/
structure Desc where
  headCells : List Nat
  headLen : Nat
  segs : List Seg
  /-- Frame bytes of the copy without FCS; a truncated mirror copy keeps fewer. -/
  len : Nat
  /-- Cells counted by the limits (R251). -/
  cells : Nat
  port : Nat
  cls : Nat
  /-- Global queue (R278). -/
  queue : Nat
  /-- HELD (R266). -/
  held : Bool
  /-- Mirror session of a mirror copy (R270). -/
  mirror : Option Nat
  /-- Marked cut-through (R271). -/
  ct : Bool
  /-- Its stored data or chain holds an uncorrectable error: it ends stomped (R277). -/
  broken : Bool
  /-- The pass whose frame is still in reception (R271). -/
  rxPass : Option Nat
  /-- Packet number, shared by the copies of one packet. -/
  pkt : Nat
  /-- Multicast group plus 1, or 0 (R265). -/
  group : Nat
  /-- L3_END of the PRV, for R272. -/
  l3end : Nat
  /-- A Rootway frame, which never takes a Trail header (R336). -/
  rootway : Bool
  deriving DecidableEq, Repr

/-- A residue entry (R266, R268). -/
structure Residue where
  /-- Place in the order of creation (R267). -/
  seq : Nat
  pkt : Nat
  created : Nat
  copies : List Nat
  deriving DecidableEq, Repr

/-- Clearing and Woodpile (10). -/
structure ClrSt where
  cells : NMap Cell
  info : NMap CellMeta
  free : NMap FreeList
  /-- Local count at which the filling of the lists began, until it is over (R254). -/
  fillAt : Option Nat
  /-- BCLK in which a list popped last, and in which it took its last released cell (R254, R255). -/
  popped : NMap Nat
  pushed : NMap Nat
  /-- BCLK of the last cell granted, and its requester's place in that BCLK's order (R256). -/
  reqLast : Option (Nat × Nat)
  /-- Bank a requester took its last cell from (R255). -/
  last : NMap Nat
  /-- Cells released and waiting for their push (R258). -/
  release : List Nat
  desc : NMap Desc
  /-- Residue entries in the order of their creation, the number of the next, and the number after that of the entry
  visited last (R267). -/
  residue : List Residue
  resSeq : Nat
  resNext : Nat
  /-- Candidates counted by each mirror session (R270). -/
  mirCnt : NMap Nat
  /-- Retired rows, as cell numbers (R417). -/
  retired : NSet
  /-- Cells allocated when the audit in progress began, but those granted since (R276). -/
  audit : NSet
  deriving DecidableEq, Repr

/-- Deficit and next start of a scheduler node (R284, R287); the start in 1/65,536 ns of the local count. -/
structure Dyn where
  d : Int
  s : Nat
  deriving DecidableEq, Repr

/-- A node's or timer entry's place in a wheel (R289): the local time in ns at which its slot is reached. -/
structure WheelEntry where
  /-- Node key, or 2^20 + timer index. -/
  key : Nat
  coarse : Bool
  slot : Nat
  /-- Permit time it waits for, in 1/65,536 ns of the local count (R287). -/
  at_ : Nat
  deriving DecidableEq, Repr

/-- Scheduler and Ring Calendar (11). -/
structure SchSt where
  /-- Tree entries of 93 bits by kind × 65536 + index; kinds 0 queue, 1 twig, 2 branch, 3 port (R291). -/
  node : NMap Nat
  dyn : NMap Dyn
  /-- Descriptors of each queue in order (R281). -/
  qs : NMap (List Nat)
  /-- Round list of each parent and band, by parent key × 8 + band (R284). -/
  round : NMap (List Nat)
  /-- Port last served by each selector (R283). -/
  last : NMap Nat
  wheel : List WheelEntry
  deriving DecidableEq, Repr

/-- A gate list in force (R298): its latched admin entry, the start of its first cycle, of its current cycle, and the
entry applied. Times in ns of the time counter. -/
structure GateRun where
  cfg : Nat
  base : Nat
  cyc : Nat
  entry : Nat
  deriving DecidableEq, Repr

/-- Gates of one port (R297 to R302). -/
structure GatePort where
  run : Option GateRun
  /-- Pending configuration and its change time (R299). -/
  pend : Option (Nat × Nat)
  /-- Gate states in force. -/
  gates : Nat
  /-- Gate states a deferred close will leave (R302). -/
  deferred : Option Nat
  /-- The time counter was stepped and the list has not yet moved to its new place (R302). -/
  stepped : Bool
  deriving DecidableEq, Repr

/-- Time gates (11). -/
structure GateSt where
  admin : NMap Nat
  pool : NMap Nat
  port : NMap GatePort
  /-- Pool entries holding an uncorrectable error (R305). -/
  poolBad : NSet
  deriving DecidableEq, Repr

/-- Epochs (09), beside the registers of page 0x000. -/
structure EpSt where
  /-- In-flight counts by parity (R235). -/
  inflight : NMap Nat
  /-- Local count of the last switch and of the last valid Trail header carrying the previous epoch (R237). -/
  switchAt : Nat
  trailAt : Nat
  /-- Instant of the pending arm in ns of the time counter (R238). -/
  armAt : Nat
  /-- The last EPOCH_ARM received: epoch, seconds, nanoseconds and the result it was answered with (R247). -/
  lastArm : Option (Nat × Nat × Nat × Nat)
  deriving DecidableEq, Repr

/-! ### Exact match, Thicket and the Table Access Engine (05, 06, 02) -/

/-- Hash store, overflow store, Learn Queue (05). -/
structure EmtSt where
  /-- 128-bit quarters of the hash store by (bank × 8192 + row) × 4 + quarter (R121). -/
  data : NMap Nat
  /-- 12-bit tag quarters, same keys (R125). -/
  tag : NMap Nat
  /-- Overflow slots, and the tags of the first slot of each entry (R126). -/
  ovf : NMap Nat
  ovfTag : NMap Nat
  /-- The eviction register L (R137). -/
  lfsr : Nat
  /-- Learn Queue notices from LQ_HEAD to LQ_TAIL, 128 bits each (R140). -/
  lq : List Nat
  /-- Recent-notice filter by set: notice bytes 1 and 4 to 15, and when it entered; newest first (R142). -/
  filter : NMap (List (Nat × Nat))
  /-- Next sweep of each table by the local count (R144). -/
  sweepAt : NMap Nat
  deriving DecidableEq, Repr

/-- One Thicket bank row (R148). -/
structure ThkRow where
  value : Nat
  mask : Nat
  result : Nat
  tag : Nat
  deriving DecidableEq, Repr

/-- One copy's progress in an insertion that moves rows: moves left, then writes 1 and 2 of R162. -/
structure ThkCopy where
  copy : Nat
  moves : List (Nat × Nat)
  /-- Moves made. -/
  made : Nat
  /-- Writes of R162 made: 0, 1 or 2. -/
  writes : Nat
  deriving DecidableEq, Repr

/-- An insertion in progress (R161 to R163). -/
structure ThkShift where
  table : Nat
  pos : Nat
  /-- The entry: value and mask of 320 bits, result word and tag. -/
  value : Nat
  mask : Nat
  result : Nat
  tag : Nat
  /-- Every move of a copy, as (source, destination) in order (R161). -/
  plan : List (Nat × Nat)
  copies : List ThkCopy
  deriving DecidableEq, Repr

/-- The Thicket (06). -/
structure ThkSt where
  /-- Rows by bank × 2048 + row. -/
  rows : NMap ThkRow
  /-- Rows waiting to be rewritten from another copy (R168). -/
  repair : NSet
  /-- Copy searched next, by table (R156). -/
  rr : NMap Nat
  /-- BCLK of the local count in which a bank's slot was last taken (R148, R156). -/
  slots : NMap Nat
  shifts : List ThkShift
  /-- Row the scrubber reads next, in every bank (R166). -/
  scrub : Nat
  deriving DecidableEq, Repr

/-- A command of a submission queue: its 128 bytes and its submission instant by the local count (R49, R57). -/
structure TaeCmd where
  bytes : Bytes
  t0 : Nat
  deriving DecidableEq, Repr

/-- Table Access Engine (R49 to R59). -/
structure TaeSt where
  /-- Host submission and completion windows, bytes of 32 KB each (R33, R54). -/
  sub : NMap Byte
  comp : NMap Byte
  /-- Submission instant of each posted host slot. -/
  hostAt : NMap Nat
  /-- Host commands completed since the queue was last reset, modulo 512 (R54). -/
  hostDone : Nat
  /-- Sapwood queue, oldest first, and its completions in order (R49, R59). -/
  sapQ : List TaeCmd
  sapC : List Bytes
  /-- Sapwood commands completed since the queue was last reset, modulo 512. -/
  sapDone : Nat
  /-- Command in execution of each queue, 0 host and 1 Sapwood (R59). -/
  exec : NMap TaeCmd
  deriving DecidableEq, Repr

/-! ### Lookout (17) -/

/-- A report captured by the Lookout (R401). -/
structure Report where
  page : Nat
  src : Nat
  cls : Nat
  /-- PARTNER report (R402). -/
  partner : Bool
  res : Nat
  /-- Local count of its capture (R19). -/
  t0 : Nat
  deriving DecidableEq, Repr

/-- A persistence window (R405): its end, the two counts, the thresholds latched at its opening, and the classes for which
persistence has been reached. -/
structure ErrWin where
  fin : Nat
  ce : Nat
  uc : Nat
  ceTh : Nat
  ucTh : Nat
  ceSaid : Bool
  ucSaid : Bool
  deriving DecidableEq, Repr

/-- A repair record (R418). -/
structure Repair where
  res : Nat
  spare : Nat
  deriving DecidableEq, Repr

/-- The Lookout (17), beside the registers of page 0x001. -/
structure LkoSt where
  /-- Captured reports awaiting decision, in order of capture. -/
  cap : List Report
  /-- OWN reports kept for echo matching (R409). -/
  own : List Report
  /-- Window of each source, by page × 16 + source (R405). -/
  win : NMap ErrWin
  /-- The tracker, by resource id (R406). -/
  track : NMap ErrWin
  /-- End of the echo window of each page after its condition ended (R408). -/
  echoEnd : NMap Nat
  /-- Pages whose ENABLE the host or the Lookout set to 0 (R408). -/
  disabled : NSet
  /-- Resources waiting for their remap, in order of persistence (R415). -/
  remapQ : List Nat
  /-- Spares used by unit (R414). -/
  spares : NMap Nat
  /-- Remaps in force: the VDD_KEEP island's records, and those not yet in OTP (R418). -/
  island : List Repair
  otpWait : List Repair
  /-- OTP repair records, at most 512 (R418). -/
  otp : List Repair
  /-- Rows that an uncorrectable error was reported for, by resource id, until their remap (R416). -/
  bad : NSet
  deriving DecidableEq, Repr

/-! ### On-device services (13) -/

/-- Frame counts of one loss measurement, sent and received for the far end and for the near end (R328). -/
structure LossCounts where
  farTx : Nat
  farRx : Nat
  nearTx : Nat
  nearRx : Nat
  deriving DecidableEq, Repr

/-- What the SVC image keeps of a MEP (R328); the layout of its block is the image's own
(log entry 49, DESIGN CHOICE). -/
structure Mep where
  /-- The block's first three contexts as software last wrote them, and as the image last left them. -/
  base : Bytes
  last : Bytes
  /-- Ticks since the last valid CCM, and the conditions that stand. -/
  miss : Nat
  loc : Bool
  rdi : Bool
  unexp : Bool
  /-- Counts at the last CCM and at the last LMR. -/
  ccm : Option LossCounts
  lmr : Option LossCounts
  deriving DecidableEq, Repr

/-- The timer store, its firing and the injector (R319 to R322). -/
structure SvcSt where
  /-- Timer entries, 64 bits (R319). -/
  entry : NMap Nat
  /-- Next firing of each running entry by the local count (R320). -/
  next : NMap Nat
  /-- Firings of each entry, modulo 65,536 (R322). -/
  fired : NMap Nat
  /-- Draws made from the timer LFSR (R320; log entry 7, DESIGN CHOICE). -/
  draws : Nat
  /-- Entries with a head injected and neither committed nor dropped (R321). -/
  outstanding : NSet
  /-- Injector FIFO, oldest first (R321): entry, its 64 bits and its firing count as it fired. -/
  fifo : List (Nat × Nat × Nat)
  /-- Local count of the last injection (R321). -/
  lastAt : Nat
  mep : NMap Mep
  deriving DecidableEq, Repr

/-! ### Rootway (14) -/

/-- A numbered Rootway frame not yet acknowledged (R340). -/
structure RwFrame where
  seq : Nat
  msg : Bytes
  sentAt : Nat
  deriving DecidableEq, Repr

/-- One Rootway link: B-ports 128 to 255, and 259 for the virtual link (R340, R341, R353). -/
structure RwLink where
  /-- Not Rootway-down. -/
  up : Bool
  /-- SEQ of the last numbered frame sent. -/
  txSeq : Nat
  unacked : List RwFrame
  /-- Messages waiting for room among the 64 unacknowledged frames. -/
  backlog : List Bytes
  /-- Last SEQ accepted in order. -/
  rxSeq : Nat
  /-- Retransmissions in a row without an acknowledgement. -/
  retries : Nat
  /-- An acknowledgement is due. -/
  ackDue : Bool
  /-- The partner uses this link as its upstream (R343). -/
  peerUp : Bool
  /-- Local count of the last frame heard, and of the last link HEARTBEAT sent. -/
  heardAt : Option Nat
  hbAt : Option Nat
  /-- Trail EtherType of the partner as its link HEARTBEATs show it (R357), and when the last of them came (R341). -/
  peerEtype : Nat
  partnerAt : Option Nat
  /-- Received frames waiting to be handled, oldest first. -/
  inbox : List Bytes
  deriving DecidableEq, Repr

/-- A request of the transmit ring waiting for its REG_RESP: TAG, destination, TYPE, and when it was sent (R352). -/
structure RwTag where
  tag : Nat
  dst : Nat
  ty : Nat
  sentAt : Nat
  deriving DecidableEq, Repr

/-- A TABLE_OP in the TAE host queue (R349): host position, originator, tag and the link of its answer. -/
structure RwTable where
  pos : Nat
  src : Nat
  tag : Nat
  deriving DecidableEq, Repr

/-- The Rootway block, beside the registers of page 0x078. -/
structure RwSt where
  link : NMap RwLink
  /-- Routes: device id to link (R344). -/
  route : NMap Nat
  /-- Pages with an enabled IRQ_STS bit risen since their last EVENT, and when that was sent (R350). -/
  evtPend : NSet
  evtAt : NMap Nat
  tags : List RwTag
  /-- Requests answered with TIMEOUT whose own answer has not come since, each with TAG and destination (R352). -/
  late : List (Nat × Nat)
  tables : List RwTable
  /-- Sequence of the last manager HEARTBEAT sent or first received, and its local count (R343, R346). -/
  hbSeq : Nat
  hbAt : Nat
  /-- Last sequence that arrived on the upstream; and the sequences that arrived on another link first and on the upstream
  not yet: sequence, link, HOPS and when, oldest first (R343). -/
  upSeq : Nat
  alt : List (Nat × Nat × Nat × Nat)
  /-- Local count of the last DISCOVER, and whether one is owed at once (R345). -/
  discAt : Nat
  discDue : Bool
  /-- Values of TR_SWITCH while it is busy (R358): port, TRAIL_EN, MAXLEN. -/
  trSwitch : Option (Nat × Bool × Nat)
  /-- Messages accepted for this device and not yet handled, oldest first, with the link each arrived on; 0 for one of
  its own (R339, R344). -/
  todo : List (Nat × Bytes)
  /-- Frames of the virtual link that X10 has no room for, oldest first (R17, R353). -/
  vwait : List Bytes
  deriving DecidableEq, Repr

/-! ### Heartwood, Sapwood and the host link (15) -/

/-- Where Heartwood's core stands between instruction boundaries (R391, R393, R400): at a boundary, in the cycle given of an
entry or of an exit, or in the cycle given of an exit that has chained. -/
inductive HicPhase where
  | run
  | entry (c : Nat)
  | exit (c : Nat)
  | chain (c : Nat)
  deriving DecidableEq, Repr

/-- One frame of Heartwood's core: the source of its handler, RP before the claim, and the time at which the handler returns
(R392, R400). -/
structure HicFrame where
  src : Nat
  rp : Nat
  fin : Nat
  deriving DecidableEq, Repr

/-- Heartwood's private interrupt controller (R400). -/
structure HicSt where
  /-- Edge latches of its 64 sources. -/
  latch : NSet
  /-- Claimed sources without an EOI yet. -/
  active : NSet
  /-- Running priority, 16 when nothing runs. -/
  rp : Nat
  /-- Frames held, innermost first. -/
  frames : List HicFrame
  phase : HicPhase
  deriving DecidableEq, Repr

/-- Heartwood (R362 to R375, R383, R384), beside the registers of page 0x003. -/
structure HwSt where
  /-- Slot that holds the staging area (R368). -/
  hold : Option Nat
  /-- Requests in progress by slot: opcode and request words (R372). -/
  req : NMap (Nat × List Nat)
  /-- An image stands in the inactive bank, ready for ACTIVATE. -/
  loaded : Bool
  /-- ENTRY and SVN of the image in each code bank (R367). -/
  entry : NMap Nat
  svn : NMap Nat
  /-- Heartwood's memory, 384 KB (R20); its top 32 KB are the protected part that keeps the HW_PATCH, of `patchLen` bytes
  (R370). -/
  mem : NMap Byte
  patchLen : Nat
  /-- The kept DIGEST of the patch and its SVN (R370, R375). -/
  digest : Nat
  patchSvn : Nat
  /-- SPI flash, bytes by address; an erased byte reads 0xFF (R371). -/
  flash : NMap Byte
  /-- OTP: SVN floors by kind, and revoked key ids (R368, R369). -/
  floor : NMap Nat
  /-- OTP steps of a kind that COMMIT_SVN has used, of 64 (R369). -/
  steps : NMap Nat
  revoked : NSet
  /-- Locks: bit 0 reactions, bit 1 behaviour level, bit 2 SMBus address (R363). -/
  locks : Nat
  smbAddr : Nat
  /-- Latest end of a Heartwood restart in progress (R375). -/
  downTill : Option Nat
  /-- The boot has stopped short of BOOT_DONE and waits for an image (R366). -/
  waiting : Bool
  /-- Time, by KCLK, of the last failed AVS transaction not yet repeated well (R384). -/
  avsAt : Option Nat
  /-- VDD_CORE target that TARGET_MV is being moved to, and when it last moved (R384). -/
  avsGoal : Nat
  avsMoved : Nat
  /-- Source 2 of page 0x1C8 was raised (R441). -/
  ageSaid : Bool
  /-- Time at which the sequences of the staggered start began (R432). -/
  startAt : Option Nat
  /-- Its private interrupt controller (R400). -/
  hic : HicSt
  /-- Place of the boot in its images: directory entry, byte offset of the CONFIG record in its payload, and the time by KCLK
  at which that record began to wait (R366, R370). -/
  bootEnt : Nat
  bootOff : Nat
  bootT : Option Nat
  /-- The boot leaves the ports disabled (R365, R366). -/
  noPorts : Bool
  /-- MAC pages whose PAGE_CTL a CONFIG image wrote (R365). -/
  cfgPages : NSet
  /-- Bytes of the last SMBus transfer, empty when it was not acknowledged: the model's own output. -/
  smbOut : Bytes
  deriving DecidableEq, Repr

/-- One Sapwood core (R373, R374, R389 to R393) (log entry 59, PRESUMED). -/
structure SapCore where
  halted : Bool
  pc : Nat
  status : Word
  /-- Stack pointer. -/
  sp : Nat
  /-- Argument registers a0 to a3, and t0 as key 4 (R392). -/
  a : NMap Word
  /-- Local memory, 256 KB (R374). -/
  mem : NMap Byte
  /-- Source of the handler of each frame held, innermost first (R389, R391). -/
  frames : List Nat
  /-- Local count of the last kick or start (R373). -/
  kickAt : Nat
  /-- The core has kicked since its start (R374). -/
  kicked : Bool
  /-- A write of the core was refused and a bus-error exception raised in it (R364). -/
  busErr : Bool
  deriving DecidableEq, Repr

/-- Sapwood (R364, R373, R374, R376, R331). -/
structure SapSt where
  core : NMap SapCore
  /-- Sapwood shared memory, 6,784 KB (R364). -/
  mem : NMap Byte
  /-- Cores waiting for their turn to restart, and the core whose start they wait for (R374). -/
  restart : List Nat
  started : Option Nat
  /-- Commands taken from the API command ring, and responses written (R376). -/
  apiHead : Nat
  apiTail : Nat
  /-- Learning configuration: table and offset of the forwarding word in the action (R331; log entry
  110, DESIGN CHOICE). -/
  learn : List (Nat × Nat)
  /-- LEARN notices whose INSERT is posted and not yet answered, oldest first (R331). -/
  learning : List Nat
  /-- Ports whose learned entries the firmware is deleting, oldest first (R331). -/
  flush : List Nat
  /-- Flow Cache notices whose flow contexts the firmware is reading, with the bytes read, oldest first (R165). -/
  flow : List (Nat × Bytes)
  /-- Sessions the firmware has added: BFD s, and 65,536 + m for MEP m (R324, R328). -/
  sessions : NSet
  deriving DecidableEq, Repr

/-- The host link (R377 to R382), beside its registers. -/
structure HostSt where
  /-- Messages sent by MSI-X vector: the model's own output. -/
  msix : NMap Nat
  /-- Local count of each ring's last message; transmit ring i is i, receive ring i is 16 + i (R382). -/
  msgAt : NMap Nat
  /-- Rings with a message held back by ITR_US (R382). -/
  msgHeld : NSet
  /-- Transmit ring served last (R379). -/
  lastTx : Nat
  /-- Rate and width the link trained at: generation 1 to 5 and lanes 4, 2 or 1, 0 while it is down (R377). -/
  gen : Nat
  width : Nat
  /-- Writes to host memory by the last command that made any: the model's own output. -/
  dma : List (Nat × Bytes)
  deriving DecidableEq, Repr

/-! ### Interrupt controller (16) -/

/-- The controller's source states (R388). -/
structure IcSt where
  /-- Edge latches. -/
  latch : NSet
  /-- Claimed sources without an EOI yet, as source × 4 + core. -/
  active : NSet
  /-- The pointer that rotates at every claim (R390). -/
  ptr : Nat
  /-- Claims of a source by two cores in one MCLK already decided, by the core whose own claim is still to come: that MCLK, and
  the source it receives (R390). -/
  won : NMap (Nat × Nat)
  /-- Configuration an ACTIVE source keeps until its EOI, where IC_SRC_CFG has changed since its claim (R399). -/
  cfg : NMap Nat
  /-- Expiry of each running core timer by the local count. -/
  timer : NMap Nat
  deriving DecidableEq, Repr

/-! ### Pins, clocks, JTAG (18, 19) -/

/-- JTAG instructions (R459). -/
inductive Jtag where
  | bypass | idcode | samplePreload | extest | clamp | highz
  deriving DecidableEq, Repr

/-- Straps (R431). -/
structure Straps where
  mode : Nat
  boot : Nat
  bpgen : Nat
  lngen : Nat
  deriving DecidableEq, Repr

/-- Pins, supplies and reference clocks (R425 to R431, R442, R459, R463). -/
structure PinSt where
  /-- Levels of the strap balls; `State.straps` holds them as sampled (R431). -/
  straps : Straps
  /-- VDD_KEEP at or above 90 % of nominal; RST_N, PCIE_PERST_N and TEST_EN levels. -/
  keep : Bool
  rstN : Bool
  perstN : Bool
  testEn : Bool
  /-- Time, by KCLK, since which both RST_N and PCIE_PERST_N are high (R430). -/
  bothSince : Nat
  pcieUp : Bool
  /-- KEEPCLK runs (R422). -/
  keepClk : Bool
  alive : Bool
  /-- Time, by KCLK, from which the next ALIVE edge is counted (R421). -/
  aliveAt : Nat
  /-- FAULT_N and THERM_TRIP_N are driven low. -/
  fault : Bool
  trip : Bool
  jtag : Jtag
  /-- What the selected data register last captured; none before the first instruction. -/
  dr : Option Nat
  /-- The boundary cells' update latches, which EXTEST and CLAMP drive (R459). -/
  cells : Nat
  /-- Reference inputs judged lost, those now present again with the time by KCLK, and whether the first verdict was
  given (R463). -/
  lost : NSet
  back : NMap Nat
  verdict : Bool
  deriving DecidableEq, Repr

/-! ### The whole machine -/


/-- The state of the device and of the commands waiting for it. -/
structure State where
  /-- Commands waiting, first in first out. -/
  pending : List Instr
  /-- Selects the next free value (log entry 6, DESIGN CHOICE): the model's own counter. -/
  freeCtr : Nat
  straps : Straps
  bus : BusSt
  time : TimeSt
  ports : PortsSt
  disp : DispSt
  grv : GrvSt
  pgu : PguSt
  ctx : CtxSt
  store : StoreSt
  clr : ClrSt
  sch : SchSt
  gate : GateSt
  ep : EpSt
  emt : EmtSt
  thk : ThkSt
  tae : TaeSt
  lko : LkoSt
  svc : SvcSt
  rw : RwSt
  hw : HwSt
  sap : SapSt
  host : HostSt
  ic : IcSt
  pin : PinSt
  deriving DecidableEq, Repr

/-- Why the machine would stop with a fault. -/
inductive Fault where
  /-- Raised by no meaning: the manual stops the block for nothing (safe). -/
  | none
  deriving DecidableEq, Repr

/-- Why a command has no meaning. -/
inductive Refusal where
  /-- Raised by the dispatch for a command not modelled; the string is its mnemonic (safe). -/
  | notModelled (mnemonic : String)
  deriving DecidableEq, Repr

/-! ### The state after reset (R429) -/

/-- The register bus after reset: no word differs from its reset value. -/
def busReset : BusSt :=
  { regs := [], old := [], oldAt := [], shadow := [], even := [], odd := [], bound := [], ctr := [], snap := [], taking := [], hold := [],
    rdata := 0, rdataHi := 0 }

/-- The zero of the time counter. -/
def tZero : Tstamp := ⟨0, 0, 0⟩

/-- Clocks and time after reset (R306, R313). -/
def timeReset : TimeSt :=
  { kclk := 0, cclk := 0, now := tZero, trefSince := none, ratio := false, tref25Written := false, fifo := [], ppsEnd := none,
    ppsLast := 0 }

/-- Dispatch after reset: nothing in flight. -/
def dispStReset : DispSt :=
  { passes := [], nextPass := 0, age := [], nextAge := 0, queue := [], last := 0, order := [], restarts := [], excQ := [] }

/-- Groves after reset: control stores clear until the boot installs the ROM image (R432, R366). -/
def grvReset : GrvSt :=
  { cs := [], csBad := [], csZero := [], rom := false, scrub := [], csRead := [], threads := [], scratch := [], last := [], handoff := [],
    disp := [], tmpl := [], drainAt := [], cross := [] }

/-- Parse graph and Fragment Memory after reset. -/
def pguReset : PguSt :=
  { nodes := [], trans := [], rom := false, nodeBad := [], transBad := [], frag := [], fragAt := [], held := [],
    cmd := none }

/-- Clearing after reset: no cell is on a list until the lists are filled (R254). -/
def clrReset : ClrSt :=
  { cells := [], info := [], free := [], fillAt := none, popped := [], pushed := [], reqLast := none, last := [], release := [], desc := [], residue := [],
    resSeq := 0, resNext := 0, mirCnt := [], retired := [], audit := [] }

/-- Exact-match state after reset: the eviction register is 0xACE1 (R137). -/
def emtReset : EmtSt :=
  { data := [], tag := [], ovf := [], ovfTag := [], lfsr := 0xACE1, lq := [], filter := [], sweepAt := [] }

/-- Thicket state after reset. -/
def thkReset : ThkSt := { rows := [], repair := [], rr := [], slots := [], shifts := [], scrub := 0 }

/-- Table Access Engine after reset: both queues empty, the completion window 0 (R54). -/
def taeReset : TaeSt :=
  { sub := [], comp := [], hostAt := [], hostDone := 0, sapQ := [], sapC := [], sapDone := 0, exec := [] }

/-- Lookout after a cold reset with an OTP that holds no repair record. -/
def lkoReset : LkoSt :=
  { cap := [], own := [], win := [], track := [], echoEnd := [], disabled := [], remapQ := [], spares := [], island := [],
    otpWait := [], otp := [], bad := [] }

/-- Service timers after reset. -/
def svcReset : SvcSt :=
  { entry := [], next := [], fired := [], draws := 0, outstanding := [], fifo := [], lastAt := 0, mep := [] }

/-- Rootway after reset. -/
def rwReset : RwSt :=
  { link := [], route := [], evtPend := [], evtAt := [], tags := [], late := [], tables := [], hbSeq := 0, hbAt := 0, upSeq := 0,
    alt := [], discAt := 0, discDue := false, trSwitch := none, todo := [], vwait := [] }

/-- Heartwood's interrupt controller after reset. -/
def hicReset : HicSt := { latch := [], active := [], rp := 16, frames := [], phase := .run }

/-- Heartwood after a cold reset: nothing loaded, no locks, SMBus address 0x5C (R383, R429); flash erased, OTP blank (log
entry 10, DESIGN CHOICE). -/
def hwReset : HwSt :=
  { hold := none, req := [], loaded := false, entry := [], svn := [], mem := [], patchLen := 0, digest := 0, patchSvn := 0, flash := [],
    floor := [], steps := [], revoked := [], locks := 0, smbAddr := 0x5C, downTill := none, waiting := false, avsAt := none,
    avsGoal := 0, avsMoved := 0, ageSaid := false, startAt := none, hic := hicReset, bootEnt := 0, bootOff := 0, bootT := none, noPorts := false, cfgPages := [], smbOut := [] }

/-- Sapwood after reset: every core halted, shared memory clear. -/
def sapReset : SapSt :=
  { core := [], mem := [], restart := [], started := none, apiHead := 0, apiTail := 0, learn := [], learning := [],
    flush := [], flow := [], sessions := [] }

/-- The host link after reset. -/
def hostReset : HostSt := { msix := [], msgAt := [], msgHeld := [], lastTx := 15, gen := 0, width := 0, dma := [] }

/-- The interrupt controller after reset. -/
def icReset : IcSt := { latch := [], active := [], ptr := 0, won := [], cfg := [], timer := [] }

/-- Straps left open read 0: Standalone, FLASH boot, 10GBASE-KR and 25GAUI (R431). -/
def strapsOpen : Straps := ⟨0, 0, 0, 0⟩

/-- Pins after reset: supplies in order, RST_N and PCIE_PERST_N high, TEST_EN low, FAULT_N and THERM_TRIP_N released,
ALIVE low (R430; log entry 10, DESIGN CHOICE). -/
def pinReset : PinSt :=
  { straps := strapsOpen, keep := true, rstN := true, perstN := true, testEn := false, bothSince := 0, pcieUp := false,
    keepClk := true, alive := false, aliveAt := 0, fault := false, trip := false, jtag := .idcode, dr := none, cells := 0, lost := [], back := [],
    verdict := false }

/-- The device right after a cold reset with its straps open, before the boot of R366 has run: every register at its
reset value but DEV_RST_STS, which gives the cause 1 (R428), every memory and queue empty. -/
def State.reset : State :=
  { pending := [], freeCtr := 0, straps := strapsOpen,
    bus := { busReset with regs := [(0x4C, 1)] },
    time := timeReset, ports := ⟨[]⟩, disp := dispStReset, grv := grvReset, pgu := pguReset, ctx := ⟨[], [], []⟩,
    store := ⟨[], [], [], [], []⟩, clr := clrReset, sch := ⟨[], [], [], [], [], []⟩, gate := ⟨[], [], [], []⟩,
    ep := ⟨[], 0, 0, 0, none⟩, emt := emtReset, thk := thkReset, tae := taeReset, lko := lkoReset, svc := svcReset,
    rw := rwReset, hw := hwReset, sap := sapReset, host := hostReset, ic := icReset, pin := pinReset }

end Sys2Proof.Machine
end

