-- ==== Sys2Proof/Machine/Pages.lean ====
section
/-!
DEFINITION. The register pages: page kinds (R35), headers (R37), capabilities (R464) and the value of every register
at reset.
-/

namespace Sys2Proof.Machine
open Sys2Proof

/-- Byte address of a page offset (R33). -/
def pa (page off : Nat) : Nat := page * 4096 + off

/-- Page of a BAR0 byte address. -/
def pageOf (a : Nat) : Nat := a / 4096

/-- Page offset of a BAR0 byte address. -/
def offOf (a : Nat) : Nat := a % 4096

/-- The MAC page of port p, 0 to 255 (R61). -/
def macPage (p : Nat) : Nat := 0x080 + p

/-- The page of Grove g (R35). -/
def grvPage (g : Nat) : Nat := 0x020 + g

/-- Kind of a page, by R35; BAR2's ring and MSI-X blocks follow BAR0 as pages 0x4000 to 0x4009. -/
def kindOf (page : Nat) : Option PageKind :=
  if page = 0x000 then some .dev
  else if page = 0x001 then some .lko
  else if page = 0x002 then some .ic
  else if page = 0x003 then some .hmb
  else if page = 0x004 then some .sap0
  else if page < 0x004 then none
  else if page ≤ 0x007 then some .sap
  else if page = 0x010 then some .pgu
  else if page < 0x020 then none
  else if page ≤ 0x03F then some .grv
  else if page = 0x040 then some .emt
  else if page = 0x041 then some .tae
  else if page = 0x048 then some .thk0
  else if page < 0x048 then none
  else if page ≤ 0x04F then some .thk
  else if page = 0x050 then some .clr
  else if page = 0x051 then some .wp
  else if page = 0x058 then some .mc
  else if page = 0x060 then some .sch
  else if page = 0x061 then some .rc
  else if page = 0x062 then some .pol
  else if page = 0x068 then some .gate
  else if page = 0x070 then some .ptp
  else if page = 0x078 then some .rw
  else if page < 0x080 then none
  else if page ≤ 0x0FF then some .lmac
  else if page ≤ 0x17F then some .bmac
  else if page ≤ 0x19F then (if page % 2 = 0 then some .sdql else some .sdl)
  else if page ≤ 0x1BF then (if page % 2 = 0 then some .sdqb else some .sdl)
  else if page = 0x1C0 then some .pcie
  else if page = 0x1C8 then some .pt
  else if page = 0x1D0 then some .clk
  else if page = 0x4000 then some .txr
  else if page = 0x4001 then some .rxr
  else if page = 0x4008 then some .msix
  else if page = 0x4009 then some .pba
  else none

/-- Whether a page opens with the header of R37; the BAR2 blocks do not. -/
def hasHeader (page : Nat) : Bool := page < 0x1000 && (kindOf page).isSome

/-- PAGE_ID.TYPE and the first page of the range (R35). -/
def pageType (page : Nat) : Nat × Nat :=
  match kindOf page with
  | none => (0, page)
  | some .dev => (0x0001, page)
  | some .lko => (0x0002, page)
  | some .ic => (0x0003, page)
  | some .hmb => (0x0004, page)
  | some .sap0 | some .sap => (0x0005, 0x004)
  | some .pgu => (0x0010, page)
  | some .grv => (0x0011, 0x020)
  | some .emt => (0x0020, page)
  | some .tae => (0x0021, page)
  | some .thk0 | some .thk => (0x0022, 0x048)
  | some .clr => (0x0030, page)
  | some .wp => (0x0031, page)
  | some .mc => (0x0032, page)
  | some .sch => (0x0040, page)
  | some .rc => (0x0041, page)
  | some .pol => (0x0042, page)
  | some .gate => (0x0043, page)
  | some .ptp => (0x0050, page)
  | some .rw => (0x0058, page)
  | some .lmac => (0x0060, 0x080)
  | some .bmac => (0x0061, 0x100)
  | some .sdql => (0x0068, 0x180)
  | some .sdqb => (0x0069, 0x1A0)
  | some .sdl => if page < 0x1A0 then (0x0068, 0x180) else (0x0069, 0x1A0)
  | some .pcie => (0x0070, page)
  | some .pt => (0x0078, page)
  | some .clk => (0x0079, page)
  | some .txr | some .rxr | some .msix | some .pba => (0, page)

/-- Capability bits [5:0] of PAGE_CAP: QUIESCE, RESET, STAGED, EPOCH, SNAP, INJECT from bit 0 (R37, R464). -/
def capBits (page : Nat) : Nat :=
  match kindOf page with
  | none => 0
  | some .dev => 0b110000
  | some .lko => 0b010000
  | some .ic => 0b110000
  | some .hmb => 0b100000
  | some .sap0 | some .sap => 0
  | some .pgu => 0b110011
  | some .grv => 0b110011
  | some .emt => 0b110010
  | some .tae => 0b000010
  | some .thk0 => 0b110010
  | some .thk => 0b100000
  | some .clr => 0b110000
  | some .wp => 0b100000
  | some .mc => 0b111100
  | some .sch | some .rc => 0b110000
  | some .pol => 0b111100
  | some .gate | some .ptp | some .rw => 0b110000
  | some .lmac | some .bmac => 0b110011
  | some .sdql | some .sdqb => 0b100000
  | some .sdl => 0
  | some .pcie => 0b010000
  | some .pt | some .clk => 0b100000
  | some .txr | some .rxr | some .msix | some .pba => 0

def capQuiesce (page : Nat) : Bool := (capBits page).testBit 0
def capReset (page : Nat) : Bool := (capBits page).testBit 1
def capStaged (page : Nat) : Bool := (capBits page).testBit 2
def capEpoch (page : Nat) : Bool := (capBits page).testBit 3
def capSnap (page : Nat) : Bool := (capBits page).testBit 4
def capInject (page : Nat) : Bool := (capBits page).testBit 5

/-- PAGE_CAP.BLOCK_CAP (R69); 0 where no chapter gives bits. Bits 16 to 18 of the word are bits 0 to 2 of the field. -/
def blockCap (page : Nat) : Nat :=
  match kindOf page with
  | some .bmac => 0b111
  | _ => 0

/-- PAGE_CTL.ENABLE after reset (R464): 0 on the MAC pages only. -/
def enableReset (page : Nat) : Nat :=
  match kindOf page with
  | some .lmac | some .bmac => 0
  | _ => 1

/-- Header offsets (R37). -/
abbrev offCtl : Nat := 0x008
abbrev offSts : Nat := 0x00C

/-- The header word of a page at reset (R37, R464). -/
def headerReset (page off : Nat) : Nat :=
  if off = 0x000 then (pageType page).1 * 65536 + (page - (pageType page).2) * 256 + 1
  else if off = 0x004 then blockCap page * 65536 + capBits page
  else if off = 0x008 then enableReset page
  else if off = 0x020 then 1000
  else if off = 0x024 then 64 + 4 * 256
  else 0

/-- Whether a register row holds the word at an offset. -/
def rowHolds (off : Nat) (r : RegRow) : Bool :=
  if r.n ≤ 1 then off == r.off
  else r.off ≤ off && off < r.off + r.stride * r.n && (off - r.off) % r.stride == 0

/-- The first row of a list that holds an offset. -/
def rowFind (off : Nat) : List RegRow → Option RegRow
  | [] => none
  | r :: rs => if rowHolds off r then some r else rowFind off rs

/-- The table row of the register word at a byte address; none where no register is allocated (R34). -/
def rowAt (a : Nat) : Option RegRow :=
  match kindOf (pageOf a) with
  | none => none
  | some k =>
    if hasHeader (pageOf a) && offOf a < 0x40 then rowFind (offOf a) rowsHdr
    else rowFind (offOf a) (rowsOf k)

/-- The reset word of a register row, from its fields. -/
def rowReset : List FieldRow → Nat
  | [] => 0
  | f :: fs => f.rst * 2 ^ f.lo + rowReset fs

/-- The fused starting target of VDD_CORE in mV, of the die, between 720 and 780 (R451; log entry 4, DESIGN CHOICE). -/
def startMv : Nat := 720 + Config.fusedMv % 61

/-- PORT_MODE of port p from the straps (R65). -/
def strapMode (st : Straps) (p : Nat) : Nat :=
  if p < 128 then
    match st.lngen with
    | 0 => 0x02
    | 1 => 0x04
    | 2 => 0x05
    | _ => if p % 4 = 0 then 0x07 else 0
  else
    match st.bpgen with
    | 0 => 0x10
    | 1 => 0x11
    | 2 => if p % 4 = 0 then 0x12 else 0
    | 3 => 0x13
    | 4 => if p % 4 = 0 then 0x14 else 0
    | 5 => 0x16
    | 6 => if p % 4 = 0 then 0x19 else 0
    | _ => 0x1F

/-- Reset word w of a limit profile (R263). -/
def profReset (w : Nat) : Nat :=
  if w < 8 then 16384
  else if w = 8 then 49152
  else if w = 9 then 49152
  else if w = 10 then 32768
  else if w = 11 then 28672
  else if w < 20 then 8192
  else if w < 28 then 6144
  else 0

/-- Reset word of LKO_REACT_a (R412): UC_P, UC, CE_P, CE from the top. -/
def reactReset (a : Nat) : Nat :=
  if a < 32 then 3 * 4096 + 1 * 256 + 1 * 16
  else if a < 61 then 1 * 4096 + 1 * 256 + 1 * 16
  else 0

/-- Device id after reset (R335): the strap mode decides it. -/
def idReset (st : Straps) : Nat := if st.mode = 1 then 1 else 0

/-- The value of a register word at reset: the manual's reset column, with the rows it gives by rule
(log entry 63, DEDUCED). -/
def regReset (st : Straps) (a : Nat) : Word :=
  let page := pageOf a
  let off := offOf a
  BitVec.ofNat 32
    (if hasHeader page && off < 0x40 then headerReset page off
     else match kindOf page, rowAt a with
      | _, none => 0
      | none, _ => 0
      | some k, some r =>
        match k with
        | .lmac => if off = offMAC_CFG then strapMode st (page - 0x080) else rowReset r.fields
        | .bmac => if off = offMAC_CFG then strapMode st (page - 0x080) else rowReset r.fields
        | .clr =>
          if 0x100 ≤ off && off < 0x500 then profReset ((off - 0x100) / 4 % 32) else rowReset r.fields
        | .lko => if 0x100 ≤ off && off < 0x200 then reactReset ((off - 0x100) / 4) else rowReset r.fields
        | .ic =>
          -- sources 1 to 19 are edge sources (R386)
          if 0x400 ≤ off && off < 0x800 then
            let s := (off - 0x400) / 2
            let half (q : Nat) : Nat := 15 + (if 1 ≤ q && q ≤ 19 then 256 else 0)
            half s + 65536 * half (s + 1)
          else rowReset r.fields
        | .dev =>
          if off = offDEV_STRAP then st.mode + 4 * st.boot + 16 * st.bpgen + 128 * st.lngen
          else if off = offDEV_ID then 0x8800 * 65536 + Config.stepping % 256 * 256
          else if off = offDEV_BL then Nat.max 1 (Config.highest % 16)
          else rowReset r.fields
        | .rw =>
          if off = offRW_ID then idReset st + 2 ^ 30 * st.mode + (if st.mode = 3 then 2 ^ 28 else 0) else rowReset r.fields
        | .hmb => if off = offHW_BOOT_STS then st.boot * 2 ^ 26 else rowReset r.fields
        | .msix => if off % 16 = 12 then 1 else 0
        -- the target in use starts at the fused one (R460)
        | .pt => if off = offPT_AVS then startMv * 65536 + startMv else rowReset r.fields
        | _ => rowReset r.fields)

/-- The 64-bit counter at a byte address, if one is allocated there (R47); its low word's address. -/
def ctrFind (off : Nat) : List (Nat × Nat × Nat) → Bool
  | [] => false
  | (b, st, n) :: cs =>
    (if n ≤ 1 then off == b else b ≤ off && off < b + st * n && (off - b) % st == 0) || ctrFind off cs

/-- Whether a 64-bit counter's low word lies at a byte address. -/
def isCounter (a : Nat) : Bool :=
  match kindOf (pageOf a) with
  | none => false
  | some k => ctrFind (offOf a) (countersOf k)

end Sys2Proof.Machine
end

