-- ==== Sys2Proof/Machine/Ops.lean ====
section
/-!
DEFINITION. The named operations over the register pages, counters, interrupts, time and reports that every meaning
uses.
-/

namespace Sys2Proof.Machine
open Sys2Proof

/-! ### Registers (R33 to R41) -/

/-- The register word at a byte address, as its home holds it. -/
def reg (s : State) (a : Nat) : Word := mget (regReset s.straps) s.bus.regs a

/-- The register word as the block sees it: a class L value not yet applied is still the old one (R40). -/
def live (s : State) (a : Nat) : Word := (mfind s.bus.old a).getD (reg s a)

/-- Field of a register word. -/
def regF (s : State) (a : Nat) (f : Fld) : Nat := fget (reg s a) f

/-- Field of a register word as the block sees it (R40). -/
def liveF (s : State) (a : Nat) (f : Fld) : Nat := fget (live s a) f

/-- Field read as a flag. -/
def regB (s : State) (a : Nat) (f : Fld) : Bool := fbit (reg s a) f

/-- Field as the block sees it, read as a flag. -/
def liveB (s : State) (a : Nat) (f : Fld) : Bool := fbit (live s a) f

/-- Writes the home of a register word. -/
def setReg (a : Nat) (v : Word) (s : State) : State :=
  { s with bus := { s.bus with regs := mset (regReset s.straps) s.bus.regs a v } }

/-- Writes a field of a register word. -/
def setRegF (a : Nat) (f : Fld) (v : Nat) (s : State) : State := setReg a (fset (reg s a) f v) s

/-- Sets or clears a one-bit field. -/
def setRegB (a : Nat) (f : Fld) (b : Bool) (s : State) : State := setRegF a f (if b then 1 else 0) s

/-- The block still holds `keep` where the register now reads `v`; the time of the write is kept with it (R40). -/
def noteOld (a : Nat) (keep v : Word) (s : State) : State :=
  { s with bus := { s.bus with old := if keep = v then mdel s.bus.old a else mput s.bus.old a keep,
                               oldAt := if keep = v then mdel s.bus.oldAt a else mput s.bus.oldAt a s.time.cclk } }

/-- Writes a class L register word: a read sees it at once, the block at its next unit boundary (R40). -/
def writeLive (a : Nat) (v : Word) (s : State) : State :=
  let keep := live s a
  noteOld a keep v (setReg a v s)

/-- The block takes up the value a register reads (R40). -/
def applyLive (a : Nat) (s : State) : State :=
  { s with bus := { s.bus with old := mdel s.bus.old a, oldAt := mdel s.bus.oldAt a } }

/-- Page-local forms. -/
abbrev dev : Nat := 0x000
abbrev pgLko : Nat := 0x001
abbrev pgIc : Nat := 0x002
abbrev pgHmb : Nat := 0x003
abbrev pgSap : Nat := 0x004
abbrev pgPgu : Nat := 0x010
abbrev pgEmt : Nat := 0x040
abbrev pgTae : Nat := 0x041
abbrev pgThk : Nat := 0x048
abbrev pgClr : Nat := 0x050
abbrev pgWp : Nat := 0x051
abbrev pgMc : Nat := 0x058
abbrev pgSch : Nat := 0x060
abbrev pgRc : Nat := 0x061
abbrev pgPol : Nat := 0x062
abbrev pgGate : Nat := 0x068
abbrev pgPtp : Nat := 0x070
abbrev pgRw : Nat := 0x078
abbrev pgPcie : Nat := 0x1C0
abbrev pgPt : Nat := 0x1C8
abbrev pgClk : Nat := 0x1D0
abbrev pgTxr : Nat := 0x4000
abbrev pgRxr : Nat := 0x4001
abbrev pgMsix : Nat := 0x4008
abbrev pgPba : Nat := 0x4009

/-- PAGE_CTL fields of a page. -/
def enabled (s : State) (page : Nat) : Bool := regB s (pa page offCtl) fPAGE_CTL_ENABLE
def quiesceReq (s : State) (page : Nat) : Bool := regB s (pa page offCtl) fPAGE_CTL_QUIESCE

/-- Step 6 of the boot is over (R366). -/
def bootDone (s : State) : Bool := regB s (pa pgHmb offHW_BOOT_STS) fHW_BOOT_STS_BOOT_DONE

/-- Pages that work before the staggered start: Device, Lookout, interrupt controller, mailbox, PCIe, power, clocks and the
BAR2 blocks (R430; log entry 22, DEDUCED). -/
def islandPage (page : Nat) : Bool :=
  page ≤ 0x003 || page == pgPcie || page == pgPt || page == pgClk || 0x1000 ≤ page

/-- Microseconds from the beginning of the staggered start to the start of a page's unit (R432): Groves and Thicket banks every
20 µs, SerDes quads every 10 µs, the others with the first BCLK (log entry 77, DEDUCED). -/
def unitDelay (page : Nat) : Nat :=
  if 0x020 ≤ page && page ≤ 0x03F then 20 * (page - 0x020 + 1)
  else if 0x180 ≤ page && page ≤ 0x1BF then 10 * ((page - 0x180) / 2 + 1)
  else if 0x048 ≤ page && page ≤ 0x04F then 20 * (page - 0x048 + 1)
  else 0

/-- A page whose block has not yet started (R430, R432): step 2 of R366 has not reached its unit. -/
def notStarted (s : State) (page : Nat) : Bool :=
  !islandPage page && !bootDone s &&
  decide (regF s (pa pgHmb offHW_BOOT_STS) fHW_BOOT_STS_STEP < 3) &&
  (match s.hw.startAt with | none => true | some t => decide (s.time.kclk < t + unitDelay page * 3000))

/-- PAGE_STS fields of a page. -/
def inReset (s : State) (page : Nat) : Bool := regB s (pa page offSts) fPAGE_STS_IN_RESET || notStarted s page
def quiesced (s : State) (page : Nat) : Bool := regB s (pa page offSts) fPAGE_STS_QUIESCED
def commitPending (s : State) (page : Nat) : Bool := regB s (pa page offSts) fPAGE_STS_COMMIT_PENDING

/-- RUNNING: ENABLE is 1, QUIESCE is 0 and IN_RESET is 0 (R37). -/
def running (s : State) (page : Nat) : Bool := enabled s page && !quiesceReq s page && !inReset s page

/-- A class Q field may change: ENABLE is 0 or QUIESCED is 1 (R43). -/
def quiet (s : State) (page : Nat) : Bool := !enabled s page || quiesced s page

/-- WRITE_REFUSED reasons (R38). -/
abbrev reasonQuiet : Nat := 1
abbrev reasonEncoding : Nat := 2
abbrev reasonCommitBusy : Nat := 3
abbrev reasonBound : Nat := 4
abbrev reasonInReset : Nat := 5
abbrev reasonSize : Nat := 6
abbrev reasonSnapBusy : Nat := 7
abbrev reasonLocked : Nat := 8

/-- Records a refused write: the first since REFUSED was cleared with offset and reason, later ones set MORE (R39). -/
def refuse (page off reason : Nat) (s : State) : State :=
  let a := pa page offWRITE_REFUSED
  if regB s (pa page offSts) fPAGE_STS_REFUSED then setRegB a fWRITE_REFUSED_MORE true s
  else
    setRegB (pa page offSts) fPAGE_STS_REFUSED true
      (setReg a (fset (fset 0 fWRITE_REFUSED_REASON reason) fWRITE_REFUSED_OFFSET off) s)

/-! ### Counters (R47) -/

/-- The largest value of a 64-bit counter. -/
def maxCtr : Nat := 2 ^ 64 - 1

/-- A counter. -/
def ctr (s : State) (a : Nat) : Nat := mget (fun _ => 0) s.bus.ctr a

/-- Writes a counter. -/
def setCtr (a v : Nat) (s : State) : State :=
  { s with bus := { s.bus with ctr := mset (fun _ => 0) s.bus.ctr a v } }

/-- Adds to a counter, saturating at 2^64 - 1. -/
def ctrAdd (page off n : Nat) (s : State) : State :=
  setCtr (pa page off) (Nat.min maxCtr (ctr s (pa page off) + n)) s

/-- Counts one event. -/
def count (page off : Nat) (s : State) : State := ctrAdd page off 1 s

/-! ### Interrupts (R387, R398) -/

/-- The interrupt source of a page (R386). -/
def irqSource (page : Nat) : Nat :=
  if page ≤ 0x007 then 32 + page
  else if page = 0x010 then 40
  else if page = 0x040 then 41
  else if page = 0x041 then 42
  else if 0x048 ≤ page && page ≤ 0x04F then 43 + (page - 0x048)
  else if page = 0x050 then 51
  else if page = 0x051 then 52
  else if page = 0x058 then 53
  else if page = 0x060 then 54
  else if page = 0x061 then 55
  else if page = 0x062 then 56
  else if page = 0x068 then 57
  else if page = 0x070 then 58
  else if page = 0x078 then 59
  else if page = 0x1C0 then 60
  else if page = 0x1C8 then 61
  else if page = 0x1D0 then 62
  else if 0x020 ≤ page && page ≤ 0x03F then 160 + (page - 0x020)
  else if 0x180 ≤ page && page ≤ 0x1BF then 192 + (page - 0x180)
  else if 0x080 ≤ page && page ≤ 0x17F then 256 + (page - 0x080)
  else 0

/-- The page of an interrupt source, for the page sources of R386. -/
def irqPage (src : Nat) : Option Nat :=
  if 32 ≤ src && src ≤ 39 then some (src - 32)
  else if src = 40 then some 0x010
  else if src = 41 then some 0x040
  else if src = 42 then some 0x041
  else if 43 ≤ src && src ≤ 50 then some (0x048 + (src - 43))
  else if src = 51 then some 0x050
  else if src = 52 then some 0x051
  else if src = 53 then some 0x058
  else if src = 54 then some 0x060
  else if src = 55 then some 0x061
  else if src = 56 then some 0x062
  else if src = 57 then some 0x068
  else if src = 58 then some 0x070
  else if src = 59 then some 0x078
  else if src = 60 then some 0x1C0
  else if src = 61 then some 0x1C8
  else if src = 62 then some 0x1D0
  else if 160 ≤ src && src ≤ 191 then some (0x020 + (src - 160))
  else if 192 ≤ src && src ≤ 255 then some (0x180 + (src - 192))
  else if 256 ≤ src && src ≤ 511 then some (0x080 + (src - 256))
  else none

/-- The line of a page source: IRQ_STS AND IRQ_EN nonzero (R387). -/
def irqLine (s : State) (page : Nat) : Bool :=
  (reg s (pa page offIRQ_STS) &&& live s (pa page offIRQ_EN)) != 0

/-- The mapping byte of a source in the host event page (R398). -/
def hevMap (s : State) (src : Nat) : Nat :=
  natField (live s (pa pgPcie (0x200 + 4 * (src / 4)))).toNat (8 * (src % 4) + 7) (8 * (src % 4))

/-- Whether vector v is SENT (R398). -/
def hevSent (s : State) (v : Nat) : Bool :=
  (reg s (pa pgPcie (offHEV_SENT + 4 * (v / 32)))).toNat.testBit (v % 32)

/-- Sets the state of vector v. -/
def setHevSent (v : Nat) (b : Bool) (s : State) : State :=
  let a := pa pgPcie (offHEV_SENT + 4 * (v / 32))
  setReg a (BitVec.ofNat 32 (natSetBit (reg s a).toNat (v % 32) b)) s

/-- Requests the message of an MSI-X vector: sent when its table entry is unmasked, else its pending bit is set (R382). -/
def msixSend (v : Nat) (s : State) : State :=
  if (reg s (pa pgMsix (16 * v + 12))).toNat.testBit 0 then
    let a := pa pgPba (4 * (v / 32))
    setReg a (BitVec.ofNat 32 (natSetBit (reg s a).toNat (v % 32) true)) s
  else
    { s with host := { s.host with msix := mset (fun _ => 0) s.host.msix v (mget (fun _ => 0) s.host.msix v + 1) } }

/-- A vector in IDLE whose mapped source's line is asserted sends one message and becomes SENT (R398). -/
def hevSample (page : Nat) (s : State) : State :=
  let src := irqSource page
  let m := hevMap s src
  if 32 ≤ src && m.testBit 7 && irqLine s page && !hevSent s (m % 64) then
    msixSend (m % 64) (setHevSent (m % 64) true s)
  else s

/-- The 16-bit configuration of an interrupt source (IC_SRC_CFG). -/
def srcWritten (s : State) (q : Nat) : Nat :=
  natField (live s (pa pgIc (0x400 + 4 * (q / 2)))).toNat (16 * (q % 2) + 15) (16 * (q % 2))

/-- The configuration in force: an ACTIVE source keeps the one it was claimed with until its EOI (R399). -/
def srcCfg (s : State) (q : Nat) : Nat := (mfind s.ic.cfg q).getD (srcWritten s q)

/-- EN, TRIG, TARGET and PRIO of a source; sources 1 to 19 are edge sources (R386, R388). TRIG is no part of what R399
holds back. -/
def srcEn (s : State) (q : Nat) : Bool := (srcCfg s q).testBit 9
def srcEdge (s : State) (q : Nat) : Bool := (1 ≤ q && q ≤ 19) || (srcWritten s q).testBit 8
def srcTarget (s : State) (q : Nat) : Nat := natField (srcCfg s q) 7 4
def srcPrio (s : State) (q : Nat) : Nat := srcCfg s q % 16

/-- An edge of a source: latched while EN is 1 (R388). -/
def icEdge (q : Nat) (s : State) : State :=
  if srcEn s q then { s with ic := { s.ic with latch := nsInsert s.ic.latch q } } else s

/-- What follows when the line of a page may have risen from `was`: an edge source latches its edge (R388). -/
def lineRise (page : Nat) (was : Bool) (s : State) : State :=
  let q := irqSource page
  if !was && irqLine s page && 32 ≤ q && srcEdge s q then icEdge q s else s

/-- Sets a bit of a page's IRQ_STS; a rise of an enabled bit is noted for an EVENT (R350). -/
def setIrq (page bit : Nat) (s : State) : State :=
  let a := pa page offIRQ_STS
  let was := (reg s a).toNat.testBit bit
  let s1 := setReg a (BitVec.ofNat 32 (natSetBit (reg s a).toNat bit true)) s
  let s2 := if !was && (live s (pa page offIRQ_EN)).toNat.testBit bit then
      { s1 with rw := { s1.rw with evtPend := nsInsert s1.rw.evtPend page } } else s1
  lineRise page (irqLine s page) s2

/-- Sets a bit of a page's IRQ_STS, and the host event page samples the page's line (R398). -/
def raiseIrq (page bit : Nat) (s : State) : State := hevSample page (setIrq page bit s)

/-! ### Time (R288, R306) -/

/-- Thirds of a nanosecond in a nanosecond, a microsecond, a millisecond. -/
abbrev tNs : Nat := 3
abbrev tUs : Nat := 3000
abbrev tMs : Nat := 3000000

/-- The local count (R288). -/
def now (s : State) : Nat := s.time.cclk

/-- Time by KCLK (R401, R454). -/
def kNow (s : State) : Nat := s.time.kclk

/-- SYSCLK is lost: CCLK, BCLK and MCLK stand still (R454). -/
def clkStopped (s : State) : Bool := s.pin.verdict && s.pin.lost.contains 0

/-- A value of the time counter in whole nanoseconds. -/
def tcNs (t : Tstamp) : Nat := t.sec * 1000000000 + t.ns

/-- The time counter in whole nanoseconds. -/
def nowNs (s : State) : Nat := tcNs s.time.now

/-- One value of the time counter from an exact number of 2^-44 ns since its zero, wrapping at 48 bits of seconds. -/
def tcOfFrac (x : Int) : Tstamp :=
  let unit : Int := 2 ^ 44
  let whole := x / unit
  let frac := (x % unit).toNat
  let sec := whole / 1000000000
  let ns := (whole % 1000000000).toNat
  ⟨twos 48 sec, ns, frac⟩

/-- A value of the time counter as an exact number of 2^-44 ns. -/
def fracOfTc (t : Tstamp) : Int := (tcNs t : Int) * 2 ^ 44 + t.frac

/-- The visible 16 fraction bits (R306). -/
def frac16 (t : Tstamp) : Nat := t.frac / 2 ^ 28

/-- `k` TCLK periods of the time counter: each adds 1 ns + FREQ × 2^-44 ns (R306). -/
def tcAdvance (s : State) (k : Nat) : Tstamp :=
  let freq := signed 32 (live s (pa pgPtp offTIME_FREQ)).toNat
  tcOfFrac (fracOfTc s.time.now + (k : Int) * (2 ^ 44 + freq))

/-- One tick: 2 ns. KCLK advances while KEEPCLK runs, the local count unless SYSCLK is lost; the time counter advances by two TCLK unless
it is stopped (R288, R306, R313, R454; log entry 1, DESIGN CHOICE). -/
def tick (s : State) : State :=
  let t := if !s.pin.verdict || regB s (pa pgPtp offTIME_STS) fTIME_STS_STOPPED then s.time.now else tcAdvance s 2
  { s with time := { s.time with kclk := if s.pin.keepClk then s.time.kclk + 6 else s.time.kclk,
                                 cclk := if clkStopped s then s.time.cclk else s.time.cclk + 6,
                                 now := t } }

/-! ### Free values -/

/-- The free value of this moment, and the state with the next one selected (log entry 6, DESIGN CHOICE). -/
def freeNow (s : State) : Nat := Config.freeValue s.freeCtr
def freeNext (s : State) : State := { s with freeCtr := s.freeCtr + 1 }

/-! ### Heartwood's interrupt sources (R400) -/

/-- Whether a source of Heartwood's controller is an edge source: those whose event is an instant always are (R400; log entry
128, DESIGN CHOICE). -/
def hicEdge (q : Nat) : Bool := Config.hicEdge q || !(q == 1 || (3 ≤ q && q ≤ 6))

/-- An event of a source of Heartwood's controller: an edge source latches it (R388, R400). -/
def hicRaise (q : Nat) (s : State) : State :=
  if hicEdge q then { s with hw := { s.hw with hic := { s.hw.hic with latch := nsInsert s.hw.hic.latch q } } } else s

/-! ### Reports (R401) -/

/-- Error classes (R37). -/
abbrev clsCE : Nat := 1
abbrev clsUC : Nat := 2
abbrev clsFT : Nat := 3

/-- A block asserts an error line; the Lookout captures the report (R19, R401). -/
def capture (page src cls : Nat) (partner : Bool) (res : Nat) (s : State) : State :=
  let r : Report := ⟨page, src, cls, partner, res, kNow s⟩
  { s with lko := { s.lko with cap := s.lko.cap ++ [r],
                               own := if partner then s.lko.own else s.lko.own ++ [r],
                               bad := if !partner && cls == clsUC && res != 0 then nsInsert s.lko.bad res else s.lko.bad } }

/-- Resource id of a kind and index (R403). -/
def resId (kind index : Nat) : Nat := kind * 2 ^ 20 + index

/-! ### Lists of states -/

/-- Applies a step for every number of a list, in order. -/
def forAll {α : Type} (f : α → State → State) : List α → State → State
  | [], s => s
  | x :: xs, s => forAll f xs (f x s)

/-! ### In-flight counts (R235) -/

/-- In-flight count of a parity (R235). -/
def inflight (s : State) (parity : Nat) : Nat := mget (fun _ => 0) s.ep.inflight (parity % 2)

/-- Writes an in-flight count. -/
def setInflight (parity n : Nat) (s : State) : State :=
  { s with ep := { s.ep with inflight := mset (fun _ => 0) s.ep.inflight (parity % 2) n } }

/-! ### Class S values (R41, R42, R234) -/

/-- Whether a page is bound to epochs, in force. -/
def isBound (s : State) (page : Nat) : Bool := s.bus.bound.contains page

/-- The current epoch (R231). -/
def curEpoch (s : State) : Nat := regF s (pa dev offEPOCH_STS) fEPOCH_STS_CURRENT

/-- The active value of a class S register word for a parity (R234). -/
def activeS (s : State) (parity a : Nat) : Word :=
  if parity % 2 = 0 then mget (regReset s.straps) s.bus.even a else mget (regReset s.straps) s.bus.odd a

/-- The shadow of a class S register word (R41). -/
def shadowS (s : State) (a : Nat) : Word := mget (regReset s.straps) s.bus.shadow a

/-- Writes a shadow. -/
def setShadow (a : Nat) (v : Word) (s : State) : State :=
  { s with bus := { s.bus with shadow := mset (regReset s.straps) s.bus.shadow a v } }

/-- Writes the active value of one parity. -/
def setActive (parity a : Nat) (v : Word) (s : State) : State :=
  if parity % 2 = 0 then
    { s with bus := { s.bus with even := mset (regReset s.straps) s.bus.even a v } }
  else
    { s with bus := { s.bus with odd := mset (regReset s.straps) s.bus.odd a v } }

/-- The class S register words of a page: those of the mirror sessions and POL_ACT (R234). -/
def stagedWords (page : Nat) : List Nat :=
  if page = pgMc then
    (List.range 16).flatMap (fun n => [pa page (offMIR_CFG n), pa page (offMIR_SAMP n), pa page (offMIR_Q n)])
  else if page = pgPol then [pa page offPOL_ACT]
  else []

/-- A Sapwood core before its start: halted, its registers and local memory clear (R374). -/
def coreReset (_ : Nat) : SapCore := ⟨true, 0, 0, 0, [], [], [], 0, false, false⟩

/-- Sapwood core n. -/
def core (s : State) (n : Nat) : SapCore := mget coreReset s.sap.core n

/-- Writes Sapwood core n. -/
def setCore (n : Nat) (c : SapCore) (s : State) : State :=
  { s with sap := { s.sap with core := mset coreReset s.sap.core n c } }

/-- Whether the device is in the safe state (R419). -/
def safe (s : State) : Bool := regB s (pa pgLko offLKO_SAFE) fLKO_SAFE_SAFE

/-! ### Echo windows (R408) -/

/-- A condition of the echo window of a page ends now: the window lasts ECHO_US longer. -/
def echoAfter (page : Nat) (s : State) : State :=
  let t := kNow s + liveF s (pa pgLko offLKO_CFG) fLKO_CFG_ECHO_US * tUs
  { s with lko := { s.lko with echoEnd := mset (fun _ => 0) s.lko.echoEnd page t } }

end Sys2Proof.Machine
end

