-- ==== Sys2Proof/Machine/Tree.lean ====
section
/-!
DEFINITION. The scheduler's tree entries (R278 to R281, R286, R292) and the indexed stores' plain accessors (R53).
-/

namespace Sys2Proof.Machine
open Sys2Proof

/-! ### Tree entries -/

/-- Key of a tree entry: kind 0 queue, 1 twig, 2 branch, 3 port (R291). -/
def nodeKey (kind idx : Nat) : Nat := kind * 65536 + idx

/-- Entries of each pool (R278). -/
def poolSize (kind : Nat) : Nat :=
  match kind with
  | 0 => 32768
  | 1 => 16384
  | 2 => 4096
  | _ => 260

/-- A tree entry at reset (R280). -/
def nodeReset (key : Nat) : Nat :=
  let kind := key / 65536
  let i := key % 65536
  if kind = 3 then (if i < 260 then 8 * i + 8 * 2 ^ 16 + 2 ^ 30 + 20 * 2 ^ 65 else 0)
  else if kind = 2 then (if i < 260 then i + 2 ^ 20 + 2 ^ 30 else 0)
  else if kind = 1 then (if i < 260 then i + 2 ^ 20 + 2 ^ 30 else 0)
  else if i < 2080 then
    i / 8 + (i % 8) * 2 ^ 14 + (i % 8) * 2 ^ 17 + 2 ^ 20 + 2 ^ 30 + 16384 * 2 ^ 73
  else 0

/-- A tree entry. -/
def node (s : State) (key : Nat) : Nat := mget nodeReset s.sch.node key

/-- Writes a tree entry. -/
def setNode (key v : Nat) (s : State) : State :=
  { s with sch := { s.sch with node := mset nodeReset s.sch.node key v } }

/-- Fields of tree entries (R292). -/
def nParent (kind e : Nat) : Nat :=
  match kind with
  | 0 => natField e 13 0
  | 1 => natField e 11 0
  | 2 => natField e 8 0
  | _ => 0
def nBand (e : Nat) : Nat := natField e 16 14
def nClass (e : Nat) : Nat := natField e 19 17
def nWeight (e : Nat) : Nat := natField e 29 20
def nEn (e : Nat) : Bool := e.testBit 30
def nRate (e : Nat) : Nat := natField e 48 32
def nBurst (e : Nat) : Nat := natField e 64 49
def nAdj (e : Nat) : Int := signed 8 (natField e 72 65)
def nTail (e : Nat) : Nat := natField e 92 73
def nQbase (e : Nat) : Nat := natField e 14 0
def nQcount (e : Nat) : Nat := natField e 28 16

/-- A rate field in b/s (R286). -/
def rateOf (r : Nat) : Nat := (r % 4096) * 2 ^ (r / 4096)

/-- The port of a queue: the port of its twig's branch (R278). -/
def queuePort (s : State) (q : Nat) : Nat :=
  let twig := nParent 0 (node s (nodeKey 0 q))
  let branch := nParent 1 (node s (nodeKey 1 twig))
  nParent 2 (node s (nodeKey 2 branch))

/-- Cells of a queue's admitted copies (R281). -/
def qcells (s : State) (q : Nat) : Nat :=
  (s.clr.desc.map (fun e => if e.2.queue == q && !e.2.held then e.2.cells else 0)).sum

/-- Descriptors of a queue, in order. -/
def queueList (s : State) (q : Nat) : List Nat := mget (fun _ => []) s.sch.qs q

/-- Writes a queue's descriptor list. -/
def setQueueList (q : Nat) (l : List Nat) (s : State) : State :=
  { s with sch := { s.sch with qs := mset (fun _ => []) s.sch.qs q l } }

/-! ### Indexed stores -/

/-- A counter pair (R53): packets and bytes. -/
def pair (s : State) (i : Nat) : Nat × Nat :=
  let v := mget (fun _ => 0) s.store.pairs i
  (v % 2 ^ 64, v / 2 ^ 64)

/-- Writes a counter pair. -/
def setPair (i pk by_ : Nat) (s : State) : State :=
  { s with store := { s.store with pairs := mset (fun _ => 0) s.store.pairs i (pk + by_ * 2 ^ 64) } }

/-- Adds to a counter pair; each count saturates (R53). -/
def pairAdd (i pk by_ : Nat) (s : State) : State :=
  let p := pair s i
  setPair i (Nat.min maxCtr (p.1 + pk)) (Nat.min maxCtr (p.2 + by_)) s

/-- An encapsulation template, 64 bytes in network order (R210). -/
def encap (s : State) (i : Nat) : Bytes := leBytes 64 (mget (fun _ => 0) s.store.encap i)

/-- A multicast group entry (R264). -/
def mcGroup (s : State) (i : Nat) : Nat := mget (fun _ => 0) s.store.mcg i

/-- A flow context (R217). -/
def context (s : State) (i : Nat) : Nat := mget (fun _ => 0) s.ctx.ctx i

/-- Writes a flow context. -/
def setContext (i v : Nat) (s : State) : State :=
  { s with ctx := { s.ctx with ctx := mset (fun _ => 0) s.ctx.ctx i v } }

/-! ### Ports -/

/-- A port's MAC state at reset. -/
def portReset (_ : Nat) : PortSt :=
  { timers := [], cond := [], fcOwed := [], fcLast := [], idleSince := 0, lpiSince := 0, lpiRem := 0, partnerEee := false,
    advert := none, resolvedAt := none, rx := none, tx := none, txAt := ⟨0, 0, 0⟩, txStomp := false, txMax := 0, txLen := 0,
    next := [], macFree := 0, lastTx := [], copReq := none, copSeq := 0,
    copNakUntil := 0, copLowSince := none, copHello := 0, copSent := none, copShedSince := 0, shedRem := 0, winBytes := 0,
    winLast := 0,
    winStart := 0 }

/-- A port's MAC state. -/
def port (s : State) (p : Nat) : PortSt := mget portReset s.ports.port p

/-- Writes a port's MAC state. -/
def setPort (p : Nat) (v : PortSt) (s : State) : State :=
  { s with ports := { s.ports with port := mset portReset s.ports.port p v } }

/-- A flow-control timer of a port (R77, R78). -/
def fcTimer (s : State) (p i : Nat) : FcTimer := mget (fun _ => ⟨0, 0, 0⟩) (port s p).timers i

/-- Writes a flow-control timer. -/
def setFcTimer (p i : Nat) (t : FcTimer) (s : State) : State :=
  setPort p { port s p with timers := mset (fun _ => ⟨0, 0, 0⟩) (port s p).timers i t } s

/-- MAC_STS.LINK of a port; the internal ports 256 to 259 are always up. -/
def linkUp (s : State) (p : Nat) : Bool := 256 ≤ p || regB s (pa (macPage p) offMAC_STS) fMAC_STS_LINK

/-- Lanes of a PORT_MODE code (R62); 0 where the code has no fixed width. -/
def modeLanes (m : Nat) : Nat :=
  match m with
  | 0x01 | 0x02 | 0x04 | 0x05 | 0x10 | 0x11 | 0x13 | 0x16 => 1
  | 0x06 | 0x15 | 0x18 => 2
  | 0x03 | 0x07 | 0x12 | 0x14 | 0x17 | 0x19 => 4
  | _ => 0

/-- Family of a PORT_MODE code (R62). -/
def modeFamily (m : Nat) : Nat :=
  match m with
  | 0x01 | 0x03 | 0x10 | 0x12 => 1
  | 0x02 | 0x11 | 0x14 => 2
  | 0x04 | 0x05 | 0x06 | 0x07 | 0x13 | 0x15 | 0x16 | 0x17 | 0x18 | 0x19 => 3
  | _ => 0

/-- Data rate of a PHY type in Gb/s (R62). -/
def modeRate (m : Nat) : Nat :=
  match m with
  | 0x01 | 0x10 => 10
  | 0x02 | 0x11 => 25
  | 0x03 | 0x12 => 40
  | 0x04 | 0x13 => 50
  | 0x05 | 0x14 | 0x15 | 0x16 => 100
  | 0x06 | 0x17 | 0x18 => 200
  | 0x07 | 0x19 => 400
  | _ => 0

/-- The PHY type in use on a port (MAC_STS.RESOLVED). -/
def phyType (s : State) (p : Nat) : Nat := regF s (pa (macPage p) offMAC_STS) fMAC_STS_RESOLVED

/-- Rate of a port in Gb/s (R21); the recirculation ports run at 800 Gb/s (R27). -/
def portRate (s : State) (p : Nat) : Nat := if p < 256 then modeRate (phyType s p) else 800

/-- Whether a port's Trail header is on (R69); B-ports only. -/
def trailEn (s : State) (p : Nat) : Bool :=
  128 ≤ p && p < 256 && liveB s (pa (macPage p) offMAC_CFG) fMAC_CFG_TRAIL_EN

/-- MAXLEN of a port (R70); the internal ports have no MAC, and take the largest legal value. -/
def maxLen (s : State) (p : Nat) : Nat :=
  if p < 256 then liveF s (pa (macPage p) offMAC_MAXLEN) fMAC_MAXLEN_MAXLEN else 12288

/-- Whether a port's gates are enabled (R297). -/
def gateEn (s : State) (p : Nat) : Bool :=
  p < 256 && (reg s (pa pgGate (offGATE_EN (p / 32)))).toNat.testBit (p % 32)

/-- Signed OVH of a port (R285). -/
def portOvh (s : State) (p : Nat) : Int := signed 8 (natField (node s (nodeKey 3 p)) 72 65)

end Sys2Proof.Machine
end

