-- ==== Sys2Proof/Machine/Clearing.lean ====
section
/-!
DEFINITION. Clearing and Woodpile (10): cells and their references, the free lists and grants, accounts, flow-control
conditions, admission, multicast replication with residues, mirroring and drop accounting; and the commands CELL_PUSH,
RESIDUE_VISIT, RESIDUE_EXPIRE, WP_AUDIT and AUDIT_DONE.
-/

namespace Sys2Proof.Machine
open Sys2Proof

/-! ### Cells (R250, R258) -/

/-- Resource id of a cell's row (R403). -/
def cellRes (c : Nat) : Nat := resId 4 (16384 * (c % 32) + c / 32)

/-- A cell that has not been written. -/
def cellReset (_ : Nat) : Cell := ⟨List.replicate 256 0, 0⟩

/-- A cell. -/
def cell (s : State) (c : Nat) : Cell := mget cellReset s.clr.cells c

/-- One row write of a cell: data, filled with 0 to 256 bytes, and link word together (R250). -/
def setCell (c : Nat) (data : Bytes) (link : Nat) (s : State) : State :=
  { s with clr := { s.clr with cells := mset cellReset s.clr.cells c ⟨padTo 256 data, link⟩ } }

/-- The link word of a chain's last cell (R250). -/
def linkEnd : Nat := 2 ^ 19

/-- Writes bytes into a chain of cells, 256 to a cell (R250). -/
def writeChain : List Nat → Bytes → State → State
  | [], _, s => s
  | [c], bs, s => setCell c (bs.take 256) linkEnd s
  | c :: d :: cs, bs, s => writeChain (d :: cs) (bs.drop 256) (setCell c (bs.take 256) d s)

/-- References and account of a cell nobody holds. -/
def infoReset (_ : Nat) : CellMeta := ⟨0, 0, 8⟩

/-- References and account of a cell. -/
def cellInfo (s : State) (c : Nat) : CellMeta := mget infoReset s.clr.info c

/-- Writes references and account of a cell. -/
def setCellInfo (c : Nat) (m : CellMeta) (s : State) : State :=
  { s with clr := { s.clr with info := mset infoReset s.clr.info c m } }

/-- Adds a reference to a cell (R258). -/
def addRef (c : Nat) (s : State) : State :=
  let m := cellInfo s c
  setCellInfo c { m with refs := m.refs + 1 } s

/-- The bytes of a list of segments. -/
def segBytes (s : State) : List Seg → Bytes
  | [] => []
  | g :: gs => slice (cell s g.cell).data g.off g.len ++ segBytes s gs

/-- The bytes of a head chain from byte 48 of its first cell (R251). -/
def headBytes (s : State) (cells : List Nat) (len : Nat) : Bytes :=
  ((cells.flatMap (fun c => (cell s c).data)).drop 48).take len

/-- The packet header: bytes 0 to 47 of the first head cell (R251). -/
def pktHeader (s : State) (cells : List Nat) : Bytes :=
  match cells with
  | [] => List.replicate 48 0
  | c :: _ => (cell s c).data.take 48

/-! ### Free lists and grants (R254 to R257) -/

/-- A free list nothing has filled. -/
def freeReset (_ : Nat) : FreeList := ⟨0, 0, []⟩

/-- Free list of a bank. -/
def freeList (s : State) (b : Nat) : FreeList := mget freeReset s.clr.free b

/-- Writes a free list. -/
def setFreeList (b : Nat) (f : FreeList) (s : State) : State :=
  { s with clr := { s.clr with free := mset freeReset s.clr.free b f } }

/-- The current BCLK, by the local count. -/
def bclk (s : State) : Nat := now s / 2

/-- Rows of a list that have entered it: all, or one a BCLK since its filling began (R254). -/
def filled (s : State) (f : FreeList) : Nat :=
  match s.clr.fillAt with
  | none => f.rows
  | some t => Nat.min f.rows (bclk s - t / 2)

/-- The filling of the lists is over (R254). -/
def fillOver (s : State) : Bool :=
  match s.clr.fillAt with
  | none => true
  | some t => decide (16384 ≤ bclk s - t / 2)

/-- Cells on a free list (WP_LIST_b). -/
def freeLen (s : State) (f : FreeList) : Nat := (filled s f - f.next) + f.back.length

/-- FREE: the free cells (R256, CLR_FREE). -/
def freeCells (s : State) : Nat := ((List.range 32).map (fun b => freeLen s (freeList s b))).sum

/-- Takes the first cell of a list in BCLK v; the list pops no other in it (R254). -/
def popList (b v : Nat) (s : State) : Option (Nat × State) :=
  let f := freeList s b
  let s1 := { s with clr := { s.clr with popped := mput s.clr.popped b v } }
  if f.next < filled s f then some (f.next * 32 + b, setFreeList b { f with next := f.next + 1 } s1)
  else match f.back with
    | [] => none
    | c :: cs => some (c, setFreeList b { f with back := cs } s1)

/-- The bank a requester took its last cell from (R255); before its first cell, bank 31 (log entry 3, DESIGN CHOICE). -/
def lastBank (s : State) (r : Nat) : Nat := mget (fun _ => 31) s.clr.last (r % 66)

/-- Whether a list has already popped in BCLK v, or in a later one (R255). -/
def hasPopped (s : State) (b v : Nat) : Bool := match mfind s.clr.popped b with | some t => decide (v ≤ t) | none => false

/-- The first list of `n` banks in rotation from bank `b` that is not empty and has not popped in BCLK v. -/
def popFrom (s : State) (v : Nat) : Nat → Nat → Option (Nat × Nat × State)
  | 0, _ => none
  | n + 1, b =>
    if hasPopped s (b % 32) v then popFrom s v n (b + 1)
    else match popList (b % 32) v s with
    | some (c, s') => some (b % 32, c, s')
    | none => popFrom s v n (b + 1)

/-- The first BCLK after v in which a list that is not empty may pop. -/
def popWait (s : State) (v : Nat) : Nat :=
  ((((List.range 32).filter (fun b => freeLen s (freeList s b) != 0)).filterMap (fun b => mfind s.clr.popped b)).min?).getD v + 1

/-- A cell for a requester in BCLK v, from the bank after `b`, with its BCLK (R255). A request that finds every list that is
not empty already popped gets it in the next BCLK in which one may pop (log entry 101, DESIGN CHOICE). -/
def popNext (s : State) (v b : Nat) : Option (Nat × Nat × Nat × State) :=
  match popFrom s v 32 (b + 1) with
  | some r => some (v, r)
  | none => (popFrom s (popWait s v) 32 (b + 1)).map (fun r => (popWait s v, r))

/-- The rotation pointer P of BCLK v: it advances by 1 modulo 66 every BCLK (R256). -/
def woodpileP (v : Nat) : Nat := v % 66

/-- The place of a requester's request among those of BCLK v: in rotation from P, those for the head cells of mirror copies,
numbered 66 up, after all others (R256, R270). -/
def rotation (v r : Nat) : Nat := (r % 66 + 66 - woodpileP v) % 66 + (if 66 ≤ r then 66 else 0)

/-- The BCLK in which a request of requester `r` that comes now is taken: the one of the request before it where `r` comes
later in rotation from P, else the next one, so that the requests of each BCLK are taken in its order (R256, R274; log entry
101, DESIGN CHOICE). -/
def reqBclk (s : State) (r : Nat) : Nat :=
  match s.clr.reqLast with
  | none => bclk s
  | some (v, pos) =>
    if v < bclk s then bclk s else if pos < rotation v r then v else v + 1

/-- The answer to a cell request (R256). -/
inductive Grant where
  | granted (c : Nat) (s : State)
  | nobuf
  | empty

/-- A request for one cell by requester `r`, 66 + `r` for the head of a mirror copy (R255, R256): EMPTY when FREE is 0, NOBUF
when it is not reserved and FREE is at most 1,024, else the cell from the bank after the one taken last, held by its packet
with one reference. -/
def cellReq (r : Nat) (reserved : Bool) (port cls : Nat) (s : State) : Grant :=
  let free := freeCells s
  if free = 0 then .empty
  else if !reserved && free ≤ 1024 then .nobuf
  else match popNext s (reqBclk s r) (lastBank s r) with
    | none => .empty
    | some (v, b, c, s1) =>
      -- the cell's row is written anew
      let s2 := { s1 with clr := { s1.clr with last := mset (fun _ => 31) s1.clr.last (r % 66) b,
                                               reqLast := some (v, rotation v r), audit := nsErase s1.clr.audit c },
                          lko := { s1.lko with bad := nsErase s1.lko.bad (cellRes c) } }
      .granted c (setCellInfo c ⟨1, port, cls⟩ s2)

/-- Requests `n` cells one after another; on a refusal the cells already granted are in the second component. -/
def cellsReq (r : Nat) (reserved : Bool) (port cls : Nat) : Nat → List Nat → State → List Nat × State × Option Grant
  | 0, got, s => (got, s, none)
  | n + 1, got, s =>
    match cellReq r reserved port cls s with
    | .granted c s1 => cellsReq r reserved port cls n (got ++ [c]) s1
    | .nobuf => (got, s, some .nobuf)
    | .empty => (got, s, some .empty)

/-! ### Accounts (R259) -/

/-- RXC(p): cells held by packets that entered on p. -/
def rxc (s : State) (p : Nat) : Nat := (s.clr.info.filter (fun e => e.2.port == p)).length

/-- RXC(p, c): the part of it committed with class c. -/
def rxcC (s : State) (p c : Nat) : Nat := (s.clr.info.filter (fun e => e.2.port == p && e.2.cls == c)).length

/-- TXC(p): cells of admitted copies in p's queues not yet read. -/
def txc (s : State) (p : Nat) : Nat :=
  (s.clr.desc.map (fun e => if e.2.port == p && !e.2.held then e.2.cells else 0)).sum

/-- TXC(p, c): the part of it of class c. -/
def txcC (s : State) (p c : Nat) : Nat :=
  (s.clr.desc.map (fun e => if e.2.port == p && e.2.cls == c && !e.2.held then e.2.cells else 0)).sum

/-- Limit word w of the profile of port p (R263). -/
def limit (s : State) (p w : Nat) : Nat :=
  let k := natField (live s (pa pgClr (offCLR_PORT_PROF (p / 8)))).toNat (4 * (p % 8) + 2) (4 * (p % 8))
  liveF s (pa pgClr (offCLR_PROF (32 * k + w))) fCLR_PROF_CELLS

/-! ### Flow-control conditions (R262) -/

/-- PAUSE and PFC transmit enables of a port. -/
def pauseTxEn (s : State) (p : Nat) : Bool := p < 256 && liveB s (pa (macPage p) offMAC_CFG) fMAC_CFG_PAUSE_TX_EN
def pfcTxEn (s : State) (p : Nat) : Bool := p < 256 && liveB s (pa (macPage p) offMAC_CFG) fMAC_CFG_PFC_TX_EN

/-- Compares one condition (class 0 to 7, or 8 for PAUSE) with its account: it begins at XOFF, ends at
min(XON, XOFF - 1), and ends with one frame of quanta 0, and no other, when its enable is 0 (R79, R262). -/
def fcCompare (p i : Nat) (s : State) : State :=
  let en := if i = 8 then pauseTxEn s p else pfcTxEn s p
  let acct := if i = 8 then rxc s p else rxcC s p i
  let xoff := if i = 8 then limit s p 10 else limit s p (12 + i)
  let xon := if i = 8 then limit s p 11 else limit s p (20 + i)
  let st := port s p
  let stands := st.cond.contains i
  if !en then
    if stands then
      setPort p { st with cond := nsErase st.cond i, fcOwed := st.fcOwed.filter (fun e => e.1 != i) ++ [(i, false)] } s
    else s
  else if !stands && xoff ≤ acct then
    setPort p { st with cond := nsInsert st.cond i, fcOwed := st.fcOwed ++ [(i, true)] } s
  else if stands && decide ((acct : Int) ≤ min (xon : Int) ((xoff : Int) - 1)) then
    setPort p { st with cond := nsErase st.cond i, fcOwed := st.fcOwed ++ [(i, false)] } s
  else s

/-- Compares all nine conditions of a port with their accounts (R262); ports 256 to 259 have none. -/
def fcUpdate (p : Nat) (s : State) : State :=
  if p < 256 then forAll (fcCompare p) (List.range 9) s else s

/-- Compares the conditions of every port that one of the cells is counted at (R262). -/
def fcUpdateCells (cs : List Nat) (s : State) : State :=
  forAll fcUpdate ((cs.map (fun c => (cellInfo s c).port)).dedup) s

/-! ### Body cells (R257, R260) -/

/-- Requests the body cells of a frame that arrives on port p one after another: the cells granted, the state, and why
the next was refused: 0 none, 1 RX_LIMIT, 2 NOBUF, 3 EMPTY. -/
def bodyCells (r : Nat) (reserved : Bool) (p cls : Nat) : Nat → List Nat → State → List Nat × State × Nat
  | 0, got, s => (got, s, 0)
  | n + 1, got, s =>
    if limit s p 9 ≤ rxc s p then (got, s, 1)
    else match cellReq r reserved p cls s with
      | .granted c s1 => bodyCells r reserved p cls n (got ++ [c]) (fcUpdate p s1)
      | .nobuf => (got, s, 2)
      | .empty => (got, s, 3)

/-! ### Release (R258) -/

/-- Releases one reference of a cell; a cell whose last reference goes leaves the accounts and waits for its push. A
retired cell is never pushed (R417). -/
def dropRef (c : Nat) (s : State) : State :=
  let m := cellInfo s c
  if m.refs ≤ 1 then
    let s1 := setCellInfo c (infoReset c) s
    let s2 := if m.refs = 0 || s1.clr.retired.contains c then s1
      else { s1 with clr := { s1.clr with release := s1.clr.release ++ [c] } }
    fcUpdate m.port s2
  else setCellInfo c { m with refs := m.refs - 1 } s

/-- Releases one reference of each cell of a list. -/
def dropRefs (cs : List Nat) (s : State) : State := forAll dropRef cs s

/-- Cells named by segments, each once. -/
def segCells (gs : List Seg) : List Nat := (gs.map (fun g => g.cell)).dedup

/-- Cells a copy of a frame reads: head chain and body, each once. -/
def copyCells (d : Desc) : List Nat := (d.headCells ++ segCells d.segs).dedup

/-- Segments up to and including those in cell `c`, where one is: nothing beyond a broken link is found (R277). -/
def cutAfter (c : Nat) (gs : List Seg) : List Seg :=
  if gs.any (fun g => g.cell == c) then gs.takeWhile (fun g => g.cell != c) ++ gs.filter (fun g => g.cell == c) else gs

/-- The first `n` bytes of segments. -/
def takeSegs : Nat → List Seg → List Seg
  | _, [] => []
  | n, g :: gs => if n = 0 then [] else ⟨g.cell, g.off, Nat.min n g.len⟩ :: takeSegs (n - g.len) gs

/-! ### Drop accounting (R275) -/

/-- FRAME_LEN of a frame that has ended. -/
def wholeLen (n : Nat) : FrameLen := ⟨n, none⟩

/-- A pair that counts a frame still in reception is owed the rest of FRAME_LEN at its end. -/
def oweDrop (i : Nat) (fl : FrameLen) (s : State) : State :=
  match fl.early with
  | none => s
  | some k => forAll (fun (o : Nat × PortSt) s => match o.2.rx with
    | some r => if r.pass == some k then setPort o.1 { o.2 with rx := some { r with owed := r.owed ++ [(i, fl.n)] } } s else s
    | none => s) s.ports.port s

/-- Counts a drop of kind k at port p with CNT_EN at 1: one packet and FRAME_LEN bytes, those still to come at the frame's
end (R275). -/
def dropPair (p k : Nat) (fl : FrameLen) (s : State) : State :=
  if liveB s (pa pgClr offCLR_CFG) fCLR_CFG_CNT_EN && k < 14 then
    let i := liveF s (pa pgClr offCLR_CNT_BASE) fCLR_CNT_BASE_BASE + 16 * p + k
    oweDrop i fl (pairAdd i 1 fl.n s)
  else s

/-- A NOBUF or EMPTY refusal, counted against the entry port (R257, R275). -/
def countRefusal (g : Grant) (p : Nat) (flen : FrameLen) (s : State) : State :=
  match g with
  | .granted _ _ => s
  | .nobuf => raiseIrq pgClr 0 (count pgClr cClr_NOBUF (dropPair p 9 flen s))
  | .empty =>
    let s1 := raiseIrq pgClr 1 (count pgClr cClr_WOODPILE_EMPTY (dropPair p 10 flen s))
    if p < 256 then count (macPage p) cMac_WOODPILE_EMPTY s1 else s1

/-- An RX_LIMIT refusal (R260). -/
def countRxLimit (p : Nat) (flen : FrameLen) (s : State) : State := count pgClr cClr_RX_LIMIT_DROP (dropPair p 8 flen s)

/-- The refusal of a body cell, by its number in `bodyCells` (R257, R260, R275). -/
def countBody (why p : Nat) (flen : FrameLen) (s : State) : State :=
  match why with
  | 1 => countRxLimit p flen s
  | 2 => countRefusal .nobuf p flen s
  | 3 => countRefusal .empty p flen s
  | _ => s

/-- An ADMIT refusal (R261). -/
def countAdmit (p c : Nat) (flen : FrameLen) (s : State) : State := count pgClr cClr_ADMIT_DROP (dropPair p c flen s)

/-- A copy that found no descriptor (R252). -/
def countDescEmpty (p : Nat) (flen : FrameLen) (s : State) : State := count pgClr cClr_DESC_EMPTY (dropPair p 12 flen s)

/-! ### Enqueue (R252, R261) -/

/-- What admission answers for a copy (R261, R266). -/
inductive Admit where
  | ok | limit | queue | noDesc
  deriving DecidableEq, Repr

/-- The global queue of queue index k of port d (R278). -/
def globalQueue (s : State) (d k : Nat) : Nat := nQbase (node s (nodeKey 3 d)) + k

/-- Tests a copy of n cells and class c to queue index k of port d (R261, R278, R281). -/
def admitTest (s : State) (d c k n : Nat) : Admit :=
  let q := globalQueue s d k
  if 1048576 ≤ s.clr.desc.length then .noDesc
  else if nQcount (node s (nodeKey 3 d)) ≤ k || !nEn (node s (nodeKey 0 q)) then .queue
  else if txcC s d c + n ≤ limit s d c && txc s d + n ≤ limit s d 8 && qcells s q + n ≤ nTail (node s (nodeKey 0 q))
  then .ok
  else .limit

/-- The lowest number from `n` on that is not a key of a sorted map. -/
def freshFrom {α : Type} : NMap α → Nat → Nat
  | [], n => n
  | (k, _) :: m, n => if k = n then freshFrom m (n + 1) else if n < k then n else freshFrom m n

/-- Takes a descriptor for a copy: it joins its queue and holds a reference on each of its cells (R252, R258). -/
def addCopy (d : Desc) (s : State) : Nat × State :=
  let id := freshFrom s.clr.desc 0
  let s1 := { s with clr := { s.clr with desc := mput s.clr.desc id d } }
  let s2 := forAll addRef (copyCells d) s1
  (id, setQueueList d.queue (queueList s2 d.queue ++ [id]) s2)

/-- Takes a copy out of its residue entry; an entry with no held copy is freed (R267). -/
def unlinkHeld (id : Nat) (l : List Residue) : List Residue :=
  (l.map (fun e => { e with copies := e.copies.filter (fun x => x != id) })).filter (fun e => !e.copies.isEmpty)

/-- Returns a descriptor: it leaves its queue, and a held copy its residue entry, and its references are released (R252,
R258, R267). -/
def removeCopy (id : Nat) (s : State) : State :=
  match mfind s.clr.desc id with
  | none => s
  | some d =>
    let s1 := { s with clr := { s.clr with desc := mdel s.clr.desc id, residue := unlinkHeld id s.clr.residue } }
    let s2 := setQueueList d.queue ((queueList s1 d.queue).filter (fun x => x != id)) s1
    dropRefs (copyCells d) s2

/-! ### Mirroring (R269, R270) -/

/-- Word x of mirror session k for a packet's parity (R234). -/
def mirWord (s : State) (epoch k off : Nat) : Word := activeS s epoch (pa pgMc (0x100 + 16 * k + off))

/-- Session k is in use with type t, its source port being p where the type has one. -/
def mirMatch (s : State) (epoch k t p : Nat) : Bool :=
  let w := mirWord s epoch k 0
  fbit w fMIR_CFG_EN && fget w fMIR_CFG_TYPE == t && (t == 2 || fget w fMIR_CFG_SRC_PORT == p)

/-- Counts a candidate of session k: true when this candidate is to be copied (R270). -/
def mirCount (epoch k : Nat) (s : State) : Bool × State :=
  let n := mget (fun _ => 0) s.clr.mirCnt k + 1
  let hit := fget (mirWord s epoch k 4) fMIR_SAMP_SAMPLE_N ≤ n
  (hit, { s with clr := { s.clr with mirCnt := mset (fun _ => 0) s.clr.mirCnt k (if hit then 0 else n) } })

/-- Counts a dropped mirror copy (R270). -/
def mirDrop (k : Nat) (s : State) : State := count pgMc (cMc_MIR_DROPS k) s

/-- The length of a mirror copy: whole, or cut to TRUNC (R270). -/
def mirLen (s : State) (epoch k f : Nat) : Nat :=
  let t := fget (mirWord s epoch k 4) fMIR_SAMP_TRUNC
  if t = 0 then f else Nat.min f t

/-- A mirror copy to queue index q of port p that R270 or R261 refuses: dropped and counted at its session; at or beyond
QCOUNT it is counted ADMIT as well (R278). -/
def mirRefuse (k p c q : Nat) (flen : FrameLen) (s : State) : State :=
  let s1 := mirDrop k s
  if nQcount (node s (nodeKey 3 p)) ≤ q then countAdmit p c flen s1 else s1

/-- Makes the mirror copy of session k sharing the cells of `d`: admitted when FREE > MIR_FREE and R261 admits it to the
analysis port, else dropped (R270). `after` takes the admitted copy further. -/
def mirCopy (after : Desc → State → State) (epoch : Nat) (flen : FrameLen) (k : Nat) (d : Desc) (s : State) : State :=
  let w := mirWord s epoch k 0
  let dp := fget w fMIR_CFG_DEST_PORT
  let c := fget w fMIR_CFG_CLASS
  let q := fget (mirWord s epoch k 8) fMIR_Q_QUEUE
  if freeCells s > liveF s (pa pgClr offCLR_CFG) fCLR_CFG_MIR_FREE && admitTest s dp c q d.cells == .ok then
    let copy : Desc := { d with port := dp, cls := c, queue := globalQueue s dp q, held := false, mirror := some k,
                                ct := false, len := mirLen s epoch k d.len, group := 0 }
    after copy (count pgMc (cMc_MIR_COPIES k) (addCopy copy s).2)
  else mirRefuse k dp c q flen s

/-- The TX mirror sessions of a copy admitted to a port, in session order; a mirror copy admitted to a queue of SRC_PORT is
a candidate in its turn (R269). Every copy takes a descriptor, so that 1,048,576 rounds are enough. -/
def txMirrorsN (epoch : Nat) (flen : FrameLen) : Nat → Desc → State → State
  | 0, _, s => s
  | n + 1, d, s =>
    forAll (fun k s =>
      if mirMatch s epoch k 1 d.port then
        let r := mirCount epoch k s
        if r.1 then mirCopy (fun c s => txMirrorsN epoch flen n c s) epoch flen k d r.2 else r.2
      else s) (List.range 16) s

/-- Every TX mirror session of an admitted copy. -/
def txMirrors (epoch : Nat) (flen : FrameLen) (d : Desc) (s : State) : State := txMirrorsN epoch flen 1048576 d s

/-- Admits a copy: descriptor, references, queue, TX mirrors. -/
def admitCopy (epoch : Nat) (flen : FrameLen) (d : Desc) (s : State) : State := txMirrors epoch flen d (addCopy d s).2

/-! ### Unicast and multicast enqueue (R261, R265, R266) -/

/-- Enqueues a unicast copy: admitted, or dropped and counted (R261, R252). -/
def enqueueUni (epoch : Nat) (flen : FrameLen) (k : Nat) (d : Desc) (s : State) : State :=
  match admitTest s d.port d.cls k d.cells with
  | .ok =>
    let s1 := admitCopy epoch flen d s
    if d.ct then count pgClr cClr_CT_COPIES (dropPair d.port 13 flen s1) else s1
  | .noDesc => countDescEmpty d.port flen s
  | _ => countAdmit d.port d.cls flen s

/-- The residue entry of a packet, if it has one. -/
def residueOf (s : State) (pkt : Nat) : Option Residue := s.clr.residue.find? (fun r => r.pkt == pkt)

/-- Holds a member copy in its queue's place (R266): it joins its packet's residue entry, or opens one. -/
def holdCopy (d : Desc) (s : State) : State :=
  let r := addCopy { d with held := true } s
  let l := r.2.clr.residue
  let l' := if l.any (fun e => e.pkt == d.pkt) then
      l.map (fun e => if e.pkt == d.pkt then { e with copies := e.copies ++ [r.1] } else e)
    else l ++ [⟨s.clr.resSeq, d.pkt, now s, [r.1]⟩]
  let n := if l.any (fun e => e.pkt == d.pkt) then s.clr.resSeq else s.clr.resSeq + 1
  count pgMc cMc_MC_HELD { r.2 with clr := { r.2.clr with residue := l', resSeq := n } }

/-- A member copy dropped for want of a residue entry (R266). -/
def countResidueFull (p : Nat) (flen : FrameLen) (s : State) : State :=
  let s1 := raiseIrq pgMc 1 (count pgMc cMc_MC_RESIDUE_FULL (dropPair p 11 flen s))
  if p < 256 then count (macPage p) cMac_MC_RESIDUE_EXPIRED s1 else s1

/-- Enqueues one member copy (R265, R266). -/
def enqueueMember (epoch : Nat) (flen : FrameLen) (k : Nat) (d : Desc) (s : State) : State :=
  match admitTest s d.port d.cls k d.cells with
  | .ok => count pgMc cMc_MC_COPIES (admitCopy epoch flen d s)
  | .noDesc => countDescEmpty d.port flen s
  | .queue => countAdmit d.port d.cls flen s
  | .limit =>
    if (residueOf s d.pkt).isSome || s.clr.residue.length < 4096 then holdCopy d s
    else countResidueFull d.port flen s

/-- The members of a group's packet that entered on port e (R264, R265). -/
def mcMembers (g e : Nat) : List Nat :=
  (List.range 259).filter (fun p => g.testBit p && !(g.testBit 260 && p == e))

/-- Replicates a multicast packet: its member copies in ascending port order, or MC_INVALID (R265). -/
def replicate (epoch : Nat) (flen : FrameLen) (k group entry : Nat) (d : Desc) (s : State) : State :=
  let g := mcGroup s group
  let m := mcMembers g entry
  if s.store.mcgBad.contains group then
    -- source 1 of page 0x058: the packet is dropped (R277)
    capture pgMc 1 clsUC false (resId 6 (65536 * 4 + group / 4)) (count pgMc cMc_MC_INVALID s)
  else if !g.testBit 261 || m.isEmpty then count pgMc cMc_MC_INVALID s
  else
    count pgMc cMc_MC_PACKETS
      (forAll (fun p s => enqueueMember epoch flen k
        { d with port := p, queue := globalQueue s p k, group := group + 1 } s) m s)

/-! ### Residue engine (R267, R268) -/

/-- FRAME_LEN from a copy's packet header (R251). -/
def copyFrameLen (s : State) (d : Desc) : FrameLen := ⟨leAt (pktHeader s d.headCells) 0 2 % 16384, d.rxPass⟩

/-- Epoch from a copy's packet header (R251). -/
def copyEpoch (s : State) (d : Desc) : Nat := (byteAt (pktHeader s d.headCells) 20).toNat

/-- Drops a held copy: counted as expired, unlinked, references released (R268). -/
def expireCopy (id : Nat) (s : State) : State :=
  match mfind s.clr.desc id with
  | none => s
  | some d =>
    let s1 := raiseIrq pgMc 0 (count pgMc cMc_MC_EXPIRED (dropPair d.port 11 (copyFrameLen s d) s))
    let s2 := if d.port < 256 then count (macPage d.port) cMac_MC_RESIDUE_EXPIRED s1 else s1
    removeCopy id s2

/-- Whether a residue entry has reached its expiry (R268). -/
def residueExpired (s : State) (e : Residue) : Bool :=
  e.created + liveF s (pa pgMc offMC_CFG) fMC_CFG_RESIDUE_US * tUs ≤ now s

/-- Tests a held copy again and admits it when it passes (R267). -/
def retest (id : Nat) (s : State) : State :=
  match mfind s.clr.desc id with
  | none => s
  | some d =>
    if !d.held then s
    else if admitTest { s with clr := { s.clr with desc := mdel s.clr.desc id } } d.port d.cls
        (d.queue - nQbase (node s (nodeKey 3 d.port))) d.cells == .ok then
      let s1 := { s with clr := { s.clr with desc := mput s.clr.desc id { d with held := false } } }
      let s2 := { s1 with clr := { s1.clr with residue := unlinkHeld id s1.clr.residue } }
      txMirrors (copyEpoch s d) (copyFrameLen s d) { d with held := false }
        (count pgMc cMc_MC_FROM_HELD (count pgMc cMc_MC_COPIES s2))
    else s

/-- Held copies of an entry in ascending port order (R267). -/
def heldByPort (s : State) (e : Residue) : List Nat :=
  (List.range 260).flatMap (fun p =>
    e.copies.filter (fun id => match mfind s.clr.desc id with | some d => d.port == p | none => false))

/-- RESIDUE_EXPIRE (R268): every entry at or past its expiry drops its held copies. -/
def residueExpire (s : State) : State :=
  let l := s.clr.residue.filter (residueExpired s)
  forAll expireCopy (l.flatMap (fun e => e.copies)) s

/-- The entry the residue engine visits next, in the order of creation and round again (R267). -/
def residueNext (s : State) : Option Residue :=
  match s.clr.residue.find? (fun e => decide (s.clr.resNext ≤ e.seq)) with
  | some e => some e
  | none => s.clr.residue.head?

/-- Visits an entry: each held copy is tested again in ascending port order, and the next visit is that of the entry after
it. -/
def residueEntry (e : Residue) (s : State) : State :=
  forAll retest (heldByPort s e) { s with clr := { s.clr with resNext := e.seq + 1 } }

/-- RESIDUE_VISIT (R267): the residue engine visits its next entry; expiry is tested before the visit (R268). -/
def residueVisit (s : State) : State :=
  let s1 := residueExpire s
  match residueNext s1 with
  | none => s1
  | some e => residueEntry e s1

/-! ### CELL_PUSH and the audit (R258, R276) -/

/-- CELL_PUSH (R254, R258): the first released cell of bank b is pushed onto its free list, one in a BCLK, and none while
the lists are filled. -/
def cellPush (b : Nat) (s : State) : State :=
  if !fillOver s || mfind s.clr.pushed b == some (bclk s) then s
  else match s.clr.release.find? (fun c => c % 32 == b) with
  | none => s
  | some c =>
    let s1 := { s with clr := { s.clr with release := s.clr.release.erase c, pushed := mput s.clr.pushed b (bclk s) } }
    let f := freeList s1 b
    setFreeList b { f with back := f.back ++ [c] } s1

/-- WP_AUDIT.GO (R276): starts an audit of the cells allocated now, unless one runs; RETURNED stays the last audit's. A cell
granted while it runs is marked at its grant. -/
def wpAudit (s : State) : State :=
  let a := pa pgWp offWP_AUDIT
  if regB s a fWP_AUDIT_BUSY then s
  else setRegF a fWP_AUDIT_BUSY 1 { s with clr := { s.clr with audit := mkeys s.clr.info } }

/-- Cells reached from a descriptor, a pass in flight or a frame in reception (R276). Residue entries reach theirs
through their descriptors, and cells on release queues and free lists are held by nobody. -/
def reached (s : State) : List Nat :=
  (s.clr.desc.flatMap (fun e => copyCells e.2)) ++
  (s.disp.passes.flatMap (fun e => segCells e.2.segs ++ e.2.prev ++
    (match e.2.com with | some c => c.headCells ++ segCells c.segs | none => []))) ++
  (s.ports.port.flatMap (fun e => match e.2.rx with | some r => r.cells | none => []))

/-- AUDIT_DONE (R276): every allocated cell that is neither reached nor granted since the audit began goes back to its list,
at one push per list per BCLK (R254), by CELL_PUSH; RETURNED and the interrupt are set. -/
def auditDone (s : State) : State :=
  let a := pa pgWp offWP_AUDIT
  if !regB s a fWP_AUDIT_BUSY then s
  else
    let r := reached s
    let lost := (mkeys s.clr.info).filter (fun c => s.clr.audit.contains c && !r.contains c)
    let push (c : Nat) (s : State) : State :=
      let m := cellInfo s c
      let s1 := setCellInfo c (infoReset c) s
      let s2 := if s1.clr.retired.contains c then s1 else { s1 with clr := { s1.clr with release := s1.clr.release ++ [c] } }
      fcUpdate m.port s2
    let s1 := forAll push lost s
    raiseIrq pgWp 0 (setReg a (fset 0 fWP_AUDIT_RETURNED lost.length) { s1 with clr := { s1.clr with audit := [] } })

end Sys2Proof.Machine
end

