-- ==== Sys2Proof/Machine/Gates.lean ====
section
/-!
DEFINITION. Time gates (R297 to R303): gate lists on the grid of the time counter, configuration changes, deferred
closes, the guard band, and the commands GATE_READ, GATE_WRITE, CONFIGURATION_CHANGE, CONFIG_CHANGE_TAKE,
GATE_ENTRY_ADVANCE and GATE_EN.
-/

namespace Sys2Proof.Machine
open Sys2Proof

/-! ### Entries -/

/-- Fields of an admin or running entry (R303). -/
def gListBase (e : Nat) : Nat := natField e 15 0
def gListLen (e : Nat) : Nat := natField e 26 16
def gAdminGates (e : Nat) : Nat := natField e 35 28
def gCycle (e : Nat) : Nat := natField e 95 64
def gCte (e : Nat) : Nat := natField e 127 96
def gBase (e : Nat) : Nat := natField e 207 160 * 1000000000 + natField e 159 128
def gMargin (e : Nat) : Nat := natField e 223 208

/-- The admin entry of a port. -/
def gateAdmin (s : State) (p : Nat) : Nat := mget (fun _ => 0) s.gate.admin p

/-- A pool entry; its GATES are all closed while it holds an uncorrected error (R305). -/
def poolEntry (s : State) (i : Nat) : Nat := mget (fun _ => 0) s.gate.pool i
def poolGates (s : State) (i : Nat) : Nat := if s.gate.poolBad.contains i then 0 else poolEntry s i % 256
def poolInterval (s : State) (i : Nat) : Nat := poolEntry s i / 256

/-- Gates of a port at reset: all open, no list. -/
def gatePortReset (_ : Nat) : GatePort := ⟨none, none, 0xFF, none, false⟩

/-- Gate state of a port. -/
def gatePort (s : State) (p : Nat) : GatePort := mget gatePortReset s.gate.port p

/-- Writes the gate state of a port. -/
def setGatePort (p : Nat) (g : GatePort) (s : State) : State :=
  { s with gate := { s.gate with port := mset gatePortReset s.gate.port p g } }

/-! ### Lists on their grid (R298, R300) -/

/-- Starts of the entries of a list as offsets in its cycle, with their pool index; cut at the cycle's end. -/
def entryStarts (s : State) (cycle : Nat) : Nat → Nat → Nat → List (Nat × Nat)
  | 0, _, _ => []
  | n + 1, i, off => if cycle ≤ off then [] else (off, i) :: entryStarts s cycle n (i + 1) (off + poolInterval s i)

/-- Entry starts of a latched configuration. -/
def cfgStarts (s : State) (cfg : Nat) : List (Nat × Nat) :=
  entryStarts s (gCycle cfg) (gListLen cfg) (gListBase cfg) 0

/-- Start of the cycle in which time t falls, for a list whose first cycle starts at `base`; before it, the grid is
continued backwards (R302). -/
def cycleStart (base cycle : Nat) (t : Nat) : Int :=
  if cycle = 0 then base else (base : Int) + (((t : Int) - base) / cycle) * cycle

/-- The cycle that a pending change at `tc` suppresses by CycleTimeExtension: its start, if one is (R300). -/
def extended (r : GateRun) (tc : Nat) : Option Nat :=
  let o := cycleStart r.base (gCycle r.cfg) tc
  if (tc : Int) - o < gCte r.cfg && o > r.base then some o.toNat else none

/-- Position of a running list at time t: start of its cycle, and number of the entry in force. -/
def listPos (s : State) (r : GateRun) (pend : Option (Nat × Nat)) (t : Nat) : Nat × Nat :=
  let cyc := (cycleStart r.base (gCycle r.cfg) t).toNat
  let cyc' := match pend with
    | some (_, tc) => match extended r tc with
      | some o => if o ≤ cyc then o - gCycle r.cfg else cyc
      | none => cyc
    | none => cyc
  (cyc', ((cfgStarts s r.cfg).filter (fun e => cyc' + e.1 ≤ t)).length - 1)

/-- Gate states of entry number i of a configuration. -/
def cfgGates (s : State) (cfg i : Nat) : Nat := poolGates s (gListBase cfg + i)

/-- Whether gate c of a port is open at a time, as its lists stand now (R301). -/
def gateAt (s : State) (g : GatePort) (c t : Nat) : Bool :=
  match g.pend with
  | some (cfg, tc) =>
    if tc ≤ t then (cfgGates s cfg (listPos s ⟨cfg, tc, tc, 0⟩ none t).2).testBit c
    else match g.run with
      | some r => (cfgGates s r.cfg (listPos s r g.pend t).2).testBit c
      | none => g.gates.testBit c
  | none => match g.run with
    | some r => (cfgGates s r.cfg (listPos s r none t).2).testBit c
    | none => g.gates.testBit c

/-- Times after t at which a port's gates may change: the entry starts of this cycle and the next, the pending change
time, and the entry starts of its first two cycles. -/
def gateTimes (s : State) (g : GatePort) (t : Nat) : List Nat :=
  let cyc (cfg start : Nat) : List Nat := (cfgStarts s cfg).map (fun e => start + e.1)
  (match g.run with
    | some r =>
      let st := (listPos s r none t).1
      cyc r.cfg st ++ cyc r.cfg (st + gCycle r.cfg) ++ cyc r.cfg (st + 2 * gCycle r.cfg)
    | none => []) ++
  (match g.pend with
    | some (cfg, tc) =>
      let st := if tc ≤ t then (listPos s ⟨cfg, tc, tc, 0⟩ none t).1 else tc
      cyc cfg st ++ cyc cfg (st + gCycle cfg) ++ cyc cfg (st + 2 * gCycle cfg)
    | none => [])

/-- The first time after t at which gate c closes, if one is known (R301). A gate that stays open across a cycle
boundary or a change time does not close there. -/
def nextClose (s : State) (p c t : Nat) : Option Nat :=
  let g := gatePort s p
  ((gateTimes s g t).filter (fun x => t < x && !gateAt s g c x)).min?

/-! ### Applying gate states, with deferred closes (R302) -/

/-- Class of the frame a port is transmitting. -/
def txClass (s : State) (p : Nat) : Option Nat :=
  match (port s p).tx with
  | some id => match mfind s.clr.desc id with
    | some d => some (nClass (node s (nodeKey 0 d.queue)))
    | none => none
  | none => none

/-- A close is deferred (R302). -/
def deferClose (s : State) : State := raiseIrq pgGate 1 (count pgGate cGate_CLOSE_DEFERRED s)

/-- Puts gate states in force; a close that falls while a frame of its class is in transmission is deferred to the end
of that frame and counted (R302). -/
def applyGates (p gates : Nat) (s : State) : State :=
  let g := gatePort s p
  match txClass s p with
  | some c =>
    if g.gates.testBit c && !gates.testBit c then
      let s1 := setGatePort p { g with gates := natSetBit gates c true, deferred := some gates } s
      -- a close already deferred goes on, and is counted once
      if (g.deferred.getD g.gates).testBit c then deferClose s1 else s1
    else setGatePort p { g with gates := gates, deferred := none } s
  | none => setGatePort p { g with gates := gates, deferred := none } s

/-- Gate states that hold for a frame that starts after the one in transmission: a deferred close has then taken place
(R302). -/
def gatesNext (s : State) (p : Nat) : Nat := (gatePort s p).deferred.getD (gatePort s p).gates

/-- The frame in transmission has ended: a deferred close takes place (R302). -/
def endDefer (p : Nat) (s : State) : State :=
  let g := gatePort s p
  match g.deferred with
  | some gates => setGatePort p { g with gates := gates, deferred := none } s
  | none => s

/-- GATE_ENTRY_ADVANCE (R298): the running list of port p moves to the entry in which the time now falls. After a step
of the time counter it moves only when no frame of the port is in transmission (R302). -/
def gateAdvance (p : Nat) (s : State) : State :=
  let g := gatePort s p
  match g.run with
  | none => s
  | some r =>
    if g.stepped && (port s p).tx.isSome then s
    else
      let due : Bool := match g.pend with | some (_, tc) => decide (tc ≤ nowNs s) | none => false
      let pos := listPos s r g.pend (nowNs s)
      if due || (pos.1 == r.cyc && pos.2 == r.entry && !g.stepped) then s
      else
        let s1 := if s.gate.poolBad.contains (gListBase r.cfg + pos.2) then count pgGate cGate_ENTRY_UC s else s
        applyGates p (cfgGates s r.cfg pos.2)
          (setGatePort p { g with run := some { r with cyc := pos.1, entry := pos.2 }, stepped := false } s1)

/-- CONFIG_CHANGE_TAKE (R299, R300): at the change time the pending configuration becomes the running one, and its
first cycle begins. -/
def configTake (p : Nat) (s : State) : State :=
  let g := gatePort s p
  match g.pend with
  | none => s
  | some (cfg, tc) =>
    if tc ≤ nowNs s then
      let s0 := if s.gate.poolBad.contains (gListBase cfg) then count pgGate cGate_ENTRY_UC s else s
      raiseIrq pgGate 0 (count pgGate cGate_CONFIG_CHANGES
        (applyGates p (cfgGates s cfg 0)
          (setGatePort p { g with run := some ⟨cfg, tc, tc, 0⟩, pend := none, stepped := false } s0)))
    else s

/-! ### GATE_CMD (R291, R299, R303) -/

/-- Statuses of SCH_CMD and GATE_CMD. -/
abbrev stOk : Nat := 0
abbrev stQuiet : Nat := 1
abbrev stEncoding : Nat := 2
abbrev stBadIndex : Nat := 3

/-- The number held by `n` data registers from a byte address. -/
def dRegs (s : State) (a : Nat) : Nat → Nat
  | 0 => 0
  | n + 1 => (reg s a).toNat + 2 ^ 32 * dRegs s (a + 4) n

/-- Loads `n` data registers from a byte address with a number. -/
def setDRegs (a v : Nat) : Nat → State → State
  | 0, s => s
  | n + 1, s => setDRegs (a + 4) (v / 2 ^ 32) n (setReg a (BitVec.ofNat 32 v) s)

/-- Ends a SCH_CMD or GATE_CMD command with a status; a refusal for reason QUIET or ENCODING is also recorded in
WRITE_REFUSED at offset 0x050 (R291). -/
def cmdStatus (page : Nat) (f : Fld) (st : Nat) (s : State) : State :=
  let s1 := setReg (pa page 0x50) (fset 0 f st) s
  if st = stQuiet then refuse page 0x50 reasonQuiet s1
  else if st = stEncoding then refuse page 0x50 reasonEncoding s1
  else s1

def gateStatus (st : Nat) (s : State) : State := cmdStatus pgGate fGATE_CMD_STATUS st s

/-- GATE_CMD READ (R303): TYPE 0 admin entry, 1 running entry, 2 port status, 3 pool entry; any other TYPE completes
with STATUS ENCODING (R291). -/
def gateRead (ty idx : Nat) (s : State) : State :=
  let a := pa pgGate (offGATE_D 0)
  if 3 < ty then gateStatus stEncoding s
  else if ty < 3 && 256 ≤ idx then gateStatus stBadIndex s
  else if ty = 0 then gateStatus stOk (setDRegs a (gateAdmin s idx) 8 s)
  else if ty = 1 then
    gateStatus stOk (setDRegs a (match (gatePort s idx).run with | some r => r.cfg | none => 0) 8 s)
  else if ty = 2 then
    let g := gatePort s idx
    let tc := match g.pend with | some (_, tc) => tc | none => 0
    let cur := match g.run with | some r => r.entry | none => 0
    let v := (if g.pend.isSome then 1 else 0) + (if g.run.isSome then 2 else 0) + cur * 4 + g.gates * 2 ^ 16
      + (tc % 1000000000) * 2 ^ 32 + (tc / 1000000000 % 2 ^ 48) * 2 ^ 64
    gateStatus stOk (setDRegs a v 8 s)
  else gateStatus stOk (setDRegs a (poolEntry s idx) 8 s)

/-- Bits of an admin entry outside every field. -/
def gateReserved (e : Nat) : Bool :=
  natField e 27 27 != 0 || natField e 63 36 != 0 || e ≥ 2 ^ 224

/-- Whether an admin entry holds a reserved encoding: LIST_LEN, CYCLE, CTE or BASE_NS out of range (R303). -/
def adminLegal (e : Nat) : Bool :=
  let len := gListLen e
  1 ≤ len && len ≤ 1024 && 100 ≤ gCycle e && gCycle e ≤ 4000000000 && gCte e ≤ gCycle e &&
  natField e 159 128 ≤ 999999999 && !gateReserved e

/-- Whether a pool entry lies in the range of a running or pending list (R303). -/
def poolInUse (s : State) (i : Nat) : Bool :=
  let within (cfg : Nat) : Bool := gListBase cfg ≤ i && i < gListBase cfg + gListLen cfg
  s.gate.port.any (fun e =>
    (match e.2.run with | some r => within r.cfg | none => false) ||
    (match e.2.pend with | some (cfg, _) => within cfg | none => false))

/-- GATE_CMD WRITE (R303): the admin entry at any time; a pool entry outside every running or pending list. -/
def gateWrite (ty idx : Nat) (s : State) : State :=
  let v := dRegs s (pa pgGate (offGATE_D 0)) 8
  if ty = 0 then
    if 256 ≤ idx then gateStatus stBadIndex s
    else if natField v 159 128 > 999999999 then gateStatus stEncoding s
    else
      let keep := v % 2 ^ 224
      let e := keep - natField keep 27 27 * 2 ^ 27 - natField keep 63 36 * 2 ^ 36
      gateStatus stOk { s with gate := { s.gate with admin := mset (fun _ => 0) s.gate.admin idx e } }
  else if ty = 3 then
    let w := v % 2 ^ 32
    if poolInUse s idx then gateStatus stQuiet s
    else if w / 256 = 0 then gateStatus stEncoding s
    else gateStatus stOk { s with gate := { s.gate with pool := mset (fun _ => 0) s.gate.pool idx w,
                                                        poolBad := nsErase s.gate.poolBad idx } }
  else gateStatus stEncoding s

/-- The change time of a configuration requested at t_r (R299). -/
def changeTime (e tr : Nat) : Nat :=
  if tr + 1000 ≤ gBase e then gBase e
  else gBase e + (tr + 1000 - gBase e + gCycle e - 1) / gCycle e * gCycle e

/-- GATE_CMD OP 2 (R299): latches the port's admin entry as its pending configuration with its change time. -/
def configChange (ty idx : Nat) (s : State) : State :=
  if ty ≠ 0 then gateStatus stEncoding s
  else if 256 ≤ idx then gateStatus stBadIndex s
  else if !gateEn s idx then gateStatus stQuiet s
  else
    let e := gateAdmin s idx
    if gListLen e = 0 || gListLen e > 1024 || gListBase e + gListLen e > 65536 || gCycle e < 100 ||
        gCycle e > 4000000000 || gCte e > gCycle e then gateStatus stEncoding s
    else
      gateStatus stOk (setGatePort idx { gatePort s idx with pend := some (e, changeTime e (nowNs s)) } s)

/-- One port's part of a GATE_EN write (R297): 0 discards the lists and opens every gate; a change to 1 sets the gates
to ADMIN_GATES. -/
def gateEnPort (p : Nat) (was now_ : Bool) (s : State) : State :=
  if was == now_ then s
  else if now_ then applyGates p (gAdminGates (gateAdmin s p)) s
  else setGatePort p (gatePortReset p) s

/-- GATE_EN (R297): a write of GATE_EN_m. -/
def gateEnWrite (m : Nat) (v : Word) (s : State) : State :=
  let a := pa pgGate (offGATE_EN m)
  let old := (reg s a).toNat
  forAll (fun i s => gateEnPort (32 * m + i) (old.testBit i) (v.toNat.testBit i) s) (List.range 32) (setReg a v s)

/-- One port at a step of the time counter: its running list owes a move to its new place. Where a frame is in
transmission whose gate that move closes, the close is deferred, and counted (R302). -/
def gateStepped (p : Nat) (s : State) : State :=
  let g := gatePort s p
  match g.run with
  | none => s
  | some r =>
    let s1 := setGatePort p { g with stepped := true } s
    let new := cfgGates s r.cfg (listPos s r g.pend (nowNs s)).2
    match txClass s p with
    | some c => if (g.deferred.getD g.gates).testBit c && !new.testBit c then deferClose s1 else s1
    | none => s1

/-- A step of the time counter (R302). -/
def gatesStepped (s : State) : State := forAll gateStepped (mkeys s.gate.port) s

/-- Every change of gates that is due has taken place (R298, R299). -/
def gatesSettle (s : State) : State := forAll (fun p s => gateAdvance p (configTake p s)) (mkeys s.gate.port) s

end Sys2Proof.Machine
end

