-- ==== Sys2Proof/Machine/Sched.lean ====
section
/-!
DEFINITION. Scheduler and Ring Calendar (R282 to R292): eligibility, deficit round robin, shapers, wheels, and the
commands SELECTION, SCH_READ, SCH_WRITE, FLUSH, WHEEL_RELEASE and RC_LAG_READ.
-/

namespace Sys2Proof.Machine
open Sys2Proof

/-! ### Shapers and wheels (R286 to R290) -/

/-- The local count in units of 1/65,536 ns (R287, R288). -/
def now16 (s : State) : Nat := now s * 65536 / 3

/-- Deficit and next start of a node nobody has served: D 0 (R284); S 0 (log entry 3, DESIGN CHOICE). -/
def dynReset (_ : Nat) : Dyn := ⟨0, 0⟩

/-- Deficit and next start of a node. -/
def dyn (s : State) (key : Nat) : Dyn := mget dynReset s.sch.dyn key

/-- Writes deficit and next start of a node. -/
def setDyn (key : Nat) (v : Dyn) (s : State) : State :=
  { s with sch := { s.sch with dyn := mset dynReset s.sch.dyn key v } }

/-- Burst tolerance of an entry in 1/65,536 ns: max(BURST × 64 × 8 / R, 256 ns) (R287). -/
def tau (e : Nat) : Nat := Nat.max (nBurst e * 512 * 1000000000 * 65536 / rateOf (nRate e)) (256 * 65536)

/-- Whether a node waits in a wheel; it permits otherwise (R287, R289, R304). -/
def inWheel (s : State) (key : Nat) : Bool := s.sch.wheel.any (fun e => e.key == key)

/-- The wheel place of permit time x (1/65,536 ns): a fine slot, the coarse slot of x, or the coarse slot 4,095 places
ahead (R289). -/
def wheelPlace (s : State) (key x : Nat) : WheelEntry :=
  let n := now16 s
  let span := 262144 * 65536
  if x < n + span then ⟨key, false, (x + 16 * 65536 - 1) / (16 * 65536) * 16, x⟩
  else if x < n + 4095 * span then ⟨key, true, x / span * 262144, x⟩
  else ⟨key, true, (n / span + 4095) * 262144, x⟩

/-- Adds a wheel entry; a key holds one entry at most. -/
def wheelAdd (e : WheelEntry) (s : State) : State :=
  { s with sch := { s.sch with wheel := s.sch.wheel.filter (fun x => x.key != e.key) ++ [e] } }

/-- S of a shaped node becomes `from_` + l × 8 / R; a permit time in the future enters a wheel (R287, R289)
(log entry 13, DEDUCED). -/
def shaperAdd (key from_ l : Nat) (s : State) : State :=
  let e := node s key
  let r := rateOf (nRate e)
  if r = 0 then s
  else
    let st := from_ + l * 8 * 1000000000 * 65536 / r
    let s1 := setDyn key { dyn s key with s := st } s
    if st - tau e > now16 s then wheelAdd (wheelPlace s key (st - tau e)) s1 else s1

/-- Charges length l to a shaped node selected now: S := max(S, t) + l × 8 / R (R287). -/
def shaperCharge (key l : Nat) (s : State) : State := shaperAdd key (Nat.max (dyn s key).s (now16 s)) l s

/-- Charges a length to a node whose frame was selected before: S := S + l × 8 / R (R285, R287). -/
def shaperMore (key l : Nat) (s : State) : State := shaperAdd key (dyn s key).s l s

/-! ### Eligibility (R282) -/

/-- Transmitted length of a copy on its port (R74, R285): Trail header, padding to 64 bytes, FCS. -/
def txLen (s : State) (d : Desc) : Nat :=
  Nat.max (d.len + (if trailEn s d.port && !d.rootway then 16 else 0)) 60 + 4

/-- The length that shapers and deficits count (R285). -/
def schLen (s : State) (d : Desc) : Nat :=
  let l := (txLen s d : Int) + portOvh s d.port + nAdj (node s (nodeKey 0 d.queue))
  (max 1 (min 16383 l)).toNat

/-- Bytes received so far of the frame of a pass. -/
def rxCount (s : State) (pass : Nat) : Nat :=
  (s.ports.port.map (fun e => match e.2.rx with
    | some r => if r.pass == some pass then r.bytes.length else 0
    | none => 0)).sum

/-- The receive port of a copy's frame, from its packet header (R251). -/
def copyRxPort (s : State) (d : Desc) : Nat := leAt (pktHeader s d.headCells) 16 2 % 512

/-- Whether a copy's frame may be selected: it is complete, or it is cut-through and
B ≥ E × (1 - r_in / r_out) + 128 (R272, R282). -/
def frameReady (s : State) (d : Desc) : Bool :=
  match d.rxPass with
  | none => true
  | some pass =>
    let rp := copyRxPort s d
    let rin := portRate s rp
    let rout := portRate s d.port
    let e := if d.l3end ≠ 0 then d.l3end else maxLen s rp - 4
    d.ct && decide (e * (rout - rin) + 128 * rout ≤ rxCount s pass * rout)

/-- Whether class c of port p is paused by a PFC priority timer (R78). -/
def pfcPaused (s : State) (p c : Nat) : Bool :=
  p < 256 && (List.range 8).any (fun i =>
    natField (live s (pa (macPage p) offPFC_MAP)).toNat (4 * i + 2) (4 * i) == c && decide (now s < (fcTimer s p i).fin))

/-- Whether the PAUSE timer of port p runs (R77). -/
def pausePaused (s : State) (p : Nat) : Bool := p < 256 && decide (now s < (fcTimer s p 8).fin)

/-- MARGIN in force on a port: that of its running list, else of its pending one, latched with it (R303). With neither no
close is known, and it says nothing. -/
def gateMargin (s : State) (p : Nat) : Nat :=
  let g := gatePort s p
  match g.run, g.pend with
  | some r, _ => gMargin r.cfg
  | none, some c => gMargin c.1
  | none, none => 0

/-- Time of `len` bytes on a port with preamble and gap, in units of the local count, rounded up (R74). -/
def wireTime (s : State) (p len : Nat) : Nat :=
  let r := portRate s p
  if p < 256 && r ≠ 0 then ((len + 20) * 24 + r - 1) / r else 0

/-- Transmitted length of a frame that waits in X9. -/
def selLen (s : State) (x : TxSel) : Nat :=
  match mfind s.clr.desc x.id with | some d => txLen s { d with len := x.len } | none => x.len

/-- How long a frame behind `ahead` frames of X9 waits for its first bit, in units of the local count: to the end of the
frame in transmission and its gap, and of those frames (R301). -/
def startWait (s : State) (p : Nat) (ahead : List TxSel) : Nat :=
  ((port s p).macFree - now s) + (ahead.map (fun x => wireTime s p (selLen s x))).sum

/-- The guard band for a frame of `len` transmitted bytes of class c whose first bit would start at t (R301). -/
def guardOk (s : State) (p c len : Nat) (ahead : List TxSel) : Bool :=
  let w : Int := startWait s p ahead
  match nextClose s p c (nowNs s + startWait s p ahead / 3) with
  | none => true
  | some close =>
    let r : Int := portRate s p
    let bits : Int := ((len : Int) + max 0 (portOvh s p)) * 8
    decide ((fracOfTc s.time.now * r + (bits + (gateMargin s p : Int) * r) * 2 ^ 44) * 3 + w * r * 2 ^ 44 ≤
      (close : Int) * r * 2 ^ 44 * 3)

/-- Gate of class c open and guard band passed, for a frame of `len` bytes behind `ahead` frames of X9 (R282, R297). -/
def gatePassAfter (s : State) (p c len : Nat) (ahead : List TxSel) : Bool :=
  !gateEn s p || ((gatesNext s p).testBit c && guardOk s p c len ahead)

/-- Gate of class c open and guard band passed, for a frame of `len` bytes selected now. -/
def gatePass (s : State) (p c len : Nat) : Bool := gatePassAfter s p c len (port s p).next

/-- Posted entries of receive ring k (R379, R380). -/
def ringPosted (s : State) (k : Nat) : Nat :=
  let m := 2 ^ (liveF s (pa pgRxr (offRXR_CFG k)) fRXR_CFG_LOG2 + 1)
  (regF s (pa pgRxr (offRXR_TAIL k)) fRXR_TAIL_POS + m - regF s (pa pgRxr (offRXR_HEAD k)) fRXR_HEAD_POS % m) % m

/-- Entries of receive ring k that `n` bytes need. -/
def ringNeed (s : State) (k n : Nat) : Nat :=
  let b := liveF s (pa pgRxr (offRXR_CFG k)) fRXR_CFG_BUFSZ * 256
  (n + b - 1) / b

/-- Whether receive ring k is enabled and has the entries that `n` bytes need (R380). -/
def ringRoom (s : State) (k n : Nat) : Bool :=
  k < 16 && liveB s (pa pgRxr (offRXR_CFG k)) fRXR_CFG_EN && !regB s (pa pgRxr (offRXR_CFG k)) fRXR_CFG_ERR &&
  ringNeed s k n ≤ ringPosted s k

/-- The host link carries DMA. -/
def hostUp (s : State) : Bool := s.pin.pcieUp && s.pin.perstN

/-- Whether the exception queue's first packet can be delivered now: it is served ahead of port 256's tree (R381). A record takes
80 bytes before the frame. -/
def excReady (s : State) : Bool :=
  match s.disp.excQ with
  | [] => false
  | k :: _ => match mfind s.disp.passes k with
    | none => false
    | some p =>
      p.complete && !p.bad && !p.broken && hostUp s && !safe s &&
      ringRoom s (liveF s (pa dev offACT_CFG) fACT_CFG_EXC_RING) (80 + p.head.length + (p.segs.map (fun g => g.len)).sum)

/-- Whether a queue of port p is eligible (R282). -/
def queueEligible (s : State) (p q : Nat) : Bool :=
  let e := node s (nodeKey 0 q)
  match queueList s q with
  | [] => false
  | id :: _ => match mfind s.clr.desc id with
    | none => false
    | some d =>
      nEn e && !d.held && frameReady s d && !inWheel s (nodeKey 0 q) && !pfcPaused s p (nClass e) &&
      gatePass s p (nClass e) (txLen s d) && (p != 256 || ringRoom s (q - nQbase (node s (nodeKey 3 256))) d.len)

/-- Whether a twig or branch is enabled and its shaper permits. -/
def nodeOpen (s : State) (key : Nat) : Bool := nEn (node s key) && !inWheel s key

/-- Sorts numbers into a set. -/
def toSet (l : List Nat) : NSet := l.foldl nsInsert []

/-- Eligible queues of a port, ascending. -/
def eligQueues (s : State) (p : Nat) : List Nat :=
  let e := node s (nodeKey 3 p)
  (mkeys s.sch.qs).filter (fun q => nQbase e ≤ q && q < nQbase e + nQcount e &&
    queuePort s q == p && queueEligible s p q)

/-- Eligible twigs of a port, ascending. -/
def eligTwigs (s : State) (p : Nat) : List Nat :=
  toSet (((eligQueues s p).map (fun q => nParent 0 (node s (nodeKey 0 q)))).filter (fun t => nodeOpen s (nodeKey 1 t)))

/-- Eligible branches of a port, ascending. -/
def eligBranches (s : State) (p : Nat) : List Nat :=
  toSet (((eligTwigs s p).map (fun t => nParent 1 (node s (nodeKey 1 t)))).filter (fun b => nodeOpen s (nodeKey 2 b)))

/-- Whether a port's own PAUSE and PFC frames pass its gates, as 64-byte frames of class FC_CFG.GATE_CLASS (R79). -/
def fcGateOk (s : State) (p : Nat) : Bool :=
  gatePassAfter s p (liveF s (pa (macPage p) offFC_CFG) fFC_CFG_GATE_CLASS) 64 []

/-- Whether X9 has room for a further frame's first cell, four of its 64-byte places (R17, R282): a port has the eight
places of each active lane, and the rest of the frame in transmission and the frames that wait fill them. Ports 256 to 259,
which have no X9, take one frame behind the one in transmission (log entry 115, DESIGN CHOICE). -/
def x9Room (s : State) (p : Nat) : Bool :=
  let v := port s p
  let ids := v.tx.toList ++ v.next.map (fun x => x.id)
  let streamed := ids.all (fun id => match mfind s.clr.desc id with | some d => d.rxPass.isNone | none => false)
  let rest := if v.tx.isSome then (v.macFree - now s) * portRate s p / 24 - 20 else 0
  let used := (rest + 63) / 64 + (v.next.map (fun x => (selLen s x + 63) / 64)).sum
  ids.isEmpty || (streamed &&
    (if p < 256 then decide (used + 4 ≤ 8 * regF s (pa (macPage p) offMAC_STS) fMAC_STS_ACTIVE_LANES) else v.next.isEmpty))

/-- Whether a port may select a queued frame: its MAC runs, its link is up, it is not in LPI, X9 has room, and no
flow-control frame is to go first (R79, R282); on port 256 no packet of the exception queue (R381). -/
def portOpen (s : State) (p : Nat) : Bool :=
  x9Room s p && linkUp s p && !pausePaused s p &&
  ((port s p).fcOwed.isEmpty || !fcGateOk s p) && !(p == 256 && excReady s) &&
  (256 ≤ p || (running s (macPage p) && !regB s (pa (macPage p) offMAC_STS) fMAC_STS_TX_LPI))

/-- Whether a port is eligible (R282). -/
def portEligible (s : State) (p : Nat) : Bool :=
  nodeOpen s (nodeKey 3 p) && portOpen s p && !(eligBranches s p).isEmpty

/-! ### Deficit round robin (R284) -/

/-- Round list of a parent's band. -/
def roundList (s : State) (parent band : Nat) : List Nat := mget (fun _ => []) s.sch.round (parent * 8 + band)

/-- Writes a round list. -/
def setRound (parent band : Nat) (l : List Nat) (s : State) : State :=
  { s with sch := { s.sch with round := mset (fun _ => []) s.sch.round (parent * 8 + band) l } }

/-- Quantum of a child: 64 × WEIGHT. -/
def quantum (s : State) (key : Nat) : Nat := 64 * nWeight (node s key)

/-- A child joins the tail of its band's round list with D := min(D, Q). -/
def joinRound (parent band key : Nat) (s : State) : State :=
  let d := dyn s key
  setRound parent band (roundList s parent band ++ [key])
    (setDyn key { d with d := min d.d (quantum s key : Int) } s)

/-- Brings one band's round list up to date with the eligible children of that band, ascending. -/
def refreshBand (parent : Nat) (elig : List Nat) (band : Nat) (s : State) : State :=
  let mine := elig.filter (fun k => nBand (node s k) == band)
  let keep := (roundList s parent band).filter (fun k => mine.contains k)
  forAll (joinRound parent band) (mine.filter (fun k => !keep.contains k)) (setRound parent band keep s)

/-- The loop of R284 over a round list: passes heads whose deficit is not above 0, with at most `n` passes. -/
def drrLoop (parent band : Nat) : Nat → State → State
  | 0, s => s
  | n + 1, s =>
    match roundList s parent band with
    | [] => s
    | c :: cs =>
      let d := dyn s c
      if d.d > 0 then s
      else drrLoop parent band n
        (setRound parent band (cs ++ [c]) (setDyn c { d with d := d.d + (quantum s c : Int) } s))

/-- Passes after which every deficit of a list is above 0. -/
def drrFuel (s : State) (l : List Nat) : Nat :=
  (l.length + 1) * ((l.map (fun c => (dyn s c).d.natAbs / (quantum s c + 1) + 2)).sum + 1)

/-- The parent chooses among its eligible children: highest band with one, then deficit round robin. -/
def drrChoose (parent : Nat) (elig : List Nat) (s : State) : Option Nat × State :=
  let s1 := forAll (refreshBand parent elig) (List.range 8) s
  match ((List.range 8).reverse).find? (fun b => !(roundList s1 parent b).isEmpty) with
  | none => (none, s1)
  | some b =>
    let s2 := drrLoop parent b (drrFuel s1 (roundList s1 parent b)) s1
    ((roundList s2 parent b).head?, s2)

/-- Charges a chosen child: D := D - l; at or below 0 it gains Q and moves to the tail (R284). -/
def drrCharge (parent l key : Nat) (s : State) : State :=
  let b := nBand (node s key)
  let d := dyn s key
  let d1 := d.d - (l : Int)
  if d1 ≤ 0 then
    setRound parent b ((roundList s parent b).filter (fun k => k != key) ++ [key])
      (setDyn key { d with d := d1 + (quantum s key : Int) } s)
  else setDyn key { d with d := d1 } s

/-! ### SELECTION (R283) -/

/-- Ports of a selector: the 8 of its quad, or 256 to 259. -/
def selectorPorts (g : Nat) : List Nat := if g < 32 then (List.range 8).map (fun i => 8 * g + i) else [256, 257, 258, 259]

/-- The first eligible port of a selector after the one it served last; before the first, the last of its group. -/
def selectPort (s : State) (g : Nat) : Option Nat :=
  let l := selectorPorts g
  let last := mget (fun g => (selectorPorts g).getLastD 0) s.sch.last g
  (l.filter (fun p => last < p) ++ l.filter (fun p => p ≤ last)).find? (portEligible s)

/-- A selected frame starts on its port (R283, R308). -/
def startTx (p : Nat) (x : TxSel) (s : State) : State :=
  let v := port s p
  setPort p { v with tx := some x.id, txAt := s.time.now, txStomp := false, txMax := x.max, txLen := x.len,
                     macFree := Nat.max (now s) v.macFree + wireTime s p (selLen s x) } s

/-- A selected frame goes into X9: it starts, or follows the frame in transmission. -/
def takeX9 (p : Nat) (x : TxSel) (s : State) : State :=
  if (port s p).tx.isNone && (port s p).next.isEmpty then startTx p x s
  else setPort p { port s p with next := (port s p).next ++ [x] } s

/-- Whether the first frame that waits in X9 may start. It is still a queued frame: it waits while the port is quiesced,
down, in LPI or paused, behind the port's own flow-control frames, and for its class and gate with the guard band of the
time that remains (R72, R77 to R80, R304; log entry 11, DEDUCED). -/
def nextReady (s : State) (p : Nat) (x : TxSel) : Bool :=
  let cls := match mfind s.clr.desc x.id with | some d => nClass (node s (nodeKey 0 d.queue)) | none => 0
  !safe s && linkUp s p && !pausePaused s p && !pfcPaused s p cls && ((port s p).fcOwed.isEmpty || !fcGateOk s p) &&
  gatePassAfter s p cls (selLen s x) [] &&
  (256 ≤ p || (running s (macPage p) && !regB s (pa (macPage p) offMAC_STS) fMAC_STS_TX_LPI))

/-- The first frame that waits in X9 starts once the port is free and the frame may start. -/
def startNext (p : Nat) (s : State) : State :=
  let v := port s p
  match v.tx, v.next with
  | none, x :: rest => if nextReady s p x then startTx p x (setPort p { v with next := rest } s) else s
  | _, _ => s

/-- The transmitter of port p is free: a deferred close and a move owed after a time step take place, and the next frame of
X9 starts (R302). -/
def txFree (p : Nat) (s : State) : State := startNext p (gateAdvance p (endDefer p s))

/-- A copy that waits in X9 and is dropped no longer follows. -/
def unselect (id : Nat) (s : State) : State :=
  forAll (fun (o : Nat × PortSt) s =>
    if o.2.next.any (fun x => x.id == id) then setPort o.1 { o.2 with next := o.2.next.filter (fun x => x.id != id) } s
    else s) s.ports.port s

/-- Charges what a frame has grown since its selection, so that queue, twig, branch and port have counted the length the
MAC sends, once (R284, R285). A deficit that falls to 0 or below by it is topped up where the loop of R284 next meets it. -/
def chargeRest (p : Nat) (d : Desc) (s : State) : State :=
  let l := schLen s d - schLen s { d with len := (port s p).txLen }
  if l = 0 then s
  else
    let qk := nodeKey 0 d.queue
    let tk := nodeKey 1 (nParent 0 (node s qk))
    let bk := nodeKey 2 (nParent 1 (node s tk))
    let pk := nodeKey 3 p
    let s1 := forAll (fun k s => setDyn k { dyn s k with d := (dyn s k).d - (l : Int) } s) [qk, tk, bk] s
    forAll (fun k s => shaperMore k l s) [qk, tk, bk, pk] s1

/-- Chooses branch, twig and queue of port p, charges them, and puts the queue's head into X9. -/
def selectFrom (g p : Nat) (s : State) : State :=
  let b := drrChoose (nodeKey 3 p) ((eligBranches s p).map (nodeKey 2)) s
  match b.1 with
  | none => s
  | some bk =>
    let twigs := (eligTwigs s p).filter (fun t => nodeKey 2 (nParent 1 (node s (nodeKey 1 t))) == bk)
    let t := drrChoose bk (twigs.map (nodeKey 1)) b.2
    match t.1 with
    | none => s
    | some tk =>
      let queues := (eligQueues s p).filter (fun q => nodeKey 1 (nParent 0 (node s (nodeKey 0 q))) == tk)
      let q := drrChoose tk (queues.map (nodeKey 0)) t.2
      match q.1 with
      | none => s
      | some qk =>
        match queueList s qk with
        | [] => s
        | id :: rest => match mfind s.clr.desc id with
          | none => s
          | some d =>
            let l := schLen s d
            let s1 := drrCharge (nodeKey 3 p) l bk (drrCharge bk l tk (drrCharge tk l qk q.2))
            let s2 := forAll (fun k s => shaperCharge k l s) [qk, tk, bk, nodeKey 3 p] s1
            let s3 := setQueueList qk rest s2
            let s4 := takeX9 p ⟨id, maxLen s p, d.len⟩ s3
            let last := mset (fun g => (selectorPorts g).getLastD 0) s4.sch.last g p
            count pgSch cSch_SELECTIONS { s4 with sch := { s4.sch with last := last } }

/-- SELECTION (R283): selector g chooses one frame of an eligible port; nothing is selected in the safe state (R419)
(log entry 11, DEDUCED). -/
def selection (g : Nat) (s : State) : State :=
  if safe s then s
  else match selectPort s g with
    | none => s
    | some p => selectFrom g p s

/-! ### SCH_CMD (R291, R292) -/

/-- Ends a SCH_CMD command with a status. -/
def schStatus (st : Nat) (s : State) : State := cmdStatus pgSch fSCH_CMD_STATUS st s

/-- Queue status, TYPE 4 (R292). -/
def queueStatus (s : State) (q : Nat) : Nat :=
  let e := node s (nodeKey 0 q)
  let p := queuePort s q
  let ids := queueList s q
  let ds := ids.filterMap (fun id => mfind s.clr.desc id)
  let held := (ds.filter (fun d => d.held)).length
  let gateWait : Bool := match ds with
    | d :: _ => !gatePass s p (nClass e) (txLen s d)
    | [] => gateEn s p && !(gatePort s p).gates.testBit (nClass e)
  let b (x : Bool) (i : Nat) : Nat := if x then 2 ^ i else 0
  qcells s q % 2 ^ 20 + (ds.length - held) * 2 ^ 20 + (held % 4096) * 2 ^ 40 + b (queueEligible s p q) 52
    + b (inWheel s (nodeKey 0 q)) 53 + b gateWait 54 + b (pfcPaused s p (nClass e) || pausePaused s p) 55

/-- SCH_CMD READ (R291). -/
def schRead (ty idx : Nat) (s : State) : State :=
  let a := pa pgSch (offSCH_D 0)
  if poolSize (if ty = 4 then 0 else ty) ≤ idx then schStatus stBadIndex s
  else schStatus stOk (setDRegs a (if ty = 4 then queueStatus s idx else node s (nodeKey ty idx)) 4 s)

/-- The bits of an entry that its layout names; the others are reserved and stay 0 (R292). -/
def entryMask (ty v : Nat) : Nat :=
  let f (hi lo : Nat) : Nat := natField v hi lo * 2 ^ lo
  let tail := f 30 30 + f 48 32 + f 64 49
  match ty with
  | 0 => f 13 0 + f 16 14 + f 19 17 + f 29 20 + tail + f 72 65 + f 92 73
  | 1 => f 11 0 + f 16 14 + f 29 20 + tail
  | 2 => f 8 0 + f 16 14 + f 29 20 + tail
  | _ => f 14 0 + f 28 16 + tail + f 72 65

/-- Whether an entry holds a reserved encoding (R286, R292). -/
def entryIllegal (ty e : Nat) : Bool :=
  let r := rateOf (nRate e)
  (nRate e % 4096 != 0 && (r < 64000 || 400000000000 < r)) ||
  (ty != 3 && nWeight e == 0) ||
  (ty == 2 && 260 ≤ nParent 2 e) ||
  (ty == 0 && 524288 < nTail e) ||
  (ty == 3 && (4096 < nQcount e || nAdj e < -64))

/-- Class Q fields of an entry: PARENT and CLASS, or QBASE and QCOUNT (R292). -/
def entryQuiet (ty e : Nat) : Nat × Nat :=
  match ty with
  | 0 => (nParent 0 e, nClass e)
  | 3 => (nQbase e, nQcount e)
  | _ => (nParent ty e, 0)

/-- Entries of a kind that are enabled and satisfy a test, over the whole pool. -/
def countEnabled (s : State) (kind : Nat) (f : Nat → Bool) : Nat :=
  ((List.range (poolSize kind)).filter (fun i => nEn (node s (nodeKey kind i)) && f i)).length

/-- Whether an entry has an enabled child (R292). -/
def hasEnabledChild (s : State) (ty idx : Nat) : Bool :=
  match ty with
  | 1 => countEnabled s 0 (fun q => nParent 0 (node s (nodeKey 0 q)) == idx) != 0
  | 2 => countEnabled s 1 (fun t => nParent 1 (node s (nodeKey 1 t)) == idx) != 0
  | 3 => countEnabled s 2 (fun b => nParent 2 (node s (nodeKey 2 b)) == idx) != 0
  | _ => false

/-- The four refusals of a write that sets EN to 1 (R279); a queue needs the range of the port its branch names
(log entry 94, DEDUCED). -/
def enableRefused (s : State) (ty idx e : Nat) : Bool :=
  match ty with
  | 0 =>
    let p := nParent 2 (node s (nodeKey 2 (nParent 1 (node s (nodeKey 1 (nParent 0 e))))))
    let pe := node s (nodeKey 3 p)
    !(nQbase pe ≤ idx && idx < nQbase pe + nQcount pe)
  | 1 =>
    let p := nParent 2 (node s (nodeKey 2 (nParent 1 e)))
    4096 ≤ countEnabled s 1 (fun t => t != idx && nParent 2 (node s (nodeKey 2 (nParent 1 (node s (nodeKey 1 t))))) == p)
  | 2 => 256 ≤ countEnabled s 2 (fun b => b != idx && nParent 2 (node s (nodeKey 2 b)) == nParent 2 e)
  | _ =>
    32768 < nQbase e + nQcount e ||
    (List.range 260).any (fun d =>
      let pe := node s (nodeKey 3 d)
      d != idx && nEn pe && nQcount pe != 0 && nQcount e != 0 &&
      nQbase pe < nQbase e + nQcount e && nQbase e < nQbase pe + nQcount pe)

/-- Drops the held copies of a queue as at expiry (R268, R281). -/
def dropHeld (q : Nat) (s : State) : State :=
  forAll expireCopy ((queueList s q).filter (fun id => match mfind s.clr.desc id with | some d => d.held | none => false)) s

/-- SCH_CMD WRITE (R291, R292). -/
def schWrite (ty idx : Nat) (s : State) : State :=
  if ty = 4 then schStatus stEncoding s
  else if poolSize ty ≤ idx then schStatus stBadIndex s
  else
    let e := entryMask ty (dRegs s (pa pgSch (offSCH_D 0)) 4)
    let old := node s (nodeKey ty idx)
    if entryIllegal ty e || (nEn e && !nEn old && enableRefused s ty idx e) then schStatus stEncoding s
    else if entryQuiet ty e ≠ entryQuiet ty old &&
        (nEn e || nEn old || (ty == 0 && !(queueList s idx).isEmpty) || hasEnabledChild s ty idx) then
      schStatus stQuiet s
    else
      let s1 := setNode (nodeKey ty idx) e s
      schStatus stOk (if ty = 0 && nEn old && !nEn e then dropHeld idx s1 else s1)

/-- Whether a copy keeps its packet in flight: ACTION RECIRC, on its way to its next pass (R221, R235). -/
def copyInFlight (s : State) (d : Desc) : Bool :=
  d.mirror.isNone && (d.port == 257 || d.port == 258) && leAt (pktHeader s d.headCells) 4 8 % 8 == 5

/-- A recirculated packet whose copy ends before its next pass leaves its epoch's in-flight count (R235). -/
def landCopy (d : Desc) (s : State) : State :=
  let e := copyEpoch s d
  if copyInFlight s d then setInflight e (inflight s e - 1) s else s

/-- A copy is dropped unsent. -/
def dropCopy (id : Nat) (s : State) : State :=
  match mfind s.clr.desc id with
  | none => s
  | some d => removeCopy id (landCopy d s)

/-- Drops one admitted copy of a flushed queue. -/
def flushCopy (cnt id : Nat) (s : State) : State :=
  if (mfind s.clr.desc id).isNone then s else count pgSch cnt (dropCopy id s)

/-- Copies of a queue that wait in X9. -/
def waitingCopies (s : State) (q : Nat) : List Nat :=
  (s.ports.port.flatMap (fun o => o.2.next.map (fun x => x.id))).filter (fun id => match mfind s.clr.desc id with
    | some d => d.queue == q
    | none => false)

/-- Drops every copy of a queue, those that wait in X9 first: admitted copies counted at `cnt`, held copies also as at
expiry (R268, R281). The frame in transmission completes. -/
def flushQueue (cnt q : Nat) (s : State) : State :=
  forAll (fun id s => match mfind s.clr.desc id with
    | some d => if d.held then count pgSch cnt (expireCopy id s) else flushCopy cnt id s
    | none => s) (queueList s q) (forAll (fun id s => flushCopy cnt id (unselect id s)) (waitingCopies s q) s)

/-- SCH_CMD FLUSH (R281, R291). -/
def schFlush (ty idx : Nat) (s : State) : State :=
  if ty ≠ 0 then schStatus stEncoding s
  else if 32768 ≤ idx then schStatus stBadIndex s
  else schStatus stOk (flushQueue cSch_QUEUE_FLUSHED idx s)

/-! ### WHEEL_RELEASE and RC_LAG (R289, R290) -/

/-- Wheel entries whose slot has been reached, in slot order, fine slots first (R290). -/
def wheelDue (s : State) (coarse : Bool) : List WheelEntry :=
  sortBy (fun e => e.slot) (s.sch.wheel.filter (fun e => e.coarse == coarse && e.slot * 3 ≤ now s))

/-- Records the lag of a release in RC_LAG, in BCLK, saturating (R290). -/
def noteLag (slot : Nat) (s : State) : State :=
  let lag := Nat.min 0xFFFF ((now s - slot * 3) / 2)
  let a := pa pgRc offRC_LAG
  if regF s a fRC_LAG_LAG < lag then setRegF a fRC_LAG_LAG lag s else s

/-- Takes the entry of a key out of the wheels. -/
def wheelRemove (key : Nat) (s : State) : State :=
  { s with sch := { s.sch with wheel := s.sch.wheel.filter (fun x => x.key != key) } }

/-- Releases one due entry: a node permits again; a coarse entry is placed again for the permit time it was entered with,
whatever was written since (R287, R289, R304). -/
def wheelOne (e : WheelEntry) (s : State) : State :=
  if e.coarse then
    if now16 s < e.at_ then wheelAdd (wheelPlace s e.key e.at_) s
    else wheelAdd ⟨e.key, false, (e.at_ + 16 * 65536 - 1) / (16 * 65536) * 16, e.at_⟩ s
  else noteLag e.slot (wheelRemove e.key s)

/-- RC_LAG_READ (R290): the read returns the largest lag and clears it. -/
def rcLagRead (s : State) : State :=
  let a := pa pgRc offRC_LAG
  setReg a 0 { s with bus := { s.bus with rdata := reg s a } }

/-- RC_OCC as read (R292): entries in each wheel, FINE saturating. -/
def rcOcc (s : State) : Nat :=
  let c := (s.sch.wheel.filter (fun e => e.coarse)).length
  Nat.min 0xFFFF (s.sch.wheel.length - c) + (c % 65536) * 65536

end Sys2Proof.Machine
end

