-- ==== Sys2Proof/Machine/Emt.lean ====
section
/-!
DEFINITION. Exact-match tables and learning (05): geometry, lookup, the keyed and indexed TAE commands on EMT tables,
the Learn Queue and its filter, aging, and lost rows.
-/

namespace Sys2Proof.Machine
open Sys2Proof

/-- What a TAE command answers (R51). -/
structure TaeRes where
  status : Nat
  index : Nat
  evicted : Bool
  overflow : Bool
  memb : Nat
  len : Nat
  data : Bytes
  deriving DecidableEq, Repr

/-- TAE statuses (R51). -/
abbrev tsOk : Nat := 0
abbrev tsFull : Nat := 1
abbrev tsNotFound : Nat := 2
abbrev tsExists : Nat := 3
abbrev tsBadFormat : Nat := 4
abbrev tsBadIndex : Nat := 5
abbrev tsUncorrectable : Nat := 6
abbrev tsAborted : Nat := 7

/-- A completion that returns no entry. -/
def resPlain (status index : Nat) : TaeRes := ⟨status, index, false, false, 0, 0, []⟩

/-! ### The Learn Queue (R140 to R143) -/

/-- A notice of type `ty` (R140); PORT 9 bits, PAYLOAD 96 bits. -/
def notice (ty table memb prt payload : Nat) : Nat :=
  ty % 16 + table % 64 * 2 ^ 8 + memb % 4 * 2 ^ 14 + prt % 512 * 2 ^ 16 + payload % 2 ^ 96 * 2 ^ 32

/-- Bytes 1 and 4 to 15 of a notice: what the filter compares (R142). -/
def noticeKey (n : Nat) : Nat := natField n 15 8 + natField n 127 32 * 2 ^ 8

/-- Filter set of a notice (R142). -/
def filterSet (n : Nat) : Nat := (crcRun polyC 0xFFFFFFFF (leBytes 13 (noticeKey n)) ^^^ 0xFFFFFFFF) % 1024

/-- Whether a LEARN notice equal to one that entered less than FILTER_US ago is suppressed (R142). -/
def filtered (s : State) (n : Nat) : Bool :=
  let us := liveF s (pa pgEmt offLF_CFG) fLF_CFG_FILTER_US
  (mget (fun _ => []) s.emt.filter (filterSet n)).any (fun e => e.1 == noticeKey n && decide (now s < e.2 + us * tUs))

/-- Records a LEARN notice in its filter set, in place of the oldest of four (R142). -/
def filterRecord (n : Nat) (s : State) : State :=
  let k := filterSet n
  let l := ((noticeKey n, now s) :: mget (fun _ => []) s.emt.filter k).take 4
  { s with emt := { s.emt with filter := mset (fun _ => []) s.emt.filter k l } }

/-- A notice enters the Learn Queue, or is discarded when it holds 65,536 (R141). -/
def lqPush (n : Nat) (s : State) : State :=
  if 65536 ≤ s.emt.lq.length then raiseIrq pgEmt 1 (count pgEmt cEmt_LQ_DROP_FULL s)
  else
    let a := pa pgEmt offLQ_TAIL
    let s1 := { s with emt := { s.emt with lq := s.emt.lq ++ [n] } }
    let s2 := count pgEmt cEmt_LQ_ENQ (setReg a (BitVec.ofNat 32 (((reg s a).toNat + 1) % 131072)) s1)
    if liveF s (pa pgEmt offLQ_CFG) fLQ_CFG_WATER ≤ s2.emt.lq.length then raiseIrq pgEmt 0 s2 else s2

/-- A notice arrives at the Learn Queue: a LEARN notice passes the filter first (R142). -/
def lqEnter (n : Nat) (s : State) : State :=
  if n % 16 = 1 then
    if filtered s n then count pgEmt cEmt_LQ_FILTERED s
    else if 65536 ≤ s.emt.lq.length then lqPush n s
    else filterRecord n (lqPush n s)
  else lqPush n s

/-- The requester that consumes in host-learning mode, by device mode (R143, R335). -/
def hostReq (s : State) : Nat := if s.straps.mode = 2 then 6 else 0

/-- Whether a requester's write of LQ_HEAD is accepted (R143). -/
def lqOwner (s : State) (req : Nat) : Bool :=
  if liveB s (pa pgEmt offLQ_CFG) fLQ_CFG_OWNER then req == hostReq s else 1 ≤ req && req ≤ 4

/-- LQ_HEAD (R143): the consumer releases notices; a value beyond TAIL is ignored. -/
def lqHeadWrite (req v : Nat) (s : State) : State :=
  let a := pa pgEmt offLQ_HEAD
  let n := (v % 131072 + 131072 - (reg s a).toNat) % 131072
  if lqOwner s req && n ≤ s.emt.lq.length then
    setReg a (BitVec.ofNat 32 (v % 131072)) { s with emt := { s.emt with lq := s.emt.lq.drop n } }
  else s

/-- A word of the notice window at page offset 0x600 (R143). -/
def lqWindow (s : State) (off : Nat) : Word :=
  let head := (reg s (pa pgEmt offLQ_HEAD)).toNat
  let slot := (off - 0x600) / 16
  let i := (slot + 32 - head % 32) % 32
  BitVec.ofNat 32 ((s.emt.lq.getD i 0) >>> (32 * (off / 4 % 4)))

/-- A port whose entries the firmware is to delete from its learning tables while it serves the Learn Queue (R331). -/
def flushPort (p : Nat) (s : State) : State :=
  if liveB s (pa pgEmt offLQ_CFG) fLQ_CFG_OWNER || s.sap.flush.contains p then s
  else { s with sap := { s.sap with flush := s.sap.flush ++ [p] } }

/-! ### Tables (R121 to R128) -/

/-- Geometry register of table t. -/
def emtGeo (s : State) (t : Nat) : Word := reg s (pa pgEmt (offEMT_TBL_GEO t))

/-- Table enabled; being cleared. -/
def emtOn (s : State) (t : Nat) : Bool := fbit (emtGeo s t) fEMT_TBL_GEO_ENABLE
def emtClearing (s : State) (t : Nat) : Bool := regB s (pa pgEmt (offEMT_TBL_STS t)) fEMT_TBL_STS_CLEARING

/-- Quarters of an entry: W / 128. -/
def emtN (s : State) (t : Nat) : Nat := 2 ^ fget (emtGeo s t) fEMT_TBL_GEO_WIDTH

/-- Key length in bytes. -/
def emtKeyLen (s : State) (t : Nat) : Nat := fget (emtGeo s t) fEMT_TBL_GEO_KEY_BYTES

/-- Buckets in a stripe, and in the table (R121, R122). -/
def emtBps (s : State) (t : Nat) : Nat := 128 / emtN s t
def emtBuckets (s : State) (t : Nat) : Nat := 2 ^ fget (emtGeo s t) fEMT_TBL_GEO_SIZE_LOG2 * emtBps s t

/-- Overflow slice: first slot, and entries. -/
def emtOvfBase (s : State) (t : Nat) : Nat := regF s (pa pgEmt (offEMT_TBL_OVF t)) fEMT_TBL_OVF_OVF_BASE
def emtOvfEntries (s : State) (t : Nat) : Nat :=
  regF s (pa pgEmt (offEMT_TBL_OVF t)) fEMT_TBL_OVF_OVF_COUNT / emtN s t

/-- The hash of a key under the table's seed (R123). -/
def emtHash (s : State) (t : Nat) (key : Bytes) : Nat :=
  crcRun polyC (reg s (pa pgEmt (offEMT_TBL_SEED t))).toNat key ^^^ 0xFFFFFFFF

/-- Key of quarter i of slot j of bucket b in the stored maps: (bank × 8192 + row) × 4 + j (R121, R122). -/
def emtQuarter (s : State) (t b j i : Nat) : Nat :=
  let bank := (b % emtBps s t) * emtN s t + i
  let row := fget (emtGeo s t) fEMT_TBL_GEO_BASE + b / emtBps s t
  (bank * 8192 + row) * 4 + j

/-- Whether an INDEX names an overflow entry (R127). -/
def emtIsOvf (s : State) (t x : Nat) : Bool := 4 * emtBuckets s t ≤ x

/-- Whether an INDEX lies in the table (R127). -/
def emtIndexOk (s : State) (t x : Nat) : Bool := x < 4 * emtBuckets s t + emtOvfEntries s t

/-- First overflow slot of the entry at an INDEX. -/
def emtOvfSlot (s : State) (t x : Nat) : Nat := emtOvfBase s t + (x - 4 * emtBuckets s t) * emtN s t

/-- The tag at an INDEX (R125). -/
def emtTag (s : State) (t x : Nat) : Nat :=
  if emtIsOvf s t x then mget (fun _ => 0) s.emt.ovfTag (emtOvfSlot s t x)
  else mget (fun _ => 0) s.emt.tag (emtQuarter s t (x / 4) (x % 4) 0)

/-- Writes the tag at an INDEX. -/
def setEmtTag (t x v : Nat) (s : State) : State :=
  if emtIsOvf s t x then
    { s with emt := { s.emt with ovfTag := mset (fun _ => 0) s.emt.ovfTag (emtOvfSlot s t x) v } }
  else
    { s with emt := { s.emt with tag := mset (fun _ => 0) s.emt.tag (emtQuarter s t (x / 4) (x % 4) 0) v } }

/-- Quarter i of the entry at an INDEX. -/
def emtWord (s : State) (t x i : Nat) : Nat :=
  if emtIsOvf s t x then mget (fun _ => 0) s.emt.ovf (emtOvfSlot s t x + i)
  else mget (fun _ => 0) s.emt.data (emtQuarter s t (x / 4) (x % 4) i)

/-- Writes quarter i of the entry at an INDEX. -/
def setEmtWord (t x i v : Nat) (s : State) : State :=
  if emtIsOvf s t x then
    { s with emt := { s.emt with ovf := mset (fun _ => 0) s.emt.ovf (emtOvfSlot s t x + i) v } }
  else
    { s with emt := { s.emt with data := mset (fun _ => 0) s.emt.data (emtQuarter s t (x / 4) (x % 4) i) v } }

/-- The entry image at an INDEX, W / 8 bytes (R124). -/
def emtImage (s : State) (t x : Nat) : Bytes := (List.range (emtN s t)).flatMap (fun i => leBytes 16 (emtWord s t x i))

/-- Writes an entry image at an INDEX: its rows in one committing write (R138). -/
def setEmtImage (t x : Nat) (img : Bytes) (s : State) : State :=
  forAll (fun i s => setEmtWord t x i (leAt img (16 * i) 16) s) (List.range (emtN s t)) s

/-- Fields of a tag (R125). -/
def tagMemb (g : Nat) : Nat := natField g 2 1
def tagHit (g : Nat) : Bool := g.testBit 3
def tagStatic (g : Nat) : Bool := g.testBit 4
def tagAge (g : Nat) : Nat := natField g 8 5

/-- A slot whose VALID is 0 or whose MEMB is 0b00 is free (R125). -/
def tagUsed (g : Nat) : Bool := g.testBit 0 && tagMemb g != 0

/-- A tag from its fields, VALID 1. -/
def mkTag (memb : Nat) (hit static : Bool) (age : Nat) : Nat :=
  1 + memb % 4 * 2 + (if hit then 8 else 0) + (if static then 16 else 0) + age % 16 * 32

/-- META of a tag (R134), and a tag from MEMB and META. -/
def tagMeta (g : Nat) : Nat := (if tagStatic g then 1 else 0) + (if tagHit g then 2 else 0) + tagAge g * 4
def metaTag (memb m : Nat) : Nat := mkTag memb (m.testBit 1) (m.testBit 0) (natField m 5 2)

/-- Overflow entries of the slice whose tag is listed, ascending, as INDEX values. -/
def emtOvfListed (s : State) (t : Nat) : List Nat :=
  let base := emtOvfBase s t
  let n := emtN s t
  ((mkeys s.emt.ovfTag).filter (fun k => base ≤ k && k < base + emtOvfEntries s t * n && (k - base) % n == 0)).map
    (fun k => 4 * emtBuckets s t + (k - base) / n)

/-- Bucket slots of the table whose tag is listed, in INDEX order. -/
def emtSlotsListed (s : State) (t : Nat) : List Nat :=
  let n := emtN s t
  let base := fget (emtGeo s t) fEMT_TBL_GEO_BASE
  let size := 2 ^ fget (emtGeo s t) fEMT_TBL_GEO_SIZE_LOG2
  sortBy (fun x => x) ((mkeys s.emt.tag).filterMap (fun k =>
    let row := k / 4 % 8192
    let bank := k / 32768
    if base ≤ row && row < base + size && bank % n == 0 then
      some (4 * ((row - base) * emtBps s t + bank / n) + k % 4) else none))

/-- Entries in use, in INDEX order. -/
def emtUsed (s : State) (t : Nat) : List Nat :=
  (emtSlotsListed s t ++ emtOvfListed s t).filter (fun x => tagUsed (emtTag s t x))

/-- Whether the entries of a table can be reached (R129): it is enabled and not being cleared. -/
def emtReach (s : State) (t : Nat) : Bool := emtOn s t && !emtClearing s t

/-- COUNT and OVF_FULL of a table (R128): both are 0 while its entries cannot be reached (R129; log entry 102, DESIGN
CHOICE). -/
def emtCount (s : State) (t : Nat) : Nat := if emtReach s t then (emtUsed s t).length else 0
def emtOvfFull (s : State) (t : Nat) : Bool :=
  emtReach s t && emtOvfEntries s t != 0 &&
  ((emtOvfListed s t).filter (fun x => tagUsed (emtTag s t x))).length == emtOvfEntries s t

/-- EMT_TBL_STS_t as read (R128). -/
def emtSts (s : State) (t : Nat) : Nat :=
  emtCount s t % 2 ^ 23 + (if emtClearing s t then 2 ^ 23 else 0) + (if emtOvfFull s t then 2 ^ 24 else 0)

/-- Does a step and raises IRQ_STS bit 4 when OVF_FULL of table t rose in it (R146). -/
def ovfWatch (t : Nat) (f : State → State) (s : State) : State :=
  let s1 := f s
  if !emtOvfFull s t && emtOvfFull s1 t then raiseIrq pgEmt 4 s1 else s1

/-- Entries of the table that hold a key, in the key's bucket and in the slice (R126, R134). -/
def emtHolders (s : State) (t : Nat) (key : Bytes) : List Nat :=
  let b := emtHash s t key % emtBuckets s t
  ([4 * b, 4 * b + 1, 4 * b + 2, 4 * b + 3] ++ emtOvfListed s t).filter (fun x =>
    tagUsed (emtTag s t x) && (emtImage s t x).take key.length == key)

/-! ### Lookup (R131) -/

/-- A lookup of a key for a parity: the INDEX found. Of two eligible copies made by WRITE the result is either; the
free value decides (R136, log entry 6, DESIGN CHOICE). -/
def emtFind (s : State) (t : Nat) (key : Bytes) (parity : Nat) : Option Nat :=
  if !emtOn s t || emtClearing s t then none
  else
    let l := (emtHolders s t key).filter (fun x => (tagMemb (emtTag s t x)).testBit (parity % 2))
    match l with
    | [] => none
    | [x] => some x
    | x :: _ => some (l.getD (freeNow s % l.length) x)

/-- The lookup's effect on the entry found: HIT is set (R131). -/
def emtTouch (t : Nat) (found : Option Nat) (s : State) : State :=
  match found with
  | none => s
  | some x =>
    let g := emtTag s t x
    let s1 := setEmtTag t x (natSetBit g 3 true) s
    freeNext s1

/-! ### Lost rows (R146) -/

/-- The enabled table that owns a stripe. -/
def emtOwner (s : State) (row : Nat) : Option Nat :=
  (List.range 64).find? (fun t =>
    let base := fget (emtGeo s t) fEMT_TBL_GEO_BASE
    emtOn s t && base ≤ row && row < base + 2 ^ fget (emtGeo s t) fEMT_TBL_GEO_SIZE_LOG2)

/-- One slot of a lost row: its entry is removed and a LOST notice queued when its tag showed VALID 1, or when the tag
could not be read; IRQ_STS bit 2 says that a notice was queued, not that one was discarded. -/
def lostSlot (t x : Nat) (tagRead : Bool) (s : State) : State :=
  let g := emtTag s t x
  let s1 := setEmtTag t x 0 s
  let lose (memb : Nat) : State :=
    let s2 := lqEnter (notice 4 t memb 0 (x % 2 ^ 32)) (count pgEmt cEmt_LOST_ENTRIES s1)
    if s1.emt.lq.length < 65536 then raiseIrq pgEmt 2 s2 else s2
  if !tagRead then lose 0
  else if g.testBit 0 then lose (tagMemb g)
  else s1

/-- A hash-store row with an uncorrectable error: rewritten with zero data and VALID 0 (R146, sources 1 and 3). -/
def emtRowLost (bank row : Nat) (tagRead : Bool) (s : State) : State :=
  let q := (bank * 8192 + row) * 4
  let s1 := match emtOwner s row with
    | none => s
    | some t =>
      let b := (row - fget (emtGeo s t) fEMT_TBL_GEO_BASE) * emtBps s t + bank / emtN s t
      forAll (fun j s => lostSlot t (4 * b + j) tagRead s) (List.range 4) s
  forAll (fun j s => { s with emt := { s.emt with data := mdel s.emt.data (q + j), tag := mdel s.emt.tag (q + j) } })
    (List.range 4) s1

/-- The table whose slice holds an overflow slot. -/
def emtOvfOwner (s : State) (slot : Nat) : Option Nat :=
  (List.range 64).find? (fun t =>
    emtOn s t && emtOvfBase s t ≤ slot && slot < emtOvfBase s t + emtOvfEntries s t * emtN s t)

/-- An overflow slot with an uncorrectable error: its entry is removed, with a LOST notice (R146, source 5). -/
def emtOvfLost (slot : Nat) (s : State) : State :=
  match emtOvfOwner s slot with
  | none => s
  | some t =>
    let x := 4 * emtBuckets s t + (slot - emtOvfBase s t) / emtN s t
    let s1 := lostSlot t x true s
    forAll (fun i s => setEmtWord t x i 0 s) (List.range (emtN s t)) s1

/-- An uncorrectable error met in table t for a key: `kind` 0 a data row whose tag was read, 1 a data row with an unreadable
tag, 2 a tag, 3 an overflow slot; `i` names the row of the bucket, or the slot of the slice. The owner reports it and
handles it (R146). -/
def emtMeetsError (t : Nat) (key : Bytes) (kind i : Nat) (partner : Bool) (s : State) : State :=
  if kind = 3 then
    let slot := emtOvfBase s t + i
    capture pgEmt 5 clsUC false 0 (emtOvfLost slot s)
  else
    let q := emtQuarter s t (emtHash s t key % emtBuckets s t) 0 (i % emtN s t)
    let bank := q / 32768
    let row := q / 4 % 8192
    let src := if kind = 2 then 3 else 1
    let res := resId 2 (8192 * bank + row)
    let s1 := capture pgEmt src clsUC false res (emtRowLost bank row (kind == 0) s)
    if partner then capture pgEmt src clsUC true res s1 else s1

/-! ### TAE commands on EMT tables (R135 to R138) -/

/-- Whether the bytes that R135 wants to be 0 are 0: those past the image, META [7:6] and bytes 65 to 95. -/
def emtPadOk (s : State) (t : Nat) (data : Bytes) : Bool :=
  ((data.drop (16 * emtN s t)).take (64 - 16 * emtN s t)).all (fun b => b == 0) &&
  (byteAt data 64).toNat < 64 && (data.drop 65).all (fun b => b == 0)

/-- A completion that returns the entry at an INDEX, as it stands (R135). -/
def emtReturn (s : State) (t x : Nat) (evicted : Bool) : TaeRes :=
  let g := emtTag s t x
  ⟨tsOk, x, evicted, emtIsOvf s t x, if g.testBit 0 then tagMemb g else 0, 65,
    padTo 64 (emtImage s t x) ++ [BitVec.ofNat 8 (tagMeta g)]⟩

/-- The selected entries of a key (R135). -/
def emtSelected (s : State) (t memb : Nat) (key : Bytes) : List Nat :=
  (emtHolders s t key).filter (fun x => memb == 0 || (tagMemb (emtTag s t x) &&& memb) != 0)

/-- The selected entry a completion names: of two, the one holding the even-epoch bit. -/
def emtFirst (s : State) (t : Nat) (l : List Nat) : Nat :=
  ((l.filter (fun x => (tagMemb (emtTag s t x)).testBit 0)) ++ l).headD 0

/-- Key of a command's image. -/
def emtKeyOf (s : State) (t : Nat) (data : Bytes) : Bytes := data.take (emtKeyLen s t)

/-- One step of the eviction register (R137). -/
def lfsrStep (l : Nat) : Nat :=
  let b := (l + l / 4 + l / 8 + l / 32) % 2
  l / 2 + b * 32768

/-- RANDOM (R137): steps L until the slot it names is not STATIC. -/
def lfsrPick (static : Nat → Bool) : Nat → Nat → Nat
  | 0, l => l
  | n + 1, l =>
    let l1 := lfsrStep l
    if static (l1 % 4) then lfsrPick static n l1 else l1

/-- Effective age of a slot (R137). -/
def effAge (g : Nat) : Nat := if tagHit g then 0 else tagAge g + 1

/-- The victim slot of bucket b, and L after the choice (R137); none when EVICT is NONE or every slot is STATIC. -/
def emtVictim (s : State) (t b : Nat) : Option (Nat × Nat) :=
  let g (j : Nat) : Nat := emtTag s t (4 * b + j)
  let free := (List.range 4).filter (fun j => !tagStatic (g j))
  let ev := fget (emtGeo s t) fEMT_TBL_GEO_EVICT
  if ev = 0 || free.isEmpty then none
  else if ev = 1 then
    let l := lfsrPick (fun j => tagStatic (g j)) 65536 s.emt.lfsr
    some (4 * b + l % 4, l)
  else
    let best := free.foldl (fun m j => if effAge (g m) < effAge (g j) then j else m) (free.headD 0)
    some (4 * b + best, s.emt.lfsr)

/-- The lowest free overflow entry of the slice (R137). -/
def emtOvfFree (s : State) (t : Nat) : Option Nat :=
  let used := (emtOvfListed s t).filter (fun x => tagUsed (emtTag s t x))
  let k := freshFrom (used.map (fun x => (x - 4 * emtBuckets s t, ()))) 0
  if k < emtOvfEntries s t then some (4 * emtBuckets s t + k) else none

/-- The place of R137 for a key's new entry: a free slot, a free overflow entry, or a victim. -/
inductive EmtPlace where
  | free (x : Nat)
  | victim (x lfsr : Nat)
  | full
  deriving DecidableEq, Repr

def emtPlace (s : State) (t : Nat) (key : Bytes) : EmtPlace :=
  let b := emtHash s t key % emtBuckets s t
  match [4 * b, 4 * b + 1, 4 * b + 2, 4 * b + 3].find? (fun x => !tagUsed (emtTag s t x)) with
  | some x => .free x
  | none => match emtOvfFree s t with
    | some x => .free x
    | none => match emtVictim s t b with
      | some (x, l) => .victim x l
      | none => .full

/-- Writes an entry whole: image and tag in one committing write (R138). -/
def emtCommit (t x : Nat) (img : Bytes) (tag : Nat) (s : State) : State :=
  ovfWatch t (fun s => setEmtTag t x tag (setEmtImage t x img s)) s

/-- Removes an entry: VALID 0 (R138). -/
def emtRemove (t x : Nat) (s : State) : State := setEmtTag t x (natSetBit (emtTag s t x) 0 false) s

/-- INSERT (R136, R137). -/
def emtInsert (t memb : Nat) (data : Bytes) (s : State) : State × TaeRes :=
  let key := emtKeyOf s t data
  let clash := (emtHolders s t key).filter (fun x => (tagMemb (emtTag s t x) &&& memb) != 0)
  if memb = 0 then (s, resPlain tsBadFormat 0)
  else if !clash.isEmpty then
    let x := emtFirst s t clash
    (s, { resPlain tsExists x with overflow := emtIsOvf s t x })
  else
    let tag := mkTag memb false ((byteAt data 64).toNat.testBit 0) 0
    match emtPlace s t key with
    | .full => (count pgEmt cEmt_INSERT_FULL s, resPlain tsFull 0)
    | .free x => (emtCommit t x data tag s, { resPlain tsOk x with overflow := emtIsOvf s t x })
    | .victim x l =>
      let out := emtReturn s t x true
      let s1 := { s with emt := { s.emt with lfsr := l } }
      (count pgEmt cEmt_EVICTIONS (emtCommit t x data tag s1), out)

/-- DELETE (R136). -/
def emtDelete (t memb : Nat) (data : Bytes) (s : State) : State × TaeRes :=
  let l := emtSelected s t memb (emtKeyOf s t data)
  if l.isEmpty then (s, resPlain tsNotFound 0)
  else
    let x := emtFirst s t l
    (forAll (emtRemove t) l s, { resPlain tsOk x with overflow := emtIsOvf s t x })

/-- MODIFY (R136): action bytes and STATIC of each selected entry. -/
def emtModify (t memb : Nat) (data : Bytes) (s : State) : State × TaeRes :=
  let l := emtSelected s t memb (emtKeyOf s t data)
  if l.isEmpty then (s, resPlain tsNotFound 0)
  else
    let x := emtFirst s t l
    let static := (byteAt data 64).toNat.testBit 0
    (forAll (fun y s => emtCommit t y data (natSetBit (emtTag s t y) 4 static) s) l s,
      { resPlain tsOk x with overflow := emtIsOvf s t x })

/-- SEARCH (R136). -/
def emtSearch (t memb : Nat) (data : Bytes) (s : State) : State × TaeRes :=
  let l := emtSelected s t memb (emtKeyOf s t data)
  if l.isEmpty then (s, resPlain tsNotFound 0) else (s, emtReturn s t (emtFirst s t l) false)

/-- SET_MEMB (R136). -/
def emtSetMemb (t memb : Nat) (data : Bytes) (s : State) : State × TaeRes :=
  if memb = 0 then emtDelete t memb data s
  else match emtSelected s t memb (emtKeyOf s t data) with
    | [] => (s, resPlain tsNotFound 0)
    | [x] =>
      let g := emtTag s t x
      (setEmtTag t x (g - tagMemb g * 2 + memb * 2) s, { resPlain tsOk x with overflow := emtIsOvf s t x })
    | x :: _ => (s, { resPlain tsExists x with overflow := emtIsOvf s t x })

/-- WRITE at INDEX (R136). -/
def emtWrite (t memb x : Nat) (data : Bytes) (s : State) : State × TaeRes :=
  if !emtIndexOk s t x then (s, resPlain tsBadIndex 0)
  else (emtCommit t x data (metaTag memb (byteAt data 64).toNat) s, { resPlain tsOk x with overflow := emtIsOvf s t x })

/-- READ at INDEX (R136). -/
def emtRead (t x : Nat) (s : State) : State × TaeRes :=
  if !emtIndexOk s t x then (s, resPlain tsBadIndex 0) else (s, emtReturn s t x false)

/-- An EMT command (R129, R135): none while the table is being cleared, in which it waits. Opcode 1 INSERT, 2 DELETE,
3 MODIFY, 4 SEARCH, 5 WRITE, 6 READ, 8 SET_MEMB. -/
def emtCommand (op t memb x len : Nat) (data : Bytes) (s : State) : Option (State × TaeRes) :=
  if !emtOn s t then some (s, resPlain tsBadFormat 0)
  else if emtClearing s t then none
  else if len ≠ (if op = 6 then 0 else 65) || !emtPadOk s t data then some (s, resPlain tsBadFormat 0)
  else match op with
    | 1 => some (emtInsert t memb data s)
    | 2 => some (emtDelete t memb data s)
    | 3 => some (emtModify t memb data s)
    | 4 => some (emtSearch t memb data s)
    | 5 => some (emtWrite t memb x data s)
    | 6 => some (emtRead t x s)
    | 8 => some (emtSetMemb t memb data s)
    | _ => some (s, resPlain tsBadFormat 0)

/-! ### Table registers (R128, R129) -/

/-- Whether two ranges overlap. -/
def rangesMeet (a n b m : Nat) : Bool := 0 < n && 0 < m && a < b + m && b < a + n

/-- Whether a write that sets ENABLE of table t to 1 is refused, with geometry g (R128). -/
def emtEnableRefused (s : State) (t : Nat) (g : Word) : Bool :=
  let n := 2 ^ fget g fEMT_TBL_GEO_WIDTH
  let size := 2 ^ fget g fEMT_TBL_GEO_SIZE_LOG2
  let base := fget g fEMT_TBL_GEO_BASE
  let ov := reg s (pa pgEmt (offEMT_TBL_OVF t))
  let ob := fget ov fEMT_TBL_OVF_OVF_BASE
  let oc := fget ov fEMT_TBL_OVF_OVF_COUNT
  (List.range 64).any (fun u => u != t && emtOn s u &&
    (rangesMeet base size (fget (emtGeo s u) fEMT_TBL_GEO_BASE) (2 ^ fget (emtGeo s u) fEMT_TBL_GEO_SIZE_LOG2) ||
      rangesMeet ob oc (emtOvfBase s u) (regF s (pa pgEmt (offEMT_TBL_OVF u)) fEMT_TBL_OVF_OVF_COUNT))) ||
  16 * n < fget g fEMT_TBL_GEO_KEY_BYTES || ob % n != 0 || oc % n != 0 || 16384 < ob + oc || base % size != 0

/-- Whether a geometry holds a reserved encoding (R128). -/
def emtGeoIllegal (g : Word) : Bool :=
  fget g fEMT_TBL_GEO_EVICT == 3 || fget g fEMT_TBL_GEO_WIDTH == 3 || fget g fEMT_TBL_GEO_KEY_BYTES == 0 ||
  64 < fget g fEMT_TBL_GEO_KEY_BYTES || 13 < fget g fEMT_TBL_GEO_SIZE_LOG2

/-- The class Q part of a geometry word. -/
def emtGeoQuiet (g : Word) : Nat := natField g.toNat 28 0

/-- EMT_TBL_GEO (R128, R129): a write of EMT_TBL_GEO_t; ENABLE going to 1 starts the table's clear. -/
def emtGeoWrite (t : Nat) (v : Word) (s : State) : State :=
  let off := offEMT_TBL_GEO t
  let old := emtGeo s t
  let g := BitVec.ofNat 32 (v.toNat - natField v.toNat 19 17 * 2 ^ 17)
  let on := fbit g fEMT_TBL_GEO_ENABLE
  if inReset s pgEmt then refuse pgEmt off reasonInReset s
  else if emtGeoIllegal g || (on && !emtOn s t && emtEnableRefused s t g) then refuse pgEmt off reasonEncoding s
  else if emtOn s t && emtGeoQuiet g != emtGeoQuiet old then refuse pgEmt off reasonQuiet s
  else
    let s1 := setReg (pa pgEmt off) g s
    if on && !emtOn s t then setRegB (pa pgEmt (offEMT_TBL_STS t)) fEMT_TBL_STS_CLEARING true s1 else s1

/-- A write of EMT_TBL_OVF_t or EMT_TBL_SEED_t, whose fields change only while ENABLE is 0 (R128); OVF_COUNT goes up to
16,384. -/
def emtQuietWrite (t off : Nat) (v : Word) (s : State) : State :=
  let ovf := off == offEMT_TBL_OVF t
  let count := fget v fEMT_TBL_OVF_OVF_COUNT
  let w := if ovf then fset (fset 0 fEMT_TBL_OVF_OVF_COUNT count) fEMT_TBL_OVF_OVF_BASE (fget v fEMT_TBL_OVF_OVF_BASE) else v
  if ovf && decide (16384 < count) then refuse pgEmt off reasonEncoding s
  else if emtOn s t && reg s (pa pgEmt off) ≠ w then refuse pgEmt off reasonQuiet s
  else setReg (pa pgEmt off) w s

/-- TABLE_CLEAR_DONE (R129): VALID is 0 in every slot of the table's stripes and slice, as its registers name them now (log
entry 138, DESIGN CHOICE); CLEARING clears. -/
def emtClearDone (t : Nat) (s : State) : State :=
  if !emtClearing s t then s
  else
    let s1 := forAll (fun x s => emtRemove t x s) (emtSlotsListed s t ++ emtOvfListed s t) s
    raiseIrq pgEmt 3 (setRegB (pa pgEmt (offEMT_TBL_STS t)) fEMT_TBL_STS_CLEARING false s1)

/-! ### Aging (R144, R145) and overflow return (R139) -/

/-- PAYLOAD of an AGED notice (R140): INDEX and 8 image bytes under NOTIFY, 12 image bytes under REMOVE. -/
def agedPayload (x : Nat) (img : Bytes) (remove : Bool) : Nat :=
  if remove then leAt img 0 12 else x % 2 ^ 32 + leAt img 0 8 * 2 ^ 32

/-- The sweep's visit to one entry (R144): a removal needs AGE = AGE_LIMIT (R145). -/
def ageEntry (t x : Nat) (s : State) : State :=
  let cfg := live s (pa pgEmt (offEMT_TBL_AGE t))
  let g := emtTag s t x
  if !tagUsed g || tagStatic g then s
  else if tagHit g then setEmtTag t x (mkTag (tagMemb g) false false 0) s
  else if tagAge g < fget cfg fEMT_TBL_AGE_AGE_LIMIT then
    setEmtTag t x (mkTag (tagMemb g) false false (tagAge g + 1)) s
  else
    let remove := fbit cfg fEMT_TBL_AGE_AGE_MODE
    let n := notice 3 t (tagMemb g) 0 (agedPayload x (emtImage s t x) remove)
    if remove && tagAge g != fget cfg fEMT_TBL_AGE_AGE_LIMIT then s
    else if remove then count pgEmt cEmt_AGED_REMOVED (lqEnter n (emtRemove t x s))
    else count pgEmt cEmt_AGED_NOTIFY (lqEnter n s)

/-- Overflow return of one entry (R139): copied into a free slot of its key's bucket, then removed. -/
def ovfReturn (t x : Nat) (s : State) : State :=
  let img := emtImage s t x
  let g := emtTag s t x
  let b := emtHash s t (img.take (emtKeyLen s t)) % emtBuckets s t
  if !tagUsed g then s
  else match [4 * b, 4 * b + 1, 4 * b + 2, 4 * b + 3].find? (fun y => !tagUsed (emtTag s t y)) with
    | none => s
    | some y => count pgEmt cEmt_OVF_RETURNS (emtRemove t x (emtCommit t y img g s))

/-- A write of EMT_TBL_AGE_t that sets AGE_EN or changes TICK_MS: the sweep period counts from the write (R144; log entry
95, DESIGN CHOICE). -/
def agePeriod (t : Nat) (old : Word) (s : State) : State :=
  let w := reg s (pa pgEmt (offEMT_TBL_AGE t))
  let tick := fget w fEMT_TBL_AGE_TICK_MS
  if fbit w fEMT_TBL_AGE_AGE_EN && (!fbit old fEMT_TBL_AGE_AGE_EN || fget old fEMT_TBL_AGE_TICK_MS ≠ tick) then
    { s with emt := { s.emt with sweepAt := mset (fun _ => 0) s.emt.sweepAt t (now s + tick * tMs) } }
  else s

/-- AGING_SWEEP (R144): the sweep of table t, TICK_MS after the last one. -/
def agingSweep (t : Nat) (s : State) : State :=
  let cfg := live s (pa pgEmt (offEMT_TBL_AGE t))
  if !emtOn s t || emtClearing s t || !fbit cfg fEMT_TBL_AGE_AGE_EN ||
      now s < mget (fun _ => 0) s.emt.sweepAt t then s
  else
    let s1 := forAll (ageEntry t) (emtUsed s t) s
    let s2 := if liveB s (pa pgEmt offLQ_CFG) fLQ_CFG_OVF_RET then
        forAll (ovfReturn t) ((emtUsed s1 t).filter (emtIsOvf s1 t)) s1 else s1
    let next := now s + fget cfg fEMT_TBL_AGE_TICK_MS * tMs
    { s2 with emt := { s2.emt with sweepAt := mset (fun _ => 0) s2.emt.sweepAt t next } }

/-- The block's own part of a soft reset of page 0x040 (R130): the Learn Queue and the filter are emptied. -/
def emtSoftReset (s : State) : State := { s with emt := { s.emt with lq := [], filter := [] } }

end Sys2Proof.Machine
end

