-- ==== Sys2Proof/Machine/Thicket.lean ====
section
/-!
DEFINITION. Thicket associative search (06): tables, search, insertion with moves, the TAE commands on Thicket tables,
scrub and repair.
-/

namespace Sys2Proof.Machine
open Sys2Proof

/-! ### Tables and rows (R148 to R152) -/

/-- Configuration register of table t. -/
def thkCfg (s : State) (t : Nat) : Word := reg s (pa pgThk (offTHK_TBL_CFG t))

def thkOn (s : State) (t : Nat) : Bool := fbit (thkCfg s t) fTHK_TBL_CFG_ENABLE
def thkClearing (s : State) (t : Nat) : Bool := regB s (pa pgThk (offTHK_TBL_STS t)) fTHK_TBL_STS_CLEARING
def thkRanked (s : State) (t : Nat) : Bool := fbit (thkCfg s t) fTHK_TBL_CFG_MODE
def thkWide (g : Word) : Nat := fget g fTHK_TBL_CFG_WIDE
def thkDepth (s : State) (t : Nat) : Nat := fget (thkCfg s t) fTHK_TBL_CFG_DEPTH
def thkCopies (s : State) (t : Nat) : Nat := fget (thkCfg s t) fTHK_TBL_CFG_COPIES

/-- Banks of one copy: k = DEPTH × (1 + WIDE) (R150). -/
def thkK (g : Word) : Nat := fget g fTHK_TBL_CFG_DEPTH * (1 + thkWide g)

/-- Positions of a copy (R149). -/
def thkSize (s : State) (t : Nat) : Nat := thkDepth s t * 2048

/-- Row key of position x of copy c, in the bank that holds result word and tag (R149, R150). -/
def thkRowKey (s : State) (t c x : Nat) : Nat :=
  let g := thkCfg s t
  (fget g fTHK_TBL_CFG_FIRST_BANK + c * thkK g + x / 2048 * (1 + thkWide g)) * 2048 + x % 2048

/-- A row nothing has written. -/
def thkRowReset (_ : Nat) : ThkRow := ⟨0, 0, 0, 0⟩

/-- A bank row. -/
def thkRow (s : State) (k : Nat) : ThkRow := mget thkRowReset s.thk.rows k

/-- Takes the slot of a bank in this BCLK: a search, or a write of any kind (R148). -/
def thkTake (bank : Nat) (s : State) : State :=
  { s with thk := { s.thk with slots := mput s.thk.slots bank (bclk s) } }

/-- Writes a bank row, in a slot of its bank. -/
def setThkRow (k : Nat) (r : ThkRow) (s : State) : State :=
  thkTake (k / 2048) { s with thk := { s.thk with rows := mset thkRowReset s.thk.rows k r } }

/-- An entry: value and mask of up to 320 bits, result word and tag. -/
def thkEntry (s : State) (t c x : Nat) : ThkRow :=
  let k := thkRowKey s t c x
  let r := thkRow s k
  if thkWide (thkCfg s t) = 1 then
    let o := thkRow s (k + 2048)
    { r with value := r.value + o.value * 2 ^ 160, mask := r.mask + o.mask * 2 ^ 160 }
  else r

/-- Writes an entry of one copy: in a wide table its upper half goes into the odd bank (R149). -/
def setThkEntry (t c x : Nat) (e : ThkRow) (s : State) : State :=
  let k := thkRowKey s t c x
  let s1 := setThkRow k { e with value := e.value % 2 ^ 160, mask := e.mask % 2 ^ 160 } s
  if thkWide (thkCfg s t) = 1 then setThkRow (k + 2048) ⟨e.value / 2 ^ 160, e.mask / 2 ^ 160, 0, 0⟩ s1 else s1

/-- Writes only the tag of an entry of one copy. -/
def setThkTag (t c x g : Nat) (s : State) : State :=
  let k := thkRowKey s t c x
  setThkRow k { thkRow s k with tag := g } s

/-- Fields of a tag (R148). -/
def thkRank (g : Nat) : Nat := natField g 8 3
def thkCare (g : Nat) : Nat := natField g 17 9

/-- Number of 1 bits among the low `n` bits. -/
def popcount (v : Nat) (n : Nat) : Nat := ((List.range n).filter (fun i => v.testBit i)).length

/-- A tag from its fields, VALID 1. -/
def mkThkTag (memb rank care : Nat) : Nat := 1 + memb % 4 * 2 + rank % 64 * 8 + care % 512 * 512

/-- Priority of a tag (R154). -/
def thkPrio (s : State) (t g : Nat) : Nat := if thkRanked s t then thkRank g else thkCare g

/-- Positions of copy c whose slot is not free, ascending. -/
def thkUsed (s : State) (t c : Nat) : List Nat :=
  let g := thkCfg s t
  let w := 1 + thkWide g
  let first := fget g fTHK_TBL_CFG_FIRST_BANK + c * thkK g
  (s.thk.rows.filter (fun e =>
    let b := e.1 / 2048
    first ≤ b && b < first + thkK g && (b - first) % w == 0 && tagUsed e.2.tag)).map
    (fun e => (e.1 / 2048 - first) / w * 2048 + e.1 % 2048)

/-- Whether a command of the table is moving entries. -/
def thkShifting (s : State) (t : Nat) : Bool := s.thk.shifts.any (fun h => h.table == t)

/-- COUNT of a table: the entries of copy 0, an entry and the copy its move made counting once (R149, R161); 0 while its
entries cannot be reached (R152; log entry 102, DESIGN CHOICE). -/
def thkCount (s : State) (t : Nat) : Nat :=
  if !thkOn s t || thkClearing s t then 0 else
  let dup : Nat := if s.thk.shifts.any (fun h => h.table == t &&
    h.copies.any (fun c => c.copy == 0 && 0 < c.made && c.writes == 0)) then 1 else 0
  (thkUsed s t 0).length - dup

/-- THK_TBL_STS_t as read. -/
def thkSts (s : State) (t : Nat) : Nat :=
  thkCount s t % 2 ^ 18 + (if thkClearing s t then 2 ^ 30 else 0) + (if thkShifting s t then 2 ^ 31 else 0)

/-- The enabled table that owns a bank. -/
def thkOwner (s : State) (bank : Nat) : Option Nat :=
  (List.range 64).find? (fun t =>
    let g := thkCfg s t
    let first := fget g fTHK_TBL_CFG_FIRST_BANK
    thkOn s t && first ≤ bank && bank < first + thkCopies s t * thkK g)

/-- Spare rows of a bank in use (R152). -/
def thkSpares (s : State) (bank : Nat) : Nat :=
  (s.lko.island.filter (fun r => r.res / 2 ^ 20 == 3 && r.res % 2 ^ 20 / 2048 == bank)).length

/-- THK_BANK word of a bank as read (R152). -/
def thkBankWord (s : State) (bank : Nat) : Nat :=
  thkSpares s bank + match thkOwner s bank with
    | none => 0
    | some t =>
      let g := thkCfg s t
      let i := bank - fget g fTHK_TBL_CFG_FIRST_BANK
      2 ^ 31 + t * 2 ^ 25 + i / thkK g % 64 * 2 ^ 19 + i % thkK g / (1 + thkWide g) * 2 ^ 12

/-! ### Search (R153 to R156) -/

/-- Whether an entry matches a key for a parity (R153). -/
def thkMatches (e : ThkRow) (key parity : Nat) : Bool :=
  tagUsed e.tag && (key &&& e.mask) == e.value && (tagMemb e.tag).testBit (parity % 2)

/-- Position of the first match in copy c (R154). -/
def thkFirst (s : State) (t c key parity : Nat) : Option Nat :=
  (thkUsed s t c).find? (fun x => thkMatches (thkEntry s t c x) key parity)

/-- The result register of a search (R155). -/
def thkResult (s : State) (t c : Nat) (found : Option Nat) : Nat :=
  match found with
  | none => 0
  | some x =>
    let e := thkEntry s t c x
    e.result + x * 2 ^ 64 + 2 ^ 81 + thkRank e.tag * 2 ^ 82 + thkCare e.tag * 2 ^ 88

/-- First bank of copy c of table t (R150). -/
def thkFirstBank (s : State) (t c : Nat) : Nat := fget (thkCfg s t) fTHK_TBL_CFG_FIRST_BANK + c * thkK (thkCfg s t)

/-- Banks of copy c of table t. -/
def thkBanks (s : State) (t c : Nat) : List Nat := (List.range (thkK (thkCfg s t))).map (fun i => thkFirstBank s t c + i)

/-- Whether a bank of copy c has no free slot in this BCLK (R156). -/
def thkBusy (s : State) (t c : Nat) : Bool := (thkBanks s t c).any (fun b => mfind s.thk.slots b == some (bclk s))

/-- The copy that a search is given (R156): round robin, a copy whose banks have no free slot or whose X5 queue is full (R17)
being skipped. When every copy with room in X5 is busy the search waits there for a later BCLK, which no command sees (log
entry 105, DESIGN CHOICE). -/
def thkNextCopy (s : State) (t : Nat) (full : Nat → Bool) : Nat :=
  let n := Nat.max 1 (thkCopies s t)
  let r := mget (fun _ => 0) s.thk.rr t % n
  let l := ((List.range n).map (fun i => (r + i) % n)).filter (fun c => !full c)
  ((l.find? (fun c => !thkBusy s t c)).orElse (fun _ => l.head?)).getD r

/-- A search takes a slot of every bank of its copy, and the round robin goes on from there (R156). -/
def thkTurn (t c : Nat) (s : State) : State :=
  let s1 := forAll thkTake (thkBanks s t c) s
  { s1 with thk := { s1.thk with rr := mset (fun _ => 0) s1.thk.rr t ((c + 1) % Nat.max 1 (thkCopies s t)) } }

/-! ### Errors and repair (R166 to R168) -/

/-- Table, copy and position that a bank row belongs to. -/
def thkPlaceOf (s : State) (bank row : Nat) : Option (Nat × Nat × Nat) :=
  match thkOwner s bank with
  | none => none
  | some t =>
    let g := thkCfg s t
    let i := bank - fget g fTHK_TBL_CFG_FIRST_BANK
    some (t, i / thkK g, i % thkK g / (1 + thkWide g) * 2048 + row)

/-- Records a lost entry (R168). -/
def thkLost (t x : Nat) (s : State) : State :=
  let a := pa pgThk offTHK_LOST
  let s1 := count pgThk cThk_LOST_ENTRIES s
  if regB s1 a fTHK_LOST_VALID then setRegB a fTHK_LOST_MORE true s1
  else
    raiseIrq pgThk 2 (setReg a
      (fset (fset (fset 0 fTHK_LOST_VALID 1) fTHK_LOST_TABLE t) fTHK_LOST_POSITION x) s1)

/-- An uncorrected row error is detected: VALID of the row goes to 0; with more than one copy the row waits for its
rewrite, with one copy the entry is lost (R168). The bank reports it (R167). -/
def thkRowError (bank row : Nat) (partner : Bool) (s : State) : State :=
  let page := pgThk + bank / 8
  let src := 2 * (bank % 8) + 1
  let res := resId 3 (2048 * bank + row)
  let k := bank * 2048 + row
  let s0 := setThkRow k { thkRow s k with tag := natSetBit (thkRow s k).tag 0 false } s
  let s1 := match thkPlaceOf s bank row with
    | none => s0
    | some (t, c, x) =>
      let g := (thkEntry s t c x).tag
      let s1 := setThkTag t c x (natSetBit g 0 false) s0
      if !g.testBit 0 then s1
      else if 1 < thkCopies s t then { s1 with thk := { s1.thk with repair := nsInsert s1.thk.repair k } }
      else if tagUsed g then thkLost t x s1
      else s1
  let s2 := capture page src clsUC false res s1
  if partner then capture page src clsUC true res s2 else s2

/-- Whether a row of copy c at position x waits for its rewrite. -/
def thkPending (s : State) (t c x : Nat) : Bool :=
  let k := thkRowKey s t c x
  s.thk.repair.contains k || (thkWide (thkCfg s t) == 1 && s.thk.repair.contains (k + 2048))

/-- Moves that copy c has made in an insertion. -/
def shiftMade (h : ThkShift) (c : Nat) : List (Nat × Nat) :=
  h.plan.take ((h.copies.filter (fun y => y.copy == c)).map (fun y => y.made)).sum

/-- The position, before the insertion in progress on table t, of the row that copy c now holds at position x (R161). -/
def rowBefore (s : State) (t c x : Nat) : Nat :=
  match s.thk.shifts.find? (fun h => h.table == t) with
  | none => x
  | some h => match (shiftMade h c).find? (fun m => m.2 == x) with | some m => m.1 | none => x

/-- Positions of copy d that now hold the row of position o before the insertion in progress on table t. -/
def rowNow (s : State) (t d o : Nat) : List Nat :=
  (match s.thk.shifts.find? (fun h => h.table == t) with
    | none => []
    | some h => ((shiftMade h d).filter (fun m => m.1 == o)).map (fun m => m.2)) ++
  (if rowBefore s t d o = o then [o] else [])

/-- THK_ROW_REPAIR (R168): a waiting row is rewritten from the next copy that holds it, wherever that copy's own moves have
taken it, or its entry is lost. -/
def thkRepair (bank row : Nat) (s : State) : State :=
  let k := bank * 2048 + row
  if !s.thk.repair.contains k then s
  else
    let s1 := { s with thk := { s.thk with repair := nsErase s.thk.repair k } }
    match thkPlaceOf s bank row with
    | none => s1
    | some (t, c, x) =>
      let n := thkCopies s t
      let from_ := ((List.range (n - 1)).map (fun i => (c + 1 + i) % n)).flatMap (fun d =>
        (rowNow s t d (rowBefore s t c x)).map (fun y => (d, y)))
      match from_.find? (fun e => !thkPending s t e.1 e.2) with
      | some e => count pgThk cThk_REPAIRS (setThkEntry t c x (thkEntry s t e.1 e.2) s1)
      | none => thkLost t x s1

/-- Whether a repair of the table is in progress; its commands wait (R168). -/
def thkRepairing (s : State) (t : Nat) : Bool := s.thk.repair.any (fun k => thkOwner s (k / 2048) == some t)

/-- THICKET_SCRUB (R166): the scrubber reads its next row in every bank; `bad` names the banks whose row holds an
uncorrectable error (log entry 12, DESIGN CHOICE). -/
def thkScrub (bad : List Nat) (s : State) : State :=
  let row := s.thk.scrub
  let s1 := forAll (fun b s => if b < 64 then thkRowError b row false s else s) bad s
  { s1 with thk := { s1.thk with scrub := (row + 1) % 2048 } }

/-- A search of table t by a parity for a key of 320 bits; `ecc` says that the winning row's result word or tag held an
uncorrectable error (log entry 12, DESIGN CHOICE), `full` which copies' X5 queues have no room. Answers hit, uncorrectable
and the result register (R153 to R156). -/
def thkSearch (t key parity : Nat) (ecc : Bool) (full : Nat → Bool) (s : State) : (Bool × Bool × Nat) × State :=
  if !thkOn s t || thkClearing s t then ((false, false, 0), s)
  else
    let c := thkNextCopy s t full
    let k := if thkWide (thkCfg s t) = 1 then key % 2 ^ 320 else key % 2 ^ 160
    let found := thkFirst s t c k parity
    let s1 := count pgThk cThk_SEARCHES (thkTurn t c s)
    match found, ecc with
    | some x, true =>
      let r := thkRowKey s t c x
      ((false, true, 0), count pgThk cThk_SEARCH_UC (thkRowError (r / 2048) (r % 2048) true s1))
    | some _, false => ((true, false, thkResult s t c found), count pgThk cThk_HITS s1)
    | none, _ => ((false, false, 0), s1)

/-! ### Insertion (R160 to R163) -/

/-- Where an entry of a priority goes: the slot, and the moves before it as (source, destination). -/
structure ThkPlan where
  pos : Nat
  moves : List (Nat × Nat)
  deriving DecidableEq, Repr

/-- The lowest position from `n` on that is not in a rising list. -/
def freeFrom (used : List Nat) (n : Nat) : Nat := freshFrom (used.map (fun x => (x, ()))) n

/-- The highest position below `n` that is not in a rising list. -/
def freeBelow (used : List Nat) : Nat → Option Nat
  | 0 => none
  | n + 1 => if used.contains n then freeBelow used n else some n

/-- Moves of a downward run: positions p to h - 1, far end first (R161). -/
def movesDown (p h : Nat) : List (Nat × Nat) := (List.range (h - p)).map (fun i => (h - 1 - i, h - i))

/-- Moves of an upward run: positions h' + 1 to p - 1, near end first (R161). -/
def movesUp (h p : Nat) : List (Nat × Nat) := (List.range (p - 1 - h)).map (fun i => (h + 1 + i, h + i))

/-- The position of R160; none when the copy is full. -/
def thkPlan (s : State) (t prio : Nat) : Option ThkPlan :=
  let used := thkUsed s t 0
  let n := thkSize s t
  let pr (x : Nat) : Nat := thkPrio s t (thkEntry s t 0 x).tag
  let lo := match (used.filter (fun x => prio ≤ pr x)).getLast? with | some x => x + 1 | none => 0
  let p := match used.find? (fun x => lo ≤ x && pr x < prio) with | some x => x | none => n
  let f := freeFrom used lo
  if f < p then some ⟨f, []⟩
  else
    let h := freeFrom used p
    match decide (h < n), freeBelow used p with
    | false, none => none
    | true, none => some ⟨p, movesDown p h⟩
    | false, some g => some ⟨p - 1, movesUp g p⟩
    | true, some g => if h - p ≤ p - 1 - g then some ⟨p, movesDown p h⟩ else some ⟨p - 1, movesUp g p⟩

/-- Writes an entry in every copy. -/
def thkWriteAll (t x : Nat) (e : ThkRow) (s : State) : State :=
  forAll (fun c s => setThkEntry t c x e s) (List.range (thkCopies s t)) s

/-- Writes the tag of an entry in every copy. -/
def thkTagAll (t x g : Nat) (s : State) : State :=
  forAll (fun c s => setThkTag t c x g s) (List.range (thkCopies s t)) s

/-- The answer to a Thicket command: it waits, it is done, or its moves have begun (R162, R163). -/
inductive ThkOut where
  | wait
  | done (s : State) (r : TaeRes)
  | started (s : State)

/-- Value and mask of a command's data area (R158); the stored value is masked (R148). -/
def thkMaskOf (data : Bytes) : Nat := leAt data 40 40
def thkValueOf (data : Bytes) : Nat := leAt data 0 40 &&& thkMaskOf data

/-- Whether the bytes that R158 wants to be 0 are 0. -/
def thkPadOk (s : State) (t : Nat) (data : Bytes) : Bool :=
  (data.drop 88).all (fun b => b == 0) &&
  (thkWide (thkCfg s t) == 1 || (leAt data 20 20 == 0 && leAt data 60 20 == 0))

/-- Positions that hold an identity (R158), ascending. -/
def thkHolders (s : State) (t rank : Nat) (data : Bytes) : List Nat :=
  (thkUsed s t 0).filter (fun x =>
    let e := thkEntry s t 0 x
    e.value == thkValueOf data && e.mask == thkMaskOf data && (!thkRanked s t || thkRank e.tag == rank))

/-- Selected entries of an identity (R159). -/
def thkSelected (s : State) (t memb rank : Nat) (data : Bytes) : List Nat :=
  (thkHolders s t rank data).filter (fun x => memb == 0 || (tagMemb (thkEntry s t 0 x).tag &&& memb) != 0)

/-- A completion that returns the entry at a position (R158). -/
def thkReturn (s : State) (t x : Nat) : TaeRes :=
  let e := thkEntry s t 0 x
  ⟨tsOk, x, false, false, if e.tag.testBit 0 then tagMemb e.tag else 0, 89,
    leBytes 40 e.value ++ leBytes 40 e.mask ++ leBytes 8 e.result ++ [BitVec.ofNat 8 (thkRank e.tag)]⟩

/-- INSERT (R159, R160). -/
def thkInsert (t memb rank : Nat) (data : Bytes) (s : State) : ThkOut :=
  let clash := (thkHolders s t rank data).filter (fun x => (tagMemb (thkEntry s t 0 x).tag &&& memb) != 0)
  let mask := thkMaskOf data
  let rk := if thkRanked s t then rank else 0
  let tag := mkThkTag memb rk (popcount mask 320)
  let e : ThkRow := ⟨thkValueOf data, mask, leAt data 80 8, tag⟩
  if memb = 0 then .done s (resPlain tsBadFormat 0)
  else match clash with
    | x :: _ => .done s (resPlain tsExists x)
    | [] => match thkPlan s t (thkPrio s t tag) with
      | none => .done (raiseIrq pgThk 0 (count pgThk cThk_INSERT_FULL s)) (resPlain tsFull 0)
      | some plan =>
        match plan.moves with
        | [] => .done (thkWriteAll t plan.pos e s) (resPlain tsOk plan.pos)
        | _ =>
          let copies := (List.range (thkCopies s t)).map (fun c => ThkCopy.mk c plan.moves 0 0)
          .started { s with thk := { s.thk with shifts := s.thk.shifts ++
            [⟨t, plan.pos, e.value, e.mask, e.result, tag, plan.moves, copies⟩] } }

/-- DELETE (R159). -/
def thkDelete (t memb rank : Nat) (data : Bytes) (s : State) : State × TaeRes :=
  match thkSelected s t memb rank data with
  | [] => (s, resPlain tsNotFound 0)
  | x :: xs =>
    (forAll (fun y s => thkTagAll t y (natSetBit (thkEntry s t 0 y).tag 0 false) s) (x :: xs) s, resPlain tsOk x)

/-- MODIFY (R159): the result word of each selected entry. -/
def thkModify (t memb rank : Nat) (data : Bytes) (s : State) : State × TaeRes :=
  match thkSelected s t memb rank data with
  | [] => (s, resPlain tsNotFound 0)
  | x :: xs =>
    (forAll (fun y s => thkWriteAll t y { thkEntry s t 0 y with result := leAt data 80 8 } s) (x :: xs) s,
      resPlain tsOk x)

/-- SEARCH (R159). -/
def thkSearchCmd (t memb rank : Nat) (data : Bytes) (s : State) : State × TaeRes :=
  match thkSelected s t memb rank data with
  | [] => (s, resPlain tsNotFound 0)
  | x :: _ => (s, thkReturn s t x)

/-- SET_MEMB (R159). -/
def thkSetMemb (t memb rank : Nat) (data : Bytes) (s : State) : State × TaeRes :=
  if memb = 0 then thkDelete t memb rank data s
  else match thkSelected s t memb rank data with
    | [] => (s, resPlain tsNotFound 0)
    | [x] =>
      let g := (thkEntry s t 0 x).tag
      (thkTagAll t x (g - tagMemb g * 2 + memb * 2) s, resPlain tsOk x)
    | x :: _ => (s, resPlain tsExists x)

/-- WRITE at INDEX (R159). -/
def thkWriteCmd (t memb rank x : Nat) (data : Bytes) (s : State) : State × TaeRes :=
  if thkSize s t ≤ x then (s, resPlain tsBadIndex 0)
  else
    let mask := thkMaskOf data
    let tag := mkThkTag memb (if thkRanked s t then rank else 0) (popcount mask 320)
    (thkWriteAll t x ⟨thkValueOf data, mask, leAt data 80 8, tag⟩ s, resPlain tsOk x)

/-- READ at INDEX (R159). -/
def thkReadCmd (t x : Nat) (s : State) : State × TaeRes :=
  if thkSize s t ≤ x then (s, resPlain tsBadIndex 0) else (s, thkReturn s t x)

/-- The identity compare of a keyed command takes a search slot of every bank of copy 0, which it reads (R158). -/
def thkCompare (t op memb : Nat) (s : State) : State :=
  if op = 5 || op = 6 || (op = 1 && memb = 0) then s else forAll thkTake (thkBanks s t 0) s

/-- A command of the Thicket space (R152, R158, R159, R163, R168). -/
def thkCommand (op t memb rank x len : Nat) (data : Bytes) (s : State) : ThkOut :=
  let out (r : State × TaeRes) : ThkOut := .done r.1 r.2
  if !thkOn s t then .done s (resPlain tsBadFormat 0)
  else if thkClearing s t || thkShifting s t || thkRepairing s t then .wait
  else if len ≠ (if op = 6 then 0 else 88) || !thkPadOk s t data then .done s (resPlain tsBadFormat 0)
  else
    let s0 := thkCompare t op memb s
    match op with
    | 1 => thkInsert t memb rank data s0
    | 2 => out (thkDelete t memb rank data s0)
    | 3 => out (thkModify t memb rank data s0)
    | 4 => out (thkSearchCmd t memb rank data s0)
    | 5 => out (thkWriteCmd t memb rank x data s)
    | 6 => out (thkReadCmd t x s)
    | 8 => out (thkSetMemb t memb rank data s0)
    | _ => .done s (resPlain tsBadFormat 0)

/-! ### SHIFT_MOVE (R161 to R163) -/

/-- The copies that hold one of the 16 shifters: the first 16 unfinished ones, in order of their commands. -/
def shiftersHeld (s : State) : List (Nat × Nat) :=
  (s.thk.shifts.flatMap (fun h => (h.copies.filter (fun c => c.writes < 2)).map (fun c => (h.table, c.copy)))).take 16

/-- One move or write of copy c of a shift. -/
def shiftCopy (h : ThkShift) (c : ThkCopy) (s : State) : ThkCopy × State :=
  match c.moves with
  | (a, b) :: ms =>
    ({ c with moves := ms, made := c.made + 1 },
      count pgThk cThk_MOVES (setThkEntry h.table c.copy b (thkEntry s h.table c.copy a) s))
  | [] =>
    if c.writes = 0 then
      ({ c with writes := 1 },
        setThkTag h.table c.copy h.pos (natSetBit (thkEntry s h.table c.copy h.pos).tag 0 false) s)
    else
      ({ c with writes := 2 },
        setThkEntry h.table c.copy h.pos ⟨h.value, h.mask, h.result, natSetBit h.tag 0 false⟩ s)

/-- SHIFT_MOVE (R161, R162): copy c of table t makes its next move or write; once every copy has made its writes, VALID
is set in all of them. It waits while a repair of the table is in progress (R168). The second component is the position of
a command that has committed. -/
def shiftMove (t c : Nat) (s : State) : State × Option Nat :=
  match s.thk.shifts.find? (fun h => h.table == t) with
  | none => (s, none)
  | some h =>
    if !thkOn s t || thkRepairing s t || !(shiftersHeld s).contains (t, c) then (s, none)
    else match h.copies.find? (fun x => x.copy == c) with
      | none => (s, none)
      | some x =>
        let r := shiftCopy h x s
        let h1 := { h with copies := h.copies.map (fun (y : ThkCopy) => if y.copy == c then r.1 else y) }
        let rest := r.2.thk.shifts.filter (fun y => y.table != t)
        if h1.copies.all (fun y => y.writes == 2) then
          let s1 := { r.2 with thk := { r.2.thk with shifts := rest } }
          (thkTagAll t h.pos h.tag s1, some h.pos)
        else
          let shifts := r.2.thk.shifts.map (fun (y : ThkShift) => if y.table == t then h1 else y)
          ({ r.2 with thk := { r.2.thk with shifts := shifts } }, none)

/-! ### Table registers (R151, R152) -/

/-- Whether a write that sets ENABLE of table t to 1 is refused (R151). -/
def thkEnableRefused (s : State) (t : Nat) (g : Word) : Bool :=
  let first := fget g fTHK_TBL_CFG_FIRST_BANK
  let n := fget g fTHK_TBL_CFG_COPIES * thkK g
  64 < first + n || (thkWide g == 1 && first % 2 == 1) ||
  (List.range 64).any (fun u => u != t && thkOn s u &&
    rangesMeet first n (fget (thkCfg s u) fTHK_TBL_CFG_FIRST_BANK) (thkCopies s u * thkK (thkCfg s u)))

/-- Whether a configuration holds a reserved encoding. -/
def thkCfgIllegal (g : Word) : Bool :=
  let c := fget g fTHK_TBL_CFG_COPIES
  let d := fget g fTHK_TBL_CFG_DEPTH
  c == 0 || 64 < c || d == 0 || 64 < d

/-- THK_TBL_CFG (R151, R152): a write of THK_TBL_CFG_t; ENABLE going to 1 starts the table's clear. -/
def thkCfgWrite (t : Nat) (v : Word) (s : State) : State :=
  let off := offTHK_TBL_CFG t
  let g := BitVec.ofNat 32 (v.toNat - natField v.toNat 28 23 * 2 ^ 23 - natField v.toNat 15 15 * 2 ^ 15
    - natField v.toNat 7 6 * 2 ^ 6)
  let on := fbit g fTHK_TBL_CFG_ENABLE
  if inReset s pgThk then refuse pgThk off reasonInReset s
  else if thkCfgIllegal g || (on && !thkOn s t && thkEnableRefused s t g) then refuse pgThk off reasonEncoding s
  else if thkOn s t && natField g.toNat 30 0 != natField (thkCfg s t).toNat 30 0 then refuse pgThk off reasonQuiet s
  else
    let s1 := setReg (pa pgThk off) g s
    if on && !thkOn s t then setRegB (pa pgThk (offTHK_TBL_STS t)) fTHK_TBL_STS_CLEARING true s1 else s1

/-- THK_TABLE_CLEAR_DONE (R152): VALID is 0 in every row of the table's banks, whatever its MEMB and in both banks of a
pair. -/
def thkClearDone (t : Nat) (s : State) : State :=
  if !thkClearing s t then s
  else
    let first := thkFirstBank s t 0
    let end_ := thkFirstBank s t (thkCopies s t)
    let rows := (mkeys s.thk.rows).filter (fun k => first ≤ k / 2048 && k / 2048 < end_)
    let s1 := forAll (fun k s => setThkRow k { thkRow s k with tag := natSetBit (thkRow s k).tag 0 false } s) rows s
    raiseIrq pgThk 1 (setRegB (pa pgThk (offTHK_TBL_STS t)) fTHK_TBL_STS_CLEARING false s1)

end Sys2Proof.Machine
end

