-- ==== Sys2Proof/Machine/Policers.lean ====
section
/-!
DEFINITION. Policers (R293 to R296): refill, metering, reservations, refresh and the entry format.
-/

namespace Sys2Proof.Machine
open Sys2Proof

/-- A policer entry, 256 bits (R293). -/
def policer (s : State) (i : Nat) : Nat := mget (fun _ => 0) s.store.pol i

/-- Writes a policer entry. -/
def setPolicer (i v : Nat) (s : State) : State :=
  { s with store := { s.store with pol := mset (fun _ => 0) s.store.pol i v } }

/-- Fields of a policer entry (R293). -/
def pMode (e : Nat) : Nat := natField e 1 0
def pAware (e : Nat) : Bool := e.testBit 2
def pCf (e : Nat) : Nat := natField e 3 3
def pOvh (e : Nat) : Bool := e.testBit 4
def pRate1 (e : Nat) : Nat := rateOf (natField e 24 8)
def pRate2 (e : Nat) : Nat := rateOf (natField e 48 32)
def pSize1 (e : Nat) : Nat := natField e 87 64
def pSize2 (e : Nat) : Nat := natField e 111 88
def pLast (e : Nat) : Nat := natField e 231 192

/-- The buckets in units of 2^-24 byte: token field and refill remainder together (R294). -/
def pTok1 (e : Nat) : Nat := natField e 159 128 * 65536 + natField e 127 112
def pTok2 (e : Nat) : Nat := natField e 191 160 * 65536 + natField e 255 240

/-- The configuration bits of an entry, buckets and LAST cleared. -/
def pConfig (e : Nat) : Nat := e % 2 ^ 112

/-- An entry from its configuration, its buckets in 2^-24 byte and LAST. -/
def pPack (cfg t1 t2 last : Nat) : Nat :=
  cfg % 2 ^ 112 + t1 % 65536 * 2 ^ 112 + t1 / 65536 % 2 ^ 32 * 2 ^ 128 + t2 / 65536 % 2 ^ 32 * 2 ^ 160
    + last % 2 ^ 40 * 2 ^ 192 + t2 % 65536 * 2 ^ 240

/-- The policer clock: (seconds × 10^9 + ns) mod 2^40 (R293). -/
def polNow (s : State) : Nat := nowNs s % 2 ^ 40

/-- Credit of a rate over dt ns in units of 2^-24 byte (R294). -/
def polCredit (rate dt : Nat) : Nat := rate * dt * 2 ^ 24 / 8000000000

/-- The refill of R294: both buckets for the time since LAST, LAST := now. -/
def polRefill (e t : Nat) : Nat :=
  let d := (t + 2 ^ 40 - pLast e) % 2 ^ 40
  let dt := if 2 ^ 39 ≤ d then 0 else d
  let c1 := polCredit (pRate1 e) dt
  let c2 := polCredit (pRate2 e) dt
  let s1 := pSize1 e * 2 ^ 24
  let s2 := pSize2 e * 2 ^ 24
  match pMode e with
  | 0 => pPack (pConfig e) (pTok1 e) (pTok2 e) t
  | 1 =>
    let tc := pTok1 e + c1
    pPack (pConfig e) (Nat.min tc s1) (if s1 < tc then Nat.min s2 (pTok2 e + (tc - s1)) else pTok2 e) t
  | 2 => pPack (pConfig e) (Nat.min s1 (pTok1 e + c1)) (Nat.min s2 (pTok2 e + c2)) t
  | _ =>
    let tc := pTok1 e + c1
    pPack (pConfig e) (Nat.min tc s1) (Nat.min s2 (pTok2 e + c2 + pCf e * (tc - s1))) t

/-- Colours: 0 green, 1 yellow, 2 red. The decision of R295 for `l` bytes and input colour: the colour, and the bytes
taken from each bucket. -/
def polColour (e l colour : Nat) : Nat × Nat × Nat :=
  let inC := if pAware e then colour else 0
  let need := l * 2 ^ 24
  match pMode e with
  | 0 => (inC, 0, 0)
  | 2 =>
    if inC = 2 || pTok2 e < need then (2, 0, 0)
    else if inC = 1 || pTok1 e < need then (1, 0, l)
    else (0, l, l)
  | _ =>
    if inC = 0 && need ≤ pTok1 e then (0, l, 0)
    else if inC ≠ 2 && need ≤ pTok2 e then (1, 0, l)
    else (2, 0, 0)

/-- Takes whole bytes from each bucket. -/
def polTake (e a b : Nat) : Nat :=
  pPack (pConfig e) (pTok1 e - a * 2 ^ 24) (pTok2 e - b * 2 ^ 24) (pLast e)

/-- Returns whole bytes to each bucket, capped at its size (R216). -/
def polGive (e a b : Nat) : Nat :=
  pPack (pConfig e) (Nat.min (Nat.max (pTok1 e) (pSize1 e * 2 ^ 24)) (pTok1 e + a * 2 ^ 24))
    (Nat.min (Nat.max (pTok2 e) (pSize2 e * 2 ^ 24)) (pTok2 e + b * 2 ^ 24)) (pLast e)

/-- Metered length of a packet of FRAME_LEN `flen` received on port rp (R293). -/
def polLen (s : State) (e flen rp : Nat) : Nat :=
  (max 1 ((flen : Int) + (if pOvh e then portOvh s rp else 0))).toNat

/-- A meter operation (R216, R294, R295): colour and reservation, with the state after it. -/
def polMeter (i flen rp colour : Nat) (s : State) : (Nat × PolRes) × State :=
  let e := polRefill (policer s i) (polNow s)
  let r := polColour e (polLen s e flen rp) colour
  ((r.1, ⟨i, r.2.1, r.2.2⟩), setPolicer i (polTake e r.2.1 r.2.2) s)

/-- Returns a reservation at an abandon (R216, R225). -/
def polReturn (r : PolRes) (s : State) : State := setPolicer r.idx (polGive (policer s r.idx) r.tc r.te) s

/-- A policer met with an uncorrectable error: rewritten as PASS and recorded (R305). -/
def polLost (i : Nat) (partner : Bool) (s : State) : State :=
  let a := pa pgPol offPOL_LOST
  let res := resId 6 (65536 + i / 8)
  let s1 := count pgPol cPol_POLICERS_LOST (setPolicer i (pPack 0 0 0 (polNow s)) s)
  let s2 := if regB s1 a fPOL_LOST_VALID then setRegB a fPOL_LOST_MORE true s1
    else raiseIrq pgPol 0 (setReg a (fset (fset 0 fPOL_LOST_VALID 1) fPOL_LOST_INDEX i) s1)
  let s3 := capture pgPol 1 clsUC false res s2
  if partner then capture pgPol 1 clsUC true res s3 else s3

/-- POLICER_REFRESH (R294): the refresh sweep updates policer i, or meets an uncorrectable error in it (R305). -/
def polRefresh (i : Nat) (ecc : Bool) (s : State) : State :=
  if 262144 ≤ i then s
  else if ecc then polLost i false s
  else setPolicer i (polRefill (policer s i) (polNow s)) s

/-- Whether a policer entry given to a WRITE has a reserved encoding (R293). -/
def polIllegal (e : Nat) : Bool :=
  let m := pMode e
  natField e 7 5 != 0 || natField e 31 25 != 0 || natField e 63 49 != 0 || natField e 239 232 != 0 ||
  (m != 3 && pCf e != 0) || (m < 2 && natField e 48 32 != 0) ||
  400000000000 < pRate1 e || 400000000000 < pRate2 e ||
  pSize1 e * 256 < natField e 159 128 || pSize2 e * 256 < natField e 191 160

/-- A WRITE of a policer: LAST is the time of the write, REM1 and REM2 are 0 (R293). -/
def polWrite (i e : Nat) (s : State) : State :=
  setPolicer i (pPack (pConfig e) (natField e 159 128 * 65536) (natField e 191 160 * 65536) (polNow s)) s

end Sys2Proof.Machine
end

