-- ==== Sys2Proof/Machine/Passes.lean ====
section
/-!
DEFINITION. Packet passes (R12 to R16, R174, R175, R224 to R227): threads and Groves, reservation, places in order,
in-flight counts, abandon and restart, the exception queue, and the commands HEAD_ENQUEUE, DISPATCH_GRANT and RESTART.
-/

namespace Sys2Proof.Machine
open Sys2Proof

/-! ### Passes and threads -/

/-- A pass. -/
def pass? (s : State) (k : Nat) : Option Pass := mfind s.disp.passes k

/-- Writes a pass. -/
def setPass (k : Nat) (p : Pass) (s : State) : State :=
  { s with disp := { s.disp with passes := mput s.disp.passes k p } }

/-- Changes a pass. -/
def updPass (k : Nat) (f : Pass → Pass) (s : State) : State :=
  match pass? s k with
  | none => s
  | some p => setPass k (f p) s

/-- The thread number of a pass without a reservation. -/
abbrev noThread : Nat := 4096

/-- Empty staged state. -/
def stagedReset : Staged :=
  { copy := [], orig := [], edits := 0, cnts := [], pols := [], ctxs := [], notices := [], dispo := 0, trail := 0 }

/-- A thread at reset: FREE. -/
def threadReset (_ : Nat) : Thread :=
  { st := .free, pass := 0, w := [], flagZ := false, flagN := false, flagC := false, flagV := false, lr := [],
    lrst := [], ret := 0, pc := 0, issued := 0, oldW := [], oldZ := false, oldN := false, oldC := false,
    oldV := false, done := [], cval := none, await := [], staged := stagedReset, pend := [], ctxh := 0, cntFw := 0,
    freeAt := 0 }

/-- Thread t of the device, numbered 4 × global engine + thread. -/
def thread (s : State) (t : Nat) : Thread := mget threadReset s.grv.threads t

/-- Writes a thread. -/
def setThread (t : Nat) (v : Thread) (s : State) : State :=
  { s with grv := { s.grv with threads := mset threadReset s.grv.threads t v } }

/-- Grove, engine within the Grove and thread within the engine. -/
def thGrove (t : Nat) : Nat := t / 128
def thEng (t : Nat) : Nat := t / 4 % 32
def thIdx (t : Nat) : Nat := t % 4

/-- Whether a thread is FREE (R178, R180): the three hand-off CCLK after an accepted commit are over. -/
def threadFree (s : State) (t : Nat) : Bool := (thread s t).st == .free && decide ((thread s t).freeAt ≤ now s)

/-- Register bit of an engine. -/
def engBit (s : State) (off g e : Nat) : Bool := (reg s (pa (grvPage g) off)).toNat.testBit e

/-- Whether an engine receives dispatch: in service or loaned (R198). -/
def engInService (s : State) (g e : Nat) : Bool := engBit s offGRV_ENG_SVC g e && !engBit s offGRV_ENG_FENCE g e

/-- Free threads of an engine. -/
def engFree (s : State) (g e : Nat) : List Nat :=
  ((List.range 4).map (fun i => 128 * g + 4 * e + i)).filter (threadFree s)

/-- Free threads on the engines of a Grove that receive dispatch. -/
def freeThreads (s : State) (g : Nat) : Nat :=
  (((List.range 32).filter (engInService s g)).map (fun e => (engFree s g e).length)).sum

/-- Threads of a Grove that are not FREE. -/
def busyThreads (s : State) (g : Nat) : Nat :=
  ((List.range 128).filter (fun i => !threadFree s (128 * g + i))).length

/-- Whether a Grove is open for dispatch (R14, R201); every one stays closed until step 6 of the boot (R366). -/
def groveOpen (s : State) (g : Nat) : Bool := bootDone s && running s (grvPage g)

/-- Walks in progress in parse unit u of a Grove, of the two it holds (R90). -/
def walksOf (s : State) (g u : Nat) : Nat :=
  (s.disp.passes.filter (fun e => e.2.phase == .walking && e.2.grove == g && e.2.unit == u)).length

/-- The lowest-numbered parse unit of a Grove with a free walk (R90). -/
def freeUnit (s : State) (g : Nat) : Option Nat := (List.range 8).find? (fun u => decide (walksOf s g u < 2))

/-- The thread reserved in a Grove among the engines allowed: on the in-service engine with the most free threads, the lower
engine on a tie, its lowest-numbered free thread (R175). -/
def pickAmong (s : State) (g : Nat) (ok : Nat → Bool) : Option Nat :=
  let best : Option (Nat × Nat) := ((List.range 32).filter (fun e => engInService s g e && ok e)).foldl (fun b e =>
    let n := (engFree s g e).length
    match b with
    | none => if n = 0 then none else some (e, n)
    | some (_, m) => if m < n then some (e, n) else b) none
  match best with
  | none => none
  | some (e, _) => (engFree s g e).head?

/-- The thread that R175 reserves in a Grove. -/
def pickThread (s : State) (g : Nat) : Option Nat := pickAmong s g (fun _ => true)

/-- The thread that a pass waiting in the restart list gets in a Grove: an engine loaned away receives no restart (R226). -/
def pickRestart (s : State) (p : Pass) (g : Nat) : Option Nat :=
  pickAmong s g (fun e => !p.redo || !engBit s offGRV_ENG_LOAN g e)

/-- Reserves a thread for a pass. -/
def reserve (k g t : Nat) (s : State) : State :=
  updPass k (fun p => { p with grove := g, tid := t })
    (setThread t { threadReset t with st := .reserved, pass := k } s)

/-- The Grove with the most free threads among those that satisfy a test, the lower number on a tie (R14). -/
def pickGrove (s : State) (ok : Nat → Bool) : Option Nat :=
  let best : Option (Nat × Nat) := (List.range 32).foldl (fun b g =>
    if ok g then
      let n := freeThreads s g
      match b with
      | none => if n = 0 then none else some (g, n)
      | some (_, m) => if m < n then some (g, n) else b
    else b) none
  best.map (fun x => x.1)

/-! ### Places, counts, cells -/

/-- A pass leaves its place in R15 order. -/
def leaveOrder (k : Nat) (s : State) : State :=
  match pass? s k with
  | none => s
  | some p =>
    let l := (mget (fun _ => []) s.disp.order p.src).filter (fun x => x != k)
    { s with disp := { s.disp with order := mset (fun _ => []) s.disp.order p.src l } }

/-- A pass enters the in-flight count of its epoch; a later pass of a recirculated packet is not counted again
(R235). -/
def enterFlight (k e : Nat) (s : State) : State :=
  match pass? s k with
  | none => s
  | some p =>
    let s1 := setPass k { p with epoch := e, inflight := true } s
    if p.inflight then s1 else setInflight e (inflight s e + 1) s1

/-- A pass leaves the in-flight count of its epoch (R235). -/
def leaveFlight (k : Nat) (s : State) : State :=
  match pass? s k with
  | none => s
  | some p =>
    if p.inflight then setInflight p.epoch (inflight s p.epoch - 1) (setPass k { p with inflight := false } s) else s

/-- Cells a pass holds: received or continued body, and the cells of an earlier frame. -/
def passCells (p : Pass) : List Nat := (segCells p.segs ++ p.prev).dedup

/-- Timer entry of a timer pass, from XS0 and XS1 of its PRV (R322). -/
def timerOf (p : Pass) : Nat := leAt p.prv 24 4 % 131072

/-- Frames in reception whose early pass is gone are discarded as they arrive (R257), unless a copy still takes them up
(R269, R271). -/
def cutReception (k : Nat) (s : State) : State :=
  if s.clr.desc.any (fun e => e.2.rxPass == some k) then s
  else forAll (fun pt s =>
    let v := port s pt
    match v.rx with
    | some r => if r.pass == some k then
        setPort pt { v with rx := some { r with discard := true, pass := none, cells := [] } } s else s
    | none => s) (mkeys s.ports.port) s

/-- A pass ends without enqueue: cells, place and in-flight count are released, a timer entry's head is no longer
outstanding (R321), and its record is gone. -/
def endPass (k : Nat) (s : State) : State :=
  match pass? s k with
  | none => s
  | some p =>
    let s1 := dropRefs (passCells p) (leaveFlight k (leaveOrder k (cutReception k s)))
    let s2 := if p.src = 260 then
        { s1 with svc := { s1.svc with outstanding := nsErase s1.svc.outstanding (timerOf p) } } else s1
    { s2 with disp := { s2.disp with passes := mdel s2.disp.passes k, age := mdel s2.disp.age k,
                                     restarts := s2.disp.restarts.filter (fun x => x != k),
                                     excQ := s2.disp.excQ.filter (fun x => x != k) },
              pgu := { s2.pgu with held := s2.pgu.held.filter (fun x => x != k) } }

/-- Frees the thread of a pass. -/
def freeThread (t : Nat) (s : State) : State := if t < noThread then setThread t (threadReset t) s else s

/-- The thread hands off after an accepted commit (R180): neither it nor its engine issues in the next three CCLK, and it
is FREE after them. -/
def handOff (t : Nat) (s : State) : State :=
  let s1 := setThread t { threadReset t with freeAt := now s + 4 } s
  { s1 with grv := { s1.grv with handoff := mset (fun _ => 0) s1.grv.handoff (t / 4) (now s + 4) } }

/-! ### The packet header (R251) -/

/-- FRAME_LEN of a pass as its PRV holds it: FCS included, a decoded Trail header not (R101; log entry 14, DEDUCED). -/
def passLen (p : Pass) : Nat := leAt p.prv 18 2 % 16384

/-- Whether a valid Trail header was decoded (PRV TRAIL). -/
def passTrail (p : Pass) : Bool := (byteAt p.prv 0).toNat.testBit 6

/-- The packet header of a stored frame, 48 bytes. `ptp` gives the PTP event and PTP over UDP bits, and the offset of
the PTP header in the edited head (R309). -/
def headerBytes (p : Pass) (netSize : Int) (dispo trailWord : Nat) (ptp : Nat × Nat) : Bytes :=
  let tr := passTrail p
  let flag (b : Bool) (v : Nat) : Nat := if b then v else 0
  let g (i n : Nat) : Bytes := if tr then slice p.trail i n else List.replicate n 0
  leBytes 2 (p.flen % 16384) ++ leBytes 2 (twos 9 netSize) ++ leBytes 8 dispo ++ leBytes 4 trailWord ++
    leBytes 2 (leAt p.prv 4 2 % 512 + flag tr 512 + flag p.recirc 1024 + ptp.1 * 2048) ++ leBytes 2 ptp.2 ++
    leBytes 1 p.epoch ++ g 2 2 ++ [0] ++ g 10 6 ++ leBytes 2 (frac16 p.rxTime) ++ leBytes 4 p.rxTime.ns ++
    leBytes 6 p.rxTime.sec ++ List.replicate 6 0

/-- Whether a pass's cell requests are reserved on account of its entry port (R256); a timer pass counts as one that
entered on port 256 (R322). -/
def entryReserved (p : Pass) : Bool := p.rxPort == 256 || p.rxPort == 259

/-- FRAME_LEN of a pass's frame, as far as it is known (R275). -/
def frameLenOf (k : Nat) (p : Pass) : FrameLen := ⟨p.flen, if p.complete then none else some k⟩

/-- Cells a head chain of `h` bytes takes (R251). -/
def headCellsFor (h : Nat) : Nat := (48 + h + 255) / 256

/-! ### Abandon and final abandon (R224 to R227) -/

/-- Causes of R224. -/
abbrev causeEngine : Nat := 1
abbrev causeCs : Nat := 2
abbrev causeLookup : Nat := 3
abbrev causeWatchdog : Nat := 4
abbrev causeMicrocode : Nat := 5
abbrev causeDrain : Nat := 6
abbrev causeFence : Nat := 7
abbrev causeLock : Nat := 8
abbrev causeEdit : Nat := 9

/-- The device counter of a cause (R230). -/
def causeCounter (c : Nat) : Nat :=
  match c with
  | 1 => cAct_ABANDON_ENGINE_UC
  | 2 => cAct_ABANDON_CS_UC
  | 3 => cAct_ABANDON_LOOKUP_UC
  | 4 => cAct_ABANDON_WATCHDOG
  | 5 => cAct_ABANDON_MICROCODE
  | 6 => cAct_ABANDON_DRAIN
  | 7 => cAct_ABANDON_FENCE
  | 8 => cAct_ABANDON_LOCK
  | _ => cAct_EDIT_FAULT

/-- Releases every context lock a pass holds and its waiting requests (R218, R225). The next holder is granted by
CONTEXT_LOCK_GRANT. -/
def releaseLocks (k : Nat) (s : State) : State :=
  let lock := s.ctx.lock.filter (fun e => e.2 != k)
  let wait := (s.ctx.wait.map (fun e => (e.1, e.2.filter (fun x => x != k)))).filter (fun e => !e.2.isEmpty)
  { s with ctx := { s.ctx with lock := lock, wait := wait } }

/-- Key of a Fragment Memory entry: bytes 0 to 39 with the state bits cleared (R111, R116). -/
def fragKeyOf (e : Nat) : Nat := leNat (((leBytes 40 e).take 37) ++ [byteAt (leBytes 40 e) 37 &&& 1] ++ ((leBytes 40 e).drop 38))

/-- State of a Fragment Memory entry: 0 free, 1 PENDING, 2 DONE, 3 FAILED. -/
def fragState (e : Nat) : Nat := natField e (37 * 8 + 2) (37 * 8 + 1)

/-- A Fragment Memory entry with another state. -/
def fragWith (e st : Nat) : Nat := e - fragState e * 2 ^ (37 * 8 + 1) + st * 2 ^ (37 * 8 + 1)

/-- The record that a pass's walk made, if it is still held (R112, R115). A record made again by a second first fragment
of its key answers to either pass (log entry 100, DESIGN CHOICE). -/
def fragOf (s : State) (p : Pass) : Option (Nat × Nat) :=
  match p.fragRec with
  | none => none
  | some (i, key) => match mfind s.pgu.frag i with
    | none => none
    | some e => if fragKeyOf e = key then some (i, e) else none

/-- Writes or removes a Fragment Memory entry. -/
def setFrag (i : Nat) (e : Option Nat) (s : State) : State :=
  { s with pgu := { s.pgu with frag := oput s.pgu.frag i e } }

/-- The 16-byte exception record of R227 (log entry 82, DEDUCED). -/
def excRecord (p : Pass) (reason : Nat) : Bytes :=
  leBytes 1 reason ++ leBytes 1 p.cause ++ leBytes 2 (p.lastTid / 4 % 1024 + p.lastTid % 4 * 1024) ++
    leBytes 2 (leAt p.prv 4 2 % 512) ++ leBytes 1 p.epoch ++ leBytes 1 (Nat.min 255 p.attempts) ++
    leBytes 4 (leAt p.prv 56 4) ++ leBytes 2 p.faultPc ++ leBytes 2 0

/-- Puts a pass into the exception queue (R381): head cells are requested reserved by its Grove's commit path (R256),
the head is written as received, and its place and in-flight count are released. A full queue drops it. -/
def toException (k reason : Nat) (exc : Bytes) (s : State) : State :=
  match pass? s k with
  | none => s
  | some p =>
    if 4096 ≤ s.disp.excQ.length then count pgPcie cHst_EXC_QUEUE_FULL (endPass k s)
    else
      match cellsReq (32 + p.grove % 32) true p.rxPort 8 (headCellsFor p.head.length) [] s with
      | (got, s1, some g) => endPass k (countRefusal g p.rxPort (frameLenOf k p) (dropRefs got s1))
      | (got, s1, none) =>
        let s2 := fcUpdate p.rxPort (writeChain got (headerBytes p 0 0 0 (0, 0) ++ p.head) s1)
        let com : Committed := ⟨got, p.head.length, p.segs, 0, got.length + (segCells p.segs).length, [], false⟩
        let s3 := leaveFlight k (leaveOrder k s2)
        let s4 := updPass k (fun (q : Pass) =>
          { q with phase := .exception, reason := reason, exc := exc, com := some com, tid := noThread }) s3
        { s4 with disp := { s4.disp with excQ := s4.disp.excQ ++ [k] } }

/-! ### Outcomes of a walk and held fragments (R105, R112 to R115) -/

/-- Overwrites bytes of a pass's PRV. -/
def putPrv (off : Nat) (bs : Bytes) (p : Pass) : Pass := { p with prv := overwrite p.prv off bs }

/-- STATUS and REASON of a PRV; the other bits of byte 0 stay. -/
def putStatus (st reason : Nat) (p : Pass) : Pass :=
  putPrv 0 [BitVec.ofNat 8 ((byteAt p.prv 0).toNat / 16 * 16 + st), BitVec.ofNat 8 reason] p

/-- The walk or hold of a pass has ended toward a routine: its thread starts, or it waits for one. -/
def readyPass (k : Nat) (s : State) : State :=
  match pass? s k with
  | none => s
  | some p =>
    if p.tid = noThread then
      let s1 := setPass k { p with phase := .restart } s
      { s1 with disp := { s1.disp with restarts := s1.disp.restarts ++ [k] } }
    else setPass k { p with phase := .ready } s

/-- The action of PGU_ACT for a PRV (R105). -/
def parseAction (s : State) (p : Pass) : Nat :=
  let b0 := (byteAt p.prv 0).toNat
  let f (x : Fld) : Nat := liveF s (pa pgPgu offPGU_ACT) x
  match b0 % 16 with
  | 0 => if b0.testBit 4 then f fPGU_ACT_OVERLONG else 0
  | 1 => f fPGU_ACT_DEEP
  | 2 => f fPGU_ACT_MALF
  | 3 => f fPGU_ACT_TRUNC
  | 4 => f fPGU_ACT_ORPHAN
  | 5 => f fPGU_ACT_GRAPH
  | _ => f fPGU_ACT_TRAIL

/-- Takes the outcome of a finished walk (R105). -/
def parseOutcome (k : Nat) (s : State) : State :=
  match pass? s k with
  | none => s
  | some p =>
    let st := (byteAt p.prv 0).toNat % 16
    match parseAction s p with
    | 0 => readyPass k s
    | 1 => readyPass k (setPass k (putPrv 2 (leBytes 1 (liveF s (pa pgPgu offPGU_CFG) fPGU_CFG_L2_PROFILE)) p) s)
    | 2 => endPass k (freeThread p.tid s)
    | _ =>
      let reason := if st = 0 then 0x87 else 0x80 + st
      toException k reason (leBytes 16 reason) (freeThread p.tid s)

/-- A later fragment becomes ORPHAN (R113, R114). -/
def orphan (reason k : Nat) (s : State) : State :=
  parseOutcome k (updPass k (putStatus 4 reason) (count pgPgu cPgu_ORPHAN s))

/-- A later fragment takes over its DONE record (R113). -/
def applyRecord (e k : Nat) (s : State) : State :=
  let put (p : Pass) : Pass :=
    let b5 := (byteAt p.prv 5).toNat
    let p1 := putPrv 5 [BitVec.ofNat 8 (natSetBit b5 2 true)] p
    putPrv 2 (leBytes 1 (liveF s (pa pgPgu offPGU_CFG) fPGU_CFG_LATER_PROFILE))
      (putPrv 40 (leBytes 16 (e / 2 ^ 384)) p1)
  parseOutcome k (updPass k put (count pgPgu cPgu_FRAG_LATER s))

/-- Fragments held for a record, in order of receipt. -/
def heldFor (s : State) (i : Nat) : List Nat :=
  s.pgu.held.filter (fun k => match pass? s k with | some p => p.fragWait == some i | none => false)

/-- Takes a fragment out of the hold list. -/
def unhold (k : Nat) (s : State) : State :=
  updPass k (fun (p : Pass) => { p with fragWait := none })
    { s with pgu := { s.pgu with held := s.pgu.held.filter (fun x => x != k) } }

/-- A held fragment has waited for HOLD_US (R113). -/
def holdOver (s : State) (k : Nat) : Bool :=
  match pass? s k with
  | some p => decide (p.holdSince + liveF s (pa pgPgu offFRAG_CFG) fFRAG_CFG_HOLD_US * tUs ≤ now s)
  | none => false

/-- Releases the fragments held for a record, in order of receipt: `f` says how, but one whose HOLD_US has passed first is
an orphan with reason HOLD_TIMEOUT (R113). -/
def releaseHeld (i : Nat) (f : Nat → State → State) (s : State) : State :=
  forAll (fun k s => if holdOver s k then orphan 0x43 k (unhold k s) else f k (unhold k s)) (heldFor s i) s

/-- The fragments held for a record become orphans. -/
def orphanHeld (i reason : Nat) (s : State) : State := releaseHeld i (orphan reason) s

/-- A record becomes DONE with the committed disposition, w30 and w31, and its held fragments are released (R112,
R113) (log entry 90, DEDUCED). -/
def fragDone (p : Pass) (dispo w30 w31 : Nat) (s : State) : State :=
  match fragOf s p with
  | none => s
  | some (i, e) =>
    let e1 := (fragWith e 2) % 2 ^ 384 + dispo * 2 ^ 384 + w30 * 2 ^ 448 + w31 * 2 ^ 480
    releaseHeld i (applyRecord e1) (setFrag i (some e1) s)

/-- A record becomes FAILED and its held fragments become orphans (R112, R113). -/
def fragFail (p : Pass) (s : State) : State :=
  match fragOf s p with
  | none => s
  | some (i, e) => orphanHeld i 0x41 (setFrag i (some (fragWith e 3)) s)

/-- A record is removed; its held fragments become orphans (R115). -/
def fragRemove (i : Nat) (s : State) : State :=
  let s1 := setFrag i none s
  orphanHeld i 0x40 { s1 with pgu := { s1.pgu with fragAt := mdel s1.pgu.fragAt i } }

/-- Every record is removed (R115). -/
def fragClear (s : State) : State := forAll fragRemove (mkeys s.pgu.frag) s

/-- Final abandon (R227): to the exception queue, or dropped under EXC_DROP. EXCEPTIONS counts the passes delivered
(R230). -/
def finalAbandon (k reason : Nat) (s : State) : State :=
  match pass? s k with
  | none => s
  | some p =>
    let s1 := fragFail p s
    if liveB s (pa dev offACT_CFG) fACT_CFG_EXC_DROP then count dev cAct_EXC_DROPPED (endPass k s1)
    else
      let s2 := toException k reason (excRecord p reason) s1
      match pass? s2 k with
      | some _ => count dev cAct_EXCEPTIONS s2
      | none => s2

/-- Abandons the attempt that a thread runs (R224, R225): staged state is discarded, locks released, reservations
returned, the thread freed; the pass restarts (R226) or reaches its final abandon (R227). An accepted commit is
unaffected (R222). `reason` is the host reason of an edit fault. -/
def abandon (t cause reason faultPc : Nat) (s : State) : State :=
  let th := thread s t
  match pass? s th.pass with
  | none => freeThread t s
  | some p =>
    let k := th.pass
    let counted := p.counted + (if cause ≤ 5 then 1 else 0)
    let p1 := { p with counted := counted, cause := cause, lastTid := t, tid := noThread,
                       lastCounted := if cause ≤ 5 then cause else p.lastCounted, faultPc := faultPc }
    let s1 := count dev (causeCounter cause) (count (grvPage (thGrove t)) cGrv_ABANDONS s)
    let s2 := if cause = causeWatchdog then
        raiseIrq (grvPage (thGrove t)) 3 (count (grvPage (thGrove t)) cGrv_WATCHDOG s1) else s1
    let s3 := forAll polReturn th.staged.pols (releaseLocks k (setPass k p1 (freeThread t s2)))
    if cause = causeEdit then finalAbandon k reason s3
    else if p.headLost && counted ≤ liveF s (pa dev offACT_CFG) fACT_CFG_RESTART_MAX then
      count (grvPage (thGrove t)) cGrv_HEAD_LOST (endPass k (fragFail p s3))
    else if counted ≤ liveF s (pa dev offACT_CFG) fACT_CFG_RESTART_MAX then
      let s4 := setPass k { p1 with phase := .restart, redo := true } s3
      { s4 with disp := { s4.disp with restarts := s4.disp.restarts ++ [k] } }
    else finalAbandon k (0x90 + p1.lastCounted) s3

/-- Whether a thread holds an attempt that can be abandoned: started and not yet accepted (R222, R224). -/
def attempting (th : Thread) : Bool :=
  match th.st with
  | .ready | .waiting | .stalled | .committing => true
  | _ => false

/-- Takes the reservation of a RESERVED thread away: its packet is reserved again when its walk or hold has ended
(R200, R201). -/
def unreserve (t : Nat) (s : State) : State :=
  let th := thread s t
  let s1 := updPass th.pass (fun (p : Pass) => { p with tid := noThread }) (releaseLocks th.pass (freeThread t s))
  match pass? s1 th.pass with
  | none => s1
  | some p =>
    if p.phase == .ready then
      let s2 := setPass th.pass { p with phase := .restart } s1
      { s2 with disp := { s2.disp with restarts := s2.disp.restarts ++ [th.pass] } }
    else s1

/-- Abandons whatever a thread holds, RESERVED threads keeping their packet. -/
def clearThread (cause t : Nat) (s : State) : State :=
  let th := thread s t
  if th.st == .reserved then unreserve t s
  else if attempting th then abandon t cause 0 0 s
  else s

/-- The threads of an engine. -/
def engThreads (g e : Nat) : List Nat := (List.range 4).map (fun i => 128 * g + 4 * e + i)

/-- The threads of a Grove. -/
def groveThreads (g : Nat) : List Nat := (List.range 128).map (fun i => 128 * g + i)

/-! ### The crossings of a commit (R17, R180, R222) -/

/-- Commits of a Grove whose entries have stood in a crossing for fewer than n BCLK. R222 takes those of X7 in BCLK 5, of X6
in BCLK 7 and of X8 in BCLK 8 (log entry 15, DESIGN CHOICE). -/
def crossing (s : State) (g n : Nat) : List Crossing :=
  s.grv.cross.filter (fun e => e.grove == g && decide (bclk s < e.at_ / 2 + n))

/-- Whether a crossing of depth d has room for n entries beside those it holds. -/
def crossFits (d n : Nat) (held : List Nat) : Bool := held.isEmpty || decide (held.sum + n ≤ d)

/-- Whether X6, X7 and X8 of a Grove have room for a commit's descriptor and cells, its updates and its notices (R222). -/
def commitRoom (s : State) (g cells ups nots : Nat) : Bool :=
  decide ((crossing s g 7).length < 32) && crossFits 64 cells ((crossing s g 7).map (fun e => e.cells)) &&
  crossFits 64 ups ((crossing s g 5).map (fun e => e.ups)) && crossFits 16 nots ((crossing s g 8).map (fun e => e.nots))

/-- A commit enters X6, X7 and X8 of its Grove. -/
def noteCommit (g cells ups nots : Nat) (s : State) : State :=
  let keep := s.grv.cross.filter (fun e => decide (bclk s < e.at_ / 2 + 8))
  { s with grv := { s.grv with cross := keep ++ [⟨g, now s, cells, ups, nots⟩] } }

/-! ### HEAD_ENQUEUE (R16) -/

/-- Dispatch queue of a source: quads, 256, 257, 258, 259, timers. -/
def queueOf (src : Nat) : Nat := if src < 256 then src / 8 else 32 + (src - 256)

/-- Heads of a dispatch queue. -/
def dispQ (s : State) (q : Nat) : List Nat := mget (fun _ => []) s.disp.queue q

/-- Writes a dispatch queue. -/
def setDispQ (q : Nat) (l : List Nat) (s : State) : State :=
  { s with disp := { s.disp with queue := mset (fun _ => []) s.disp.queue q l } }

/-- The oldest pass of a source in a phase. -/
def firstOf (s : State) (src : Nat) (ph : Phase) : Option Nat :=
  (s.disp.passes.find? (fun e => e.2.src == src && e.2.phase == ph)).map (fun e => e.1)

/-- HEAD_ENQUEUE (R16): the oldest arrived head of a source enters its dispatch queue. At a full queue a head of ports
0 to 255 is dropped and counted, and an internal source withholds its head (R17, R321, R379) (log entry 31, DEDUCED). -/
def headEnqueue (src : Nat) (s : State) : State :=
  match firstOf s src .arrived with
  | none => s
  | some k =>
    let q := queueOf src
    if (dispQ s q).length < 256 then
      setDispQ q (dispQ s q ++ [k]) (updPass k (fun (p : Pass) => { p with phase := .queued }) s)
    else if src < 256 then count (macPage src) cMac_DISPATCH_OVERRUN (endPass k s)
    else s

/-! ### DISPATCH_GRANT (R174) and RESTART (R226) -/

/-- Restarts whose own Grove is closed. -/
def strayRestarts (s : State) : List Nat :=
  s.disp.restarts.filter (fun k => match pass? s k with | some p => !groveOpen s p.grove | none => false)

/-- Whether a restart waits for a thread of Grove g. -/
def restartWaits (s : State) (g : Nat) : Bool :=
  s.disp.restarts.any (fun k => match pass? s k with | some p => p.grove == g | none => false)

/-- Progress of the grants of one CCLK: heads granted, per Grove, and the state. -/
structure Grants where
  n : Nat
  per : NMap Nat
  s : State
  deriving DecidableEq, Repr

/-- Whether a Grove can take a head now (R90, R174, R226). -/
def groveTakes (g : Grants) (x : Nat) : Bool :=
  groveOpen g.s x && decide (mget (fun _ => 0) g.per x < 2) && !restartWaits g.s x && (freeUnit g.s x).isSome &&
  (pickThread g.s x).isSome

/-- Gives a pass its age at its first dispatch (R218). -/
def giveAge (k : Nat) (s : State) : State :=
  if (mfind s.disp.age k).isSome then s
  else { s with disp := { s.disp with age := mput s.disp.age k s.disp.nextAge, nextAge := s.disp.nextAge + 1 } }

/-- Grants the head of one queue, if a Grove takes it: a thread is reserved and the walk can begin; a timer head is not
walked (R93). -/
def grantQueue (q : Nat) (g : Grants) : Grants :=
  if 16 ≤ g.n then g
  else match dispQ g.s q with
    | [] => g
    | k :: rest =>
      if q ≠ 36 && !running g.s pgPgu then g
      else match pickGrove g.s (groveTakes g) with
        | none => g
        | some x => match pickThread g.s x with
          | none => g
          | some t =>
            let s1 := reserve k x t (giveAge k (setDispQ q rest g.s))
            let u := (freeUnit g.s x).getD 0
            let s2 := updPass k (fun (p : Pass) => { p with phase := if q = 36 then .ready else .walking, unit := u }) s1
            let s3 := if q < 35 then { s2 with disp := { s2.disp with last := q } } else s2
            ⟨g.n + 1, mset (fun _ => 0) g.per x (mget (fun _ => 0) g.per x + 1), s3⟩

/-- The queues in the order of R174. -/
def grantOrder (s : State) : List Nat :=
  [36, 35] ++ (List.range 35).map (fun i => (s.disp.last + 1 + i) % 35)

/-- Dispatch is open from BOOT_DONE on (R366) and closed in the safe state (R419). -/
def dispatchOpen (s : State) : Bool := bootDone s && !safe s

/-- DISPATCH_GRANT (R174): the grants of one CCLK. Nothing is granted while dispatch is closed, nor while a restart
whose Grove is closed waits (R226). -/
def dispatchGrant (s : State) : State :=
  if !dispatchOpen s || !(strayRestarts s).isEmpty then s
  else ((grantOrder s).foldl (fun g q => grantQueue q g) ⟨0, [], s⟩).s

/-- The Grove a restart is reserved in: its own while open, else the one R14 chooses. -/
def restartGrove (s : State) (p : Pass) : Option Nat :=
  if groveOpen s p.grove then (if (pickRestart s p p.grove).isSome then some p.grove else none)
  else pickGrove s (fun g => groveOpen s g && (pickRestart s p g).isSome)

/-- RESTART (R226): the first waiting pass for which a thread is free is reserved it; the walk is not repeated. -/
def restart (s : State) : State :=
  if !dispatchOpen s then s
  else match s.disp.restarts.find? (fun k => match pass? s k with
      | some p => (restartGrove s p).isSome
      | none => false) with
    | none => s
    | some k => match pass? s k with
      | none => s
      | some p => match restartGrove s p with
        | none => s
        | some g => match pickRestart s p g with
          | none => s
          | some t =>
            let s1 := if p.redo then count dev cAct_RESTARTS s else s
            let s2 := updPass k (fun (q : Pass) => { q with phase := .ready, redo := false }) (reserve k g t s1)
            { s2 with disp := { s2.disp with restarts := s2.disp.restarts.filter (fun x => x != k) } }

end Sys2Proof.Machine
end

