-- ==== Sys2Proof/Machine/Operands.lean ====
section
/-!
DEFINITION. The microword's fields (R182), the operands of its ALUs (R189), and the bytes its fields read: head window,
PRV, result registers, scratch words, forwarding words and key templates (R190, R194, R220).
-/

namespace Sys2Proof.Machine
open Sys2Proof

/-! ### Microword fields (R182) -/

def mwNext (w : Nat) : Nat := natField w 159 148
def mwCond (w : Nat) : Nat := natField w 147 144
def mwSeq (w : Nat) : Nat := natField w 143 140

/-- ALU_A (slot 0) or ALU_B (slot 1), 28 bits. -/
def mwAlu (w slot : Nat) : Nat := if slot = 0 then natField w 139 112 else natField w 111 84
def aluOp (f : Nat) : Nat := natField f 27 22
def aluDest (f : Nat) : Nat := natField f 21 17
def aluSrcA (f : Nat) : Nat := natField f 16 12
def aluSrcB (f : Nat) : Nat := natField f 11 7
def aluAux (f : Nat) : Nat := natField f 6 0

def mwTable (w : Nat) : Nat := natField w 83 78
def mwTemplate (w : Nat) : Nat := natField w 77 72
def mwRreg (w : Nat) : Nat := natField w 71 67
def mwSpace (w : Nat) : Nat := natField w 66 65
def mwPred (w : Nat) : Bool := w.testBit 64
def mwHdrOp (w : Nat) : Nat := natField w 63 60
def mwHdrLayer (w : Nat) : Nat := natField w 59 57
def mwHdrDisp (w : Nat) : Nat := natField w 56 52
def mwHdrLen (w : Nat) : Nat := natField w 51 46 + 1
def mwHdrSrc (w : Nat) : Nat := natField w 45 40

/-- The MEM field, 16 bits: word bit 24 + i is bit i. -/
def mwMem (w : Nat) : Nat := natField w 39 24
def memOp (m : Nat) : Nat := natField m 15 12
def mwImm (w : Nat) : Nat := natField w 23 8
def mwDispOp (w : Nat) : Nat := natField w 7 4
def mwDispArg (w : Nat) : Nat := natField w 3 0

/-! ### Thread registers (R187) -/

/-- Working register i. -/
def wreg (th : Thread) (i : Nat) : Word := mget (fun _ => 0) th.w (i % 32)

/-- Working register i as it stood before the word in progress (R183). -/
def oldReg (th : Thread) (i : Nat) : Word := mget (fun _ => 0) th.oldW (i % 32)

/-- Writes working register i. -/
def setWreg (i : Nat) (v : Word) (th : Thread) : Thread := { th with w := mset (fun _ => 0) th.w (i % 32) v }

/-- Result register i. -/
def lreg (th : Thread) (i : Nat) : Nat := mget (fun _ => 0) th.lr (i % 8)

/-- Status of result register i. -/
def lrStatus (th : Thread) (i : Nat) : LrStatus := mget (fun _ => LrStatus.none) th.lrst (i % 8)

/-- Writes result register i with a status. -/
def setLreg (i v : Nat) (st : LrStatus) (th : Thread) : Thread :=
  { th with lr := mset (fun _ => 0) th.lr (i % 8) v, lrst := mset (fun _ => LrStatus.none) th.lrst (i % 8) st }

/-- Sets the status of result register i. -/
def setLrStatus (i : Nat) (st : LrStatus) (th : Thread) : Thread :=
  { th with lrst := mset (fun _ => LrStatus.none) th.lrst (i % 8) st }

/-- Whether a result register is PENDING. -/
def pendingReg (th : Thread) (i : Nat) : Bool := lrStatus th i == .pending

/-- A scratch word nobody has written holds undefined data (R187). -/
def scratchReset (k : Nat) : Word := BitVec.ofNat 32 (Config.scratch k)

/-- Scratch word of a thread at a byte address, modulo 2,048 (R190). -/
def scratchKey (t addr : Nat) : Nat := t * 512 + addr % 2048 / 4

/-! ### ALU operands (R189) -/

/-- Rotate right. -/
def rotr (w : Word) (n : Nat) : Word := w.rotateRight (n % 32)

/-- The shift of operand B by aux[6:5] and aux[4:0]. -/
def shiftB (b : Word) (aux : Nat) : Word :=
  let n := aux % 32
  match aux / 32 with
  | 0 => b
  | 1 => b <<< n
  | 2 => b >>> n
  | _ => rotr b n

/-- The immediate B that srcB selects. -/
def immB (imm srcB : Nat) : Word :=
  if srcB = 0 then BitVec.ofNat 32 imm
  else if srcB = 1 then BitVec.ofInt 32 (signed 16 imm)
  else if srcB = 2 then BitVec.ofNat 32 (imm * 65536)
  else BitVec.ofNat 32 (srcB - 16)

/-- Operand A of an ALU field. -/
def opA (th : Thread) (f : Nat) : Word := oldReg th (aluSrcA f)

/-- Operand B before its shift: a register, or the immediate of opcodes 0x20 and above. -/
def opB0 (th : Thread) (w f : Nat) : Word :=
  if 32 ≤ aluOp f then immB (mwImm w) (aluSrcB f) else oldReg th (aluSrcB f)

/-- Operand B of the opcodes that shift it. -/
def opB (th : Thread) (w f : Nat) : Word := shiftB (opB0 th w f) (aluAux f)

/-! ### Head window, PRV, layers -/

/-- Offset of layer slot i of a PRV. -/
def prvLayer (prv : Bytes) (i : Nat) : Nat := (byteAt prv (8 + i)).toNat

/-- Whether layer slot i is valid. -/
def prvLayerOk (prv : Bytes) (i : Nat) : Bool := (byteAt prv 16).toNat.testBit i

/-- `n` bytes of a head copy from an offset; bytes at or past its length read 0 (R190, R194). -/
def copyBytes (th : Thread) (off n : Nat) : Bytes := slice th.staged.copy off n

/-- Net size change of the staged edits (R207). -/
def netSize (p : Pass) (th : Thread) : Int := (th.staged.copy.length : Int) - p.head.length

/-! ### Forwarding words (R220) -/

def fwDest (v : Nat) : Nat := natField v 13 0
def fwMc (v : Nat) : Bool := v.testBit 15
def fwQueue (v : Nat) : Nat := natField v 27 16
def fwClass (v : Nat) : Nat := natField v 30 28
def fwClsEn (v : Nat) : Bool := v.testBit 31

/-- Word j of a result register. -/
def lrWord (th : Thread) (i j : Nat) : Nat := natField (lreg th i) (32 * j + 31) (32 * j)

/-! ### Disposition record (R221) -/

def dAction (d : Nat) : Nat := natField d 2 0
def dClass (d : Nat) : Nat := natField d 5 3
def dColour (d : Nat) : Nat := natField d 7 6
def dDest (d : Nat) : Nat := natField d 21 8
def dQueue (d : Nat) : Nat := natField d 35 24
def dMirrorEn (d : Nat) : Bool := d.testBit 36
def dMirror (d : Nat) : Nat := natField d 40 37
def dOam (d : Nat) : Bool := d.testBit 41
def dReason (d : Nat) : Nat := natField d 50 43

/-- A number with bits [hi:lo] replaced. -/
def putField (n hi lo v : Nat) : Nat := n - natField n hi lo * 2 ^ lo + v % 2 ^ (hi + 1 - lo) * 2 ^ lo

/-! ### Key templates (R194, R195) -/

/-- A key template nobody has written: the ROM's once installed (R435), else 0. -/
def tmplReset (s : State) (i : Nat) : Nat := if s.grv.rom then Config.romTemplate i % 2 ^ 256 else 0

/-- Key template i. -/
def template (s : State) (i : Nat) : Nat := mget (tmplReset s) s.grv.tmpl i

/-- Segment j of a template. -/
def tmplSeg (tm j : Nat) : Nat := natField tm (32 * j + 31) (32 * j)
def segSrc (g : Nat) : Nat := natField g 2 0
def segSel (g : Nat) : Nat := natField g 7 3
def segOff (g : Nat) : Nat := natField g 16 8
def segLen (g : Nat) : Nat := natField g 22 17 + 1
def segLead (g : Nat) : Nat := natField g 25 23
def segTrail (g : Nat) : Nat := natField g 28 26

/-- The segments of a template up to its end. -/
def tmplSegs (tm : Nat) : List Nat := ((List.range 8).map (tmplSeg tm)).takeWhile (fun g => segSrc g != 0)

/-- Bytes of a segment before LEAD and TRAIL. -/
def segRaw (p : Pass) (th : Thread) (imm g : Nat) : Bytes :=
  let n := segLen g
  match segSrc g with
  | 1 =>
    let i := segSel g
    if 8 ≤ i then copyBytes th (segOff g) n
    else if prvLayerOk p.prv i then copyBytes th (prvLayer p.prv i + segOff g) n
    else List.replicate n 0
  | 2 => slice p.prv (segOff g) n
  | 3 => slice (beBytes 4 (wreg th (segSel g)).toNat) (4 - Nat.min n 4) (Nat.min n 4)
  | 4 => slice (leBytes 16 (lreg th (segSel g % 8))) (segOff g) n
  | 5 => List.replicate n 0
  | _ => beBytes 2 imm

/-- Forces the LEAD high bits of the first byte and the TRAIL low bits of the last byte to 0. -/
def segMask (lead trail : Nat) (bs : Bytes) : Bytes :=
  match bs with
  | [] => []
  | b :: rest =>
    let l := BitVec.ofNat 8 (b.toNat % 2 ^ (8 - lead)) :: rest
    match l.reverse with
    | [] => []
    | z :: front => (BitVec.ofNat 8 (z.toNat / 2 ^ trail * 2 ^ trail) :: front).reverse

/-- The key a template gives, at most 64 bytes. -/
def templateBytes (s : State) (p : Pass) (th : Thread) (imm i : Nat) : Bytes :=
  ((tmplSegs (template s i)).flatMap (fun g => segMask (segLead g) (segTrail g) (segRaw p th imm g))).take 64

/-- Result registers a template reads. -/
def templateRegs (s : State) (i : Nat) : List Nat :=
  ((tmplSegs (template s i)).filter (fun g => segSrc g == 4)).map (fun g => segSel g % 8)

end Sys2Proof.Machine
end

