-- ==== Sys2Proof/Machine/Parse.lean ====
section
/-!
DEFINITION. Parse graph (04): nodes, transitions, the walk with its IP checks, the Trail short-cut, fragments, and the
commands PARSE_WALK, HOLD_TIMEOUT, FRAG_AGED, FRAG_SEED, PGU_NODE_READ and PGU_NODE_WRITE.
-/

namespace Sys2Proof.Machine
open Sys2Proof

/-! ### Nodes and transitions (R94, R99) -/

/-- A node nobody has written: the ROM graph's once it is installed (R435), else 0 (log entry 3, DESIGN CHOICE). -/
def nodeWordReset (s : State) (key : Nat) : Nat := if s.pgu.rom then Config.romNode key % 2 ^ 95 else 0

/-- Node word of bank × 256 + number. -/
def pguNode (s : State) (key : Nat) : Nat := mget (nodeWordReset s) s.pgu.nodes key

/-- Writes a node; an error it held is gone. -/
def setPguNode (key v : Nat) (s : State) : State :=
  { s with pgu := { s.pgu with nodes := mset (nodeWordReset s) s.pgu.nodes key v, nodeBad := nsErase s.pgu.nodeBad key } }

/-- A transition entry nobody has written. -/
def transReset (s : State) (i : Nat) : Nat := if s.pgu.rom then Config.romTransition i % 2 ^ 42 else 0

/-- A transition entry. -/
def transEntry (s : State) (i : Nat) : Nat := mget (transReset s) s.pgu.trans i

/-- Writes a transition entry, all 32 copies at once (R100): what was wrong with one is gone. -/
def setTrans (i v : Nat) (s : State) : State :=
  { s with pgu := { s.pgu with trans := mset (transReset s) s.pgu.trans i v,
                               transBad := s.pgu.transBad.filter (fun x => x % 4096 != i) } }

/-- Entry i of Grove g's transition copy, as it is kept in `transBad`. -/
def transKey (g i : Nat) : Nat := g % 32 * 4096 + i

/-- Rewrites an entry of Grove g's copy from the next Grove's copy, good where that one is (R119). -/
def transMend (g i : Nat) (s : State) : State :=
  if s.pgu.transBad.contains (transKey (g + 1) i) then s
  else { s with pgu := { s.pgu with transBad := nsErase s.pgu.transBad (transKey g i) } }

/-- Every bad entry of a transition copy is rewritten from the next Grove's copy; within 1 µs of its report, here at the
next tick (R119). -/
def transMendAll (s : State) : State := forAll (fun x s => transMend (x / 4096) (x % 4096) s) s.pgu.transBad s

/-- Fields of a node word. -/
def ndFoff (e : Nat) : Nat := natField e 8 0
def ndWidth (e : Nat) : Nat := natField e 12 9 + 1
def ndLmode (e : Nat) : Bool := e.testBit 13
def ndLadd (e : Nat) : Nat := natField e 21 14
def ndLoff (e : Nat) : Nat := natField e 30 22
def ndLwidth (e : Nat) : Nat := natField e 34 31 + 1
def ndLshift (e : Nat) : Nat := natField e 36 35
def ndTbase (e : Nat) : Nat := natField e 48 37
def ndTcount (e : Nat) : Nat := natField e 53 49
def ndDefnext (e : Nat) : Nat := natField e 62 54
def ndKind (e : Nat) : Nat := natField e 66 63
def ndLayer (e : Nat) : Nat := natField e 70 67
def ndLkeep (e : Nat) : Bool := e.testBit 71
def ndXslot (e : Nat) : Nat := natField e 76 72
def ndProfile (e : Nat) : Nat := natField e 84 77
def ndProfEn (e : Nat) : Bool := e.testBit 85
def ndFlags (e : Nat) : Nat := natField e 93 86
def ndValid (e : Nat) : Bool := e.testBit 94

/-- Whether a node word holds a reserved encoding or a run beyond the table (R94). -/
def nodeIllegal (e : Nat) : Bool :=
  16 < ndTcount e || 0x101 < ndDefnext e || 3 < ndKind e || 8 < ndLayer e || 16 < ndXslot e ||
  4096 < ndTbase e + ndTcount e

/-- Whether a transition entry holds a reserved encoding (R97, R99). -/
def transIllegal (e : Nat) : Bool := 0x101 < natField e 40 32 || natField e 63 42 != 0

/-- The next node among the entries of a run (R99). -/
def firstMatch (s : State) (v : Nat) : List Nat → Option Nat
  | [] => none
  | i :: is =>
    let e := transEntry s i
    if e.testBit 41 && (v &&& natField e 31 16) == (natField e 15 0 &&& natField e 31 16) then some (natField e 40 32)
    else firstMatch s v is

/-! ### The walk (R95 to R109) -/

/-- The fragment a walk found (R110, R111). -/
structure Frag where
  isFirst : Bool
  v6 : Bool
  src : Bytes
  dst : Bytes
  ident : Bytes
  proto : Byte
  deriving DecidableEq, Repr

/-- The walk in progress: the PRV fields it builds, its place, and what the IP checks remember. -/
structure Walk where
  h : Nat
  n : Nat
  last : Nat
  layers : NMap Nat
  lvalid : Nat
  flags : Nat
  profile : Nat
  xs : NMap Nat
  l3end : Option Nat
  overlong : Bool
  padded : Bool
  unchecked : Bool
  unhandled : Bool
  frag : Option Frag
  /-- Declared end of the enclosing IP header (R108). -/
  encl : Option Nat
  /-- Start and payload length of the most recent IPV6 header (R107). -/
  ip6 : Option (Nat × Nat)
  deriving DecidableEq, Repr

/-- What a walk needs and does not change: window bytes and size, frame length without FCS if known, whether fragments
are handled, the graph bank, and the Grove whose transition copy it reads. -/
structure WalkEnv where
  win : Bytes
  size : Nat
  flen : Option Nat
  frags : Bool
  bank : Nat
  grove : Nat
  deriving DecidableEq, Repr

/-- `n` bits from bit `i` of the head window, most significant bit of byte 0 first (R95). -/
def winBits (w : Bytes) (i n : Nat) : Nat := natField (beAt w (i / 8) 4) (31 - i % 8) (32 - i % 8 - n)

/-- How a node's evaluation ends its walk early: status and reason. -/
abbrev WalkEnd : Type := Nat × Nat

/-- The declared-end test of R108 for an IP header that ends at d. -/
def endCheck (env : WalkEnv) (d : Nat) (w : Walk) : Except WalkEnd Walk :=
  let w1 := { w with encl := some d, l3end := some (w.l3end.getD d) }
  match env.flen with
  | none => .ok w1
  | some f =>
    match w.encl with
    | some e =>
      if e < d then .error (3, 0x10)
      else if d < e then .ok { w1 with overlong := true } else .ok w1
    | none =>
      if f < d then .error (3, 0x10)
      else if d = f then .ok w1
      else if f - d ≤ 60 - d then .ok { w1 with padded := true }
      else .ok { w1 with overlong := true }

/-- Notes the first fragmenting header of a walk (R110). -/
def noteFrag (env : WalkEnv) (fr : Frag) (w : Walk) : Walk :=
  match w.frag with
  | some _ => w
  | none => { w with frag := some fr, unhandled := !env.frags && !fr.isFirst }

/-- IPv4 checks, length and fragment of R106. Header bytes beyond the head window read 0 (log entry 100, DESIGN CHOICE). -/
def ipv4Node (env : WalkEnv) (w : Walk) : Except WalkEnd (Nat × Walk) :=
  let b (o n : Nat) : Nat := beAt env.win (w.h + o) n
  let ihl := b 0 1 % 16 * 4
  let total := b 2 2
  let fo := b 6 2 % 8192
  let mf := (b 6 2).testBit 13
  if b 0 1 / 16 ≠ 4 then .error (2, 0x02)
  else if ihl < 20 then .error (2, 0x01)
  else if total < ihl then .error (2, 0x03)
  else if 65535 < fo * 8 + total - ihl then .error (2, 0x04)
  else match endCheck env (w.h + total) w with
    | .error e => .error e
    | .ok w1 =>
      let z12 : Bytes := List.replicate 12 0
      let fr : Frag := ⟨fo == 0, false, z12 ++ slice env.win (w.h + 12) 4, z12 ++ slice env.win (w.h + 16) 4,
        [0, 0] ++ slice env.win (w.h + 4) 2, byteAt env.win (w.h + 9)⟩
      .ok (ihl, if mf || fo != 0 then noteFrag env fr w1 else w1)

/-- IPv6 check and length of R107. -/
def ipv6Node (env : WalkEnv) (w : Walk) : Except WalkEnd (Nat × Walk) :=
  if beAt env.win w.h 1 / 16 ≠ 6 then .error (2, 0x02)
  else
    let pl := beAt env.win (w.h + 4) 2
    match endCheck env (w.h + 40 + pl) w with
    | .error e => .error e
    | .ok w1 => .ok (40, { w1 with ip6 := some (w.h, pl) })

/-- IPv6 fragment header of R107 and R110. -/
def ipv6FragNode (env : WalkEnv) (w : Walk) : Except WalkEnd (Nat × Walk) :=
  match w.ip6 with
  | none => .error (5, 0x33)
  | some (h6, pl) =>
    let fo := beAt env.win (w.h + 2) 2 / 8
    let m := (beAt env.win (w.h + 2) 2).testBit 0
    if (65535 : Int) < (fo : Int) * 8 + pl - ((w.h : Int) - h6 - 40) then .error (2, 0x04)
    else
      let fr : Frag := ⟨fo == 0, true, slice env.win (h6 + 8) 16, slice env.win (h6 + 24) 16,
        slice env.win (w.h + 4) 4, byteAt env.win w.h⟩
      .ok (8, if m || fo != 0 then noteFrag env fr w else w)

/-- Header length of a node with its kind checks (R96). -/
def headerLength (env : WalkEnv) (nd : Nat) (w : Walk) : Except WalkEnd (Nat × Walk) :=
  match ndKind nd with
  | 1 => ipv4Node env w
  | 2 => ipv6Node env w
  | 3 => ipv6FragNode env w
  | _ =>
    if ndLmode nd then .ok (winBits env.win (w.h * 8 + ndLoff nd) (ndLwidth nd) * 2 ^ ndLshift nd + ndLadd nd, w)
    else .ok (ndLadd nd, w)

/-- Applies a node's results in the order of R98. -/
def applyNode (nd v : Nat) (w : Walk) : Walk :=
  let l := ndLayer nd
  let w1 := if l = 0 || (ndLkeep nd && w.lvalid.testBit (l - 1)) then w
    else { w with layers := mput w.layers (l - 1) w.h, lvalid := natSetBit w.lvalid (l - 1) true }
  let x := ndXslot nd
  let w2 := if x = 0 then w1 else { w1 with xs := mput w1.xs (x - 1) v }
  let w3 := if ndProfEn nd then { w2 with profile := ndProfile nd } else w2
  { w3 with flags := w3.flags ||| ndFlags nd }

/-- The walk from node `node` (R100), at most `fuel` nodes: its end and the PRV fields built. A transition run with an
uncorrectable entry ends it before the node's window, frame and kind checks (log entry 137, DESIGN CHOICE). -/
def walkFrom (s : State) (env : WalkEnv) : Nat → Nat → Walk → WalkEnd × Walk
  | 0, _, w => ((1, 0x20), w)
  | fuel + 1, node, w0 =>
    let w := { w0 with n := w0.n + 1, last := node }
    if 24 < w.n then ((1, 0x20), w0)
    else
      let key := env.bank * 256 + node
      let nd := pguNode s key
      let run := (List.range (ndTcount nd)).map (fun i => (ndTbase nd + i) % 4096)
      if s.pgu.nodeBad.contains key then ((5, 0x32), w)
      else if !ndValid nd then ((5, 0x31), w)
      else if run.any (fun i => s.pgu.transBad.contains (transKey env.grove i)) then ((5, 0x32), w)
      else
        let fend := w.h * 8 + ndFoff nd + ndWidth nd
        if env.size * 8 < fend then ((1, 0x21), w)
        else if (match env.flen with | some f => decide (f * 8 < fend) | none => false) then ((3, 0x11), w)
        else
          let v := winBits env.win (w.h * 8 + ndFoff nd) (ndWidth nd)
          match headerLength env nd w with
          | .error e => (e, w)
          | .ok (len, w1) =>
            -- a later fragment ends its walk OK after this node, handled or not (R110; log entry 96, DEDUCED)
            let later : Bool := w.frag.isNone && (match w1.frag with | some f => !f.isFirst | none => false)
            let next := if later then 0x100 else (firstMatch s v run).getD (ndDefnext nd)
            if next = 0x101 then ((5, 0x30), w)
            else if next ≠ 0x100 && env.size ≤ w.h + len then ((1, 0x21), w)
            else if next ≠ 0x100 && ndKind nd = 0 &&
                (match env.flen with | some f => decide (f < w.h + len) | none => false) then ((3, 0x11), w)
            else
              let w2 := applyNode nd v w1
              if next = 0x100 then ((0, 0), w2)
              else walkFrom s env fuel (next % 256) { w2 with h := w.h + len }

/-- The walk of an even epoch starts in the ROM graph as it was installed (R435, R436): no node of bank A and no transition has been
overwritten or holds an uncorrectable error. -/
def romGraph (s : State) (env : WalkEnv) (start : Nat) : Bool :=
  s.pgu.rom && env.bank == 0 && start == 0 && s.pgu.nodes.all (fun e => 256 ≤ e.1) && s.pgu.trans.isEmpty &&
    s.pgu.nodeBad.all (fun k => 256 ≤ k) && s.pgu.transBad.all (fun k => k / 4096 != env.grove % 32)

/-- The walk of a frame. The ROM graph takes every frame to the bridge routine: its walk ends OK and handles no fragment; the rest
of what it leaves is its nodes' (R435; log entry 140, DESIGN CHOICE). -/
def graphWalk (s : State) (env : WalkEnv) (start : Nat) (w : Walk) : WalkEnd × Walk :=
  let r := walkFrom s env 25 start w
  if romGraph s env start then ((0, 0), { r.2 with overlong := false, frag := none, unhandled := false }) else r

/-! ### Epoch stamps (R92, R118, R236) -/

/-- The epoch of a valid Trail header's byte, and whether it is stale. -/
def trailEpoch (s : State) (e : Nat) : Nat × Bool :=
  let a := pa dev offEPOCH_STS
  let live := e == regF s a fEPOCH_STS_CURRENT ||
    (regB s a fEPOCH_STS_PREV_LIVE && e == regF s a fEPOCH_STS_PREVIOUS) ||
    (regB s a fEPOCH_STS_ARMED && e == regF s a fEPOCH_STS_ARM_EPOCH)
  if live then (e, false) else (curEpoch s, true)

/-- The last valid Trail header that carried the previous epoch is noted for its grace time (R237). -/
def noteTrail (e : Nat) (s : State) : State :=
  let a := pa dev offEPOCH_STS
  if regB s a fEPOCH_STS_PREV_LIVE && e == regF s a fEPOCH_STS_PREVIOUS then
    { s with ep := { s.ep with trailAt := now s } } else s

/-! ### Fragment Memory (R111 to R113) -/

/-- Bytes 0 to 39 of a fragment's entry with state 0 (R116). -/
def fragKeyBytes (fr : Frag) (dom : Nat) : Bytes :=
  fr.src ++ fr.dst ++ fr.ident ++ [fr.proto, if fr.v6 then 1 else 0] ++ leBytes 2 (dom % 4096)

/-- The set of a fragment key (R111). -/
def fragSet (s : State) (key : Bytes) : Nat :=
  (crcRun polyC (reg s (pa pgPgu offFRAG_SEED)).toNat (key.take 37 ++ key.drop 38) ^^^ 0xFFFFFFFF) % 2048

/-- Entries of a set, in way order. -/
def fragWays (set : Nat) : List Nat := (List.range 4).map (fun w => set * 4 + w)

/-- The entry that holds a key. -/
def fragFind (s : State) (key : Bytes) : Option (Nat × Nat) :=
  ((fragWays (fragSet s key)).filterMap (fun i => (mfind s.pgu.frag i).map (fun e => (i, e)))).find?
    (fun x => fragKeyOf x.2 == leNat key && fragState x.2 != 0)

/-- Makes the PENDING record of a first fragment (R112): its own entry again, a free way, a FAILED way, or none. -/
def fragMake (k : Nat) (key : Bytes) (epoch : Nat) (s : State) : State :=
  let ways := fragWays (fragSet s key)
  let place := match fragFind s key with
    | some (i, _) => some i
    | none => match ways.find? (fun i => (mfind s.pgu.frag i).isNone) with
      | some i => some i
      | none => ways.find? (fun i => match mfind s.pgu.frag i with | some e => fragState e == 3 | none => false)
  match place with
  | none =>
    let set (p : Pass) : Pass := putPrv 5 [BitVec.ofNat 8 (natSetBit (byteAt p.prv 5).toNat 3 true)] p
    raiseIrq pgPgu 0 (count pgPgu cPgu_FRAG_MEM_FULL (updPass k set s))
  | some i =>
    let e := fragWith (leNat key) 1 + (nowNs s / 1000 % 2 ^ 32) * 2 ^ 320 + epoch * 2 ^ 352
    let s1 := updPass k (fun (p : Pass) => { p with fragRec := some (i, leNat key) }) (setFrag i (some e) s)
    { s1 with pgu := { s1.pgu with fragAt := mput s1.pgu.fragAt i (now s) } }

/-- A later fragment reads its record (R113). -/
def fragLater (k : Nat) (key : Bytes) (s : State) : State :=
  match fragFind s key with
  | none => orphan 0x40 k s
  | some (i, e) =>
    match fragState e with
    | 2 => applyRecord e k s
    | 3 => orphan 0x41 k s
    | _ =>
      if 256 ≤ s.pgu.held.length then orphan 0x42 k s
      else
        let s1 := updPass k (fun (p : Pass) => { p with phase := .held, fragWait := some i, holdSince := now s }) s
        { s1 with pgu := { s1.pgu with held := s1.pgu.held.filter (fun x => x < k) ++ k :: s1.pgu.held.filter (fun x => k < x) } }

/-! ### PARSE_WALK (R90, R100, R118) -/

/-- The PRV of a finished walk (R101). `fl` is FRAME_LEN, `ov` the Trail copy in bytes 40 to 55
(log entry 34, DEDUCED). FRAG_V6 says that the fragment is IPv6, whether or not it is handled (log entry 100,
DESIGN CHOICE). -/
def buildPrv (w : Walk) (e : WalkEnd) (epoch port fl dom rxNs : Nat) (trail stale : Bool) (ov : Option Bytes) : Bytes :=
  let b (x : Bool) (i : Nat) : Nat := if x then 2 ^ i else 0
  let isFirst := match w.frag with | some f => f.isFirst | none => false
  let v6 := match w.frag with | some f => f.v6 | none => false
  let xs (i : Nat) : Bytes := leBytes 2 (mget (fun _ => 0) w.xs i)
  leBytes 1 (e.1 + b w.overlong 4 + b w.padded 5 + b trail 6 + b stale 7) ++ leBytes 1 e.2 ++ leBytes 1 w.profile ++
    leBytes 1 epoch ++
    leBytes 2 (port % 512 + b isFirst 9 + b v6 12 + b w.unchecked 13 + b w.unhandled 14) ++
    leBytes 1 w.n ++ leBytes 1 w.last ++
    (List.range 8).flatMap (fun i => leBytes 1 (mget (fun _ => 0) w.layers i)) ++ leBytes 1 w.lvalid ++
    leBytes 1 w.flags ++ leBytes 2 (fl % 16384) ++ leBytes 2 (w.l3end.getD 0) ++ leBytes 2 dom ++
    (List.range 8).flatMap xs ++
    (match ov with | some t => t | none => (List.range 8).flatMap (fun i => xs (8 + i))) ++
    leBytes 4 rxNs ++ leBytes 4 0

/-- A walk at its start. -/
def walkStart (profile : Nat) : Walk :=
  { h := 0, n := 0, last := 0, layers := [], lvalid := 0, flags := 0, profile := profile, xs := [], l3end := none,
    overlong := false, padded := false, unchecked := false, unhandled := false, frag := none, encl := none, ip6 := none }

/-- Counts the status of a finished walk (R105); GRAPH_ERROR raises its interrupt. -/
def countStatus (e : WalkEnd) (overlong : Bool) (s : State) : State :=
  match e.1 with
  | 0 => if overlong then count pgPgu cPgu_OVERLONG s else s
  | 1 => count pgPgu cPgu_DEEP s
  | 2 => count pgPgu cPgu_MALFORMED s
  | 3 => count pgPgu cPgu_TRUNCATED s
  | 5 => raiseIrq pgPgu 1 (count pgPgu cPgu_GRAPH_ERROR s)
  | 6 => count pgPgu cPgu_TRAIL_ERR s
  | _ => s

/-- An uncorrectable node or transition entry met by a walk is reported; the entries of the run it read are rewritten
from the next Grove's copy (R119). -/
def reportGraph (env : WalkEnv) (w : Walk) (e : WalkEnd) (s : State) : State :=
  if e ≠ (5, 0x32) then s
  else
    let key := env.bank * 256 + w.last
    let nd := pguNode s key
    let run := (List.range (ndTcount nd)).map (fun i => (ndTbase nd + i) % 4096)
    if s.pgu.nodeBad.contains key then capture pgPgu 1 clsUC false 0 s
    else capture pgPgu 3 clsUC false 0 (forAll (transMend env.grove) run s)

/-- The end of a walk: PRV, counts, fragment step, outcome. -/
def finishWalk (k : Nat) (env : WalkEnv) (r : WalkEnd × Walk) (p : Pass) (epoch fl : Nat) (trail stale : Bool)
    (ov : Option Bytes) (s : State) : State :=
  let e := r.1
  -- F unknown: the head went out before its frame had ended, whatever nodes it met (R109)
  let w := { r.2 with unchecked := env.flen.isNone }
  let cfg := live s (pa pgPgu (offPGU_PORT p.src))
  let slot := liveF s (pa pgPgu offPGU_CFG) fPGU_CFG_DOM_SLOT
  -- the slots of an overlay take no node writes (R101)
  let dom := if fbit cfg fPGU_PORT_DOMSEL && !(ov.isSome && decide (8 ≤ slot)) then mget (fun _ => 0) w.xs slot % 4096 else 0
  let prv := buildPrv w e epoch p.src fl dom p.rxTime.ns trail stale ov
  let s1 := countStatus e w.overlong (reportGraph env w e (setPass k { p with prv := prv, epoch := epoch } s))
  match env.frags, w.frag with
  | true, some fr =>
    let key := fragKeyBytes fr dom
    if fr.isFirst then
      -- a record for every first fragment that goes to a routine, whatever status its walk ended with (R112)
      let s2 := count pgPgu cPgu_FRAG_FIRST s1
      let act := match pass? s2 k with | some q => parseAction s2 q | none => 2
      parseOutcome k (if act ≤ 1 then fragMake k key epoch s2 else s2)
    else if e.1 = 0 then fragLater k key s1
    else parseOutcome k s1
  | _, _ => parseOutcome k s1

/-- PARSE_WALK (R90, R92, R100, R118): the walk of a pass that dispatch has granted. FRAME_LEN of a head that went out before
its frame had ended is a free value (R109; log entry 116, DESIGN CHOICE). -/
def parseWalk (k : Nat) (s : State) : State :=
  match pass? s k with
  | none => s
  | some p =>
    if p.phase ≠ .walking then s
    else
      let cfg := live s (pa pgPgu (offPGU_PORT p.src))
      let w0 := walkStart (fget cfg fPGU_PORT_PROFILE)
      let fragEn := liveB s (pa pgPgu offPGU_CFG) fPGU_CFG_FRAG_EN && !p.recirc
      let fl (cut : Nat) : Nat := if p.known then p.flen - cut else freeNow s % 16384
      let f (cut : Nat) : Option Nat := if p.known then some (p.flen - 4 - cut) else none
      let sNext := if p.known then s else freeNext s
      let stamp (e : Nat) (s : State) : State := enterFlight k e s
      let again (s : State) : Pass := (pass? s k).getD p
      if trailEn s p.src then
        let th := slice p.raw 12 16
        let w1 := { w0 with n := 1 }
        let bad : Option Nat :=
          if beNat (th.take 2) ≠ liveF s (pa pgRw offTR_CFG) fTR_CFG_ETYPE then some 0x50
          else if (byteAt th 2).toNat / 16 ≠ 1 then some 0x51 else none
        match bad with
        | some r =>
          let e := curEpoch s
          let s1 := stamp e sNext
          finishWalk k ⟨p.raw, 256, f 0, false, e % 2, p.grove⟩ ((6, r), w1) { again s1 with head := p.raw } e (fl 0) false false none s1
        | none =>
          let te := trailEpoch s (byteAt th 4).toNat
          let s1 := stamp te.1 (noteTrail (byteAt th 4).toNat sNext)
          let s2 := if te.2 then count pgPgu cPgu_EPOCH_STALE s1 else s1
          let head := p.raw.take 12 ++ p.raw.drop 28
          let w2 := { w1 with h := 12, layers := [(0, 0)], lvalid := 1 }
          let env : WalkEnv := ⟨head, 240, f 16, false, te.1 % 2, p.grove⟩
          let r := if fbit cfg fPGU_PORT_TCONT then walkFrom s2 env 25 (fget cfg fPGU_PORT_TNEXT) w2 else ((0, 0), w2)
          finishWalk k env r { again s2 with head := head, trail := th } te.1 (fl 16) true te.2 (some th) s2
      else
        let e := if p.recirc then p.epoch else curEpoch s
        let s1 := stamp e sNext
        let env : WalkEnv := ⟨p.raw, 256, f 0, fragEn, e % 2, p.grove⟩
        let r := graphWalk s1 env (fget cfg fPGU_PORT_START) w0
        finishWalk k env r { again s1 with head := p.raw } e (fl 0) false false none s1

/-! ### Holds, aging, seed (R113, R115) -/

/-- HOLD_TIMEOUT (R113): every fragment held for HOLD_US becomes an orphan. -/
def holdTimeout (s : State) : State :=
  forAll (fun k s => orphan 0x43 k (unhold k s)) (s.pgu.held.filter (holdOver s)) s

/-- FRAG_AGED (R115): every record at or past its lifetime is removed. -/
def fragAged (s : State) : State :=
  let ms := liveF s (pa pgPgu offFRAG_CFG) fFRAG_CFG_AGE_MS
  forAll (fun i s => count pgPgu cPgu_FRAG_AGED (fragRemove i s))
    ((s.pgu.fragAt.filter (fun e => decide (e.2 + ms * tMs ≤ now s))).map (fun e => e.1)) s

/-- FRAG_SEED (R115): the write empties Fragment Memory. -/
def fragSeed (v : Word) (s : State) : State := fragClear (setReg (pa pgPgu offFRAG_SEED) v s)

/-! ### PGU_NODE_CMD (R94, R120) -/

/-- Whether PGU_NODE_CMD is BUSY: writes of it and of D0 to D3 are ignored then (R120). -/
def pguBusy (s : State) : Bool := s.pgu.cmd.isSome

/-- PGU_NODE_CMD starts a command, which ends 1 to 16 CCLK later, a free value (R120; log entry 100, DESIGN CHOICE). -/
def pguStart (key : Nat) (v : Option Nat) (s : State) : State :=
  setRegB (pa pgPgu offPGU_NODE_CMD) fPGU_NODE_CMD_BUSY true
    (freeNext { s with pgu := { s.pgu with cmd := some (key, v, now s + 1 + freeNow s % 16) } })

/-- PGU_NODE_CMD with OP 0: D0 to D3 take the node as BUSY clears. -/
def pguNodeRead (key : Nat) (s : State) : State := if pguBusy s then s else pguStart key none s

/-- PGU_NODE_CMD with OP 1: the node takes D0 to D3 as BUSY clears, or the write is refused. Reserved bits [127:95] are
ignored (R7). -/
def pguNodeWrite (key : Nat) (s : State) : State :=
  if pguBusy s then s
  else
    let v := dRegs s (pa pgPgu (offPGU_NODE_D 0)) 4 % 2 ^ 95
    if nodeIllegal v then refuse pgPgu offPGU_NODE_CMD reasonEncoding s else pguStart key (some v) s

/-- The PGU_NODE_CMD command whose time has come ends: the node is written, or loads D0 to D3, and BUSY clears (R120). -/
def pguSettle (s : State) : State :=
  match s.pgu.cmd with
  | none => s
  | some (key, v, t) =>
    if now s < t then s
    else
      let s1 := setRegB (pa pgPgu offPGU_NODE_CMD) fPGU_NODE_CMD_BUSY false { s with pgu := { s.pgu with cmd := none } }
      match v with
      | some w => setPguNode key w s1
      | none => setDRegs (pa pgPgu (offPGU_NODE_D 0)) (pguNode s1 key) 4 s1

end Sys2Proof.Machine
end

