-- ==== Sys2Proof/Machine/Thread.lean ====
section
/-!
DEFINITION. Threads at work (R176, R178 to R184, R208): the start of a routine, the choice of the thread that issues, stalls,
and the word in progress with the order of its fields.
-/

namespace Sys2Proof.Machine
open Sys2Proof

/-! ### Control store and dispatch entries (R170, R176, R177) -/

/-- A control-store word nobody has written: the ROM image's once it is loaded (R435), else 0 (log entry 3, DESIGN CHOICE). -/
def csReset (s : State) (k : Nat) : Nat := if s.grv.rom then Config.romWord (k % 4096) % 2 ^ 160 else 0

/-- Word at an address of a Grove's control store. -/
def csWord (s : State) (g a : Nat) : Nat := mget (csReset s) s.grv.cs (g * 4096 + a)

/-- Key of a word in one copy, for errors. -/
def csCopyKey (g q a : Nat) : Nat := (g * 8 + q) * 4096 + a

/-- Word at an address of copy q: 0 where a remap wrote zero data and the word was not repaired since (R172, R416). -/
def csCopyWord (s : State) (g q a : Nat) : Nat := if s.grv.csZero.contains (csCopyKey g q a) then 0 else csWord s g a

/-- A dispatch entry nobody has written. -/
def dispReset (s : State) (i : Nat) : Nat := if s.grv.rom then Config.romDispatch i % 2 ^ 13 else 0

/-- Dispatch entry i: even parity 0 to 255, odd parity 256 to 511. -/
def dispEntry (s : State) (i : Nat) : Nat := mget (dispReset s) s.grv.disp i

/-! ### DISPATCH_ENTRY (R176, R187, R208) -/

/-- The disposition record at routine entry (R208). -/
def entryDispo (p : Pass) : Nat :=
  if passTrail p then
    let t (off n : Nat) : Nat := beAt p.prv (40 + off) n
    let mc := (t 6 2).testBit 15
    let dest := if mc then t 6 2 % 16384 else t 6 2 % 512
    (if mc then 2 else 1) + t 5 1 / 32 * 8 + t 5 1 / 8 % 4 * 64 + dest * 256 + t 8 2 % 4096 * 2 ^ 24
      + (if (t 3 1).testBit 3 then 2 ^ 41 else 0)
  else 0

/-- The thread at routine entry (R187, R207). The class L values that the packet's routine uses are taken here: the unit of
an engine is a packet (R40). -/
def entryThread (s : State) (k : Nat) (p : Pass) (entry : Nat) : Thread :=
  { threadReset 0 with
    st := .ready, pass := k, ret := entry, pc := entry, ctxh := live s (pa dev offACT_CTXH),
    cntFw := live s (pa dev offACT_CNT_FW),
    staged := { stagedReset with copy := p.head, orig := (List.range p.head.length).map some, dispo := entryDispo p } }

/-! ### Conditions (R184) -/

/-- The word's condition (log entry 2, DEDUCED). -/
def condition (th : Thread) (w : Nat) : Bool :=
  match mwCond w with
  | 0 => true
  | 1 => th.flagZ
  | 2 => !th.flagZ
  | 3 => th.flagC
  | 4 => !th.flagC
  | 5 => th.flagN
  | 6 => th.flagN != th.flagV
  | 7 => th.flagZ || (th.flagN != th.flagV)
  | c => lrStatus th (c - 8) == .hit

/-- The condition of the word in progress: evaluated once, after its ALUs (R183, step 2). -/
def condNow (th : Thread) (w : Nat) : Bool := th.cval.getD (condition th w)

/-! ### Stalls (R179) -/

/-- The result registers a WAIT word awaits. -/
def waitMask (w : Nat) : List Nat :=
  let m := mwImm w % 256
  if m = 0 then List.range 8 else (List.range 8).filter (fun i => m.testBit i)

/-- Result registers a lookup writes: W/128 of an EMT table, one of a Thicket table (R192). -/
def lookupRegs (s : State) (w : Nat) : List Nat :=
  if mwSpace w = 1 then (List.range (emtN s (mwTable w))).map (fun i => (mwRreg w + i) % 8)
  else if mwSpace w = 2 then [mwRreg w % 8]
  else []

/-- Result registers a MEM operation reads. -/
def memReads (s : State) (m : Nat) : List Nat :=
  match memOp m with
  | 1 => if natField m 11 10 = 1 then [natField m 7 5] else []
  | 4 => templateRegs s (natField m 5 0)
  | 5 => [natField m 5 3]
  | 7 => [natField m 11 9]
  | _ => []

/-- Result registers a MEM operation writes when its result lands. -/
def memWrites (m : Nat) : List Nat :=
  match memOp m with
  | 2 => [natField m 6 4]
  | 3 => (List.range (natField m 2 0 + 1)).map (fun i => (natField m 5 3 + i) % 8)
  | _ => []

/-- Whether a word's condition reads a result register where the word issues: a WAIT word evaluates the condition of a
register it awaits when it wakes (R185). -/
def condReads (w : Nat) : Bool :=
  8 ≤ mwCond w && (mwSeq w != 6 || mwPred w || !(waitMask w).contains (mwCond w - 8))

/-- Result registers the fields of a word read. -/
def wordReads (s : State) (w : Nat) : List Nat :=
  let ldl (slot : Nat) : List Nat := if aluOp (mwAlu w slot) = 0x12 then [aluSrcB (mwAlu w slot) % 8] else []
  ldl 0 ++ ldl 1 ++
  (if condReads w then [mwCond w - 8] else []) ++
  (if mwSpace w = 0 then [] else templateRegs s (mwTemplate w)) ++
  (if mwHdrOp w = 1 && 32 ≤ mwHdrSrc w && mwHdrSrc w < 48 then [mwHdrSrc w % 8] else []) ++
  memReads s (mwMem w) ++
  (if mwDispOp w = 1 && mwDispArg w < 8 then [mwDispArg w] else [])

/-- Whether a pass waits for a context lock (R218). -/
def waitsLock (s : State) (k : Nat) : Bool := s.ctx.wait.any (fun e => e.2.contains k)

/-- Whether a thread has a lookup outstanding, or a lock it asked for not granted (R179, R218). -/
def outstanding (s : State) (th : Thread) : Bool := !th.pend.isEmpty || waitsLock s th.pass

/-- Requests of a thread that hold a place of a crossing. -/
def requestsIn (th : Thread) (chan : Nat) : Nat := ((th.pend.filter (fun x => x.chan == chan)).map (fun x => x.grp)).dedup.length

/-- Requests of a Grove in X3, of 64 (R17): a place is kept until the result has landed, which X4 reserves at issue (log entry
15, DESIGN CHOICE). -/
def x3Load (s : State) (g : Nat) : Nat := ((groveThreads g).map (fun t => requestsIn (thread s t) 0)).sum

/-- Searches in the X5 queue of a bank, of 32 (R17). -/
def x5Load (s : State) (bank : Nat) : Nat := (s.grv.threads.map (fun e => requestsIn e.2 (1 + bank))).sum

/-- Whether the X5 queue of copy c of table t has no room (R17). -/
def x5CopyFull (s : State) (t c : Nat) : Bool := 32 ≤ x5Load s (thkFirstBank s t c)

/-- Whether a search of table t would find the X5 queues of every copy full (R179). -/
def x5Full (s : State) (t : Nat) : Bool :=
  thkOn s t && !thkClearing s t && (List.range (thkCopies s t)).all (x5CopyFull s t)

/-- Requests of a word that go through X3: a lookup of the hash store, and a context or policer read. -/
def x3Requests (w : Nat) : Nat := (if mwSpace w = 1 then 1 else 0) + (if (memWrites (mwMem w)).isEmpty then 0 else 1)

/-- Whether the requests of the next word of thread t would find X3 or X5 full (R179). -/
def crossingFull (s : State) (t w : Nat) : Bool :=
  (x3Requests w != 0 && decide (64 < x3Load s (thGrove t) + x3Requests w)) || (mwSpace w == 2 && x5Full s (mwTable w))

/-- Whether the next word of thread t cannot issue yet (R179). -/
def stalled (s : State) (t w : Nat) : Bool :=
  let th := thread s t
  (wordReads s w ++ lookupRegs s w ++ memWrites (mwMem w)).any (pendingReg th) || (mwSeq w == 7 && outstanding s th) ||
    crossingFull s t w

/-! ### The issuing thread (R178) -/

/-- The word a thread is at. -/
def wordOf (s : State) (t : Nat) : Nat := csCopyWord s (thGrove t) (thEng t / 4) (thread s t).pc

/-- The thread of an engine whose word is in progress, or else the first READY one in round-robin order; none in the
safe state or during hand-off (R178, R180, R419). -/
def issuing (s : State) (eng : Nat) : Option Nat :=
  if safe s || now s < mget (fun _ => 0) s.grv.handoff eng || 1024 ≤ eng then none
  else
    let ths := (List.range 4).map (fun i => 4 * eng + i)
    match ths.find? (fun t => (thread s t).st == .ready && !(thread s t).done.isEmpty) with
    | some t => some t
    | none =>
      let last := mget (fun _ => 3) s.grv.last eng
      ((List.range 4).map (fun i => 4 * eng + (last + 1 + i) % 4)).find?
        (fun t => (thread s t).st == .ready && !stalled s t (wordOf s t))

/-! ### The word in progress (R183) -/

/-- Whether field k of a word does nothing: 0 ALU_A, 1 ALU_B, 2 LOOKUP, 3 HEADER, 4 MEM, 5 DISPOSITION. -/
def fieldNop (w k : Nat) : Bool :=
  match k with
  | 0 => aluOp (mwAlu w 0) == 0
  | 1 => aluOp (mwAlu w 1) == 0
  | 2 => mwSpace w == 0
  | 3 => mwHdrOp w == 0
  | 4 => memOp (mwMem w) == 0
  | _ => mwDispOp w == 0

/-- The fields that act before field k (R183); MEM acts before DISPOSITION and after HEADER (log entry 16, DEDUCED). -/
def fieldsBefore (k : Nat) : List Nat := if k < 2 then [] else List.range k

/-- Whether field k can act now: it has not, and every earlier field has. -/
def fieldDue (th : Thread) (w k : Nat) : Bool :=
  !th.done.contains k && (fieldsBefore k).all (fun j => fieldNop w j || th.done.contains j)

/-- An engine error or a control-store error is recorded in GRV_ERR_ENG (R204, R206). -/
def noteEngErr (g e t src : Nat) (s : State) : State :=
  let a := pa (grvPage g) offGRV_ERR_ENG
  if regB s a fGRV_ERR_ENG_VALID then setRegB a fGRV_ERR_ENG_MORE true s
  else setReg a (fset (fset (fset (fset 0 fGRV_ERR_ENG_VALID 1) fGRV_ERR_ENG_SOURCE src) fGRV_ERR_ENG_THREAD t)
    fGRV_ERR_ENG_ENGINE e) s

/-- The word of thread t issues (R178, R181, R183): it is counted, registers and flags are kept as they stood before
it. An uncorrectable word or the 512th word of the attempt without END abandons the pass; the answer says whether the
word goes on. -/
def beginWord (t w : Nat) (s : State) : Bool × State :=
  let th := thread s t
  if !th.done.isEmpty then (true, s)
  else
    let g := thGrove t
    let q := thEng t / 4
    let n := th.issued + 1
    let snap : Thread := { th with issued := n, oldW := th.w, oldZ := th.flagZ, oldN := th.flagN, oldC := th.flagC,
                                   oldV := th.flagV }
    let s1 := count (grvPage g) cGrv_ISSUES
      { s with grv := { s.grv with last := mset (fun _ => 3) s.grv.last (t / 4) (t % 4) } }
    if s.grv.csBad.contains (csCopyKey g q th.pc) then
      (false, abandon t causeCs 0 0
        (capture (grvPage g) 1 clsUC false (resId 5 (32768 * g + 4096 * q + th.pc)) s1))
    else if n = 512 && mwSeq w ≠ 7 then (false, abandon t causeWatchdog 0 0 s1)
    else (true, setThread t snap s1)

/-- Notes that field k of the word in progress has acted, unless the attempt is over. -/
def markDone (t k : Nat) (s : State) : State :=
  let th := thread s t
  if th.st == .ready then setThread t { th with done := nsInsert th.done k } s else s

/-- Changes a thread. -/
def updThread (t : Nat) (f : Thread → Thread) (s : State) : State := setThread t (f (thread s t)) s

/-- Evaluates the condition of the word in progress, once (R183, step 2). -/
def keepCond (t w : Nat) (s : State) : State := updThread t (fun th => { th with cval := some (condNow th w) }) s

/-- Field k of the issuing word of an engine acts, when the word carries it in the form `ok` asks for. -/
def runField (eng k : Nat) (ok : Nat → Bool) (act : Nat → Nat → State → State) (s : State) : State :=
  match issuing s eng with
  | none => s
  | some t =>
    let w := wordOf s t
    if !ok w || !fieldDue (thread s t) w k then s
    else
      let b := beginWord t w s
      if b.1 then markDone t k (act t w (if k < 2 then b.2 else keepCond t w b.2)) else b.2

/-- The sequencing of the issuing word acts last, once every other field has (R183). -/
def runSeq (eng seq : Nat) (act : Nat → Nat → State → State) (s : State) : State :=
  match issuing s eng with
  | none => s
  | some t =>
    let w := wordOf s t
    if mwSeq w ≠ seq || !(List.range 6).all (fun j => fieldNop w j || (thread s t).done.contains j) then s
    else
      let b := beginWord t w s
      if b.1 then act t w (setThread t { thread b.2 t with done := [] } b.2) else b.2

/-- The pass of a thread. -/
def passOf (s : State) (t : Nat) : Option Pass := pass? s (thread s t).pass

end Sys2Proof.Machine
end

