-- ==== Sys2Proof/Machine/Header.lean ====
section
/-!
DEFINITION. Header edits (R210 to R213): commands HDR_SET, HDR_PUSH, HDR_POP, HDR_INC, HDR_DEC, HDR_CSUM4 and HDR_UDP0, each
on the thread's copy of the head window, with its edit faults.
-/

namespace Sys2Proof.Machine
open Sys2Proof

/-- Edit-fault reasons (R213). -/
abbrev faultRange : Nat := 0xA0
abbrev faultLimit : Nat := 0xA1
abbrev faultLayer : Nat := 0xA2
abbrev faultSource : Nat := 0xA3
abbrev faultShort : Nat := 0xA4
abbrev faultStage : Nat := 0xA5

/-- An edit fault: the pass goes to its final abandon with the word's address recorded (R213, R224). -/
def editFault (t reason : Nat) (s : State) : State := abandon t causeEdit reason (thread s t).pc s

/-- What an edit does to a copy and to the map of its bytes to the original, or its fault. -/
inductive Edited where
  | ok (copy : Bytes) (orig : List (Option Nat))
  | fault (reason : Nat)
  deriving DecidableEq, Repr

/-- Overwrites n bytes of the copy, the map unchanged. -/
def editPut (st : Staged) (o : Nat) (bs : Bytes) : Edited :=
  if st.copy.length < o + bs.length then .fault faultRange else .ok (overwrite st.copy o bs) st.orig

/-- PUSH: inserts bytes before byte o; they have no original (R210, R212). -/
def editPush (p : Pass) (st : Staged) (o : Nat) (bs : Bytes) : Edited :=
  if st.copy.length ≤ o then .fault faultRange
  else if p.head.length + 128 < st.copy.length + bs.length || 384 < st.copy.length + bs.length then .fault faultLimit
  else .ok (st.copy.take o ++ bs ++ st.copy.drop o)
    (st.orig.take o ++ List.replicate bs.length none ++ st.orig.drop o)

/-- POP: removes n bytes from byte o. -/
def editPop (p : Pass) (st : Staged) (o n : Nat) : Edited :=
  if st.copy.length < o + n then .fault faultRange
  else if st.copy.length - n + 128 < p.head.length then .fault faultLimit
  else .ok (st.copy.take o ++ st.copy.drop (o + n)) (st.orig.take o ++ st.orig.drop (o + n))

/-- INC and DEC on an n-byte big-endian field, modulo 2^(8n). -/
def editAdd (st : Staged) (o n : Nat) (add : Nat → Nat) : Edited :=
  if st.copy.length < o + n then .fault faultRange
  else .ok (overwrite st.copy o (beBytes n (add (beAt st.copy o n)))) st.orig

/-- The original value of the 16-bit word at byte i of the copy, if both bytes have an original (R212). -/
def origWord (p : Pass) (st : Staged) (i : Nat) : Option Nat :=
  match (st.orig[i]?).join, (st.orig[i + 1]?).join with
  | some a, some b => some ((byteAt p.head a).toNat * 256 + (byteAt p.head b).toNat)
  | _, _ => none

/-- RFC 1624, equation 3, over the header's 16-bit words but the checksum itself (R212). -/
def csum4 (p : Pass) (st : Staged) (start len ofs : Nat) : Nat :=
  let hc0 := (origWord p st ofs).getD 0xFFFF
  let terms := ((List.range (len / 2)).map (fun j => start + 2 * j)).filter (fun i => i != ofs)
  let sum := terms.foldl (fun acc i => acc + (0xFFFF - (origWord p st i).getD 0) + beAt st.copy i 2) (0xFFFF - hc0)
  0xFFFF - foldSum sum

/-- CSUM4 at byte o: the header starts 10 bytes before (R212, R213). -/
def editCsum4 (p : Pass) (st : Staged) (o : Nat) : Edited :=
  let start := o - 10
  let ihl := (byteAt st.copy start).toNat % 16
  if o < 10 || st.copy.length < o + 2 || ihl < 5 || st.copy.length < start + 4 * ihl then .fault faultRange
  else .ok (overwrite st.copy o (beBytes 2 (csum4 p st start (4 * ihl) o))) st.orig

/-- Port of SET source 40 to 47: DEST of the forwarding word in word 3, none where it names no port 0 to 255 (R211). -/
def setMacPort (th : Thread) (src : Nat) : Option Nat :=
  let v := lrWord th (src - 40) 3
  if fwMc v || 255 < fwDest v then none else some (fwDest v)

/-- The n bytes of a SET source (R211). -/
def setBytes (s : State) (p : Pass) (th : Thread) (w n src : Nat) : Option Bytes :=
  let imm := mwImm w
  if src < 32 then some (slice (beBytes 4 (wreg th src).toNat) (4 - Nat.min n 4) n)
  else if src < 40 then some (slice (leBytes 16 (lreg th (src - 32))) (imm % 16) n)
  else if src < 48 then (setMacPort th src).map (fun q => (encap s (3840 + q)).take n)
  else if src = 48 then some (slice (beBytes 2 imm) (2 - Nat.min n 2) n)
  else some (slice p.prv (imm % 64) n)

/-- A HEADER operation: limits and layer are tested first, then the edit itself (R207, R213; log entry 18, DEDUCED). -/
def hdrEdit (eng op : Nat) (f : State → Pass → Thread → Nat → Nat → Edited) (s : State) : State :=
  runField eng 3 (fun w => mwHdrOp w == op) (fun t w s =>
    match passOf s t with
    | none => s
    | some p =>
      let th := thread s t
      let l := mwHdrLayer w
      if 16 ≤ th.staged.edits then editFault t faultStage s
      else if !prvLayerOk p.prv l then editFault t faultLayer s
      else match f s p th w (prvLayer p.prv l + mwHdrDisp w) with
        | .fault r => editFault t r s
        | .ok c o => updThread t (fun th =>
            { th with staged := { th.staged with copy := c, orig := o, edits := th.staged.edits + 1 } }) s) s

/-- HDR_SET. -/
def hdrSet (eng : Nat) (s : State) : State :=
  hdrEdit eng 1 (fun s p th w o => match setBytes s p th w (mwHdrLen w) (mwHdrSrc w) with
    | none => .fault faultSource
    | some bs => editPut th.staged o bs) s

/-- HDR_PUSH: bytes of encapsulation template IMMEDIATE[11:0]. -/
def hdrPush (eng : Nat) (s : State) : State :=
  hdrEdit eng 2 (fun s p th w o => editPush p th.staged o ((encap s (mwImm w % 4096)).take (mwHdrLen w))) s

/-- HDR_POP. -/
def hdrPop (eng : Nat) (s : State) : State := hdrEdit eng 3 (fun _ p th w o => editPop p th.staged o (mwHdrLen w)) s

/-- HDR_INC. -/
def hdrInc (eng : Nat) (s : State) : State :=
  hdrEdit eng 4 (fun _ _ th w o => editAdd th.staged o (mwHdrLen w) (fun v => (v + 1) % 2 ^ (8 * mwHdrLen w))) s

/-- HDR_DEC. -/
def hdrDec (eng : Nat) (s : State) : State :=
  hdrEdit eng 5 (fun _ _ th w o => editAdd th.staged o (mwHdrLen w)
    (fun v => (v + 2 ^ (8 * mwHdrLen w) - 1) % 2 ^ (8 * mwHdrLen w))) s

/-- HDR_CSUM4. -/
def hdrCsum4 (eng : Nat) (s : State) : State := hdrEdit eng 6 (fun _ p th _ o => editCsum4 p th.staged o) s

/-- HDR_UDP0. -/
def hdrUdp0 (eng : Nat) (s : State) : State := hdrEdit eng 7 (fun _ _ th _ o => editPut th.staged o [0, 0]) s

end Sys2Proof.Machine
end

