-- ==== Sys2Proof/Machine/Dispo.lean ====
section
/-!
DEFINITION. The disposition (R220, R221, R355): commands DISP_FWD to DISP_RECIRC.
-/

namespace Sys2Proof.Machine
open Sys2Proof

/-- A DISPOSITION operation of the issuing word: it changes the staged record. -/
def dispField' (eng op : Nat) (f : Nat → Pass → Thread → Staged → Staged) (s : State) : State :=
  runField eng 5 (fun w => mwDispOp w == op) (fun t w s =>
    match passOf s t with
    | none => s
    | some p => updThread t (fun th => { th with staged := f w p th th.staged }) s) s

/-- A DISPOSITION operation on the record alone. -/
def dispRec (eng op : Nat) (f : Nat → Nat → Nat) (s : State) : State :=
  dispField' eng op (fun w _ _ st => { st with dispo := f w st.dispo }) s

/-- The forwarding word a FWD names: word 3 of a result register, or w24 to w31 (R220). -/
def fwdWord (th : Thread) (k : Nat) : Nat := if k < 8 then lrWord th k 3 else (wreg th (16 + k)).toNat

/-- The Trail word a FWD latches: word 2 of the result register, or w16 to w23 (R355). -/
def fwdTrail (th : Thread) (k : Nat) : Nat := if k < 8 then lrWord th k 2 else (wreg th (8 + k)).toNat

/-- FWD of a forwarding word with its Trail word (R220, R355): ACTION, DEST and QUEUE, and CLASS if CLS_EN. -/
def stageFwd (v trail : Nat) (st : Staged) : Staged :=
  let d1 := putField st.dispo 2 0 (if fwMc v then 2 else 1)
  let d2 := putField (putField d1 21 8 (fwDest v)) 35 24 (fwQueue v)
  { st with dispo := if fwClsEn v then putField d2 5 3 (fwClass v) else d2, trail := trail }

/-- DISP_FWD: ACTION, DEST and QUEUE, CLASS when CLS_EN, and the Trail word. -/
def dispFwd (eng : Nat) (s : State) : State :=
  dispField' eng 1 (fun w _ th st => stageFwd (fwdWord th (mwDispArg w)) (fwdTrail th (mwDispArg w)) st) s

/-- DISP_CLASS. -/
def dispClass (eng : Nat) (s : State) : State := dispRec eng 2 (fun w d => putField d 5 3 (mwDispArg w % 8)) s

/-- DISP_COLOUR. -/
def dispColour (eng : Nat) (s : State) : State := dispRec eng 3 (fun w d => putField d 7 6 (mwDispArg w)) s

/-- DISP_MIRROR: MIRROR_EN and the session. -/
def dispMirror (eng : Nat) (s : State) : State :=
  dispRec eng 4 (fun w d => putField (putField d 36 36 1) 40 37 (mwDispArg w)) s

/-- DISP_OAM. -/
def dispOam (eng : Nat) (s : State) : State := dispRec eng 5 (fun _ d => putField d 41 41 1) s

/-- DISP_RESTORE: the record from PRV bytes 40 to 47; the Trail word stays (R355). -/
def dispRestore (eng : Nat) (s : State) : State :=
  dispField' eng 6 (fun _ p _ st => { st with dispo := leAt p.prv 40 8 }) s

/-- DISP_COMMIT: the record as staged. -/
def dispCommit (eng : Nat) (s : State) : State := dispRec eng 0xC (fun _ d => d) s

/-- DISP_DROP. -/
def dispDrop (eng : Nat) (s : State) : State := dispRec eng 0xD (fun _ d => putField (putField d 2 0 4) 21 8 511) s

/-- DISP_TO_HOST. -/
def dispToHost (eng : Nat) (s : State) : State :=
  dispRec eng 0xE (fun w d => putField (putField (putField d 2 0 3) 21 8 256) 50 43 (mwImm w % 128)) s

/-- DISP_RECIRC. -/
def dispRecirc (eng : Nat) (s : State) : State :=
  dispRec eng 0xF (fun w d => putField (putField d 2 0 5) 21 8 (257 + mwDispArg w % 2)) s

end Sys2Proof.Machine
end

