-- ==== Sys2Proof/Machine/Seq.lean ====
section
/-!
DEFINITION. Sequencing (R185, R186): commands SEQ_CONT to SEQ_ABANDON, and the waking of WAIT words.
-/

namespace Sys2Proof.Machine
open Sys2Proof

/-- NEXT with c: bit 0 replaced by the condition when COND is not 0 (R185). -/
def nextC (th : Thread) (w : Nat) : Nat :=
  if mwCond w = 0 then mwNext w else mwNext w / 2 * 2 + (if condNow th w then 1 else 0)

/-- Goes on to a word. -/
def goTo (t pc : Nat) (s : State) : State := updThread t (fun th => { th with pc := pc % 4096, cval := none }) s

/-- SEQ_CONT. -/
def seqCont (eng : Nat) (s : State) : State := runSeq eng 0 (fun t w s => goTo t (mwNext w) s) s

/-- SEQ_TWOWAY. -/
def seqTwoway (eng : Nat) (s : State) : State := runSeq eng 1 (fun t w s => goTo t (nextC (thread s t) w) s) s

/-- The register field a DISP word branches on, of n bits. -/
def dispField (th : Thread) (w n : Nat) : Nat :=
  (wreg th (mwImm w % 32)).toNat / 2 ^ (mwImm w / 32 % 32) % 2 ^ n

/-- SEQ_DISP4. -/
def seqDisp4 (eng : Nat) (s : State) : State :=
  runSeq eng 2 (fun t w s => goTo t (mwNext w ||| dispField (thread s t) w 2) s) s

/-- SEQ_DISP16. -/
def seqDisp16 (eng : Nat) (s : State) : State :=
  runSeq eng 3 (fun t w s => goTo t (mwNext w ||| dispField (thread s t) w 4) s) s

/-- SEQ_RETURN. -/
def seqReturn (eng : Nat) (s : State) : State := runSeq eng 5 (fun t _ s => goTo t (thread s t).ret s) s

/-- A WAITING thread none of whose awaited registers is PENDING goes on, its condition evaluated now (R185). -/
def wake (t : Nat) (s : State) : State :=
  let th := thread s t
  if th.st == .waiting && !th.await.any (pendingReg th) then
    setThread t { th with st := .ready, await := [], pc := nextC th (wordOf s t) } s
  else s

/-- SEQ_WAIT: the thread sleeps while an awaited register is PENDING. -/
def seqWait (eng : Nat) (s : State) : State :=
  runSeq eng 6 (fun t w s => wake t (updThread t (fun th =>
    { th with st := .waiting, await := waitMask w, cval := none }) s)) s

/-- SEQ_END: the pass ends and offers its commit (R178). -/
def seqEnd (eng : Nat) (s : State) : State :=
  runSeq eng 7 (fun t _ s => updThread t (fun th => { th with st := .committing, cval := none }) s) s

/-- SEQ_ABANDON: cause MICROCODE (R185, R224). -/
def seqAbandon (eng : Nat) (s : State) : State := runSeq eng 8 (fun t _ s => abandon t causeMicrocode 0 0 s) s

end Sys2Proof.Machine
end

