-- ==== Sys2Proof/Machine/Lookup.lean ====
section
/-!
DEFINITION. Lookups from a routine (R131, R153, R192 to R196): commands LOOKUP_EMT, LOOKUP_THICKET and LOOKUP_RESULT. A
lookup is evaluated where it issues (log entry 17, DEDUCED) and its result lands later.
-/

namespace Sys2Proof.Machine
open Sys2Proof

/-- Adds results of one request to a thread; their registers become PENDING (R192). -/
def addPend (t : Nat) (l : List Pend) (s : State) : State :=
  updThread t (fun th => { l.foldl (fun th x => setLrStatus x.rreg .pending th) th with pend := th.pend ++ l }) s

/-- The number of a request: two for each word of an attempt. -/
def reqNo (th : Thread) (k : Nat) : Nat := 2 * th.issued + k

/-- LOOKUP_EMT (R131): the key goes to the table and the result registers become PENDING. `ecc` says that the lookup meets
an uncorrectable error of the given kind (0 data, 1 data with unreadable tag, 2 tag, 3 overflow) at row or slot i. -/
def lookupEmt (eng : Nat) (ecc : Bool) (kind i : Nat) (s : State) : State :=
  runField eng 2 (fun w => mwSpace w == 1) (fun t w s =>
    match passOf s t with
    | none => s
    | some p =>
      let th := thread s t
      if mwPred w && !condNow th w then s
      else
        let tbl := mwTable w
        let key := padTo (emtKeyLen s tbl) (templateBytes s p th (mwImm w) (mwTemplate w))
        let regs := lookupRegs s w
        let pend (hit uc : Bool) (v : Nat → Nat) : List Pend := regs.mapIdx (fun j r =>
          { rreg := r, hit := hit, uncorr := uc, val := v j, apply := false, waitCtx := none, grp := reqNo th 0, chan := 0 })
        if ecc && emtOn s tbl && !emtClearing s tbl then
          addPend t (pend false true (fun _ => 0))
            (count pgEmt cEmt_LOOKUP_UC (emtMeetsError tbl key kind i true s))
        else
          let found := emtFind s tbl key p.epoch
          let v (j : Nat) : Nat := match found with | some x => emtWord s tbl x j | none => 0
          addPend t (pend found.isSome false v) (emtTouch tbl found s)) s

/-- LOOKUP_THICKET (R153): the key goes to a copy of the table. -/
def lookupThicket (eng : Nat) (ecc : Bool) (s : State) : State :=
  runField eng 2 (fun w => mwSpace w == 2) (fun t w s =>
    match passOf s t with
    | none => s
    | some p =>
      let th := thread s t
      if mwPred w && !condNow th w then s
      else
        let tbl := mwTable w
        let bytes := if thkWide (thkCfg s tbl) = 1 then 40 else 20
        let key := beNat (padTo bytes (templateBytes s p th (mwImm w) (mwTemplate w)))
        let chan := if thkOn s tbl && !thkClearing s tbl then 1 + thkFirstBank s tbl (thkNextCopy s tbl (x5CopyFull s tbl)) else 65
        let r := thkSearch tbl key p.epoch ecc (x5CopyFull s tbl) s
        addPend t [{ rreg := mwRreg w % 8, hit := r.1.1, uncorr := r.1.2.1, val := r.1.2.2, apply := false,
                     waitCtx := none, grp := reqNo th 0, chan := chan }] r.2) s

/-- One result lands in its register; an applied colour becomes the staged colour (R196, R216). -/
def landOne (x : Pend) (th : Thread) : Thread :=
  let th1 := setLreg x.rreg x.val (if x.hit then .hit else .miss) th
  if x.apply then { th1 with staged := { th1.staged with dispo := putField th1.staged.dispo 7 6 x.val } } else th1

/-- LOOKUP_RESULT (R196): the results of request `grp` of a thread land, unless one still waits for a lock, or the word that
sent it is in progress, whose fields all read the registers as they stood (R183); an UNCORRECTABLE one abandons the pass
(R131). A waiting thread wakes (R185). -/
def lookupResult (t grp : Nat) (s : State) : State :=
  let th := thread s t
  let l := th.pend.filter (fun x => x.grp == grp)
  if l.isEmpty || l.any (fun x => x.waitCtx.isSome) || (!th.done.isEmpty && grp / 2 == th.issued) then s
  else if l.any (fun x => x.uncorr) then abandon t causeLookup 0 0 s
  else
    let th1 : Thread := { th with pend := th.pend.filter (fun x => x.grp != grp) }
    wake t (setThread t (l.foldl (fun th x => landOne x th) th1) s)

end Sys2Proof.Machine
end

