-- ==== Sys2Proof/Machine/Mem.lean ====
section
/-!
DEFINITION. Memory operations (R214 to R219): commands MEM_CNT, MEM_POL, MEM_CTX_RD, MEM_CTX_WRT, MEM_CTX_WRL, MEM_CTX_ADD,
MEM_LEARN, and the context locks with CONTEXT_LOCK_GRANT.
-/

namespace Sys2Proof.Machine
open Sys2Proof

/-- A MEM operation of the issuing word. -/
def memField (eng op : Nat) (f : Nat → Nat → Pass → Thread → State → State) (s : State) : State :=
  runField eng 4 (fun w => memOp (mwMem w) == op) (fun t w s =>
    match passOf s t with
    | none => s
    | some p => f t w p (thread s t) s) s

/-- Changes a thread's staged state. -/
def updStaged (t : Nat) (f : Staged → Staged) (s : State) : State :=
  updThread t (fun th => { th with staged := f th.staged }) s

/-- The counter pair of a CNT operation (R215). -/
def cntIndex (th : Thread) (w : Nat) : Nat :=
  let m := mwMem w
  match natField m 11 10 with
  | 0 => (wreg th (natField m 9 5)).toNat % 2 ^ 19
  | 1 =>
    let v := lrWord th (natField m 7 5) 3
    let cls := if fwClsEn v then fwClass v else dClass th.staged.dispo
    (fget th.cntFw fACT_CNT_FW_BASE + 8 * (fwDest v + (if fwMc v then 16384 else 0)) + cls) % 524288
  | _ => mwImm w

/-- MEM_CNT (R215): stages one packet and its byte count. -/
def memCnt (eng : Nat) (s : State) : State :=
  memField eng 1 (fun t w p th s =>
    if 8 ≤ th.staged.cnts.length then editFault t faultStage s
    else
      let bytes := if (mwMem w).testBit 4 then ((passLen p : Int) + netSize p th).toNat else passLen p
      updStaged t (fun st => { st with cnts := st.cnts ++ [(cntIndex th w, bytes)] }) s) s

/-- MEM_POL (R216): the packet is metered and its tokens reserved at once; the colour lands in a result register. `ecc`
says that the policer's row holds an uncorrectable error (R305). -/
def memPol (eng : Nat) (ecc : Bool) (s : State) : State :=
  memField eng 2 (fun t w p th s =>
    let m := mwMem w
    let i := (wreg th (natField m 11 7)).toNat % 2 ^ 18
    if 4 ≤ th.staged.pols.length then editFault t faultStage s
    else
      let pend (uc : Bool) (v : Nat) : List Pend :=
        [{ rreg := natField m 6 4, hit := true, uncorr := uc, val := v, apply := m.testBit 3, waitCtx := none,
           grp := reqNo th 1, chan := 0 }]
      if ecc then addPend t (pend true 0) (polLost i true s)
      else
        let r := polMeter i (passLen p) p.rxPort (dColour th.staged.dispo) s
        addPend t (pend false r.1.1)
          (updStaged t (fun st => { st with pols := st.pols ++ [r.1.2] }) r.2)) s

/-! ### Context locks (R218) -/

/-- Age of a pass. -/
def ageOf (s : State) (k : Nat) : Nat := (mfind s.disp.age k).getD 0

/-- Whether a pass holds a context's lock. -/
def holdsLock (s : State) (k i : Nat) : Bool := mfind s.ctx.lock i == some k

/-- Gives the lock of a context. -/
def giveLock (k i : Nat) (s : State) : State := { s with ctx := { s.ctx with lock := mput s.ctx.lock i k } }

/-- A pass asks for the lock of a context (R218): granted when free with nobody waiting, or taken from a younger pass,
which is abandoned; otherwise the pass waits. -/
def lockCtx (k i : Nat) (s : State) : State :=
  let waits := mget (fun _ => []) s.ctx.wait i
  let queue (s : State) : State :=
    if waits.contains k then s
    else { s with ctx := { s.ctx with wait := mset (fun _ => []) s.ctx.wait i (waits ++ [k]) } }
  match mfind s.ctx.lock i with
  | none => if waits.isEmpty then giveLock k i s else queue s
  | some h =>
    if h = k then s
    else if ageOf s k < ageOf s h then
      match pass? s h with
      | some p => giveLock k i (abandon p.tid causeLock 0 0 s)
      | none => giveLock k i s
    else queue s

/-- Contexts a pass has touched in this attempt. -/
def touched (s : State) (k : Nat) : List Nat :=
  (s.ctx.lock.filter (fun e => e.2 == k)).map (fun e => e.1) ++
  (s.ctx.wait.filter (fun e => e.2.contains k)).map (fun e => e.1)

/-- The first context of an operation: directly, or in the hashed region (R217). -/
def ctxIndex (th : Thread) (m : Nat) : Nat :=
  let v := (wreg th (natField m 11 7)).toNat
  if m.testBit 6 then
    (fget th.ctxh fACT_CTXH_BASE + v % 2 ^ fget th.ctxh fACT_CTXH_LOG2) % 2 ^ 20
  else v % 2 ^ 20

/-- `n` contexts from one, modulo 2^20. -/
def ctxRange (i n : Nat) : List Nat := (List.range n).map (fun j => (i + j) % 2 ^ 20)

/-- The value of a context after staged operations (R217). -/
def ctxStaged (i v : Nat) (ops : List CtxOp) : Nat :=
  ops.foldl (fun v x => if x.idx ≠ i then v else match x.val with
    | some u => u
    | none => putField v (32 * x.word + 31) (32 * x.word) (natField v (32 * x.word + 31) (32 * x.word) + x.add)) v

/-- An operation on contexts: the limit of R207, the locks, then the operation. -/
def ctxOp (t k : Nat) (l : List Nat) (f : State → State) (s : State) : State :=
  if 8 < (touched s k ++ l).dedup.length then editFault t faultStage s
  else f (forAll (lockCtx k) l s)

/-- MEM_CTX_RD (R217): contexts into consecutive result registers, with staged values where there are any. A read that
waits for a lock stays PENDING. `ecc` says that a row read holds an uncorrectable error. -/
def memCtxRd (eng : Nat) (ecc : Bool) (s : State) : State :=
  memField eng 3 (fun t w _ th s =>
    let m := mwMem w
    let l := ctxRange (ctxIndex th m) (natField m 2 0 + 1)
    ctxOp t th.pass l (fun s =>
      let ops := (thread s t).staged.ctxs
      let pend (j i : Nat) : Pend :=
        let got := holdsLock s th.pass i
        { rreg := (natField m 5 3 + j) % 8, hit := true, uncorr := ecc,
          val := if got then ctxStaged i (context s i) ops else ops.length, apply := false,
          waitCtx := if got then none else some i, grp := reqNo th 1, chan := 0 }
      addPend t (l.mapIdx pend) s) s) s

/-- Stages context operations. -/
def stageCtx (t : Nat) (ops : List CtxOp) (s : State) : State :=
  updStaged t (fun st => { st with ctxs := st.ctxs ++ ops }) s

/-- MEM_CTX_WRT (R217): the bytes of a key template as consecutive contexts, the last filled with 0. -/
def memCtxWrt (eng : Nat) (s : State) : State :=
  memField eng 4 (fun t w p th s =>
    let m := mwMem w
    let bs := templateBytes s p th (mwImm w) (natField m 5 0)
    let n := (bs.length + 15) / 16
    let l := ctxRange (ctxIndex th m) n
    ctxOp t th.pass l (stageCtx t (l.mapIdx (fun j i => ⟨i, some (leAt bs (16 * j) 16), 0, 0⟩))) s) s

/-- MEM_CTX_WRL (R217): a result register as a context. -/
def memCtxWrl (eng : Nat) (s : State) : State :=
  memField eng 5 (fun t w _ th s =>
    let m := mwMem w
    let i := ctxIndex th m
    ctxOp t th.pass [i] (stageCtx t [⟨i, some (lreg th (natField m 5 3)), 0, 0⟩]) s) s

/-- MEM_CTX_ADD (R217): the sign-extended IMMEDIATE is added to a word of a context. -/
def memCtxAdd (eng : Nat) (s : State) : State :=
  memField eng 6 (fun t w _ th s =>
    let m := mwMem w
    let i := ctxIndex th m
    ctxOp t th.pass [i] (stageCtx t [⟨i, none, natField m 5 4, twos 32 (signed 16 (mwImm w))⟩]) s) s

/-- MEM_LEARN (R219): stages a LEARN or MARK notice. -/
def memLearn (eng : Nat) (s : State) : State :=
  memField eng 7 (fun t w p th s =>
    let m := mwMem w
    if 2 ≤ th.staged.notices.length then editFault t faultStage s
    else
      let v := wreg th (natField m 8 4)
      let hi := if m.testBit 3 then
          (fget th.ctxh fACT_CTXH_BASE + v.toNat % 2 ^ fget th.ctxh fACT_CTXH_LOG2) % 2 ^ 20 + v.toNat % 2 ^ 12 * 2 ^ 20
        else v.toNat
      let n := notice (if m.testBit 2 then 2 else 1) (mwImm w % 64) (2 ^ (p.epoch % 2)) (leAt p.prv 4 2 % 512)
        (lreg th (natField m 11 9) % 2 ^ 64 + hi * 2 ^ 64)
      updStaged t (fun st => { st with notices := st.notices ++ [n] }) s) s

/-- The waiting pass of least age. -/
def oldestWaiter (s : State) (l : List Nat) : Option Nat :=
  l.foldl (fun b k => match b with
    | none => some k
    | some x => if ageOf s k < ageOf s x then some k else some x) none

/-- CONTEXT_LOCK_GRANT (R218, R223): the free lock of a context goes to its oldest waiter, whose waiting reads take the
value just committed. -/
def contextLockGrant (i : Nat) (s : State) : State :=
  let waits := mget (fun _ => []) s.ctx.wait i
  match mfind s.ctx.lock i, oldestWaiter s waits with
  | none, some k =>
    let rest := waits.filter (fun x => x != k)
    let s1 := giveLock k i { s with ctx := { s.ctx with wait := mset (fun _ => []) s.ctx.wait i rest } }
    match pass? s1 k with
    | none => s1
    | some p => updThread p.tid (fun th =>
        { th with pend := th.pend.map (fun (x : Pend) =>
            if x.waitCtx = some i then
              { x with waitCtx := none, val := ctxStaged i (context s1 i) (th.staged.ctxs.take x.val) }
            else x) }) s1
  | _, _ => s

end Sys2Proof.Machine
end

