-- ==== Sys2Proof/Machine/Commit.lean ====
section
/-!
DEFINITION. The commit point and what follows it (R15, R219, R221 to R223, R228, R253, R269, R296): commands COMMIT_ACCEPT and
REORDER_RELEASE.
-/

namespace Sys2Proof.Machine
open Sys2Proof

/-! ### PTP in the packet header (R251, R309) -/

/-- PTP bits of the packet header and the PTP header's place in the edited head (R251, R309). -/
def ptpHeader (s : State) (p : Pass) (st : Staged) : Nat × Nat :=
  let a := pa pgPtp offPTP_CFG
  let flags := (byteAt p.prv 17).toNat
  let l := liveF s a fPTP_CFG_LAYER
  if !flags.testBit (liveF s a fPTP_CFG_EVT_BIT) then (0, 0)
  else
    let udp := if flags.testBit (liveF s a fPTP_CFG_UDP_BIT) then 2 else 0
    let off := if prvLayerOk p.prv l then (st.orig.findIdx? (fun x => x == some (prvLayer p.prv l))).getD 0 else 0
    (1 + udp, off)

/-! ### Mirror copies at commit (R269) -/

/-- A copy of a committed pass, before its port and queue are chosen. -/
def commitDesc (k : Nat) (p : Pass) (heads : List Nat) (headLen : Nat) (segs : List Seg) (cells : Nat) : Desc :=
  { headCells := heads, headLen := headLen, segs := segs, len := headLen + (segs.map (fun g => g.len)).sum,
    cells := cells, port := 0, cls := 0, queue := 0, held := false, mirror := none, ct := false, broken := p.broken,
    rxPass := if p.complete then none else some k, pkt := k, group := 0, l3end := leAt p.prv 20 2, rootway := false }

/-- A mirror copy of session j with a head chain of its own: `hdr` and `head` written into it, the body shared. Its cells
are asked for after those of the packet; a refusal drops this copy only (R257, R269, R270). -/
def mirOwn (k : Nat) (p : Pass) (j : Nat) (res : Bool) (hdr head : Bytes) (s : State) : State :=
  let w := mirWord s p.epoch j 0
  let dp := fget w fMIR_CFG_DEST_PORT
  let c := fget w fMIR_CFG_CLASS
  let q := fget (mirWord s p.epoch j 8) fMIR_Q_QUEUE
  let nh := headCellsFor head.length
  let n := nh + (segCells p.segs).length
  if freeCells s ≤ liveF s (pa pgClr offCLR_CFG) fCLR_CFG_MIR_FREE || admitTest s dp c q n != .ok then
    mirRefuse j dp c q (frameLenOf k p) s
  else match cellsReq (66 + 32 + p.grove % 32) res p.rxPort c nh [] s with
    | (got, s1, some _) => mirDrop j (dropRefs got s1)
    | (got, s1, none) =>
      let s2 := fcUpdate p.rxPort (writeChain got (hdr ++ head) s1)
      let d0 := commitDesc k p got head.length p.segs n
      let d : Desc := { d0 with port := dp, cls := c, queue := globalQueue s2 dp q, mirror := some j,
                                len := mirLen s2 p.epoch j d0.len }
      dropRefs got (count pgMc (cMc_MIR_COPIES j) (admitCopy p.epoch (frameLenOf k p) d s2))

/-- Counts a candidate of a session and copies the one that its sampling takes (R270). -/
def mirSample (p : Pass) (j : Nat) (f : State → State) (s : State) : State :=
  let r := mirCount p.epoch j s
  if r.1 then f r.2 else r.2

/-- The RX mirror copy of session j: the head as received in a head chain of its own, the body shared (R269). Its header
holds the disposition, which a Trail port sends (R356). -/
def rxMirror (k : Nat) (p : Pass) (dispo : Nat) (res : Bool) (j : Nat) (s : State) : State :=
  if mirMatch s p.epoch j 0 p.src then mirSample p j (mirOwn k p j res (headerBytes p 0 dispo 0 (0, 0)) p.head) s else s

/-- Every RX mirror session of a pass that reached its commit point; a frame that the MAC has dropped is no candidate
(R269). -/
def rxMirrors (k : Nat) (p : Pass) (dispo : Nat) (res : Bool) (s : State) : State :=
  if p.bad then s else forAll (rxMirror k p dispo res) (List.range 16) s

/-- The flow mirror copy of a committed frame, made by `f` (R221, R269). -/
def flowMirror (p : Pass) (dispo : Nat) (f : Nat → State → State) (s : State) : State :=
  let j := dMirror dispo
  if !p.bad && dMirrorEn dispo && mirMatch s p.epoch j 2 0 then mirSample p j (f j) s else s

/-! ### The commit's updates (R222, R223, R228) -/

/-- Applies staged context operations (R217, R222). -/
def applyCtx (ops : List CtxOp) (s : State) : State :=
  forAll (fun (x : CtxOp) s => setContext x.idx (ctxStaged x.idx (context s x.idx) [x]) s) ops s

/-- The updates of X7 but those lost, numbered counters, then policer confirmations, then context writes (R228). -/
def keepUpdates {α : Type} (l : List α) (from_ : Nat) (lost : List Nat) : List α :=
  ((l.mapIdx (fun i x => (i, x))).filter (fun e => !lost.contains (from_ + e.1))).map (fun e => e.2)

/-- An uncorrectable X6, X7 or X8 entry is reported against its Grove (R206, R402). -/
def crossLost (t : Nat) (s : State) : State := capture (grvPage (thGrove t)) 12 clsUC true (resId 1 (t / 4)) s

/-- The counter updates and context writes of X7 (R223); those in `lost` are counted UPDATE_LOST (R228). -/
def applyUpdates (t : Nat) (st : Staged) (lost : List Nat) (s : State) : State :=
  let a := st.cnts.length
  let b := a + st.pols.length
  let n := b + st.ctxs.length
  let s1 := forAll (fun (c : Nat × Nat) s => pairAdd c.1 1 c.2 s) (keepUpdates st.cnts 0 lost) s
  let s2 := applyCtx (keepUpdates st.ctxs b lost) s1
  forAll (fun _ s => crossLost t (count dev cAct_UPDATE_LOST s)) (lost.filter (fun i => i < n)).dedup s2

/-- The class of the cells of a committed packet (R259). -/
def classCells (c : Nat) (cells : List Nat) (s : State) : State :=
  forAll (fun x s => setCellInfo x { cellInfo s x with cls := c } s) cells s

/-- A frame in reception whose pass commits takes its further cells with the committed class (R259). -/
def rxClass (k c : Nat) (s : State) : State :=
  forAll (fun pt s =>
    let v := port s pt
    match v.rx with
    | some r => if r.pass == some k then setPort pt { v with rx := some { r with cls := c } } s else s
    | none => s) (mkeys s.ports.port) s

/-- The body of a committed packet is of its class, whatever becomes of the packet: copies may hold it on (R259). -/
def passClass (k : Nat) (p : Pass) (c : Nat) (s : State) : State :=
  let body := segCells p.segs
  rxClass k c (fcUpdateCells body (classCells c body s))

/-- Whether a committed packet stays out of the R15 order of its port: to the host, or to a recirculation port. -/
def unordered (d : Nat) : Bool := dAction d == 3 || dAction d == 5 || (dAction d == 1 && 256 ≤ dDest d && dDest d < 259)

/-- Whether a committed packet is dropped by its disposition: NONE, DROP, or red under RED_DROP (R221, R296). -/
def redDropped (s : State) (p : Pass) (d : Nat) : Bool :=
  (dAction d == 1 || dAction d == 2 || dAction d == 5) && dColour d == 2 &&
  (activeS s p.epoch (pa pgPol offPOL_ACT)).toNat.testBit (dClass d)

/-- The pass is in the reorder stage with what is left to do: notices, and its copies unless it was dropped. A timer
entry's head is outstanding no longer (R321). -/
def toReorder (k : Nat) (com : Committed) (s : State) : State :=
  let timer (s : State) : State := match pass? s k with
    | some p => if p.src = 260 then
        { s with svc := { s.svc with outstanding := nsErase s.svc.outstanding (timerOf p) } } else s
    | none => s
  let s1 := updPass k (fun (p : Pass) => { p with phase := .reorder, com := some com, tid := noThread, prev := [] }) (timer s)
  if unordered com.dispo then leaveOrder k s1 else s1

/-- A packet dropped after its commit point: cells, place and in-flight count are released; its notices still enter in
order (R141, R228, R257). -/
def dropCommitted (k : Nat) (notices : List Nat) (s : State) : State :=
  match pass? s k with
  | none => s
  | some p =>
    if notices.isEmpty then endPass k s
    else
      let s1 := dropRefs (passCells p) (leaveFlight k (cutReception k s))
      toReorder k ⟨[], 0, [], 4, 0, notices, false⟩
        (updPass k (fun (q : Pass) => { q with segs := [], prev := [] }) s1)

/-- COMMIT_ACCEPT (R180, R222): the commit of a COMMITTING thread is accepted. Updates apply together, locks are released,
the head is written, mirrors are made, and the packet enters the reorder stage. The commit stalls while a crossing has no room,
and the thread stays COMMITTING. `x6` says that its X6 entry is lost, `x7`
and `x8` which updates and notices are (R228) (log entry 36, DEDUCED). -/
def commitAccept (t : Nat) (x6 : Bool) (x7 x8 : List Nat) (s : State) : State :=
  let th := thread s t
  let k := th.pass
  match pass? s k with
  | none => s
  | some p =>
    let st := th.staged
    let cells := headCellsFor st.copy.length
    let ups := st.cnts.length + st.pols.length + st.ctxs.length
    if th.st ≠ .committing || safe s || !commitRoom s (thGrove t) cells ups st.notices.length then s
    else
      let frame := st.copy.length + (p.segs.map (fun g => g.len)).sum
      if frame < 14 then editFault t faultShort s
      else
        let learned := st.notices.any (fun n => n % 16 == 1)
        let dispo := if learned then putField st.dispo 42 42 1 else st.dispo
        let notices := keepUpdates st.notices 0 x8
        let lostN := (x8.filter (fun i => i < st.notices.length)).dedup
        let s1 := count (grvPage (thGrove t)) cGrv_PASSES
          (handOff t (noteCommit (thGrove t) cells ups st.notices.length s))
        let s2 := releaseLocks k (applyUpdates t st x7 s1)
        let s3 := forAll (fun _ s => crossLost t (count dev cAct_NOTICE_LOST s)) lostN s2
        let s4 := passClass k p (dClass dispo) (fragDone p dispo (wreg th 30).toNat (wreg th 31).toNat s3)
        let hdr := headerBytes p (netSize p th) dispo st.trail (ptpHeader s p st)
        let res := entryReserved p || dAction dispo == 3
        let red := redDropped s p dispo
        -- copies of a frame that has no head chain of the packet's own take one each (R221, R257, R269)
        let mirrors (s : State) : State :=
          flowMirror p dispo (fun j => mirOwn k p j res hdr st.copy) (rxMirrors k p dispo res s)
        let drop (s : State) : State := dropCommitted k notices (mirrors s)
        if x6 then drop (crossLost t (count dev cAct_COMMIT_LOST s4))
        else if red then drop (count pgPol cPol_RED_DROPPED s4)
        else if dAction dispo = 0 then drop (count dev cAct_NO_ACTION s4)
        else if p.bad || dAction dispo = 4 then drop s4
        else match cellsReq (32 + p.grove % 32) res p.rxPort (dClass dispo) (headCellsFor st.copy.length) [] s4 with
          | (got, s5, some g) => drop (countRefusal g p.rxPort (frameLenOf k p) (dropRefs got s5))
          | (got, s5, none) =>
            let s6 := writeChain got (hdr ++ st.copy) s5
            let body := segCells p.segs
            let s7 := fcUpdateCells got s6
            let s8 := dropRefs (p.prev.filter (fun c => !body.contains c)) s7
            let d := commitDesc k p got st.copy.length p.segs (got.length + body.length)
            let flow (j : Nat) (s : State) : State :=
              mirCopy (txMirrors p.epoch (frameLenOf k p)) p.epoch (frameLenOf k p) j d s
            toReorder k ⟨got, st.copy.length, p.segs, dispo, d.cells, notices, false⟩
              (flowMirror p dispo flow (rxMirrors k p dispo res s8))

/-! ### Enqueue (R15, R222, R253, R261, R265, R271) -/

/-- Whether all configured lanes of a port are active. -/
def lanesFull (s : State) (d : Nat) : Bool :=
  modeLanes (phyType s d) ≤ regF s (pa (macPage d) offMAC_STS) fMAC_STS_ACTIVE_LANES

/-- Whether a FWD copy from receive port p to port d is marked cut-through (R271) (log entry 33, DEDUCED). -/
def cutThrough (s : State) (p d : Nat) : Bool :=
  p < 256 && d < 256 && (live s (pa pgClr (offCLR_CT_RX (p / 32)))).toNat.testBit (p % 32) &&
  (live s (pa pgClr (offCLR_CT_TX (d / 32)))).toNat.testBit (d % 32) && portRate s p ≤ portRate s d &&
  !gateEn s d && !regB s (pa (macPage d) offMAC_STS) fMAC_STS_TX_LPI && lanesFull s d

/-- Enqueues the copies of a committed pass (R222 step 6). A port above 259 takes none: DEST 511 carries no decision
(R356). -/
def enqueuePass (k : Nat) (p : Pass) (c : Committed) (s : State) : State :=
  let d0 := commitDesc k p c.headCells c.headLen p.segs (c.headCells.length + (segCells p.segs).length)
  let cls := dClass c.dispo
  let q := dQueue c.dispo
  let uni (dp : Nat) : State :=
    if 259 < dp then s
    else
      let d : Desc := { d0 with port := dp, cls := cls, queue := globalQueue s dp q,
                                ct := dAction c.dispo == 1 && cutThrough s p.src dp }
      enqueueUni p.epoch (frameLenOf k p) q d s
  match dAction c.dispo with
  | 1 => uni (dDest c.dispo)
  | 2 => replicate p.epoch (frameLenOf k p) q (dDest c.dispo) p.src { d0 with cls := cls } s
  | 3 => uni 256
  | 5 => uni (dDest c.dispo)
  | _ => s

/-- Whether a copy of a packet is in a queue of a recirculation port, so that it stays in flight (R235). -/
def staysInFlight (s : State) (k : Nat) (dispo : Nat) : Bool :=
  dAction dispo == 5 && s.clr.desc.any (fun e => e.2.pkt == k && e.2.mirror.isNone)

/-- REORDER_RELEASE (R15, R222): a committed packet behind which no earlier packet of its port is left leaves the reorder
stage; its notices enter the Learn Queue and its copies their queues. -/
def reorderRelease (k : Nat) (s : State) : State :=
  match pass? s k with
  | none => s
  | some p => match p.phase, p.com with
    | .reorder, some c =>
      let order := mget (fun _ => []) s.disp.order p.src
      if order.contains k && order.head? != some k then s
      else
        let s1 := forAll lqEnter c.notices s
        let s2 := if p.bad then s1 else enqueuePass k p c s1
        let s3 := if staysInFlight s2 k c.dispo then updPass k (fun (q : Pass) => { q with inflight := false }) s2 else s2
        let early := !p.complete && s3.clr.desc.any (fun e => e.2.rxPass == some k)
        let s4 := dropRefs c.headCells s3
        -- a frame still in reception goes on filling its copies (R271)
        if early then
          let s5 := dropRefs (passCells p) (leaveFlight k (leaveOrder k s4))
          { s5 with disp := { s5.disp with passes := mdel s5.disp.passes k, age := mdel s5.disp.age k } }
        else endPass k s4
    | _, _ => s

end Sys2Proof.Machine
end

