-- ==== Sys2Proof/Machine/Micro.lean ====
section
/-!
DEFINITION. Which microwords the control store accepts (R191, with the encodings of R185, R189, R192, R210, R211, R214 and
R220).
-/

namespace Sys2Proof.Machine
open Sys2Proof

/-- Whether an opcode has its immediate form (R189). -/
def hasImmForm (op : Nat) : Bool :=
  (1 ≤ op && op ≤ 0x0A) || (0x0D ≤ op && op ≤ 0x0F) || (0x14 ≤ op && op ≤ 0x17)

/-- Whether an opcode exists (R189, R190). -/
def opcodeOk (op : Nat) : Bool := op ≤ 0x18 || (32 ≤ op && hasImmForm (op - 32))

/-- Whether an opcode writes a working register (R190). -/
def writesReg (op : Nat) : Bool :=
  let b := op % 32
  !(b == 0 || b == 0x0F || b == 0x14)

/-- Whether aux, srcB and dest of an ALU field are legal for its opcode (R189 to R191). -/
def aluLegal (f : Nat) : Bool :=
  let op := aluOp f
  let b := op % 32
  let aux := aluAux f
  let src := aluSrcB f
  let sel : Bool := op < 32 || src ≤ 2 || 16 ≤ src
  opcodeOk op && (writesReg op || aluDest f == 0) &&
  (if op = 0 then f % 2 ^ 22 == 0
   else if b = 0x0B || b = 0x0C then aux < 32
   else if b = 0x10 then aux < 64 && src ≤ 2
   else if b = 0x11 then src ≤ 3
   else if b = 0x12 then src < 8 && aux < 4
   else if b = 0x13 then src == 0
   else if b = 0x15 then aux < 2 && sel
   else if b = 0x18 then aux == 0 && src == 0
   else sel)

/-- Whether SEQ and COND pair legally (R185). -/
def seqLegal (w : Nat) : Bool :=
  match mwSeq w with
  | 1 => mwCond w != 0
  | 4 => true
  | 6 => !(mwSpace w != 0 && mwPred w)
  | 0 | 2 | 3 | 5 | 7 | 8 => mwCond w == 0
  | _ => false

/-- Whether LOOKUP is legal (R192). -/
def lookupLegal (w : Nat) : Bool :=
  if mwSpace w = 0 then natField w 83 64 == 0 else mwSpace w != 3 && mwRreg w < 8

/-- Whether HEADER meets the static conditions of R210 and R211. -/
def headerLegal (w : Nat) : Bool :=
  let n := mwHdrLen w
  let src := mwHdrSrc w
  let imm := mwImm w
  match mwHdrOp w with
  | 0 => src == 0
  | 1 =>
    if src < 32 then n ≤ 4
    else if src < 40 then imm % 16 + n ≤ 16
    else if src < 48 then n == 6
    else if src = 48 then n ≤ 2
    else if src = 49 then imm % 64 + n ≤ 64
    else false
  | 2 | 3 => src == 0
  | 4 | 5 => src == 0 && n ≤ 4
  | 6 | 7 => src == 0 && n == 2
  | _ => false

/-- Whether MEM is legal (R214). -/
def memLegal (w : Nat) : Bool :=
  let m := mwMem w
  match memOp m with
  | 0 => m == 0
  | 1 => m % 16 == 0 && (match natField m 11 10 with
    | 0 => true
    | 1 => natField m 9 8 == 0
    | 2 => natField m 9 5 == 0
    | _ => false)
  | 2 => m % 8 == 0
  | 3 | 4 => true
  | 5 => m % 8 == 0
  | 6 => m % 16 == 0
  | 7 => m % 4 == 0
  | _ => false

/-- Whether DISPOSITION is legal with the word's SEQ (R220). -/
def dispLegal (w : Nat) : Bool :=
  let arg := mwDispArg w
  let isEnd := mwSeq w == 7
  (mwSeq w != 8 || mwDispOp w == 0) &&
  (match mwDispOp w with
   | 0 => arg == 0 && !isEnd
   | 1 => true
   | 2 => arg < 8 && !isEnd
   | 3 => arg < 3 && !isEnd
   | 4 => !isEnd
   | 5 | 6 => arg == 0 && !isEnd
   | 0xC | 0xD | 0xE => arg == 0 && isEnd
   | 0xF => arg < 2 && isEnd
   | _ => false)

/-- The bits of IMMEDIATE an ALU field uses. -/
def aluImmBits (f : Nat) : Nat := if 32 ≤ aluOp f && aluSrcB f ≤ 2 then 0xFFFF else 0

/-- The bits of IMMEDIATE the fields of a word use (R191). -/
def immUsed (w : Nat) : Nat :=
  let seq := match mwSeq w with
    | 2 | 3 => 0x3FF
    | 4 => 0xFFF
    | 6 => 0xFF
    | _ => 0
  let hdr := match mwHdrOp w with
    | 1 => if 32 ≤ mwHdrSrc w && mwHdrSrc w < 40 then 0xF
      else if mwHdrSrc w = 48 then (if mwHdrLen w = 1 then 0xFF else 0xFFFF)
      else if mwHdrSrc w = 49 then 0x3F else 0
    | 2 => 0xFFF
    | _ => 0
  let m := mwMem w
  let mem := match memOp m with
    | 1 => if natField m 11 10 = 2 then 0xFFFF else 0
    | 4 | 6 => 0xFFFF
    | 7 => 0x3F
    | _ => 0
  let disp := if mwDispOp w = 0xE then 0x7F else 0
  aluImmBits (mwAlu w 0) ||| aluImmBits (mwAlu w 1) ||| (if mwSpace w = 0 then 0 else 0xFFFF) ||| seq ||| hdr ||| mem |||
    disp

/-- Whether a control-store write of a word is accepted (R191). -/
def microLegal (w : Nat) : Bool :=
  aluLegal (mwAlu w 0) && aluLegal (mwAlu w 1) &&
  !(writesReg (aluOp (mwAlu w 0)) && writesReg (aluOp (mwAlu w 1)) && aluDest (mwAlu w 0) == aluDest (mwAlu w 1)) &&
  seqLegal w && lookupLegal w && headerLegal w && memLegal w && dispLegal w &&
  (mwImm w &&& (0xFFFF - immUsed w)) == 0

/-- Whether one segment of a key template is legal (R194). -/
def segLegal (g : Nat) : Bool :=
  natField g 31 29 == 0 &&
  (match segSrc g with
   | 1 => segSel g ≤ 8 && segOff g ≤ 383
   | 2 => segSel g == 0 && segOff g < 64
   | 3 => segOff g == 0 && segLen g ≤ 4
   | 4 => segSel g < 8 && segOff g < 16
   | 0 | 5 => segSel g == 0 && segOff g == 0
   | 6 => segSel g == 0 && segOff g == 0 && segLen g == 2
   | _ => false)

/-- Whether a key template given to a WRITE is legal: the segments up to and including the first with SRC 0 are checked
(R177, R194). -/
def templateLegal (tm : Nat) : Bool :=
  let l := tmplSegs tm
  l.all segLegal && (8 ≤ l.length || segLegal (tmplSeg tm l.length))

end Sys2Proof.Machine
end

