-- ==== Sys2Proof/Machine/Groves.lean ====
section
/-!
DEFINITION. Groves and engines (07): service, fences, loans, drains, soft reset, control-store scrub, repair and access:
commands IN_SERVICE, FENCED, DRAIN_TIMEOUT, CS_SCRUB, CS_REPAIR, GRV_CS_WR, GRV_CS_RD and GRV_CS_CRC.
-/

namespace Sys2Proof.Machine
open Sys2Proof

/-! ### Engine bits (R198 to R201) -/

/-- Writes the bit of an engine in a Grove register. -/
def setEngBit (off g e : Nat) (b : Bool) (s : State) : State :=
  let a := pa (grvPage g) off
  setReg a (BitVec.ofNat 32 (natSetBit (reg s a).toNat e b)) s

/-- Whether every thread of an engine is FREE, hand-off over (R180, R199). -/
def engIdle (s : State) (g e : Nat) : Bool := (engThreads g e).all (threadFree s)

/-- Whether an engine is fallow (R198, R199). -/
def engFallow (s : State) (g e : Nat) : Bool :=
  !engBit s offGRV_ENG_SVC g e && !engBit s offGRV_ENG_FENCE g e && !engBit s offGRV_ENG_LOAN g e && engIdle s g e

/-- Whether a Grove's closing puts loans in force: quiesced or disabled (R201). -/
def groveClosed (s : State) (g : Nat) : Bool := quiesceReq s (grvPage g) || !enabled s (grvPage g)

/-- Lends every unfenced fallow engine of the other Groves (R201). -/
def startLoans (g : Nat) (s : State) : State :=
  forAll (fun x s => if x = g then s else
    forAll (fun e s => if engFallow s x e then setEngBit offGRV_ENG_LOAN x e true (setEngBit offGRV_ENG_SVC x e true s) else s)
      (List.range 32) s) (List.range 32) s

/-- Ends the loans when no Grove is quiesced or disabled (R201). -/
def endLoans (s : State) : State :=
  if (List.range 32).any (groveClosed s) then s
  else forAll (fun x s => forAll (fun e s =>
    if engBit s offGRV_ENG_LOAN x e then setEngBit offGRV_ENG_LOAN x e false (setEngBit offGRV_ENG_SVC x e false s) else s)
    (List.range 32) s) (List.range 32) s

/-- The fallow engine that replaces a fenced one of Grove g: lowest of the Grove, else lowest by number in another open
Grove (R200). -/
def spareFor (s : State) (g : Nat) : Option Nat :=
  match (List.range 32).find? (engFallow s g) with
  | some e => some (32 * g + e)
  | none => (List.range 1024).find? (fun x => x / 32 != g && groveOpen s (x / 32) && engFallow s (x / 32) (x % 32))

/-- Fences an engine (R200): its threads are abandoned, and a fallow engine takes its place under AUTO_SPARE. -/
def fenceEngine (g e cause : Nat) (perm : Bool) (s : State) : State :=
  if engBit s offGRV_ENG_FENCE g e then (if perm then setEngBit offGRV_ENG_PERM g e true s else s)
  else
    let was := engBit s offGRV_ENG_SVC g e
    let s1 := setEngBit offGRV_ENG_LOAN g e false (setEngBit offGRV_ENG_SVC g e false (setEngBit offGRV_ENG_FENCE g e true s))
    let s2 := if perm then setEngBit offGRV_ENG_PERM g e true s1 else s1
    let s3 := echoAfter (grvPage g) (raiseIrq (grvPage g) 0 (forAll (clearThread cause) (engThreads g e) s2))
    if was && liveB s (pa (grvPage g) offGRV_CFG) fGRV_CFG_AUTO_SPARE then
      match spareFor s3 g with
      | some x => setEngBit offGRV_ENG_SVC (x / 32) (x % 32) true s3
      | none => raiseIrq (grvPage g) 1 s3
    else s3

/-- One bit of a GRV_ENG_FENCE write (R200). -/
def fenceBit (g : Nat) (v : Word) (e : Nat) (s : State) : State :=
  let now1 := v.toNat.testBit e
  let was := engBit s offGRV_ENG_FENCE g e
  if now1 && !was then fenceEngine g e causeFence false s
  else if !now1 && was && !engBit s offGRV_ENG_PERM g e then setEngBit offGRV_ENG_FENCE g e false s
  else s

/-- FENCED (R200): a write of GRV_ENG_FENCE. -/
def grvFenceWrite (g : Nat) (v : Word) (s : State) : State :=
  if inReset s (grvPage g) then refuse (grvPage g) offGRV_ENG_FENCE reasonInReset s
  else forAll (fenceBit g v) (List.range 32) s

/-- One bit of a GRV_ENG_SVC write (R199). -/
def svcBit (g : Nat) (v : Word) (e : Nat) (s : State) : State :=
  if v.toNat.testBit e then
    if engBit s offGRV_ENG_FENCE g e then s else setEngBit offGRV_ENG_SVC g e true s
  else setEngBit offGRV_ENG_LOAN g e false (setEngBit offGRV_ENG_SVC g e false s)

/-- IN_SERVICE (R199): a write of GRV_ENG_SVC. -/
def grvSvcWrite (g : Nat) (v : Word) (s : State) : State :=
  if inReset s (grvPage g) then refuse (grvPage g) offGRV_ENG_SVC reasonInReset s
  else forAll (svcBit g v) (List.range 32) s

/-! ### Closing and opening a Grove (R201, R204) -/

/-- Held fragments reserved in a Grove are reserved in others (R201). -/
def moveHeld (g k : Nat) (s : State) : State :=
  match pass? s k with
  | none => s
  | some p =>
    if p.grove ≠ g || p.tid = noThread then s
    else
      let s1 := updPass k (fun (q : Pass) => { q with tid := noThread }) (freeThread p.tid s)
      match pickGrove s1 (fun x => groveOpen s1 x && (pickThread s1 x).isSome) with
      | none => s1
      | some x => match pickThread s1 x with
        | none => s1
        | some t => reserve k x t s1

/-- Setting QUIESCE of a Grove (R201). -/
def grvQuiesce (g : Nat) (s : State) : State :=
  let s1 := { s with grv := { s.grv with drainAt := mput s.grv.drainAt g (now s) } }
  forAll (moveHeld g) s1.pgu.held (startLoans g s1)

/-- Writing ENABLE to 0 closes a Grove and abandons its threads (R201). -/
def grvDisable (g : Nat) (s : State) : State :=
  startLoans g (forAll (clearThread causeDrain) (groveThreads g) s)

/-- Every thread of a Grove is FREE (R201). -/
def groveIdle (s : State) (g : Nat) : Bool := (groveThreads g).all (threadFree s)

/-- DRAIN_TIMEOUT (R201): DRAIN_US after the QUIESCE write the threads of the Grove that are not FREE are abandoned. -/
def drainTimeout (g : Nat) (s : State) : State :=
  match mfind s.grv.drainAt g with
  | none => s
  | some t0 =>
    if quiesceReq s (grvPage g) && t0 + liveF s (pa (grvPage g) offGRV_CFG) fGRV_CFG_DRAIN_US * tUs ≤ now s then
      forAll (clearThread causeDrain) (groveThreads g) s
    else s

/-- The block's own part of a Grove's soft reset (R204): threads abandoned, service bits at reset but for permanent
fences, no GRV_CS_RD under way, and at the end the counters zeroed. -/
def grvSoftReset (g : Nat) (s : State) : State :=
  let perm := reg s (pa (grvPage g) offGRV_ENG_PERM)
  let fence := reg s (pa (grvPage g) offGRV_ENG_FENCE) &&& perm
  let loan := reg s (pa (grvPage g) offGRV_ENG_LOAN) &&& perm
  let s1 := forAll (clearThread causeDrain) (groveThreads g) s
  let s2 := setReg (pa (grvPage g) offGRV_ENG_LOAN) loan
    (setReg (pa (grvPage g) offGRV_ENG_FENCE) fence
      (setReg (pa (grvPage g) offGRV_ENG_SVC) (0x3FFFFFFF &&& ~~~fence) s1))
  { s2 with grv := { s2.grv with csRead := mdel s2.grv.csRead g },
            bus := { s2.bus with ctr := mfilter (fun a => pageOf a != grvPage g) s2.bus.ctr } }

/-- GRV_STS as read (R204). -/
def grvSts (s : State) (g : Nat) : Word :=
  let b (x : Bool) (v : Nat) : Nat := if x then v else 0
  let pg := grvPage g
  BitVec.ofNat 32 (freeThreads s g * 65536 + busyThreads s g * 256 +
    b ((List.range 32).any (groveClosed s) &&
      (List.range 32).any (fun x => reg s (pa (grvPage x) offGRV_ENG_LOAN) != 0)) 4 +
    b (quiesceReq s pg && !quiesced s pg) 2 + b (groveOpen s g) 1)

/-! ### Control store (R171, R172, R204, R205) -/

/-- Writes a control-store word into all eight copies (R170): no copy's word is bad or zeroed any more. -/
def setCs (g a w : Nat) (s : State) : State :=
  let other (k : Nat) : Bool := !(k / 32768 == g && k % 4096 == a)
  { s with grv := { s.grv with cs := mset (csReset s) s.grv.cs (g * 4096 + a) w,
                               csBad := s.grv.csBad.filter other, csZero := s.grv.csZero.filter other } }

/-- D0 to D4 of a Grove page. -/
def csData (s : State) (g : Nat) : Nat := dRegs s (pa (grvPage g) (offGRV_CS_D 0)) 5

/-- GRV_CS_CRC after one more accepted word (R204). -/
def csCrc (crc addr w : Nat) : Nat := crcRun polyE (crc ^^^ 0xFFFFFFFF) (leBytes 2 addr ++ leBytes 20 w) ^^^ 0xFFFFFFFF

/-- GRV_CS_WR (R191, R204, R205): D0 to D4 go to word ADDR of all copies and GRV_CS_CRC goes on, or the write is refused. -/
def grvCsWr (g addr : Nat) (s : State) : State :=
  let pg := grvPage g
  let w := csData s g
  if inReset s pg then refuse pg offGRV_CS_WR reasonInReset s
  else if !quiet s pg then refuse pg offGRV_CS_WR reasonQuiet s
  else if !microLegal w then refuse pg offGRV_CS_WR reasonEncoding s
  else
    let c := csCrc (reg s (pa pg offGRV_CS_CRC)).toNat addr w
    setReg (pa pg offGRV_CS_CRC) (BitVec.ofNat 32 c) (setCs g addr w s)

/-- GRV_CS_CRC (R204): a write restarts the stream. -/
def grvCsCrc (g : Nat) (s : State) : State :=
  if inReset s (grvPage g) then refuse (grvPage g) offGRV_CS_CRC reasonInReset s
  else setReg (pa (grvPage g) offGRV_CS_CRC) 0 s

/-- GRV_CS_RD (R204): the read waits for the copy's next scrub slot. -/
def grvCsRd (g copy addr : Nat) (s : State) : State :=
  let pg := grvPage g
  if inReset s pg then refuse pg offGRV_CS_RD reasonInReset s
  else
    setRegB (pa pg offGRV_CS_RD) fGRV_CS_RD_BUSY true
      { s with grv := { s.grv with csRead := mput s.grv.csRead g (copy * 4096 + addr) } }

/-- A control-store word of one copy is met with an uncorrectable error: noted and reported (R171, R172, R206). -/
def csBadRead (g q a : Nat) (s : State) : State :=
  capture (grvPage g) 1 clsUC false (resId 5 (32768 * g + 4096 * q + a))
    { s with grv := { s.grv with csBad := nsInsert s.grv.csBad (csCopyKey g q a) } }

/-- CS_SCRUB (R171, R204): the next scrub slot of copy q. A waiting GRV_CS_RD of the copy takes it; otherwise the next
word in address order is read. `ecc` is what the read meets: 0 nothing, 1 a corrected error, 2 an uncorrectable one. -/
def csScrub (g q ecc : Nat) (s : State) : State :=
  let rd := mfind s.grv.csRead g
  let mine := match rd with | some r => r / 4096 == q | none => false
  let a := if mine then (rd.getD 0) % 4096 else mget (fun _ => 0) s.grv.scrub (g * 8 + q)
  let bad := ecc == 2 || s.grv.csBad.contains (csCopyKey g q a)
  let s1 := if bad then csBadRead g q a s
    else if ecc = 1 then capture (grvPage g) 0 clsCE false (resId 5 (32768 * g + 4096 * q + a)) s else s
  if mine then
    let w := if bad then freeNow s1 % 2 ^ 160 else csCopyWord s1 g q a
    let s2 := if bad then freeNext s1 else s1
    let s3 := setDRegs (pa (grvPage g) (offGRV_CS_D 0)) w 5 s2
    let s4 := setReg (pa (grvPage g) offGRV_CS_RD) (fset 0 fGRV_CS_RD_UNCORR (if bad then 1 else 0)) s3
    { s4 with grv := { s4.grv with csRead := mdel s4.grv.csRead g } }
  else
    { s1 with grv := { s1.grv with scrub := mset (fun _ => 0) s1.grv.scrub (g * 8 + q) ((a + 1) % 4096) } }

/-- A copy lacks the word: it is uncorrectable there, or a remap wrote zero data for it (R172, R416). -/
def csLacks (s : State) (g q a : Nat) : Bool :=
  s.grv.csBad.contains (csCopyKey g q a) || s.grv.csZero.contains (csCopyKey g q a)

/-- CS_REPAIR (R172): an uncorrectable word of copy q is rewritten from the next copy whose word is correct; with none,
the Grove is disabled and IRQ_STS bit 2 set. -/
def csRepair (g q a : Nat) (s : State) : State :=
  let k := csCopyKey g q a
  if !csLacks s g q a then s
  else if ((List.range 7).map (fun i => (q + 1 + i) % 8)).any (fun c => !csLacks s g c a) then
    count (grvPage g) cGrv_CS_REPAIRS
      { s with grv := { s.grv with csBad := nsErase s.grv.csBad k, csZero := nsErase s.grv.csZero k } }
  else
    raiseIrq (grvPage g) 2 (if enabled s (grvPage g) then
      grvDisable g (setRegB (pa (grvPage g) offCtl) fPAGE_CTL_ENABLE false s) else s)

end Sys2Proof.Machine
end

