-- ==== Sys2Proof/Machine/Link.lean ====
section
/-!
DEFINITION. Lanes, PLLs and links of the ports (R60 to R68, R71), partner violations (R82), EEE (R83) and Coppice (R84 to
R88): commands AUTO_NEGOTIATION, LINK_TRAINING, LINK_UP, LINK_DOWN, PLL_LOCK, PLL_LOSS_OF_LOCK, LPI_ENTER, LPI_WAKE, RX_LPI,
HELLO, SHED_REQ, SHED_ACK, SHED_NAK, WAKE_REQ, WAKE_ACK, UTILISATION_WINDOW and COPPICE_TIMEOUT.
-/

namespace Sys2Proof.Machine
open Sys2Proof

/-! ### Lanes and claims (R60, R61) -/

/-- Quad page of a port (R60); its lane-status page follows it. -/
def quadPage (p : Nat) : Nat := if p < 128 then 0x180 + 2 * (p / 8) else 0x1A0 + 2 * ((p - 128) / 8)

/-- Ports of a quad page. -/
def quadPorts (page : Nat) : List Nat :=
  let base := if page < 0x1A0 then (page - 0x180) / 2 * 8 else 128 + (page - 0x1A0) / 2 * 8
  (List.range 8).map (fun i => base + i)

/-- MAC_STS field of a port. -/
def macSts (s : State) (p : Nat) (f : Fld) : Nat := regF s (pa (macPage p) offMAC_STS) f

/-- Writes a MAC_STS field of a port. -/
def setSts (p : Nat) (f : Fld) (v : Nat) (s : State) : State := setRegF (pa (macPage p) offMAC_STS) f v s

/-- PORT_MODE of a port. -/
def portMode (s : State) (p : Nat) : Nat := liveF s (pa (macPage p) offMAC_CFG) fMAC_CFG_PORT_MODE

/-- A port that claims its lanes: ENABLE 1, out of reset, a nonzero type. -/
def portEnabled (s : State) (p : Nat) : Bool :=
  enabled s (macPage p) && !inReset s (macPage p) && portMode s p != 0

/-- Types an auto-negotiating port may advertise by ANMASK and its lane number (R66). -/
def anTypes (s : State) (p : Nat) : List Nat :=
  let m := regF s (pa (macPage p) offANMASK) fANMASK_TYPES
  ((List.range 10).filter (fun i => m.testBit i && p % modeLanes (0x10 + i) == 0)).map (fun i => 0x10 + i)

/-! ### PLLs (R63) -/

/-- Family of PLL k of a quad; 0 is unused. -/
def pllFam (s : State) (page k : Nat) : Nat :=
  regF s (pa page offSDQ_PLL) (if k = 0 then fSDQ_PLL_PLL0_FAM else fSDQ_PLL_PLL1_FAM)

/-- Whether PLL k of a quad is locked. -/
def pllLocked (s : State) (page k : Nat) : Bool :=
  regB s (pa page offSDQ_PLL) (if k = 0 then fSDQ_PLL_PLL0_LOCK else fSDQ_PLL_PLL1_LOCK)

/-- Sets the lock bit of a PLL. -/
def setPllLock (page k : Nat) (b : Bool) (s : State) : State :=
  setRegB (pa page offSDQ_PLL) (if k = 0 then fSDQ_PLL_PLL0_LOCK else fSDQ_PLL_PLL1_LOCK) b s

/-- Sets the family of a PLL. -/
def setPllFam (page k fam : Nat) (s : State) : State :=
  setRegF (pa page offSDQ_PLL) (if k = 0 then fSDQ_PLL_PLL0_FAM else fSDQ_PLL_PLL1_FAM) fam s

/-- The PLL a port of a family takes: the one of its family, else a free one (R63). -/
def pllFor (s : State) (page fam : Nat) : Option Nat :=
  if pllFam s page 0 = fam then some 0
  else if pllFam s page 1 = fam then some 1
  else if pllFam s page 0 = 0 then some 0
  else if pllFam s page 1 = 0 then some 1
  else none

/-- Types a negotiating port may advertise now: its ANMASK types whose family is on a PLL of the quad or could take a free
one (R64, R66). -/
def anPossible (s : State) (p : Nat) : List Nat :=
  (anTypes s p).filter (fun ty => (pllFor s (quadPage p) (modeFamily ty)).isSome)

/-- Types as a mask by their place in ANMASK. -/
def typeMask (l : List Nat) : Nat := (l.map (fun ty => 2 ^ (ty - 0x10))).sum

/-- Types a port advertises: those fixed when its negotiation started, be it none, or before that those it would start with
(R64). -/
def advertised (s : State) (p : Nat) : List Nat :=
  match (port s p).advert with
  | none => anPossible s p
  | some m => ((List.range 10).filter (fun i => m.testBit i)).map (fun i => 0x10 + i)

/-- Lanes a port claims (R61, R66). -/
def claimWidth (s : State) (p : Nat) : Nat :=
  if portMode s p = 0x1F then ((advertised s p).map modeLanes).foldl Nat.max 1 else modeLanes (portMode s p)

/-- Whether a lower enabled port claims a lane of port p (R61). -/
def laneBusy (s : State) (p : Nat) : Bool :=
  (List.range (p % 4)).any (fun i => portEnabled s (p - 1 - i) && i + 1 < claimWidth s (p - 1 - i))

/-- The PLL of a port that runs a type. -/
def portPll (s : State) (p : Nat) : Option Nat :=
  let fam := modeFamily (phyType s p)
  if fam = 0 then none
  else if pllFam s (quadPage p) 0 = fam then some 0
  else if pllFam s (quadPage p) 1 = fam then some 1
  else none

/-- Whether the PLL of a port is locked. -/
def portLocked (s : State) (p : Nat) : Bool :=
  match portPll s p with
  | some k => pllLocked s (quadPage p) k
  | none => false

/-- Lane registers of a port's lanes. -/
def lanesOf (p w : Nat) : List Nat := (List.range w).map (fun i => (p + i) % 8)

/-- Takes a PLL for a port's lanes. -/
def takePll (p fam w k : Nat) (s : State) : State :=
  forAll (fun l => setRegF (pa (quadPage p) (offSDQ_LANE l)) fSDQ_LANE_PLL_SEL k) (lanesOf p w)
    (setPllFam (quadPage p) k fam s)

/-- Releases the PLLs of a quad that no port uses (R63). -/
def freePlls (page : Nat) (s : State) : State :=
  forAll (fun k s =>
    let used := (quadPorts page).any (fun p => portPll s p == some k)
    if used then s else setPllLock page k false (setPllFam page k 0 s)) [0, 1] s

/-! ### FEC (R68) -/

/-- FEC of a type set directly with FEC_MODE 0, in FEC_MODE's encoding (R62, R68). -/
def fecDefault (m : Nat) : Nat :=
  match m with
  | 0x01 | 0x02 | 0x03 | 0x10 | 0x12 => 1
  | 0x11 | 0x14 => 3
  | _ => 4

/-- FEC modes a type permits (R62, R68) (log entry 41, DEDUCED). -/
def fecAllowed (m f : Nat) : Bool :=
  match m with
  | 0x01 => f == 1 || f == 2
  | 0x02 => f == 1 || f == 3
  | 0x03 => f == 1
  | 0x10 | 0x12 => f == 1 || f == 2
  | 0x11 => f == 1 || f == 2 || f == 3
  | 0x14 => f == 3
  | _ => f == 4

/-- FEC_MODE of a port. -/
def fecMode (s : State) (p : Nat) : Nat := liveF s (pa (macPage p) offMAC_CFG) fMAC_CFG_FEC_MODE

/-! ### Partner violations (R82) -/

/-- Records a partner violation: PV_STS, PV_LAST and IRQ_STS bit 2. -/
def pvRecord (p t : Nat) (s : State) : State :=
  let a := pa (macPage p) offPV_STS
  let s1 := setReg a (BitVec.ofNat 32 (natSetBit (reg s a).toNat t true)) s
  let last := fset (fset 0 fPV_LAST_SEC s1.time.now.sec) fPV_LAST_TYPE t
  raiseIrq (macPage p) 2 (setReg (pa (macPage p) offPV_LAST) last s1)

/-! ### Link states (R70) -/

abbrev lsDown : Nat := 0
abbrev lsNeg : Nat := 1
abbrev lsTrain : Nat := 2
abbrev lsAlign : Nat := 3
abbrev lsUp : Nat := 4
abbrev lsErr : Nat := 5
abbrev lsLoop : Nat := 6

/-- Lane-status words of a port's lanes. -/
def setLanes (p w : Nat) (f : Word → Word) (s : State) : State :=
  forAll (fun l s => let a := pa (quadPage p + 1) (offSDQ_LSTS l); setReg a (f (reg s a)) s) (lanesOf p w) s

/-- The transmit equaliser taps that a training result names: a free value among those whose magnitudes sum to at most 32
(R457). -/
def tapWord (v : Nat) : Word :=
  let a := v % 33
  let b := v / 33 % (33 - a)
  let c := v / 1089 % (33 - a - b)
  -- a signed 6-bit tap; +32 has no encoding
  let tap (m i : Nat) : Nat := if m = 32 || (v / 35937).testBit i then (64 - m) % 64 else m
  fset (fset (fset 0 fSDQ_TXEQ_CM2 (tap a 0)) fSDQ_TXEQ_CM1 (tap b 1)) fSDQ_TXEQ_C1 (tap c 2)

/-- SDQ_TXEQ of a B-side port's lanes reports what training has set (R67, R457). -/
def trainTaps (p w : Nat) (s : State) : State :=
  if p < 128 then s
  else forAll (fun l s => freeNext (setReg (pa (quadPage p) (offSDQ_TXEQ l)) (tapWord (freeNow s)) s)) (lanesOf p w) s

/-- Counts the time in LPI since it was last counted in LPI_TX_US, carrying the part of a µs (R75). -/
def countLpi (p : Nat) (s : State) : State :=
  if macSts s p fMAC_STS_TX_LPI = 0 then s
  else
    let v := port s p
    let t := v.lpiRem + (now s - v.lpiSince)
    ctrAdd (macPage p) cMac_LPI_TX_US (t / tUs) (setPort p { v with lpiSince := now s, lpiRem := t % tUs } s)

/-- Counts the time with fewer than all lanes active since it was last counted in COPPICE_SHED_US (R75). -/
def countShed (p : Nat) (s : State) : State :=
  let n := macSts s p fMAC_STS_ACTIVE_LANES
  if n = 0 || modeLanes (phyType s p) ≤ n then s
  else
    let v := port s p
    let t := v.shedRem + (now s - v.copShedSince)
    ctrAdd (macPage p) cMac_COPPICE_SHED_US (t / tUs) (setPort p { v with copShedSince := now s, shedRem := t % tUs } s)

/-- Brings the two time counters of a port up to date (R75). -/
def countUs (p : Nat) (s : State) : State := countShed p (countLpi p s)

/-- Ends LPI on the transmit side (R75, R83). -/
def endLpi (p : Nat) (s : State) : State :=
  if macSts s p fMAC_STS_TX_LPI = 0 then s else setSts p fMAC_STS_TX_LPI 0 (countLpi p s)

/-- The copies of a frame still in reception. -/
def rxCopies (s : State) (k : Nat) : List (Nat × Desc) := s.clr.desc.filter (fun e => e.2.rxPass == some k)

/-- A frame whose head was dispatched early fails: its pass is marked bad, a copy in transmission ends stomped, and the
other copies are dropped (R273; log entry 14, DEDUCED). -/
def earlyFail (k : Nat) (s : State) : State :=
  let s1 := updPass k (fun (q : Pass) => { q with bad := true, complete := true }) s
  forAll (fun (e : Nat × Desc) s =>
    match (s.ports.port.find? (fun x => x.2.tx == some e.1)).map (fun x => x.1) with
    | some o =>
      let s2 := { s with clr := { s.clr with desc := mput s.clr.desc e.1 { e.2 with rxPass := none } } }
      setPort o { port s2 o with txStomp := true } s2
    | none => dropCopy e.1 (unselect e.1 s)) (rxCopies s1 k) s1

/-- Counts the refusal that ended a frame and the rest of its FRAME_LEN where a drop was counted before, at its end, where
its length is known: its last byte, or the loss of its link (R257, R260, R275). -/
def rxRefused (p : Nat) (r : RxFrame) (s : State) : State :=
  let n := r.bytes.length
  forAll (fun (e : Nat × Nat) s => pairAdd e.1 0 (n - e.2) s) r.owed (countBody r.why p (wholeLen n) s)

/-- Takes a frame in reception off its port with its cells: those of an early head stay with its pass or copies. -/
def rxFail (p : Nat) (r : RxFrame) (s : State) : State :=
  let s1 := setPort p { port s p with rx := none } s
  match r.pass with
  | none => dropRefs r.cells s1
  | some k => earlyFail k s1

/-- A frame in reception is lost with its link (R273). -/
def dropRx (p : Nat) (s : State) : State :=
  match (port s p).rx with
  | none => s
  | some r => rxFail p r (rxRefused p r s)

/-- The link of a port leaves the up state, for a new LSTATE (R70). -/
def takeDown (p lstate : Nat) (s : State) : State :=
  let was := macSts s p fMAC_STS_LINK = 1
  let w := modeLanes (phyType s p)
  let s1 := dropRx p (countShed p (endLpi p s))
  let s2 := forAll (fun f => setSts p f 0)
    [fMAC_STS_LINK, fMAC_STS_ACTIVE_LANES, fMAC_STS_RX_LPI, fMAC_STS_COPPICE_ACTIVE, fMAC_STS_EEE_ACTIVE] s1
  let s3 := setPort p { port s2 p with copReq := none, copLowSince := none, copSent := none } s2
  let s4 := setSts p fMAC_STS_LSTATE lstate (setLanes p w (fun _ => 0) s3)
  if was then flushPort p (raiseIrq (macPage p) 1 s4) else s4

/-- What a port advertises is fixed where its negotiation starts, and dropped elsewhere (R64). -/
def setAdvert (p lstate : Nat) (s : State) : State :=
  setPort p { port s p with advert := if lstate = lsNeg then some (typeMask (anPossible s p)) else none } s

/-- The port's link falls with nothing resolved, and its PLL is released when it was its last user, also where the port
negotiates again (R63; log entry 136, DESIGN CHOICE). What the partner advertised is forgotten. -/
def portStop (p lstate err : Nat) (s : State) : State :=
  let s1 := takeDown p lstate s
  let s2 := freePlls (quadPage p) (forAll (fun (e : Fld × Nat) => setSts p e.1 e.2)
    [(fMAC_STS_RESOLVED, 0), (fMAC_STS_FEC, 0), (fMAC_STS_CFG_ERR, err)] s1)
  setAdvert p lstate (setPort p { port s2 p with partnerEee := false, resolvedAt := none } s2)

/-- LSTATE with which a link of the port's type is tried: training on B-lanes, alignment on L-lanes and in loopback. -/
def tryState (s : State) (p : Nat) : Nat :=
  if p < 128 || liveF s (pa (macPage p) offMAC_CFG) fMAC_CFG_LOOPBACK ≠ 0 then lsAlign else lsTrain

/-- Runs a PHY type on a port with its PLL and FEC, or ends in CFG_ERR (R63, R68). `neg` is the negotiated FEC, none
for a type set directly. Of several errors LANE_BUSY is shown before NO_PLL, and NO_PLL before FEC
(log entry 118, DESIGN CHOICE). -/
def runType (p m : Nat) (neg : Option Nat) (s : State) : State :=
  match pllFor s (quadPage p) (modeFamily m) with
  | none => portStop p lsErr 2 s
  | some k =>
    let forced := fecMode s p
    if forced ≠ 0 && !fecAllowed m forced then portStop p lsErr 3 s
    else
      let fec := if forced ≠ 0 then forced else neg.getD (fecDefault m)
      let s1 := takePll p (modeFamily m) (modeLanes m) k s
      forAll (fun (e : Fld × Nat) => setSts p e.1 e.2)
        [(fMAC_STS_RESOLVED, m), (fMAC_STS_FEC, fec), (fMAC_STS_CFG_ERR, 0), (fMAC_STS_LSTATE, tryState s1 p)] s1

/-- Starts the bring-up of an enabled port that is down (R63, R66, R67). -/
def portStart (p : Nat) (s : State) : State :=
  if portMode s p = 0x1F then setAdvert p lsNeg (setSts p fMAC_STS_CFG_ERR 0 (setSts p fMAC_STS_LSTATE lsNeg s))
  else runType p (portMode s p) none s

/-- Brings the state of one port up to date with its page, the lanes of lower ports and the PLLs. A port in CFG_ERR = FEC
stays so until its own configuration changes (R68; log entry 37, DEDUCED). -/
def portRefresh (p : Nat) (s : State) : State :=
  let l := macSts s p fMAC_STS_LSTATE
  if !portEnabled s p then (if l = lsDown && macSts s p fMAC_STS_CFG_ERR = 0 then s else portStop p lsDown 0 s)
  else if laneBusy s p then (if macSts s p fMAC_STS_CFG_ERR = 1 then s else portStop p lsErr 1 s)
  else if l = lsDown || (l = lsErr && macSts s p fMAC_STS_CFG_ERR ≠ 3) then portStart p s
  else s

/-- Brings every port of a quad up to date, in ascending order. -/
def quadRefresh (page : Nat) (s : State) : State := forAll portRefresh (quadPorts page) s

/-- Negotiation of a port starts again: its advertisement is fixed anew, and the ports of its quad are judged by the lanes
it now claims (R64, R66). -/
def renegotiate (p : Nat) (s : State) : State := quadRefresh (quadPage p) (portStop p lsNeg 0 s)

/-- A port whose class Q configuration changed comes up again (R443). -/
def portRestart (p : Nat) (s : State) : State := quadRefresh (quadPage p) (portStop p lsDown 0 s)

/-! ### Negotiation, training, link up and down -/

/-- The highest type that a port and its partner advertise, none where no type is common. Clause 73 orders the types as
their codes do (R66; log entry 119, PRESUMED). -/
def highestCommon (s : State) (p types : Nat) : Option Nat :=
  ((advertised s p).filter (fun ty => types.testBit (ty - 0x10))).foldl
    (fun b ty => some (Nat.max (b.getD 0) ty)) none

/-- The FEC that Clause 73 resolves, in FEC_MODE's encoding (R62, R66, R68; log entry 119, PRESUMED). `fec` is what the partner
sends: bit 0 Clause 74 ability, bit 1 Clause 74 request at 10 Gb/s lanes, bit 2 RS request and bit 3 Clause 74 request at
25 Gb/s. -/
def resolvedFec (s : State) (p ty fec : Nat) : Nat :=
  let m := regF s (pa (macPage p) offANMASK)
  let rs := m fANMASK_FEC_REQ_RS = 1
  let br := m fANMASK_FEC_REQ_BASER = 1
  if ty = 0x10 || ty = 0x12 then (if fec.testBit 0 && (br || fec.testBit 1) then 2 else 1)
  else if ty = 0x11 then (if rs || fec.testBit 2 then 3 else if br || fec.testBit 3 then 2 else 1)
  else fecDefault ty

/-- A higher port of the quad that resolved in this BCLK and alone holds a PLL (R64). -/
def anRival (s : State) (p : Nat) : Option Nat :=
  (quadPorts (quadPage p)).find? (fun q => decide (p < q) && (port s q).resolvedAt == some (now s) &&
    (match portPll s q with
     | some k => !(quadPorts (quadPage p)).any (fun r => r != q && portPll s r == some k)
     | none => false))

/-- Runs a type that Clause 73 resolved. Its family may have lost the free PLL to a higher port in the same BCLK, which
then negotiates again; lost to any other port, the port itself negotiates again (R64). -/
def runResolved (p ty fec : Nat) (eee : Bool) (s : State) : State :=
  let go (s : State) : State :=
    let s1 := runType p ty (some fec) s
    setPort p { port s1 p with partnerEee := eee, resolvedAt := some (now s1) } s1
  if (pllFor s (quadPage p) (modeFamily ty)).isSome then go s
  else match anRival s p with
    | some q => quadRefresh (quadPage p) (setAdvert q lsNeg (go (portStop q lsNeg 0 s)))
    | none => renegotiate p s

/-- EEE is in use on these types only (R83). -/
def eeeType (m : Nat) : Bool := m == 0x10 || m == 0x11 || m == 0x12 || m == 0x14

/-- AUTO_NEGOTIATION (R64, R66): the partner's pages arrive with the types it advertises (bit i for type 0x10 + i), its FEC
abilities and requests, and EEE (log entry 39, DESIGN CHOICE). The highest common type runs; without one the negotiation
goes on. -/
def autoNegotiation (p types fec : Nat) (eee : Bool) (s : State) : State :=
  if macSts s p fMAC_STS_LSTATE ≠ lsNeg || !portEnabled s p then s
  else match highestCommon s p types with
    | none => pvRecord p 5 s
    | some ty => runResolved p ty (resolvedFec s p ty fec) eee s

/-- LINK_TRAINING (R67): training of a B-port completes or fails. -/
def linkTraining (p : Nat) (ok : Bool) (s : State) : State :=
  if macSts s p fMAC_STS_LSTATE ≠ lsTrain || !portLocked s p then s
  else if ok then
    setSts p fMAC_STS_LSTATE lsAlign
      (trainTaps p (modeLanes (phyType s p))
        (setLanes p (modeLanes (phyType s p)) (fun w => fset w fSDQ_LSTS_TRAINED 1) s))
  else
    let s1 := pvRecord p 6 s
    if portMode s1 p = 0x1F then renegotiate p s1 else s1

/-- LINK_UP (R70): the aligned link of a port comes up with its PLL locked; in loopback LSTATE is 6. `snr` is the
receivers' estimate. -/
def linkUpEvent (p snr : Nat) (s : State) : State :=
  if macSts s p fMAC_STS_LSTATE ≠ lsAlign || !portLocked s p || !portEnabled s p then s
  else
    let cfg := live s (pa (macPage p) offMAC_CFG)
    let ty := phyType s p
    let w := modeLanes ty
    let eee := fbit cfg fMAC_CFG_EEE_EN && regB s (pa (macPage p) offANMASK) fANMASK_EEE_ADV && (port s p).partnerEee && eeeType ty
    let st := if fget cfg fMAC_CFG_LOOPBACK ≠ 0 then lsLoop else lsUp
    let s1 := forAll (fun (e : Fld × Nat) => setSts p e.1 e.2)
      [(fMAC_STS_LSTATE, st), (fMAC_STS_LINK, 1), (fMAC_STS_ACTIVE_LANES, w), (fMAC_STS_EEE_ACTIVE, if eee then 1 else 0)] s
    let lane (x : Word) : Word := fset (fset (fset x fSDQ_LSTS_SIGNAL 1) fSDQ_LSTS_CDR_LOCK 1) fSDQ_LSTS_SNR snr
    let s2 := setPort p { port s1 p with idleSince := now s1 } (setLanes p w lane s1)
    raiseIrq (macPage p) 0 s2

/-- State from which the port's link is tried again after it fell. -/
def retryState (s : State) (p : Nat) : Nat := if portMode s p = 0x1F then lsNeg else tryState s p

/-- LINK_DOWN (R70): the link of a port falls and is tried again. -/
def linkDownEvent (p : Nat) (s : State) : State :=
  if macSts s p fMAC_STS_LINK = 0 then s
  else if portMode s p = 0x1F then renegotiate p s
  else takeDown p (retryState s p) s

/-- PLL_LOCK (R63, R71, R454): a PLL in use whose reference is present achieves lock; its lanes come up or retrain from here on. -/
def pllLock (page k : Nat) (s : State) : State :=
  if pllFam s page k = 0 || s.pin.lost.contains (if page < 0x1A0 then 2 else 3) then s else setPllLock page k true s

/-- Ports of a quad page that run from PLL k. -/
def pllPorts (s : State) (page k : Nat) : List Nat := (quadPorts page).filter (fun p => portPll s p == some k)

/-- The lanes of a PLL that lost lock go down and retrain when it returns (R71). -/
def pllDrop (page k : Nat) (s : State) : State :=
  let ports := pllPorts s page k
  forAll (fun p s =>
    let l := macSts s p fMAC_STS_LSTATE
    if l = lsUp || l = lsLoop || l = lsAlign || l = lsTrain then takeDown p (tryState s p) s else s)
    ports (setPllLock page k false s)

/-- PLL_LOSS_OF_LOCK (R71): source 0 or 1 of the quad page is reported (UC). -/
def pllLoss (page k : Nat) (s : State) : State :=
  if pllFam s page k = 0 || !pllLocked s page k then s
  else capture page k clsUC false 0 (pllDrop page k s)

/-! ### EEE (R83) -/

/-- Whether a frame of the port waits to be sent (log entry 38, DEDUCED). -/
def txWants (s : State) (p : Nat) : Bool :=
  !(eligBranches s p).isEmpty || !(port s p).next.isEmpty || !(port s p).fcOwed.isEmpty

/-- While EEE is in use, a port's idle time starts again as long as a frame of it waits to be sent (R83). -/
def eeeWatch (s : State) : State :=
  forAll (fun (e : Nat × PortSt) s =>
    if e.2.partnerEee && macSts s e.1 fMAC_STS_EEE_ACTIVE = 1 && txWants s e.1 then
      setPort e.1 { port s e.1 with idleSince := now s } s
    else s) s.ports.port s

/-- LPI_ENTER (R83): no frame has been eligible or in transmission for LPI_IDLE_US. -/
def lpiEnter (p : Nat) (s : State) : State :=
  let st := port s p
  if macSts s p fMAC_STS_EEE_ACTIVE = 0 || macSts s p fMAC_STS_TX_LPI = 1 || gateEn s p || st.tx.isSome || txWants s p ||
      now s < st.idleSince + liveF s (pa (macPage p) offEEE_CFG) fEEE_CFG_LPI_IDLE_US * tUs then s
  else setSts p fMAC_STS_TX_LPI 1 (setPort p { st with lpiSince := now s } s)

/-- LPI_WAKE (R83): a frame has become eligible; the transmitter leaves LPI. -/
def lpiWake (p : Nat) (s : State) : State :=
  if macSts s p fMAC_STS_TX_LPI = 0 || !txWants s p then s else endLpi p s

/-- RX_LPI (R70, R82): the partner enters or leaves LPI. -/
def rxLpi (p : Nat) (on : Bool) (s : State) : State :=
  if macSts s p fMAC_STS_LINK = 0 then s
  else if macSts s p fMAC_STS_EEE_ACTIVE = 1 then setSts p fMAC_STS_RX_LPI (if on then 1 else 0) s
  else if on then pvRecord p 7 s else s

/-! ### Sending a frame of the port's own (R75, R79, R85) -/

/-- A frame padded to 64 bytes with its FCS; stomped, its FCS is inverted (R73, R74). -/
def withFcs (stomp : Bool) (f : Bytes) : Bytes :=
  let g := f ++ List.replicate (60 - f.length) 0
  let c := crc32 g
  g ++ leBytes 4 (if stomp then c ^^^ 0xFFFFFFFF else c)

/-- A frame leaves the port: counted, and kept as the model's output. -/
def sendOut (p : Nat) (f : Bytes) (s : State) : State :=
  let st := port s p
  let s1 := setPort p { st with lastTx := f, winBytes := st.winBytes + f.length, idleSince := now s } s
  ctrAdd (macPage p) cMac_TX_BYTES f.length (count (macPage p) cMac_TX_FRAMES s1)

/-! ### Coppice (R84 to R88) -/

/-- Types that run Coppice (R84). -/
def copType (m : Nat) : Bool := m == 0x12 || m == 0x14 || m == 0x15 || m == 0x17 || m == 0x18 || m == 0x19

/-- Coppice is enabled and usable on a port whose link is up. -/
def copOn (s : State) (p : Nat) : Bool :=
  128 ≤ p && liveB s (pa (macPage p) offMAC_CFG) fMAC_CFG_COPPICE_EN && copType (phyType s p) &&
  macSts s p fMAC_STS_LINK = 1 && !gateEn s p

/-- COPPICE_ACTIVE while Coppice is usable. -/
def copActive (s : State) (p : Nat) : Bool := copOn s p && macSts s p fMAC_STS_COPPICE_ACTIVE = 1

/-- A Coppice frame without FCS (R85). -/
def copFrame (p ty target seq nonce : Nat) : Bytes :=
  [0x03, 0x50, 0x48, 0x00, 0x00, 0x01, 0x02, 0x50, 0x48, 0x00] ++ beBytes 2 p ++ beBytes 2 0x88B7 ++
    [1, BitVec.ofNat 8 ty, BitVec.ofNat 8 target, BitVec.ofNat 8 seq] ++ beBytes 2 nonce ++ List.replicate 40 0

/-- A Coppice frame a port is to send, empty for none, and the state. -/
abbrev CopOut : Type := Bytes × State

/-- No frame to send. -/
def copNone (s : State) : CopOut := ([], s)

/-- The Coppice frame of a port with the next sequence number, or that of the request it answers. -/
def copSend (p ty target nonce : Nat) (answer : Option Nat) (s : State) : CopOut :=
  let st := port s p
  let seq := answer.getD st.copSeq
  let s1 := if answer.isSome then s else setPort p { st with copSeq := (st.copSeq + 1) % 256 } s
  (withFcs false (copFrame p ty target seq nonce), s1)

/-- Whether the port's MAC may send a Coppice frame now: such frames go on in QUIESCE and wait for the frame in
transmission (R72, R77). -/
def copOpen (s : State) (p : Nat) : Bool :=
  enabled s (macPage p) && !inReset s (macPage p) && !safe s && (port s p).tx.isNone

/-- Active lanes of a port, and all of them. -/
def activeLanes (s : State) (p : Nat) : Nat := macSts s p fMAC_STS_ACTIVE_LANES
def fullLanes (s : State) (p : Nat) : Nat := modeLanes (phyType s p)

/-- The port's transmitter switches to `n` lanes (R86, R87): lanes beyond are quiet-warm, IRQ_STS bit 4. -/
def switchLanes (p n : Nat) (s : State) : State :=
  if activeLanes s p = n then s
  else
    let w := fullLanes s p
    let s0 := countShed p s
    -- low utilisation is measured anew for the new lane count (R86)
    let s1 := setPort p { port s0 p with copLowSince := none } s0
    let s2 := if n < w then setPort p { port s1 p with copShedSince := now s1 } s1 else s1
    let s3 := forAll (fun i s =>
      setRegB (pa (quadPage p + 1) (offSDQ_LSTS ((p + i) % 8))) fSDQ_LSTS_QUIET_WARM (decide (n ≤ i)) s) (List.range w) s2
    raiseIrq (macPage p) 4 (setSts p fMAC_STS_ACTIVE_LANES n s3)

/-- Whether `b` bytes in a window of 100 µs stay below `pct` % of the capacity of `n` lanes (R86). -/
def utilBelow (s : State) (p b pct n : Nat) : Bool :=
  decide (b * 800 * fullLanes s p < pct * portRate s p * 100000 * n)

/-- SHED_PCT bound of the last window for a target lane count. -/
def shedLow (s : State) (p target : Nat) : Bool :=
  utilBelow s p (port s p).winLast (liveF s (pa (macPage p) offCOP_CFG) fCOP_CFG_SHED_PCT) target

/-- HOLD_MS of a port by the local count. -/
def copHold (s : State) (p : Nat) : Nat := liveF s (pa (macPage p) offCOP_CFG) fCOP_CFG_HOLD_MS * tMs

/-- A request whose change may still be in progress: not answered, or within 20 µs of its start (R86, R87). One that is
never answered stays so, and no further SHED_REQ is sent (log entry 133, DESIGN CHOICE). -/
def copPending (s : State) (p : Nat) : Option CopReq :=
  (port s p).copReq.filter (fun q => !q.acked || decide (now s < q.t0 + 20 * tUs))

/-- HELLO sent every 100 ms, with target lane count and nonce 0 (R84, R85; log entry 98, DESIGN CHOICE). -/
def helloSend (p : Nat) (s : State) : CopOut :=
  if !copOn s p || !copOpen s p then copNone s
  else
    let due := match (port s p).copSent with | some t => decide (t + 100 * tMs ≤ now s) | none => true
    if due then copSend p 1 0 0 none (setPort p { port s p with copSent := some (now s) } s) else copNone s

/-- HELLO received (R84). -/
def helloRecv (p : Nat) (s : State) : CopOut :=
  if !copOn s p then copNone s
  else
    let s1 := if copActive s p then s
      else setPort p { port s p with winStart := now s, winBytes := 0, winLast := 0, copLowSince := none } s
    copNone (setSts p fMAC_STS_COPPICE_ACTIVE 1 (setPort p { port s1 p with copHello := now s1 } s1))

/-- A received SHED_REQ is answered ACK or NAK by the port's own last window, with its sequence number and nonce (R86; log
entry 98, DESIGN CHOICE). -/
def shedAnswer (p target seq nonce : Nat) (s : State) : CopOut :=
  if shedLow s p target && 2 * target = activeLanes s p then
    copSend p 3 target nonce (some seq)
      (switchLanes p target (setPort p { port s p with copReq := some ⟨false, target, nonce, now s, true⟩ } s))
  else copSend p 4 target nonce (some seq) (setPort p { port s p with copReq := none } s)

/-- SHED_REQ sent after HOLD_MS of low utilisation (R86), with a random nonce of 16 bits. -/
def shedSend (p nonce : Nat) (s : State) : CopOut :=
  let st := port s p
  let n := activeLanes s p
  let low := match st.copLowSince with | some t => decide (t + copHold s p ≤ now s) | none => false
  if copActive s p && copOpen s p && 2 ≤ n && low && (copPending s p).isNone && st.copNakUntil ≤ now s then
    copSend p 2 (n / 2) (nonce % 65536) none
      (setPort p { st with copReq := some ⟨false, n / 2, nonce % 65536, now s, false⟩ } s)
  else copNone s

/-- SHED_REQ received (R86). Of two crossing requests the larger nonce stands; equal ones are both withdrawn. -/
def shedRecv (p target seq nonce : Nat) (s : State) : CopOut :=
  if !copActive s p then copNone s
  else match copPending s p with
    | some q =>
      if q.wake then copNone s
      else if q.acked || q.nonce < nonce then shedAnswer p target seq nonce s
      else if q.nonce = nonce then copNone (setPort p { port s p with copReq := none } s)
      else copNone s
    | none => shedAnswer p target seq nonce s

/-- SHED_ACK (R86): the port's transmitter switches at its next alignment marker (log entry 42, DEDUCED). -/
def shedAck (p : Nat) (s : State) : CopOut :=
  match (port s p).copReq with
  | some q =>
    if copActive s p && !q.wake && !q.acked then
      copNone (switchLanes p q.target (setPort p { port s p with copReq := some { q with acked := true, t0 := now s } } s))
    else copNone s
  | none => copNone s

/-- SHED_NAK (R86): the initiator waits HOLD_MS before asking again. -/
def shedNak (p : Nat) (s : State) : CopOut :=
  match (port s p).copReq with
  | some q =>
    if copActive s p && !q.wake && !q.acked then
      copNone (setPort p { port s p with copReq := none, copNakUntil := now s + copHold s p } s)
    else copNone s
  | none => copNone s

/-- Triggers of a wake at the port itself (R87). -/
def wakeWanted (s : State) (p : Nat) : Bool :=
  let st := port s p
  decide (liveF s (pa (macPage p) offCOP_WAKE) fCOP_WAKE_WAKE_CELLS < txc s p) ||
  (!utilBelow s p st.winLast (liveF s (pa (macPage p) offCOP_CFG) fCOP_CFG_WAKE_PCT) (activeLanes s p) &&
    decide (liveF s (pa (macPage p) offCOP_CFG) fCOP_CFG_WAKE_PCT * portRate s p * 100000 * activeLanes s p
      < st.winLast * 800 * fullLanes s p)) ||
  decide (st.copHello + 300 * tMs ≤ now s)

/-- Sends WAKE_REQ (log entry 89, DESIGN CHOICE). -/
def wakeSend (p nonce : Nat) (s : State) : CopOut :=
  copSend p 5 (fullLanes s p) (nonce % 65536) none
    (setPort p { port s p with copReq := some ⟨true, fullLanes s p, nonce % 65536, now s, false⟩ } s)

/-- WAKE_REQ sent on a trigger (R87), also while one is unanswered, whose 20 µs then start again (log entry 133, DESIGN
CHOICE). -/
def wakeTrigger (p nonce : Nat) (s : State) : CopOut :=
  if copActive s p && copOpen s p && activeLanes s p < fullLanes s p && wakeWanted s p then wakeSend p nonce s else copNone s

/-- WAKE_REQ received (R87): the quiet lanes wake and it is answered; it overrides any shed. A port that has left Coppice
for its gate list answers too (log entry 126, DEDUCED). -/
def wakeRecv (p seq nonce : Nat) (s : State) : CopOut :=
  if !copType (phyType s p) || macSts s p fMAC_STS_LINK ≠ 1 then copNone s
  else
    copSend p 6 (fullLanes s p) nonce (some seq) (switchLanes p (fullLanes s p)
      (setPort p { port s p with copReq := some ⟨true, fullLanes s p, nonce, now s, true⟩ } s))

/-- WAKE_ACK (R87): all lanes carry data again. Alignment is due 20 µs after the WAKE_REQ. -/
def wakeAck (p : Nat) (s : State) : CopOut :=
  match (port s p).copReq with
  | some q =>
    if q.wake && !q.acked then
      copNone (switchLanes p (fullLanes s p) (setPort p { port s p with copReq := some { q with acked := true } } s))
    else copNone s
  | none => copNone s

/-- A port leaves Coppice as its gate list is enabled: its transmitter returns to all lanes (R84; log entry 126,
DEDUCED). -/
def copLeave (p : Nat) (s : State) : State :=
  if macSts s p fMAC_STS_COPPICE_ACTIVE = 1 then
    setSts p fMAC_STS_COPPICE_ACTIVE 0 (switchLanes p (fullLanes s p)
      (setPort p { port s p with copReq := none, copLowSince := none } s))
  else s

/-- UTILISATION_WINDOW (R86): a window of 100 µs ends. -/
def utilisationWindow (p : Nat) (s : State) : State :=
  let st := port s p
  if !copActive s p || now s < st.winStart + 100 * tUs then s
  else
    let low := utilBelow s p st.winBytes (liveF s (pa (macPage p) offCOP_CFG) fCOP_CFG_SHED_PCT) (activeLanes s p / 2)
    let since := if low then some (st.copLowSince.getD st.winStart) else none
    setPort p { st with winLast := st.winBytes, winBytes := 0, winStart := now s, copLowSince := since } s

/-- COPPICE_TIMEOUT (R86, R87): a change was not complete within 20 µs. A shed wakes, by a WAKE_REQ where the MAC may send
one (R419); a wake retrains with the link down. -/
def coppiceTimeout (p nonce : Nat) (s : State) : CopOut :=
  match (port s p).copReq with
  | none => copNone s
  | some q =>
    if macSts s p fMAC_STS_LINK ≠ 1 || now s < q.t0 + 20 * tUs then copNone s
    else if q.wake then copNone (takeDown p (tryState s p) (pvRecord p 8 s))
    else if q.acked && copActive s p then
      (if copOpen s p then wakeSend p nonce (pvRecord p 8 s) else copNone (pvRecord p 8 s))
    else copNone s

/-- A received Coppice frame acts by its type, target, sequence number and nonce (R85). With another version or type it is
consumed without effect (log entry 98, DESIGN CHOICE). -/
def copReceive (p : Nat) (f : Bytes) (s : State) : CopOut :=
  let target := beAt f 16 1
  let seq := beAt f 17 1
  let nonce := beAt f 18 2
  if byteAt f 14 ≠ 1 then copNone s
  else match beAt f 15 1 with
    | 1 => helloRecv p s
    | 2 => shedRecv p target seq nonce s
    | 3 => shedAck p s
    | 4 => shedNak p s
    | 5 => wakeRecv p seq nonce s
    | 6 => wakeAck p s
    | _ => copNone s

/-- Whether the receive MAC of a port accepts a frame that starts now (R37, R72, R419), from the line in loopback too (log
entry 135, DESIGN CHOICE). -/
def rxAccepts (s : State) (p : Nat) : Bool := running s (macPage p) && macSts s p fMAC_STS_LINK = 1 && !safe s

/-- Counts a frame of `n` bytes that passed the checks of R73. -/
def rxCountGood (p n : Nat) (s : State) : State := ctrAdd (macPage p) cMac_RX_BYTES n (count (macPage p) cMac_RX_FRAMES s)

/-- Sends the Coppice frame of an outcome. In loopback it returns to the port's own receiver, whose answer goes the same
way; no answer is itself answered (R69, R85). -/
def copEmit (p : Nat) : Nat → CopOut → State
  | 0, r => if r.1.isEmpty then r.2 else sendOut p r.1 r.2
  | n + 1, r =>
    if r.1.isEmpty then r.2
    else
      let s1 := sendOut p r.1 r.2
      if macSts s1 p fMAC_STS_LSTATE = lsLoop && rxAccepts s1 p then
        copEmit p n (copReceive p r.1 (rxCountGood p r.1.length s1))
      else s1

/-- A Coppice command takes its effect, and its frame goes out. -/
def coppice (p : Nat) (f : State → CopOut) (s : State) : State := copEmit p 2 (f s)

/-- A received Coppice message of a port with COPPICE_EN at 1: a 64-byte frame that the receive MAC accepts and counts (R72, R75, R85). -/
def copArrive (p : Nat) (f : State → CopOut) (s : State) : State :=
  if rxAccepts s p && 128 ≤ p && liveB s (pa (macPage p) offMAC_CFG) fMAC_CFG_COPPICE_EN then
    coppice p f (rxCountGood p 64 s)
  else s

/-- HELLO (R84): sent every 100 ms, or received. -/
def hello (p : Nat) (recv : Bool) (s : State) : State :=
  if recv then copArrive p (helloRecv p) s else coppice p (helloSend p) s

/-- SHED_REQ (R86): sent, or received. -/
def shedReq (p : Nat) (recv : Bool) (target seq nonce : Nat) (s : State) : State :=
  if recv then copArrive p (shedRecv p target seq nonce) s else coppice p (shedSend p nonce) s

/-- WAKE_REQ (R87): sent on a trigger, or received. -/
def wakeReq (p : Nat) (recv : Bool) (seq nonce : Nat) (s : State) : State :=
  if recv then copArrive p (wakeRecv p seq nonce) s else coppice p (wakeTrigger p nonce) s

end Sys2Proof.Machine
end

