-- ==== Sys2Proof/Machine/Ports.lean ====
section
/-!
DEFINITION. Frames on receive and transmit (R21, R72 to R82, R257, R271 to R273, R308 to R312, R336, R356): commands FRAME_RECEIVE,
PAUSE, PFC, PAUSE_TIMER_EXPIRE, PAUSE_STORM, IGNORE_EXPIRE, FC_FRAME_SEND, FC_REFRESH and FRAME_TRANSMIT.
-/

namespace Sys2Proof.Machine
open Sys2Proof

/-! ### Flow control received (R76 to R78, R81) -/

/-- Units of the local count in `q` quanta of 512 bit times at the port's data rate, rounded up (R77). -/
def quantaUnits (s : State) (p q : Nat) : Nat :=
  let r := portRate s p
  if r = 0 then 0 else (1536 * q + r - 1) / r

/-- Loads timer i of a port (8 is PAUSE): ignored while IGNORED stands; quanta 0 ends the pause (R77, R78, R81). -/
def loadTimer (p i q : Nat) (s : State) : State :=
  let t := fcTimer s p i
  if now s < t.ignEnd then s
  else if q = 0 then setFcTimer p i { t with fin := 0, holdStart := 0 } s
  else
    let start := if now s < t.fin then t.holdStart else now s
    setFcTimer p i { t with fin := now s + quantaUnits s p q, holdStart := start } s

/-- PAUSE_RX_EN and PFC_RX_EN of a port. -/
def pauseRxEn (s : State) (p : Nat) : Bool := liveB s (pa (macPage p) offMAC_CFG) fMAC_CFG_PAUSE_RX_EN
def pfcRxEn (s : State) (p : Nat) : Bool := liveB s (pa (macPage p) offMAC_CFG) fMAC_CFG_PFC_RX_EN

/-- A PAUSE frame: counted, applied with PAUSE_RX_EN at 1, a violation on a PFC port (R77, R82). -/
def takePause (p q : Nat) (s : State) : State :=
  let s1 := count (macPage p) cMac_RX_PAUSE s
  if pauseRxEn s p then loadTimer p 8 q s1
  else if pfcRxEn s p then pvRecord p 3 s1 else s1

/-- A PFC frame with its enable vector and eight times (R78, R82). -/
def takePfc (p en : Nat) (qs : List Nat) (s : State) : State :=
  let s1 := count (macPage p) cMac_RX_PFC s
  if pfcRxEn s p then
    forAll (fun i s => if en.testBit i then loadTimer p i (qs.getD i 0 % 65536) s else s) (List.range 8) s1
  else if pauseRxEn s p then pvRecord p 3 s1 else s1

/-- A MAC control frame is consumed (R76, R82). -/
def macControl (p : Nat) (f : Bytes) (s : State) : State :=
  let bad (t : Nat) (s : State) : State := pvRecord p t (count (macPage p) cMac_RX_MACCTL_DROP s)
  if beAt f 0 6 ≠ 0x0180C2000001 then bad 1 s
  else if beAt f 14 2 = 0x0001 then takePause p (beAt f 16 2) s
  else if beAt f 14 2 = 0x0101 then takePfc p (beAt f 16 2) ((List.range 8).map (fun i => beAt f (18 + 2 * i) 2)) s
  else bad 2 s

/-- PAUSE (R77): a 64-byte PAUSE frame is received. -/
def pauseEvent (p q : Nat) (s : State) : State := if rxAccepts s p then takePause p q (rxCountGood p 64 s) else s

/-- PFC (R78): a 64-byte PFC frame is received. -/
def pfcEvent (p en : Nat) (qs : List Nat) (s : State) : State :=
  if rxAccepts s p then takePfc p en qs (rxCountGood p 64 s) else s

/-- PAUSE_TIMER_EXPIRE (R77, R78): timer i has run out. -/
def pauseTimerExpire (p i : Nat) (s : State) : State :=
  let t := fcTimer s p i
  if t.fin ≤ now s then setFcTimer p i { t with fin := 0, holdStart := 0 } s else s

/-- PAUSE_STORM (R81): a hold exceeds HOLD_MS. -/
def pauseStorm (p i : Nat) (s : State) : State :=
  let t := fcTimer s p i
  let w := live s (pa (macPage p) offPAUSE_WD)
  let hold := fget w fPAUSE_WD_HOLD_MS
  if hold = 0 || t.fin ≤ now s || now s ≤ t.holdStart + hold * tMs then s
  else
    raiseIrq (macPage p) 3 (pvRecord p 4
      (setFcTimer p i ⟨0, 0, now s + fget w fPAUSE_WD_IGNORE_MS * tMs⟩ s))

/-- IGNORE_EXPIRE (R81): IGNORED clears after IGNORE_MS. -/
def ignoreExpire (p i : Nat) (s : State) : State :=
  let t := fcTimer s p i
  if t.ignEnd ≤ now s then setFcTimer p i { t with ignEnd := 0 } s else s

/-- FC_STS as read (R80). -/
def fcSts (s : State) (p : Nat) : Nat :=
  let b (i : Nat) : Nat := (if now s < (fcTimer s p i).fin then 1 else 0) + (if now s < (fcTimer s p i).ignEnd then 256 else 0)
  ((List.range 8).map (fun i => b i * 2 ^ i)).sum + b 8 % 256 * 2 ^ 16 + b 8 / 256 * 2 ^ 17

/-- Timers governed by an enable written to 0 are set to 0 (R78). -/
def clearTimers (p : Nat) (s : State) : State :=
  let z (i : Nat) (s : State) : State := setFcTimer p i { fcTimer s p i with fin := 0, holdStart := 0 } s
  let s1 := if pauseRxEn s p then s else z 8 s
  if pfcRxEn s p then s1 else forAll z (List.range 8) s1

/-! ### Frames that the MAC consumes (R76, R85, R336) -/

/-- A MAC control frame. -/
def isMacCtl (f : Bytes) : Bool := beAt f 12 2 == 0x8808

/-- A Coppice frame on a port with COPPICE_EN at 1, of whatever length (R85; log entry 134, DESIGN CHOICE). -/
def isCoppice (s : State) (p : Nat) (f : Bytes) : Bool :=
  128 ≤ p && liveB s (pa (macPage p) offMAC_CFG) fMAC_CFG_COPPICE_EN && beAt f 0 6 == 0x035048000001 && beAt f 12 2 == 0x88B7

/-- B-port p is a Rootway link (R336). -/
def isRwLink (s : State) (p : Nat) : Bool :=
  128 ≤ p && p < 256 && (live s (pa pgRw (offRW_LINK_EN ((p - 128) / 32)))).toNat.testBit (p % 32) && linkUp s p

/-- A Rootway frame on a Rootway link. -/
def isRootway (s : State) (p : Nat) (f : Bytes) : Bool :=
  isRwLink s p && beAt f 0 6 == 0x035048000002 && beAt f 12 2 == liveF s (pa pgRw offRW_CFG) fRW_CFG_ETYPE

/-- A frame that is never dispatched. -/
def consumed (s : State) (p : Nat) (f : Bytes) : Bool := isMacCtl f || isCoppice s p f || isRootway s p f

/-! ### Body cells of a frame in reception (R73, R251, R257, R260, R271) -/

/-- Frame bytes the MAC has to store beyond the head window: the FCS held back, nothing beyond MAXLEN (R73). -/
def rxBody (s : State) (p : Nat) (bytes : Bytes) : Bytes := ((bytes.take (maxLen s p)).take (bytes.length - 4)).drop 256

/-- Segments of `n` body bytes in cells. -/
def bodySegs : List Nat → Nat → List Seg
  | [], _ => []
  | c :: cs, n => if n = 0 then [] else ⟨c, 0, Nat.min 256 n⟩ :: bodySegs cs (n - 256)

/-- Takes the body cells a frame now needs; a refusal is noted in `why` (R256, R260). -/
def rxCells (p n : Nat) (r : RxFrame) (s : State) : RxFrame × State :=
  let q := bodyCells (p / 8) false p r.cls n r.cells s
  ({ r with cells := q.1, discard := r.discard || q.2.2 ≠ 0, why := q.2.2 }, q.2.1)

/-- Body segments of a frame in reception, up to a broken link (R277). -/
def rxSegs (r : RxFrame) (n : Nat) : List Seg :=
  match r.cut with
  | none => bodySegs r.cells n
  | some c => cutAfter c (bodySegs r.cells n)

/-- A copy of a frame still in reception takes up newly stored bytes (R251, R271). -/
def growCopy (segs : List Seg) (new : List Nat) (e : Nat × Desc) (s : State) : State :=
  let full := e.2.headLen + (segs.map (fun g => g.len)).sum
  let len := match e.2.mirror with | some j => mirLen s (copyEpoch s e.2) j full | none => full
  let d := { e.2 with segs := segs, len := len, cells := e.2.headCells.length + (segCells segs).length }
  forAll addRef new { s with clr := { s.clr with desc := mput s.clr.desc e.1 d } }

/-- Stores the body received so far and lets the pass or the copies of an early head take it up. A frame that the MAC
consumes is not stored. -/
def rxStore (p : Nat) (r : RxFrame) (s : State) : RxFrame × State :=
  let body := rxBody s p r.bytes
  let need := (body.length + 255) / 256
  if consumed s p r.bytes then (r, s)
  else
    let q := rxCells p (need - r.cells.length) r s
    if q.1.discard then q
    else
      let s1 := writeChain q.1.cells body q.2
      match r.pass with
      | none => (q.1, s1)
      | some k =>
        let segs := rxSegs q.1 body.length
        let new := q.1.cells.drop r.cells.length
        let s2 := if r.cut.isSome then s1 else forAll (growCopy segs new) (rxCopies s1 k) s1
        match pass? s2 k with
        | some _ => (q.1, updPass k (fun (x : Pass) => { x with segs := segs, flen := r.bytes.length }) s2)
        | none =>
          -- the pass's own reference has gone to the copies
          if (rxCopies s2 k).isEmpty then ({ q.1 with discard := true, pass := none, cells := [] }, dropRefs q.1.cells s2)
          else (q.1, dropRefs new s2)

/-! ### Heads toward dispatch (R16, R73, R271) -/

/-- An empty pass. -/
def passReset : Pass :=
  { src := 0, rxPort := 0, phase := .arrived, raw := [], head := [], trail := [], segs := [], flen := 0, known := true,
    complete := true, bad := false, broken := false, recirc := false, prev := [], rxTime := ⟨0, 0, 0⟩, prv := List.replicate 64 0,
    epoch := 0, inflight := false, grove := 0, unit := 0, tid := noThread, redo := false, counted := 0, attempts := 0, cause := 0,
    lastCounted := 0, lastTid := 0, faultPc := 0, editReason := 0, headLost := false, fragRec := none, fragWait := none, holdSince := 0,
    reason := 0, exc := [], com := none }

/-- A new pass takes its number and its place in R15 order. -/
def newPass (p : Pass) (s : State) : Nat × State :=
  let k := s.disp.nextPass
  let l := mget (fun _ => []) s.disp.order p.src
  let s1 := setPass k p s
  (k, { s1 with disp := { s1.disp with nextPass := k + 1, order := mset (fun _ => []) s1.disp.order p.src (l ++ [k]) } })

/-- The pass of a received frame. -/
def rxPass (p : Nat) (r : RxFrame) (segs : List Seg) (complete : Bool) : Pass :=
  let data := r.bytes.take (if complete then r.bytes.length - 4 else 256)
  { passReset with src := p, rxPort := p, raw := data.take 256, segs := segs, flen := r.bytes.length, known := complete,
                   complete := complete, broken := r.broken, rxTime := r.ts }

/-! ### Consumed frames take effect (R76, R85, R336) -/

/-- A Rootway link nobody has used. -/
def rwLinkReset (_ : Nat) : RwLink :=
  { up := false, txSeq := 0, unacked := [], backlog := [], rxSeq := 0, retries := 0, ackDue := false, peerUp := false,
    heardAt := none, hbAt := none, peerEtype := 0, partnerAt := none, inbox := [] }

/-- State of a Rootway link. -/
def rwLink (s : State) (l : Nat) : RwLink := mget rwLinkReset s.rw.link l

/-- Writes the state of a Rootway link. -/
def setRwLink (l : Nat) (v : RwLink) (s : State) : State := { s with rw := { s.rw with link := mset rwLinkReset s.rw.link l v } }

/-- A consumed frame takes its effect; a Rootway frame waits for ROOTWAY_FRAME_RECEIVE. -/
def consume (p : Nat) (f : Bytes) (s : State) : State :=
  if isMacCtl f then macControl p f s
  else if isCoppice s p f then coppice p (copReceive p f) s
  else setRwLink p { rwLink s p with inbox := (rwLink s p).inbox ++ [f.take (f.length - 4)] } s

/-! ### FRAME_RECEIVE (R73, R257, R260, R271, R308) -/

/-- The receive timestamp of a frame that starts now (R308). -/
def rxStamp (s : State) (p : Nat) : Tstamp :=
  let adj := signed 8 (liveF s (pa pgPtp (offPTP_PORT p)) fPTP_PORT_ADJ)
  tcOfFrac (fracOfTc s.time.now - adj * 2 ^ 42)

/-- Dispatches the head of a frame early (R271): once more than 256 bytes have come, for a frame of 256 bytes or less is
complete when its head is dispatched (R109). -/
def rxEarly (p : Nat) (r : RxFrame) (s : State) : RxFrame × State :=
  if r.pass.isSome || r.discard || r.ignore || r.bytes.length ≤ 256 || consumed s p r.bytes ||
      !(live s (pa pgClr (offCLR_CT_RX (p / 32)))).toNat.testBit (p % 32) then (r, s)
  else
    let n := newPass (rxPass p r (rxSegs r (rxBody s p r.bytes).length) false) s
    ({ r with pass := some n.1 }, n.2)

/-- Takes the last `x` bytes off the head of a pass, what its thread holds of it, and what it has committed: they were
FCS bytes of a frame of 256 to 259 bytes whose head went out early (R73, R271). -/
def trimPass (x : Nat) (k : Nat) (s : State) : State :=
  match pass? s k with
  | none => s
  | some q =>
    let n := q.head.length - x
    let keep (c : Bytes × List (Option Nat)) : Bytes × List (Option Nat) :=
      ((c.1.zip c.2).filter (fun e => match e.2 with | some j => decide (j < n) | none => true)).unzip
    let com := q.com.map (fun c => { c with headLen := c.headLen - x })
    let s1 := setPass k { q with raw := q.raw.take (q.raw.length - x), head := q.head.take n, com := com } s
    let th := thread s1 q.tid
    if q.phase == .running && th.pass == k then
      let c := keep (th.staged.copy, th.staged.orig)
      setThread q.tid { th with staged := { th.staged with copy := c.1, orig := c.2 } } s1
    else s1

/-- FRAME_LEN in the packet header of a head chain written before its frame had ended (R251). -/
def setFrameLen (n : Nat) (cells : List Nat) (s : State) : State :=
  match cells with
  | [] => s
  | c :: _ => setCell c (overwrite (cell s c).data 0 (leBytes 2 (n % 16384))) (cell s c).link s

/-- The frame of an early head of `n` bytes with FCS is complete and good (R271). FCS bytes that a head of 256 bytes took
with it are taken off again (R73; log entry 99, DEDUCED). -/
def rxComplete (k n : Nat) (s : State) : State :=
  let x := 260 - n
  let s1 := if x = 0 then s else trimPass x k s
  let s2 := forAll (fun (e : Nat × Desc) s =>
    let d := { e.2 with rxPass := none, headLen := e.2.headLen - x,
                        len := Nat.min e.2.len (e.2.headLen - x + (e.2.segs.map (fun g => g.len)).sum) }
    setFrameLen n e.2.headCells { s with clr := { s.clr with desc := mput s.clr.desc e.1 d } }) (rxCopies s1 k)
    (updPass k (fun (q : Pass) => { q with complete := true, flen := n }) s1)
  match pass? s2 k with
  | some q => match q.com with | some c => setFrameLen n c.headCells s2 | none => s2
  | none => s2

/-- The end of a frame: a refusal of its cells is counted, whatever the MAC finds; then the checks of R73 in their order,
and consumption or dispatch. -/
def rxEnd (p : Nat) (r : RxFrame) (s0 : State) : State :=
  let n := r.bytes.length
  let s := rxRefused p r s0
  let drop (off : Nat) : State := count (macPage p) off (rxFail p r s)
  if r.ignore then rxFail p r s
  else if n < 64 then drop cMac_RX_RUNT
  else if maxLen s p < n then drop cMac_RX_OVERSIZE
  else if leAt r.bytes (n - 4) 4 ≠ crc32 (r.bytes.take (n - 4)) then drop cMac_RX_FCS_ERR
  else
    let s1 := rxCountGood p n (setPort p { port s p with rx := none } s)
    if consumed s p r.bytes then consume p r.bytes s1
    else if r.discard then s1
    else match r.pass with
      | some k => rxComplete k n s1
      | none => (newPass (rxPass p r (rxSegs r (rxBody s p r.bytes).length) true) s1).2

/-- Counts FEC codewords of a port on which a FEC runs (R75). -/
def fecCount (p corr uncorr : Nat) (s : State) : State :=
  if macSts s p fMAC_STS_LINK = 1 && 2 ≤ macSts s p fMAC_STS_FEC then
    ctrAdd (macPage p) cMac_FEC_UNCORR_CW uncorr (ctrAdd (macPage p) cMac_FEC_CORR_CW corr s)
  else s

/-- FRAME_RECEIVE (R73): the next bytes of a frame arrive on port p, FCS included; `last` ends the frame. Outside the
safe state a frame is taken when the port accepted its start (R72, R419). -/
def frameReceive (p : Nat) (bytes : Bytes) (last : Bool) (s : State) : State :=
  let r0 : RxFrame := match (port s p).rx with
    | some r => r
    | none =>
      { bytes := [], cells := [], ignore := !rxAccepts s p, discard := false, why := 0, owed := [], cls := 8, broken := false, cut := none,
        ts := rxStamp s p, pass := none }
  let r1 := { r0 with bytes := r0.bytes ++ bytes, ignore := r0.ignore || safe s }
  let q := if r1.ignore || r1.discard then (r1, s) else rxStore p r1 s
  -- a refusal releases what the frame holds; the rest is discarded as it arrives (R257)
  let q1 : RxFrame × State :=
    if q.1.discard && !r1.discard then
      match q.1.pass with
      | some k => ({ q.1 with pass := none, cells := [] }, earlyFail k (dropRefs (q.1.cells.drop r1.cells.length) q.2))
      | none => ({ q.1 with cells := [] }, dropRefs q.1.cells q.2)
    else q
  if last then rxEnd p q1.1 (setPort p { port q1.2 p with rx := some q1.1 } q1.2)
  else
    let e := rxEarly p q1.1 q1.2
    setPort p { port e.2 p with rx := some e.1 } e.2

/-! ### Flow-control frames (R79) -/

/-- The PFC priorities of class c: every priority i whose PFC_MAP CLASS_i is c (R262) (log entry 92, DEDUCED). -/
def classPrios (s : State) (p c : Nat) : List Nat :=
  let w := (live s (pa (macPage p) offPFC_MAP)).toNat
  (List.range 8).filter (fun i => natField w (4 * i + 2) (4 * i) == c)

/-- A PAUSE or PFC frame of condition i (8 is PAUSE, else a class), without FCS (R79, R262). -/
def fcFrame (s : State) (p i : Nat) (on : Bool) : Bytes :=
  let q := if on then liveF s (pa (macPage p) offFC_CFG) fFC_CFG_QUANTA else 0
  let hdr : Bytes := [0x01, 0x80, 0xC2, 0x00, 0x00, 0x01] ++ (encap s (3840 + p)).take 6 ++ [0x88, 0x08]
  if i = 8 then hdr ++ [0x00, 0x01] ++ beBytes 2 q
  else
    let prios := classPrios s p i
    hdr ++ [0x01, 0x01] ++ beBytes 2 ((prios.map (fun j => 2 ^ j)).sum) ++
      (List.range 8).flatMap (fun j => beBytes 2 (if prios.contains j then q else 0))

/-- Whether the port's MAC may send its own frames now: they go on in QUIESCE (R72), wait for the frame in transmission,
and leave LPI first. -/
def ownOpen (s : State) (p : Nat) : Bool :=
  enabled s (macPage p) && !inReset s (macPage p) && macSts s p fMAC_STS_LINK = 1 && !safe s &&
  (port s p).tx.isNone && macSts s p fMAC_STS_TX_LPI = 0

/-- A frame leaves the port, and in loopback returns to its receiver (R69). -/
def emit (p : Nat) (f : Bytes) (s : State) : State :=
  let s1 := sendOut p f s
  if macSts s1 p fMAC_STS_LSTATE = lsLoop then frameReceive p f true s1 else s1

/-- FC_FRAME_SEND (R79): the first flow-control frame owed goes out after the frame in progress, under the gate list
(log entry 43, DESIGN CHOICE). -/
def fcFrameSend (p : Nat) (s : State) : State :=
  match (port s p).fcOwed with
  | [] => s
  | (i, on) :: rest =>
    if !ownOpen s p || !fcGateOk s p then s
    else
      let st := port s p
      let s1 := setPort p { st with fcOwed := rest, fcLast := mset (fun _ => 0) st.fcLast i (now s),
                                    macFree := Nat.max (now s) st.macFree + wireTime s p 64 } s
      startNext p <| emit p (withFcs false (fcFrame s p i on))
        (count (macPage p) (if i = 8 then cMac_TX_PAUSE else cMac_TX_PFC) s1)

/-- FC_REFRESH (R79): while a condition stands, its frame is owed again each QUANTA / 2 quanta. -/
def fcRefresh (p i : Nat) (s : State) : State :=
  let st := port s p
  let half := quantaUnits s p (liveF s (pa (macPage p) offFC_CFG) fFC_CFG_QUANTA) / 2
  if st.cond.contains i && !st.fcOwed.any (fun e => e.1 == i) &&
      decide (mget (fun _ => 0) st.fcLast i + half ≤ now s) then
    setPort p { st with fcOwed := st.fcOwed ++ [(i, true)] } s
  else s

/-! ### PTP at transmission (R309 to R312) -/

/-- Fields of a stored frame's packet header (R251). -/
def hRxPort (h : Bytes) : Nat := leAt h 16 2 % 512
def hTrail (h : Bytes) : Bool := (leAt h 16 2).testBit 9
def hRecirc (h : Bytes) : Bool := (leAt h 16 2).testBit 10
def hEvent (h : Bytes) : Bool := (leAt h 16 2).testBit 11
def hUdp (h : Bytes) : Bool := (leAt h 16 2).testBit 12
def hPtpOff (h : Bytes) : Nat := leAt h 18 2 % 512
def hDispo (h : Bytes) : Nat := leAt h 4 8
def hRxTime (h : Bytes) : Tstamp := ⟨leAt h 36 6, leAt h 32 4, leAt h 30 2 * 2 ^ 28⟩

/-- RFC 1624: a one's complement checksum after 16-bit words `old` became `new`. -/
def csumUpdate (ck : Nat) (old new : Bytes) : Nat :=
  let inv := (0xFFFF - ck) + ((List.range (old.length / 2)).map (fun i => 0xFFFF - beAt old (2 * i) 2)).sum + sum16 new
  0xFFFF - foldSum inv % 65536

/-- Replaces bytes of a PTP message at the offsets given, updating a nonzero UDP checksum before it once, over the whole
change (R311). -/
def ptpPatch (udp : Bool) (po : Nat) (news : List (Nat × Bytes)) (f : Bytes) : Bytes :=
  let old := news.flatMap (fun e => slice f (po + e.1) e.2.length)
  let new := news.flatMap (fun e => e.2)
  let g := news.foldl (fun f e => overwrite f (po + e.1) e.2) f
  let ck := beAt f (po - 2) 2
  if udp && ck ≠ 0 then overwrite g (po - 2) (beBytes 2 (csumUpdate ck old new)) else g

/-- The correctionField after an addition (R309): units of 2^-16 ns. -/
def ptpCf (po : Nat) (x : Int) (f : Bytes) : Nat × Bytes := (8, beBytes 8 (twos 64 ((beAt f (po + 8) 8 : Int) + x)))

/-- Adds to the correctionField (R309). -/
def ptpAdd (udp : Bool) (po : Nat) (x : Int) (f : Bytes) : Bytes := ptpPatch udp po [ptpCf po x f] f

/-- PTP_PORT of a port. -/
def ptpPort (s : State) (p : Nat) : Word := if p < 256 then live s (pa pgPtp (offPTP_PORT p)) else 0

/-- The transmit timestamp of the frame in transmission (R308). -/
def txStamp (s : State) (p : Nat) : Tstamp :=
  tcOfFrac (fracOfTc (port s p).txAt + signed 8 (fget (ptpPort s p) fPTP_PORT_ADJ) * 2 ^ 42)

/-- A timestamp in units of 2^-16 ns. -/
def stamp16 (t : Tstamp) : Int := (tcNs t : Int) * 65536 + frac16 t

/-- Pushes an entry into the TX timestamp FIFO, or counts the overflow (R312). -/
def txtsPush (e : TxTs) (s : State) : State :=
  if 256 ≤ s.time.fifo.length then raiseIrq pgPtp 4 (count pgPtp cPtp_TXTS_OVERFLOW s)
  else raiseIrq pgPtp 3 (count pgPtp cPtp_TXTS_CAPTURED { s with time := { s.time with fifo := s.time.fifo ++ [e] } })

/-- Residence of a frame with the count of a bad Trail term (R310). -/
def residence (s : State) (h : Bytes) (tx : Tstamp) : Int × State :=
  let rx := hRxTime h
  let base := stamp16 tx - stamp16 rx
  if hTrail h && (byteAt h 22).toNat.testBit 4 then
    let first := (rx.ns + 65536 - beAt h 28 2 % 65536) % 65536
    if liveF s (pa pgPtp offPTP_CFG) fPTP_CFG_TRAIL_MAX < first then
      (base, raiseIrq pgPtp 5 (count pgPtp cPtp_PTP_TRAIL_BAD s))
    else (base + (first : Int) * 65536, s)
  else (base, s)

/-- LINK_DELAY of the receive port for a Sync of a peer-to-peer port, in 2^-16 ns (R309). -/
def linkDelay (s : State) (h : Bytes) (msg : Nat) : Int :=
  let w := ptpPort s (hRxPort h)
  if fget w fPTP_PORT_TC_MODE = 2 && msg = 0 then (fget w fPTP_PORT_LINK_DELAY : Int) * 65536 else 0

/-- PTP action of a copy on its transmit port (R309): the frame, whether the Trail flag PTP_EVENT is set, the state
(log entry 44, DEDUCED). -/
def ptpAction (p : Nat) (d : Desc) (h f : Bytes) (s : State) : Bytes × Bool × State :=
  let po := hPtpOff h
  let trail := trailEn s p && !d.rootway
  if d.mirror.isSome || d.rootway then (f, false, s)
  else if !hEvent h then
    if hTrail h && (byteAt h 22).toNat.testBit 4 then (f, false, count pgPtp cPtp_PTP_NOCORR s) else (f, false, s)
  else if po = 0 || d.headLen < po + 44 then (f, false, count pgPtp cPtp_PTP_NOCORR s)
  else
    let msg := (byteAt f po).toNat % 16
    let two := (byteAt f (po + 6)).toNat.testBit 1
    let w := ptpPort s p
    let tx := txStamp s p
    if trail then
      let x := linkDelay s h msg
      (if x = 0 then f else ptpAdd (hUdp h) po x f, true, s)
    else if hRxPort h = 256 then
      if fbit w fPTP_PORT_ONESTEP && msg = 0 && !two then
        (ptpPatch (hUdp h) po [(34, beBytes 6 tx.sec ++ beBytes 4 tx.ns), ptpCf po (frac16 tx : Int) f] f, false,
          count pgPtp cPtp_PTP_ONESTEP s)
      else if fbit w fPTP_PORT_CAPTURE then
        (f, false, txtsPush ⟨p, msg, beAt f (po + 4) 1, beAt f (po + 30) 2, tx⟩ s)
      else (f, false, s)
    else if fget w fPTP_PORT_TC_MODE ≠ 0 && msg < 4 then
      let r := residence s h tx
      let extra := if hTrail h then 0 else linkDelay s h msg
      (ptpAdd (hUdp h) po (r.1 + extra) f, false, count pgPtp cPtp_PTP_CORRECTED r.2)
    else (f, false, s)

/-! ### The Trail header sent (R354, R356) -/

/-- The Trail header of a copy. -/
def trailHeader (s : State) (d : Desc) (h : Bytes) (event : Bool) : Bytes :=
  let rt := hTrail h
  let dispo := hDispo h
  let r2 := (byteAt h 21).toNat
  let r3 := (byteAt h 22).toNat
  let hop := if rt then r2 % 16 + 1 else 1
  let b (x : Bool) (v : Nat) : Nat := if x then v else 0
  let sample := match d.mirror with
    | some j => decide (1 < fget (mirWord s (copyEpoch s d) j 4) fMIR_SAMP_SAMPLE_N)
    | none => false
  let flags := b d.mirror.isSome 128 + b sample 64 + b ((rt && r3.testBit 5) || hRecirc h) 32 + b event 16 +
    b (dOam dispo) 8 + b ((rt && r3.testBit 2) || dispo.testBit 42) 4
  let tw := leAt h 12 4
  let mc := dAction dispo == 2 && d.mirror.isNone
  let cls := if !mc && d.mirror.isNone && tw ≠ 0 && fwClsEn tw then fwClass tw else d.cls
  let dest := if mc then 32768 + (d.group - 1) % 16384
    else if d.mirror.isSome || tw = 0 then 511
    else if fwMc tw then 32768 + fwDest tw else fwDest tw % 512
  let q := if mc then dQueue dispo else if d.mirror.isSome then 0 else fwQueue tw
  beBytes 2 (liveF s (pa pgRw offTR_CFG) fTR_CFG_ETYPE) ++
    [BitVec.ofNat 8 (16 + hop), BitVec.ofNat 8 flags, BitVec.ofNat 8 (copyEpoch s d),
     BitVec.ofNat 8 (cls * 32 + dColour dispo * 8)] ++
    beBytes 2 dest ++ beBytes 2 q ++
    (if rt then beBytes 2 (beAt h 24 2 % 4096) ++ beBytes 2 (beAt h 26 2 % 512) ++ slice h 28 2
     else beBytes 2 (regF s (pa pgRw offRW_ID) fRW_ID_ID) ++ beBytes 2 (hRxPort h) ++ beBytes 2 ((hRxTime h).ns % 65536))

/-! ### FRAME_TRANSMIT (R74, R253, R273, R356) -/

/-- The bytes of a copy without FCS, as stored now. -/
def copyBytesOf (s : State) (d : Desc) : Bytes := (headBytes s d.headCells d.headLen ++ segBytes s d.segs).take d.len

/-- The port's transmitter is free again, for the frame that waits in X9 after a gap. -/
def txDone (p id : Nat) (s : State) : State :=
  let s1 := setPort p { port s p with tx := none, txStomp := false, idleSince := now s, macFree := now s + wireTime s p 0 } s
  txFree p (removeCopy id s1)

/-- With CNT_EN at 1 a copy whose transmission starts counts one packet and its transmitted length in the counter pair of
its queue, the queues of ports 256 to 259 among them (SCH_CNT_BASE of page 0x060) (log entry 93, DEDUCED). -/
def countQueue (d : Desc) (len : Nat) (s : State) : State :=
  if liveB s (pa pgSch offSCH_CFG) fSCH_CFG_CNT_EN then
    pairAdd (liveF s (pa pgSch offSCH_CNT_BASE) fSCH_CNT_BASE_BASE + d.queue) 1 len s
  else s

/-- Sends a copy on a port with a MAC. `under` says that the transmitter ran out of stored bytes (R273). -/
def macTransmit (p id : Nat) (d : Desc) (under : Bool) (s : State) : State :=
  let h := pktHeader s d.headCells
  let trail := trailEn s p && !d.rootway
  if trail && hTrail h && (byteAt h 21).toNat % 16 = 15 then txDone p id (count pgRw cRw_TRAIL_HOP_DROP s)
  else
    let len := Nat.max (d.len + (if trail then 16 else 0)) 60 + 4
    if (port s p).txMax < len then txDone p id (count (macPage p) cMac_TX_OVERSIZE s)
    else
      let a := ptpAction p d h (copyBytesOf s d) s
      let f := if trail then a.1.take 12 ++ trailHeader s d h a.2.1 ++ a.1.drop 12 else a.1
      let stomp := (port s p).txStomp || under || d.broken
      let s1 := if stomp then count (macPage p) cMac_TX_STOMPED a.2.2 else a.2.2
      let s2 := if under then count pgClr cClr_CT_UNDERRUN s1 else s1
      emit p (withFcs stomp f) (txDone p id (countQueue d len (chargeRest p d s2)))

/-- Segments without their first `n` bytes. -/
def dropSegs (n : Nat) : List Seg → List Seg
  | [] => []
  | g :: gs => if g.len ≤ n then dropSegs (n - g.len) gs else ⟨g.cell, g.off + n, g.len - n⟩ :: gs

/-- Segments that hold a head chain's edited head (R251). -/
def headSegs : List Nat → Nat → Nat → List Seg
  | [], _, _ => []
  | c :: cs, off, n => if n = 0 then [] else ⟨c, off, Nat.min (256 - off) n⟩ :: headSegs cs 0 (n - (256 - off))

/-- A frame sent on recirculation port 257 or 258 comes back as a head of that port (R27, R253)
(log entry 32, DEDUCED). -/
def recirculate (p id : Nat) (d : Desc) (s : State) : State :=
  let h := pktHeader s d.headCells
  let f := copyBytesOf s d
  let fly := copyInFlight s d
  let cells := copyCells d
  let ps : Pass := { passReset with
    src := p, rxPort := p, raw := f.take 256,
    segs := takeSegs (f.length - 256) (dropSegs 256 (headSegs d.headCells 48 d.headLen ++ d.segs)),
    flen := f.length + 4, recirc := true, prev := cells, rxTime := hRxTime h, epoch := copyEpoch s d, inflight := fly }
  let s1 := forAll addRef cells s
  (newPass ps (txDone p id s1)).2

/-- Heads of an internal source on their way to its dispatch queue (R17). -/
def headsWaiting (s : State) (src : Nat) : Nat :=
  (s.disp.passes.filter (fun e => e.2.src == src && e.2.phase == .arrived)).length

/-- FRAME_TRANSMIT: the frame in transmission on port p leaves. A cut-through frame still in reception is waited for,
unless `under` says that its next byte was not stored in time (R273). -/
def frameTransmit (p : Nat) (under : Bool) (s0 : State) : State :=
  let s := startNext p s0
  match (port s p).tx with
  | none => s
  | some id => match mfind s.clr.desc id with
    | none => txFree p (setPort p { port s p with tx := none } s)
    | some d =>
      if d.rxPass.isSome && !under then s
      else if safe s then s
      else if p = 256 then s
      else if p < 256 then
        let k := d.rxPass
        let s1 := macTransmit p id d (under && k.isSome) s
        match k with
        | none => s1
        | some k =>
          -- with no copy left the rest of the frame is discarded as it arrives
          if (rxCopies s1 k).isEmpty && (pass? s1 k).isNone then cutReception k s1 else s1
      -- X10 holds 32 heads of a source, which withholds the next (R17)
      else if 32 ≤ headsWaiting s p then s
      else
        let s1 := countQueue d (txLen s d) s
        if p = 259 && !d.broken then
          setRwLink 259 { rwLink s 259 with inbox := (rwLink s 259).inbox ++ [copyBytesOf s d] } (txDone p id s1)
        -- a stomped copy is no frame where it arrives (log entry 25, DEDUCED)
        else if d.broken then txDone p id (landCopy d s1)
        else recirculate p id d s1

end Sys2Proof.Machine
end

