-- ==== Sys2Proof/Machine/Epochs.lean ====
section
/-!
DEFINITION. Epochs (R231 to R242): checking a commit, an arm or a disarm, the switch, and commands EPOCH_COMMIT,
EPOCH_ARM_FIRE and EPOCH_RETIRE. The CHAIN side of EPOCH_ARM and EPOCH_DISARM stands with the Rootway messages.
-/

namespace Sys2Proof.Machine
open Sys2Proof

/-- EPOCH_STS. -/
abbrev aEpSts : Nat := 0x300

/-- Field of EPOCH_STS. -/
def epSts (s : State) (f : Fld) : Nat := regF s (pa dev offEPOCH_STS) f

/-- Writes a field of EPOCH_STS. -/
def setEpSts (f : Fld) (v : Nat) (s : State) : State := setRegF (pa dev offEPOCH_STS) f v s

/-- Results of R238. -/
abbrev erArmed : Nat := 1
abbrev erDone : Nat := 2
abbrev erBusy : Nat := 3
abbrev erLate : Nat := 4
abbrev erBadEpoch : Nat := 5
abbrev erDisarmed : Nat := 6

/-- Records a result; 3, 4 and 5 set IRQ_STS bit 10 (R238). -/
def epResult (r : Nat) (s : State) : State :=
  let s1 := setEpSts fEPOCH_STS_RESULT r s
  if r = erBusy || r = erLate || r = erBadEpoch then raiseIrq dev 10 s1 else s1

/-- The instant that 32 bits of seconds and the nanoseconds name, in ns, placed around the time counter C with its fraction: the
T with C - 2^31 s ≤ T < C + 2^31 s (EPOCH_TIME). -/
def placeInstant (s : State) (sec ns : Nat) : Int :=
  let span : Int := 2 ^ 32 * 1000000000
  let half : Int := 2 ^ 31 * 1000000000
  -- T is a whole number of ns, so that C counts as the next one
  let c : Int := (fracOfTc s.time.now + 2 ^ 44 - 1) / 2 ^ 44
  let x : Int := (sec : Int) * 1000000000 + ns
  -- the one value congruent to x in [c - half, c + half)
  c - half + (x - (c - half)) % span

/-- Whether a request names an epoch it may not (R231, R238, R240). -/
def badEpoch (s : State) (e : Nat) : Bool :=
  let cur := curEpoch s
  let fresh := epSts s fEPOCH_STS_FRESH = 1
  !(e % 256 == (cur + 1) % 256) && !(fresh && e % 2 != cur % 2)

/-- The first outcome of R238 that applies to a commit, or to an arm with its instant in ns. -/
def epCheck (s : State) (e : Nat) (arm : Option Int) : Nat :=
  if badEpoch s e || (arm.isSome && epSts s fEPOCH_STS_ARMED = 1 && epSts s fEPOCH_STS_ARM_EPOCH ≠ e) then erBadEpoch
  else if epSts s fEPOCH_STS_PREV_LIVE = 1 then erBusy
  else match arm with
    | some t => if t * 2 ^ 44 < fracOfTc s.time.now + 10000 * 2 ^ 44 then erLate else erArmed
    | none => erDone

/-- A bound page, and one whose binding changes, at the switch to epoch e (R42, R234). -/
def epPage (e page : Nat) (s : State) : State :=
  let want := regB s (pa page offCtl) fPAGE_CTL_EPOCH_BIND
  let was := isBound s page
  if !want && !was then s
  else
    let one (a : Nat) (s : State) : State :=
      let s1 := setActive e a (shadowS s a) s
      if want then s1 else setActive (e + 1) a (shadowS s a) s1
    let s1 := forAll one (stagedWords page) s
    let s2 := { s1 with bus := { s1.bus with bound := if want then nsInsert s1.bus.bound page else nsErase s1.bus.bound page } }
    setRegB (pa page offSts) fPAGE_STS_COMMIT_PENDING false s2

/-- A pending arm is cleared. -/
def clearArm (s : State) : State := setEpSts fEPOCH_STS_ARMED 0 (setEpSts fEPOCH_STS_ARM_EPOCH 0 s)

/-- The switch to epoch e (R239): CURRENT, PREVIOUS, PREV_LIVE, bound pages, IRQ_STS bit 8. -/
def epSwitch (e : Nat) (s : State) : State :=
  let old := curEpoch s
  let s1 := forAll (fun (x : Fld × Nat) => setEpSts x.1 x.2)
    [(fEPOCH_STS_CURRENT, e % 256), (fEPOCH_STS_PREVIOUS, old), (fEPOCH_STS_PREV_LIVE, 1), (fEPOCH_STS_FRESH, 0)] (clearArm s)
  let s2 := { s1 with ep := { s1.ep with switchAt := now s, trailAt := now s } }
  raiseIrq dev 8 (epResult erDone (forAll (epPage e) [pgMc, pgPol] s2))

/-- EPOCH_COMMIT (R238, R239). -/
def epochCommit (e : Nat) (s : State) : State :=
  let r := epCheck s e none
  if r = erDone then epSwitch e s else epResult r s

/-- An arm for an instant in ns (R238): its result and the state. -/
def epochArm (e : Nat) (t : Int) (s : State) : Nat × State :=
  let r := epCheck s e (some t)
  if r = erArmed then
    let s1 := setEpSts fEPOCH_STS_ARMED 1 (setEpSts fEPOCH_STS_ARM_EPOCH e s)
    (r, epResult r { s1 with ep := { s1.ep with armAt := t.toNat } })
  else (r, epResult r s)

/-- A disarm always gives DISARMED (R238). -/
def epochDisarm (s : State) : State := epResult erDisarmed (clearArm s)

/-- EPOCH_ARM_FIRE (R239): the counter is at or after the instant of the pending arm. -/
def epochArmFire (s : State) : State :=
  if epSts s fEPOCH_STS_ARMED = 1 && decide (s.ep.armAt ≤ nowNs s) then epSwitch (epSts s fEPOCH_STS_ARM_EPOCH) s else s

/-- EPOCH_RETIRE (R237): no packet of the previous epoch in flight, and both grace times over. -/
def epochRetire (s : State) : State :=
  let grace := liveF s (pa dev offEPOCH_CFG) fEPOCH_CFG_GRACE_US * tUs
  if epSts s fEPOCH_STS_PREV_LIVE = 1 && inflight s (epSts s fEPOCH_STS_PREVIOUS) == 0 &&
      decide (s.ep.switchAt + grace ≤ now s) && decide (s.ep.trailAt + grace ≤ now s) then
    raiseIrq dev 9 (setEpSts fEPOCH_STS_PREV_LIVE 0 s)
  else s

/-- EPOCH_INFLIGHT as read (R235). -/
def epInflight (s : State) : Nat := Nat.min 0xFFFF (inflight s 0) + Nat.min 0xFFFF (inflight s 1) * 65536

end Sys2Proof.Machine
end

