-- ==== Sys2Proof/Machine/Time.lean ====
section
/-!
DEFINITION. Time and synchronisation (R306 to R315): commands TIME_READ, TIME_SET, TIME_ADD, TIMEREF_LOSS,
TIMEREF_RELOCK, TREF_25, PPS_IN, PPS_OUT, SQUELCHED and TXTS_3.
-/

namespace Sys2Proof.Machine
open Sys2Proof

/-! ### The counter (R306, R307) -/

/-- TIME_READ: the counter is latched into TIME_D0 to D3. -/
def timeRead (s : State) : State :=
  let t := s.time.now
  let put (k v : Nat) (s : State) : State := setReg (pa pgPtp (offTIME_D k)) (BitVec.ofNat 32 v) s
  put 3 (t.sec / 2 ^ 32) (put 2 t.sec (put 1 t.ns (put 0 (frac16 t) s)))

/-- PPS_OUT.OFFSET in ns. -/
def ppsOffset (s : State) : Int := signed 32 (live s (pa pgPtp offPPS_OFS)).toNat

/-- The last whole second plus OFFSET at or before the counter (R314). -/
def ppsPoint (s : State) : Int := ((nowNs s : Int) - ppsOffset s) / 1000000000

/-- PPS_OUT (R314): the pulse rises when the counter has passed a rising point since the last one, and falls after
WIDTH_US. A pulse already high keeps its width. -/
def ppsOut (s : State) : State :=
  let w := live s (pa pgPtp offPPS_OUT)
  let fall (s : State) : State := match s.time.ppsEnd with
    | some e => if e ≤ kNow s then { s with time := { s.time with ppsEnd := none } } else s
    | none => s
  let s1 := fall s
  if !fbit w fPPS_OUT_EN || ppsPoint s1 ≤ s1.time.ppsLast then s1
  else
    let rise := s1.time.ppsEnd.getD (kNow s1 + fget w fPPS_OUT_WIDTH_US * tUs)
    { s1 with time := { s1.time with ppsEnd := some rise, ppsLast := ppsPoint s1 } }

/-- A step of the counter (R307): STEPPED, gate lists, a pending epoch instant and a PPS point are judged anew. A step
back re-arms the points it passed. -/
def timeStep (t : Tstamp) (s : State) : State :=
  let fwd := tcNs s.time.now ≤ tcNs t
  let s1 := { s with time := { s.time with now := t } }
  let s2 := setRegB (pa pgPtp offTIME_STS) fTIME_STS_STEPPED true (gatesStepped s1)
  if fwd then ppsOut s2
  else { s2 with time := { s2.time with ppsLast := ppsPoint s2 } }

/-- TIME_SET: the counter takes D0 to D3 as they read at the write (R45); D1 of 10^9 or more is refused. -/
def timeSet (s : State) : State :=
  let d (k : Nat) : Nat := (reg s (pa pgPtp (offTIME_D k))).toNat
  if 1000000000 ≤ d 1 then refuse pgPtp offTIME_CTL reasonEncoding s
  else timeStep ⟨d 2 + d 3 % 65536 * 2 ^ 32, d 1, d 0 % 65536 * 2 ^ 28⟩ s

/-- TIME_ADD: the counter moves by the signed ns of D1. -/
def timeAdd (s : State) : State :=
  timeStep (tcOfFrac (fracOfTc s.time.now + signed 32 (reg s (pa pgPtp (offTIME_D 1))).toNat * 2 ^ 44)) s

/-! ### TIMEREF (R313, R454, R463) -/

/-- Enters holdover: TCLK runs from SYSCLK. -/
def enterHoldover (s : State) : State :=
  let a := pa pgPtp offTIME_STS
  let s1 := setRegB a fTIME_STS_TREF_LOCK false s
  if regB s a fTIME_STS_HOLDOVER then s1 else raiseIrq pgPtp 1 (setRegB a fTIME_STS_HOLDOVER true s1)

/-- An averaged TIMEREF-to-SYSCLK ratio exists: TIMEREF has been present for 1 s, now or before (R313). -/
def hasRatio (s : State) : Bool :=
  s.time.ratio || (match s.time.trefSince with | some t => decide (t + 1000 * tMs ≤ kNow s) | none => false)

/-- TIMEREF_LOSS (R313): TCLK switches to SYSCLK; source 1 of page 0x1D0 is reported (CE). -/
def timerefLoss (s : State) : State :=
  if !s.pin.verdict || s.pin.lost.contains 1 then s
  else
    let s1 := { s with time := { s.time with trefSince := none, ratio := hasRatio s },
                       pin := { s.pin with lost := nsInsert s.pin.lost 1, back := mdel s.pin.back 1 } }
    let s2 := setRegB (pa pgClk offCLK_STS) fCLK_STS_TIMEREF_OK false s1
    let s3 := hicRaise 3 (capture pgClk 1 clsCE false 0 (enterHoldover s2))
    -- with SYSCLK lost as well the counter stops
    if s.pin.lost.contains 0 then setRegB (pa pgPtp offTIME_STS) fTIME_STS_STOPPED true s3 else s3

/-- TIMEREF appears while TREF_LOCK is 0: the monitor measures TREF_25 unless it has been written since reset (R313). -/
def timerefAppears (mhz25 : Bool) (s : State) : State :=
  if s.time.tref25Written || regB s (pa pgPtp offTIME_STS) fTIME_STS_TREF_LOCK then s
  else setRegB (pa pgPtp offPTP_CFG) fPTP_CFG_TREF_25 mhz25 s

/-- TIMEREF_RELOCK (R313): after 10 ms of presence TCLK locks again and HOLDOVER clears. `mhz25` says that TIMEREF runs at 25 MHz;
at the frequency that TREF_25 does not select it is not within limits (R454; log entry 127, DEDUCED). -/
def timerefRelock (mhz25 : Bool) (s : State) : State :=
  let a := pa pgPtp offTIME_STS
  match s.time.trefSince with
  | none => s
  | some t =>
    if kNow s < t + 10 * tMs || regB s a fTIME_STS_TREF_LOCK || regB s (pa pgPtp offPTP_CFG) fPTP_CFG_TREF_25 != mhz25 then s
    else
      let s2 := setRegB a fTIME_STS_STOPPED false (setRegB a fTIME_STS_TREF_LOCK true s)
      if regB s a fTIME_STS_HOLDOVER then raiseIrq pgPtp 2 (setRegB a fTIME_STS_HOLDOVER false s2) else s2

/-- TREF_25 (R313): a write retunes the PLL, whatever value it gives. TCLK runs in holdover, with the averaged ratio when one
exists, and locks again after 10 ms of presence (log entry 70, DEDUCED). -/
def tref25 (b : Bool) (s : State) : State :=
  let s1 := setRegB (pa pgPtp offPTP_CFG) fPTP_CFG_TREF_25 b s
  enterHoldover { s1 with time := { s1.time with tref25Written := true, ratio := hasRatio s1,
                                                 trefSince := s1.time.trefSince.map (fun _ => kNow s1) } }

/-! ### PPS and SyncE (R314, R315) -/

/-- PPS_IN (R314): a rising edge latches the counter. -/
def ppsIn (s : State) : State :=
  let t := s.time.now
  raiseIrq pgPtp 0 (setReg (pa pgPtp offPPS_IN_SEC) (BitVec.ofNat 32 t.sec)
    (setReg (pa pgPtp offPPS_IN_NS) (BitVec.ofNat 32 t.ns) s))

/-- Whether SyncE output n must be held low (R315, R419): EN 0, no CDR_LOCK or no SIGNAL on its lane, or the safe state. -/
def syncEOff (s : State) (n : Nat) : Bool :=
  let w := live s (pa pgPtp (offSYNCE n))
  let l := fget w fSYNCE_SRC_LANE
  let st := reg s (pa (quadPage l + 1) (offSDQ_LSTS (l % 8)))
  !fbit w fSYNCE_EN || !fbit st fSDQ_LSTS_CDR_LOCK || !fbit st fSDQ_LSTS_SIGNAL || safe s

/-- SQUELCHED (R315): output n is squelched or released at a whole output period. -/
def squelched (n : Nat) (s : State) : State :=
  setRegB (pa pgPtp (offSYNCE n)) fSYNCE_SQUELCHED (syncEOff s n) s

/-! ### TX timestamps (R312) -/

/-- TXTS_k of the head entry; 0 with the FIFO empty. -/
def txtsWord (s : State) (k : Nat) : Word :=
  match s.time.fifo with
  | [] => 0
  | e :: _ => BitVec.ofNat 32 (match k with
    | 0 => e.port % 512 + e.msgType % 16 * 4096 + e.domain % 256 * 65536
    | 1 => e.seqId % 65536 + frac16 e.ts * 65536
    | 2 => e.ts.ns
    | _ => e.ts.sec)

/-- TXTS_3 (R312): the read returns the seconds and removes the head entry. -/
def txts3 (s : State) : State :=
  { s with bus := { s.bus with rdata := txtsWord s 3 }, time := { s.time with fifo := s.time.fifo.drop 1 } }

/-- Source 1 of page 0x070: the head entry of the TX FIFO is discarded and counted TXTS_OVERFLOW. -/
def txtsLost (s : State) : State :=
  if s.time.fifo.isEmpty then s
  else raiseIrq pgPtp 4 (count pgPtp cPtp_TXTS_OVERFLOW { s with time := { s.time with fifo := s.time.fifo.drop 1 } })

end Sys2Proof.Machine
end

