-- ==== Sys2Proof/Machine/Services.lean ====
section
/-!
DEFINITION. On-device services (R317 to R334) and the wheels' release (R289, R290): commands WHEEL_RELEASE, SVC_CFG,
TIMER_FIRE, TIMER_INJECT, TMR_READ, TMR_WRITE, BFD_TICK and BFD_RECEIVE.
-/

namespace Sys2Proof.Machine
open Sys2Proof

/-! ### Timer entries (R319, R320) -/

/-- A timer entry. -/
def timerEntry (s : State) (i : Nat) : Nat := mget (fun _ => 0) s.svc.entry i

/-- Fields of a timer entry. -/
def tEn (e : Nat) : Bool := e.testBit 0
def tJitter (e : Nat) : Nat := natField e 2 1
def tProfile (e : Nat) : Nat := natField e 10 3
def tCtx (e : Nat) : Nat := natField e 30 11
def tPeriod (e : Nat) : Nat := natField e 63 32

/-- Key of a timer entry in the wheels. -/
def timerKey (i : Nat) : Nat := 2 ^ 20 + i

/-- Next firing of an entry in ns, for the wheels. -/
def timerNs (s : State) (i : Nat) : Nat := (mget (fun _ => 0) s.svc.next i) / 3

/-- The k of R320, drawn afresh (log entry 7, DESIGN CHOICE). -/
def timerDraw (i : Nat) (s : State) : Nat × State :=
  (Config.timerPhase i s.svc.draws % 256, { s with svc := { s.svc with draws := s.svc.draws + 1 } })

/-- Puts an entry's next firing into the wheels. -/
def timerPlace (i at_ : Nat) (s : State) : State :=
  let s1 := { s with svc := { s.svc with next := mput s.svc.next i at_ } }
  wheelAdd (wheelPlace s1 (timerKey i) (at_ * 65536 / 3)) s1

/-- An entry starts to fire: its first firing is spread over one period (R320). -/
def timerStart (i : Nat) (s : State) : State :=
  let d := timerDraw i s
  timerPlace i (now s + tPeriod (timerEntry s i) * tUs * d.1 / 256) d.2

/-- An entry stops firing. -/
def timerStop (i : Nat) (s : State) : State :=
  wheelRemove (timerKey i) { s with svc := { s.svc with next := mdel s.svc.next i } }

/-- PROFILE is SVC. -/
def svcOn (s : State) : Bool := liveB s (pa dev offSVC_CFG) fSVC_CFG_PROFILE

/-- SVC_CFG (R317): 0 stops firing; 1 starts every enabled entry as if just enabled (log entry 50, DEDUCED). -/
def svcCfg (profile : Nat) (s : State) : State :=
  let s1 := setRegF (pa dev offSVC_CFG) fSVC_CFG_PROFILE profile s
  if profile % 2 = 0 then forAll timerStop (mkeys s1.svc.next) s1
  else forAll timerStart ((s1.svc.entry.filter (fun e => tEn e.2)).map (fun e => e.1)) s1

/-- The interval to the next firing in units of the local count (R320). -/
def timerInterval (e k : Nat) : Nat :=
  let p := tPeriod e * tUs
  match tJitter e with
  | 1 => p * (1024 - k) / 1024
  | 2 => p * (4608 - 3 * k) / 5120
  | _ => p

/-- Counts a firing that is skipped (R321). -/
def timerSkip (s : State) : State := raiseIrq pgRc 1 (count pgRc cTmr_TMR_SKIPPED s)

/-- TIMER_FIRE (R320, R321): the entry's time has come and the wheels have released it. -/
def timerFire (i : Nat) (s : State) : State :=
  match mfind s.svc.next i with
  | none => s
  | some t =>
    let e := timerEntry s i
    if !svcOn s || !tEn e || now s < t || inWheel s (timerKey i) then s
    else
      let d := timerDraw i s
      let n := (mget (fun _ => 0) s.svc.fired i + 1) % 65536
      let s1 := timerPlace i (t + timerInterval e d.1) d.2
      let s2 := { s1 with svc := { s1.svc with fired := mset (fun _ => 0) s1.svc.fired i n } }
      if 4096 ≤ s2.svc.fifo.length || s2.svc.outstanding.contains i then timerSkip s2
      else { s2 with svc := { s2.svc with fifo := s2.svc.fifo ++ [(i, e, n)] } }

/-- The PRV of a timer head (R322). -/
def timerPrv (s : State) (i e n : Nat) : Bytes :=
  let ctx := tCtx e
  let z (k : Nat) : Bytes := List.replicate k 0
  z 2 ++ leBytes 1 (tProfile e) ++ leBytes 1 (curEpoch s) ++ leBytes 2 0x1FE ++ z 10 ++ [1] ++ z 1 ++ leBytes 2 68 ++ z 4 ++
    leBytes 4 i ++ leBytes 2 (ctx % 65536) ++ leBytes 2 (ctx / 65536) ++ leBytes 4 s.time.now.sec ++ leBytes 2 n ++ z 18 ++
    leBytes 4 s.time.now.ns ++ z 4

/-- TIMER_INJECT (R321, R322): one head per 32 BCLK, while the timer dispatch queue has room; none in the FWD profile
(R317). -/
def timerInject (s : State) : State :=
  match s.svc.fifo with
  | [] => s
  | (i, e, n) :: rest =>
    if !svcOn s || 256 ≤ (dispQ s 36).length || now s < s.svc.lastAt + 64 then s
    else
      let head : Bytes := List.replicate 64 0
      let p : Pass := { passReset with src := 260, rxPort := 256, phase := .queued, raw := head, head := head, flen := 68,
                                       rxTime := s.time.now, prv := timerPrv s i e n, epoch := curEpoch s }
      let s1 := { s with svc := { s.svc with fifo := rest, lastAt := now s, outstanding := nsInsert s.svc.outstanding i } }
      let r := newPass p s1
      count pgRc cTmr_TMR_INJECTED
        (setDispQ 36 (dispQ r.2 36 ++ [r.1]) (enterFlight r.1 (curEpoch s) r.2))

/-! ### TMR_CMD (R319, R322) -/

/-- A timer entry that holds a reserved encoding of JITTER or PERIOD_US. -/
def timerIllegal (e : Nat) : Bool := tJitter e == 3 || tPeriod e < 1000 || 4000000000 < tPeriod e

/-- Ends a TMR_CMD command. -/
def tmrStatus (st : Nat) (s : State) : State := cmdStatus pgRc fTMR_CMD_STATUS st s

/-- TMR_READ: the entry and OUT. -/
def tmrRead (i : Nat) (s : State) : State :=
  let s1 := setDRegs (pa pgRc (offTMR_D 0)) (timerEntry s i) 2 s
  setRegB (pa pgRc offTMR_CMD) fTMR_CMD_OUT (s.svc.outstanding.contains i) (tmrStatus stOk s1)

/-- Writes a timer entry: an entry whose EN becomes 1 starts, one whose EN becomes 0 stops, another takes effect at its
next firing (R320). -/
def setTimer (i e : Nat) (s : State) : State :=
  let was := tEn (timerEntry s i)
  let s1 := { s with svc := { s.svc with entry := mset (fun _ => 0) s.svc.entry i e } }
  if !tEn e then timerStop i s1 else if !was && svcOn s1 then timerStart i s1 else s1

/-- TMR_WRITE; the reserved bit 31 of the data is ignored (R7). -/
def tmrWrite (i : Nat) (s : State) : State :=
  let e := natSetBit (dRegs s (pa pgRc (offTMR_D 0)) 2) 31 false
  if timerIllegal e then tmrStatus stEncoding s else tmrStatus stOk (setTimer i e s)

/-- Source 4 of page 0x061: an uncorrectable timer entry is disabled and counted (R322). -/
def timerLost (i : Nat) (s : State) : State :=
  raiseIrq pgRc 0 (count pgRc cTmr_TMR_LOST (setTimer i (natSetBit (timerEntry s i) 0 false) s))

/-! ### WHEEL_RELEASE (R289, R290) -/

/-- WHEEL_RELEASE (R290): up to four entries of the slots reached in one BCLK, releases before transfers. -/
def wheelRelease (s : State) : State :=
  forAll wheelOne ((wheelDue s false ++ wheelDue s true).take 4) s

/-! ### Passes of the SVC image -/

/-- A pass whose reserved thread starts at a routine of the image: its number and record. In the FWD profile the heads
already injected still run to their end (R317). Its commit needs room in the crossings for 2 cells, 8 updates and 2 notices
(log entry 15, DESIGN CHOICE). -/
def svcPass (s : State) (t prof : Nat) : Option (Nat × Pass) :=
  let th := thread s t
  if th.st ≠ .reserved || safe s || !commitRoom s (thGrove t) 2 8 2 then none
  else match pass? s th.pass with
    | none => none
    | some p =>
      if p.phase == .ready && (byteAt p.prv 2).toNat == prof && (svcOn s || p.src == 260) then some (th.pass, p) else none

/-- A service counter (R334): one packet and FRAME_LEN bytes. -/
def svcCount (k : Nat) (p : Pass) (s : State) : State := pairAdd (0x75FE0 + k) 1 (passLen p) s

/-- A service event as a MARK notice of table 63 (R323). -/
def svcEvent (p : Pass) (ctx service code detail : Nat) : Nat :=
  notice 2 63 (2 ^ (p.epoch % 2)) (leAt p.prv 4 2 % 512)
    (ctx % 2 ^ 20 + service * 2 ^ 20 + code * 2 ^ 24 + detail % 2 ^ 32 * 2 ^ 32 + leAt p.prv 56 4 * 2 ^ 64)

/-- A service pass has reached its commit: its thread is handed off, the record its walk made is DONE with the image's w30 and
w31, which are free values (R112; log entry 139, DESIGN CHOICE), and the mirrors of its frame are taken (R269). -/
def svcEnd (t k dispo : Nat) (s : State) : State :=
  let s1 := count (grvPage (thGrove t)) cGrv_PASSES (handOff t (noteCommit (thGrove t) 2 8 2 s))
  match pass? s1 k with
  | none => s1
  | some p =>
    let s2 := if p.fragRec.isNone then s1
      else fragDone p dispo (freeNow s1 % 2 ^ 32) (Config.freeValue (s1.freeCtr + 1) % 2 ^ 32) (freeNext (freeNext s1))
    rxMirrors k p dispo (entryReserved p) (passClass k p (dClass dispo) s2)

/-- Ends a service pass that sends nothing: its packet is dropped at commit, its notices enter in order (R222). -/
def svcDrop (t k : Nat) (notices : List Nat) (s : State) : State := dropCommitted k notices (svcEnd t k 4 s)

/-- The disposition of a forwarding word (R220, R221). -/
def fwDispo (fw : Nat) : Nat :=
  (if fwMc fw then 2 else 1) + fwClass fw * 8 + fwDest fw * 2 ^ 8 + fwQueue fw * 2 ^ 24

/-- Ends a service pass that sends a frame: `frame` becomes the packet's edited head, before as much of its received body
as `body` says, and goes where the forwarding word says. -/
def svcSend (t k fw : Nat) (frame : Bytes) (body : List Seg) (notices : List Nat) (s : State) : State :=
  match pass? s k with
  | none => s
  | some p =>
    let dispo := fwDispo fw
    let s1 := svcEnd t k dispo s
    if p.bad then dropCommitted k notices s1
    else match cellsReq (32 + p.grove % 32) (entryReserved p) p.rxPort (dClass dispo) (headCellsFor frame.length) [] s1 with
    | (got, s2, some g) => dropCommitted k notices (countRefusal g p.rxPort (frameLenOf k p) (dropRefs got s2))
    | (got, s2, none) =>
      let kept := segCells body
      let s3 := writeChain got (headerBytes p ((frame.length : Int) - p.head.length) dispo 0 (0, 0) ++ frame) s2
      let s4 := fcUpdateCells got s3
      let s5 := updPass k (fun (q : Pass) => { q with segs := body })
        (dropRefs ((passCells p).filter (fun c => !kept.contains c)) s4)
      toReorder k ⟨got, frame.length, body, dispo, got.length + kept.length, notices, false⟩ s5

/-- The 64 bytes of a block of four contexts. -/
def block (s : State) (c : Nat) : Bytes := (List.range 4).flatMap (fun i => leBytes 16 (context s (c + i)))

/-- Writes a block of four contexts. -/
def setBlock (c : Nat) (b : Bytes) (s : State) : State :=
  forAll (fun i => setContext (c + i) (leAt b (16 * i) 16)) (List.range 4) s

/-- The contexts of a block. -/
def blockCtxs (c : Nat) : List Nat := (List.range 4).map (fun i => c + i)

/-- Whether no pass holds or awaits a context of a block (R218). -/
def blockFree (s : State) (c : Nat) : Bool :=
  (blockCtxs c).all (fun i => (mfind s.ctx.lock i).isNone && (mget (fun _ => []) s.ctx.wait i).isEmpty)

/-- A service pass works on a block under the locks of its contexts (R218, R333; log entry 112, DEDUCED): at once where
nobody holds or awaits one;
else it takes them from younger passes or waits for older ones, and works when it holds all four. -/
def svcTake (k c : Nat) (body : State → State) (s : State) : State :=
  if blockFree s c then body s
  else
    let s1 := forAll (lockCtx k) (blockCtxs c) s
    if (blockCtxs c).all (holdsLock s1 k) then body (releaseLocks k s1) else s1

/-- The pass on thread t reads its block, then works. A read that is UNCORRECTABLE abandons it (R131, R224, R230); `bad` says
which reads are (log entry 12, DESIGN CHOICE). -/
def svcRead (t : Nat) (bad : List Bool) (work : State → State) (s : State) : State :=
  if bad.any id then abandon t causeLookup 0 0 s else work s

/-! ### BFD (R324 to R327) -/

/-- State, diagnostic, poll pending and remote state of a BFD block. -/
def bfdState (b : Bytes) : Nat := (byteAt b 8).toNat % 4
def bfdDiag (b : Bytes) : Nat := (byteAt b 8).toNat / 4 % 32
def bfdPoll (b : Bytes) : Bool := (byteAt b 8).toNat.testBit 7
def bfdRemote (b : Bytes) : Nat := (byteAt b 9).toNat % 4

/-- Byte 8 of a BFD block. -/
def bfdByte8 (st diag : Nat) (poll : Bool) : Bytes := [BitVec.ofNat 8 (st + diag * 4 + if poll then 128 else 0)]

/-- A BFD control packet of a block (RFC 5880). -/
def bfdPacket (b : Bytes) (poll final : Bool) : Bytes :=
  [BitVec.ofNat 8 (32 + bfdDiag b),
   BitVec.ofNat 8 (bfdState b * 64 + (if poll then 32 else 0) + (if final then 16 else 0)), byteAt b 10, 24] ++
    beBytes 4 (leAt b 0 4) ++ beBytes 4 (leAt b 4 4) ++ beBytes 4 (leAt b 28 4) ++ beBytes 4 (leAt b 32 4) ++ beBytes 4 0

/-- A BFD packet behind the first `n` bytes of the session's encapsulation template. -/
def bfdFrame (s : State) (b : Bytes) (n : Nat) (poll final : Bool) : Bytes :=
  (encap s (leAt b 22 2 % 4096)).take n ++ bfdPacket b poll final

/-- Detail of a BFD state change (R323). -/
def bfdDetail (b : Bytes) : Nat := bfdState b + bfdDiag b * 4 + bfdRemote b * 256

/-- The tick of a BFD block at c (R326). `n` is how many template bytes the image sends before the control packet. -/
def bfdWork (t k c n : Nat) (p : Pass) (s : State) : State :=
  let b0 := block s c
  let miss := (leAt b0 20 2 + 1) % 65536
  let b1 := overwrite b0 20 (leBytes 2 miss)
  let down := (bfdState b1 == 2 || bfdState b1 == 3) && decide (leAt b1 18 2 ≤ miss)
  let b2 := if down then overwrite b1 8 (bfdByte8 1 1 (bfdPoll b1)) else b1
  let cnt := (leAt b2 16 2 + 1) % 65536
  let div := if bfdState b2 = 3 then leAt b2 12 2 else leAt b2 14 2
  let send := decide (div ≤ cnt)
  let b3 := overwrite b2 16 (leBytes 2 (if send then 0 else cnt))
  let ev := if down then [svcEvent p c 1 0x01 (bfdDetail b3)] else []
  let s1 := svcCount 14 p (setBlock c b3 s)
  let s2 := if down then svcCount 13 p s1 else s1
  if send then svcSend t k (leAt b3 24 4) (bfdFrame s2 b3 n (bfdPoll b3) false) [] ev (svcCount 0 p s2)
  else svcDrop t k ev s2

/-- BFD_TICK (R326): the timer pass on thread t runs the tick of its block; `b.n` template bytes precede a control packet. -/
def bfdTick (t : Nat) (b : BfdRead) (s : State) : State :=
  match svcPass s t 0xF0 with
  | none => s
  | some (k, p) => 
    svcTake k (leAt p.prv 28 4 % 2 ^ 20) (svcRead t [b.ecc] (bfdWork t k (leAt p.prv 28 4 % 2 ^ 20) b.n p)) s

/-- The RFC 5880 state machine: new state and diagnostic after a packet of state `r`. -/
def bfdNext (st diag r : Nat) : Nat × Nat :=
  match st, r with
  | 0, _ => (0, diag)
  | 1, 0 => (1, diag)
  | _, 0 => (1, 3)
  | 1, 1 => (2, diag)
  | 1, 2 => (3, diag)
  | 1, _ => (1, diag)
  | 2, 1 => (2, diag)
  | 2, _ => (3, diag)
  | _, 1 => (1, 3)
  | _, _ => (3, diag)

/-- Whether a received control packet passes the checks of R327 for a block (log entry 48, DEDUCED). -/
def bfdValid (b pkt : Bytes) : Bool :=
  (byteAt pkt 0).toNat / 32 == 1 && 24 ≤ (byteAt pkt 3).toNat && (byteAt pkt 3).toNat ≤ pkt.length && byteAt pkt 2 != 0 &&
  beAt pkt 4 4 != 0 && !(byteAt pkt 1).toNat.testBit 2 && beAt pkt 8 4 == leAt b 0 4 && beAt pkt 8 4 != 0

/-- Reception of the control packet `pkt` for the block at c (R327); `n` template bytes precede an answer. -/
def bfdHear (t k c n : Nat) (pkt : Bytes) (p : Pass) (s : State) : State :=
  let b0 := block s c
  if !bfdValid b0 pkt then svcDrop t k [] (svcCount 2 p s)
  else
    let r := (byteAt pkt 1).toNat / 64
    let final := (byteAt pkt 1).toNat.testBit 4
    let nx := bfdNext (bfdState b0) (bfdDiag b0) r
    let poll := bfdPoll b0 && !final
    let b1 := overwrite (overwrite b0 20 (leBytes 2 0)) 4 (leBytes 4 (beAt pkt 4 4))
    let b2 := overwrite b1 8 (bfdByte8 nx.1 nx.2 poll ++ [BitVec.ofNat 8 ((byteAt b1 9).toNat / 4 * 4 + r)])
    let ev1 := if nx.1 ≠ bfdState b0 then [svcEvent p c 1 0x01 (bfdDetail b2)] else []
    let ev2 := if final then [svcEvent p c 1 0x02 0] else []
    let s1 := svcCount 1 p (setBlock c b2 s)
    let s2 := forAll (fun _ s => svcCount 13 p s) (ev1 ++ ev2) s1
    if (byteAt pkt 1).toNat.testBit 5 then
      svcSend t k (leAt b2 24 4) (bfdFrame s2 b2 n false true) [] (ev1 ++ ev2) (svcCount 0 p s2)
    else svcDrop t k (ev1 ++ ev2) s2

/-- BFD_RECEIVE (R327): the pass on thread t holds a control packet at byte `off` of its head. -/
def bfdReceive (t off : Nat) (b : BfdRead) (s : State) : State :=
  match svcPass s t 0xF1 with
  | none => s
  | some (k, p) =>
    let pkt := p.head.drop off
    let c := 0xC0000 + 4 * (beAt pkt 8 4 % 65536)
    svcTake k c (svcRead t [b.ecc] (bfdHear t k c b.n pkt p)) s

end Sys2Proof.Machine
end

