-- ==== Sys2Proof/Machine/RwSend.lean ====
section
/-!
DEFINITION. Rootway messages on their way out (R336 to R344, R352, R353): message headers, frames, the sequence of a link,
routing, the receive ring.
-/

namespace Sys2Proof.Machine
open Sys2Proof

/-! ### Message headers (R338, R339) -/

/-- Message types. -/
abbrev mtDiscover : Nat := 1
abbrev mtAssignId : Nat := 2
abbrev mtRegWrite : Nat := 3
abbrev mtRegRead : Nat := 4
abbrev mtRegResp : Nat := 5
abbrev mtTableOp : Nat := 6
abbrev mtEvent : Nat := 7
abbrev mtEpochArm : Nat := 8
abbrev mtEpochAck : Nat := 9
abbrev mtHeartbeat : Nat := 10
abbrev mtImageChunk : Nat := 11

/-- Fields of a message. -/
def mType (m : Bytes) : Nat := (byteAt m 0).toNat % 16
def mVersion (m : Bytes) : Nat := (byteAt m 0).toNat / 16
def mAckv (m : Bytes) : Bool := (byteAt m 1).toNat.testBit 0
def mHopLocal (m : Bytes) : Bool := (byteAt m 1).toNat.testBit 1
def mSeq (m : Bytes) : Nat := beAt m 2 2
def mAck (m : Bytes) : Nat := beAt m 4 2
def mDst (m : Bytes) : Nat := beAt m 6 2 % 4096
def mSrc (m : Bytes) : Nat := beAt m 8 2 % 4096
def mTag (m : Bytes) : Nat := beAt m 10 2
def mLen (m : Bytes) : Nat := beAt m 12 2 % 2048
def mHops (m : Bytes) : Nat := beAt m 14 2 % 4096
def mPay (m : Bytes) : Bytes := slice m 16 (mLen m)

/-- A message with SEQ and ACK still to be filled in. -/
def mkMsg (ty dst src tag hops : Nat) (pay : Bytes) : Bytes :=
  [BitVec.ofNat 8 (16 + ty), 0] ++ beBytes 2 0 ++ beBytes 2 0 ++ beBytes 2 dst ++ beBytes 2 src ++ beBytes 2 tag ++
    beBytes 2 pay.length ++ beBytes 2 hops ++ pay

/-- The message with its hop count replaced. -/
def withHops (h : Nat) (m : Bytes) : Bytes := overwrite m 14 (beBytes 2 h)

/-- The message for the link partner only. -/
def hopLocal (m : Bytes) : Bytes := overwrite m 1 [2]

/-- The message as one link sends it: SEQ, ACKV and ACK of the link, its HOPLOCAL as it is (R338, R340). -/
def withSeq (seq ack : Nat) (m : Bytes) : Bytes :=
  overwrite m 1 ([if mHopLocal m then 3 else 1] ++ beBytes 2 seq ++ beBytes 2 ack)

/-- This device's id and mode (R335). -/
def ownId (s : State) : Nat := regF s (pa pgRw offRW_ID) fRW_ID_ID
def isCanopy (s : State) : Bool := regF s (pa pgRw offRW_ID) fRW_ID_MODE == 1
def isUnder (s : State) : Bool := regF s (pa pgRw offRW_ID) fRW_ID_MODE == 2
def rwFull (s : State) : Bool := isCanopy s || isUnder s

/-! ### Frames (R337, R342, R353) -/

/-- A Rootway frame without FCS. -/
def rwFrameBytes (s : State) (l : Nat) (m : Bytes) : Bytes :=
  [0x03, 0x50, 0x48, 0x00, 0x00, 0x02, 0x02, 0x50, 0x48, 0x00] ++ beBytes 2 l ++
    beBytes 2 (liveF s (pa pgRw offRW_CFG) fRW_CFG_ETYPE) ++ m

/-- Queues a frame on B-port l: reserved cells of requester 65 in RXC(259), queue RW_CFG.QUEUE; a frame that finds no
cell or that admission refuses is not sent (R342). -/
def rwQueue (l : Nat) (f : Bytes) (s : State) : State :=
  let k := liveF s (pa pgRw offRW_CFG) fRW_CFG_QUEUE
  let q := globalQueue s l k
  let cls := nClass (node s (nodeKey 0 q))
  let head := f.take 256
  let body := f.drop 256
  let nh := headCellsFor head.length
  let nb := (body.length + 255) / 256
  match cellsReq 65 true 259 cls (nh + nb) [] s with
  | (got, s1, some g) => countRefusal g 259 (wholeLen (f.length + 4)) (dropRefs got s1)
  | (got, s1, none) =>
    let p : Pass := { passReset with src := 259, rxPort := 259, head := head, flen := f.length + 4,
                                     prv := overwrite (List.replicate 64 0) 18 (leBytes 2 (f.length + 4)) }
    let hs := got.take nh
    let bs := got.drop nh
    let s2 := writeChain bs body (writeChain hs (headerBytes p 0 0 0 (0, 0) ++ head) s1)
    let d : Desc :=
      { headCells := hs, headLen := head.length, segs := bodySegs bs body.length, len := f.length, cells := nh + nb,
        port := l, cls := cls, queue := q, held := false, mirror := none, ct := false, broken := false, rxPass := none,
        pkt := s2.disp.nextPass, group := 0, l3end := 0, rootway := true }
    let s3 := { s2 with disp := { s2.disp with nextPass := s2.disp.nextPass + 1 } }
    dropRefs got (enqueueUni (curEpoch s3) (wholeLen (f.length + 4)) k d s3)

/-- A frame of the virtual link enters as a head on port 259 (R353), padded to 64 bytes with its FCS (R337). -/
def rwHead (f0 : Bytes) (s : State) : State :=
  let f := padTo (Nat.max 60 f0.length) f0
  let body := f.drop 256
  match bodyCells 65 true 259 8 ((body.length + 255) / 256) [] s with
  | (got, s1, why + 1) => countBody (why + 1) 259 (wholeLen (f.length + 4)) (dropRefs got s1)
  | (got, s1, 0) =>
    (newPass { passReset with src := 259, rxPort := 259, raw := f.take 256, segs := bodySegs got body.length,
                              flen := f.length + 4, rxTime := s.time.now } (writeChain got body s1)).2

/-- A frame of the virtual link waits while X10 holds 32 heads of port 259 (R17). -/
def rwVirtual (f : Bytes) (s : State) : State :=
  if s.rw.vwait.isEmpty && decide (headsWaiting s 259 < 32) then rwHead f s
  else { s with rw := { s.rw with vwait := s.rw.vwait ++ [f] } }

/-- A head of port 259 has left X10: a frame that waits for its place enters (R17). -/
def rwVirtualNext (s : State) : State :=
  match s.rw.vwait with
  | [] => s
  | f :: fs => if headsWaiting s 259 < 32 then rwHead f { s with rw := { s.rw with vwait := fs } } else s

/-- Sends one frame of a link (log entry 54, DEDUCED). -/
def rwXmit (l : Nat) (m : Bytes) (s : State) : State :=
  let f := rwFrameBytes s l m
  if l = 259 then rwVirtual f s else rwQueue l f s

/-! ### The sequence of a link (R340) -/

/-- Whether l is a Rootway link now (R336, R353). -/
def rwIsLink (s : State) (l : Nat) : Bool :=
  if l = 259 then liveB s (pa pgRw offRW_VLINK) fRW_VLINK_EN else isRwLink s l

/-- The Rootway links. -/
def rwLinks (s : State) : List Nat := ((List.range 128).map (fun i => 128 + i) ++ [259]).filter (rwIsLink s)

/-- Messages buffered device-wide, of 512 (R340). -/
def rwBuffered (s : State) : Nat :=
  (s.rw.link.map (fun e => e.2.unacked.length + e.2.backlog.length)).sum + s.rw.todo.length

/-- Discards message i of the links' buffers, of each link the unacknowledged ones first (log entry 113, DESIGN CHOICE). -/
def rwLinkLost : List (Nat × RwLink) → Nat → State → State
  | [], _, s => s
  | (l, k) :: ls, i, s =>
    let n := k.unacked.length
    if i < n then count pgRw cRw_RW_LOST (setRwLink l { k with unacked := k.unacked.eraseIdx i } s)
    else if i < n + k.backlog.length then
      count pgRw cRw_RW_LOST (setRwLink l { k with backlog := k.backlog.eraseIdx (i - n) } s)
    else rwLinkLost ls (i - n - k.backlog.length) s

/-- An uncorrectable error in message buffer i: the message is discarded and counted RW_LOST (R361). Buffers are numbered over
the messages waiting to be handled, then those of the links. -/
def rwBufferLost (i : Nat) (s : State) : State :=
  if i < s.rw.todo.length then count pgRw cRw_RW_LOST { s with rw := { s.rw with todo := s.rw.todo.eraseIdx i } }
  else rwLinkLost s.rw.link (i - s.rw.todo.length) s

/-- Sends waiting messages of a link while fewer than 64 frames are unacknowledged. -/
def rwPump (l : Nat) : Nat → State → State
  | 0, s => s
  | n + 1, s =>
    let k := rwLink s l
    match k.backlog with
    | [] => s
    | m :: rest =>
      if 64 ≤ k.unacked.length then s
      else
        let seq := (k.txSeq + 1) % 65536
        let k1 := { k with txSeq := seq, backlog := rest, ackDue := false, unacked := k.unacked ++ [⟨seq, m, now s⟩] }
        rwPump l n (rwXmit l (withSeq seq k.rxSeq m) (count pgRw cRw_RW_TX (setRwLink l k1 s)))

/-- Sends a message on a link; a Rootway-down link loses it. -/
def rwSend (l : Nat) (m : Bytes) (s : State) : State :=
  let k := rwLink s l
  if !rwIsLink s l || !k.up then count pgRw cRw_RW_LOST s
  else rwPump l 64 (setRwLink l { k with backlog := k.backlog ++ [m] } s)

/-! ### Routing (R343, R344, R346) -/

/-- The upstream link. -/
def rwUpstream (s : State) : Option Nat :=
  if regB s (pa pgRw offRW_UP) fRW_UP_VALID then some (regF s (pa pgRw offRW_UP) fRW_UP_PORT) else none

/-- The downstream links: their partners use them as upstream. -/
def rwDown (s : State) : List Nat := (rwLinks s).filter (fun l => (rwLink s l).peerUp && (rwLink s l).up)

/-- Whether the device is an orphan. -/
def rwOrphan (s : State) : Bool := regB s (pa pgRw offRW_ID) fRW_ID_ORPHAN

/-- A message toward id 1 that cannot go (R346). -/
def rwNoWay (m : Bytes) (s : State) : State :=
  count pgRw (if mType m = mtEvent then cRw_RW_EVT_DROP else cRw_RW_NOROUTE) s

/-- Sends a message on every link of a list but the one it came on. -/
def rwFlood (links : List Nat) (src : Option Nat) (m : Bytes) (s : State) : State :=
  forAll (fun l s => if src = some l then s else rwSend l m s) links s

/-- Sends a message toward its destination (R344): one whose way is not known goes out on every downstream link. Nothing but link
HEARTBEATs leaves a Standalone device (R335). -/
def rwToward (m : Bytes) (s : State) : State :=
  let dst := mDst m
  if !rwFull s then s
  else if dst = 4095 then rwFlood (rwDown s) none m s
  else if dst = 1 then
    if rwOrphan s then rwNoWay m s
    else match rwUpstream s with
      | some l => rwSend l m s
      | none => rwNoWay m s
  else match mfind s.rw.route dst with
    | some l => rwSend l m s
    | none => if (rwDown s).isEmpty then count pgRw cRw_RW_NOROUTE s else rwFlood (rwDown s) none m s

/-! ### The receive ring (R352) -/

/-- A byte of Sapwood shared memory; it reads 0 until written (log entry 3, DESIGN CHOICE). -/
def sapByte (s : State) (a : Nat) : Byte := mget (fun _ => 0) s.sap.mem a

/-- Writes bytes into Sapwood shared memory; beyond its 6,784 KB nothing is written (R364). -/
def sapWrite (a : Nat) : Bytes → State → State
  | [], s => s
  | b :: bs, s =>
    sapWrite (a + 1) bs
      (if a < 6784 * 1024 then { s with sap := { s.sap with mem := mset (fun _ => 0) s.sap.mem a b } } else s)

/-- Whether a Sapwood core may write a byte of the shared memory (R364): the data region, and the staging area while
Heartwood does not hold it. -/
def coreMay (s : State) (a : Nat) : Bool :=
  0x200000 ≤ a && (a < 0x4A0000 || (a < 0x6A0000 && s.hw.hold.isNone))

/-- A write of Sapwood core n to the shared memory (R364): a refused one takes no effect and raises a bus-error exception in
that core. Answers whether it was taken. -/
def sapStore (n a : Nat) (bs : Bytes) (s : State) : Bool × State :=
  if (List.range bs.length).all (fun i => coreMay s (a + i)) then (true, sapWrite a bs s)
  else (false, setCore n { core s n with busErr := true } s)

/-- `n` bytes of Sapwood shared memory. -/
def sapRead (s : State) (a n : Nat) : Bytes := (List.range n).map (fun i => sapByte s (a + i))

/-- Slot address of a ring position. -/
def ringSlot (s : State) (offCfg : Nat) (fBase fLog : Fld) (pos : Nat) : Nat :=
  liveF s (pa pgRw offCfg) fBase * 2048 + pos % 2 ^ liveF s (pa pgRw offCfg) fLog * 2048

/-- Messages waiting in the receive ring. -/
def rxrFill (s : State) : Nat :=
  (regF s (pa pgRw offRW_RXR_TAIL) fRW_RXR_TAIL_POS + 65536 - regF s (pa pgRw offRW_RXR_HEAD) fRW_RXR_HEAD_POS) % 65536

/-- Whether the receive ring is full. -/
def rxrFull (s : State) : Bool := 2 ^ liveF s (pa pgRw offRW_RXR_CFG) fRW_RXR_CFG_LOG2 ≤ rxrFill s

/-- Writes a message into the receive ring and raises TAIL and IRQ_STS bit 0. -/
def rxrPut (m : Bytes) (s : State) : State :=
  let t := regF s (pa pgRw offRW_RXR_TAIL) fRW_RXR_TAIL_POS
  let s1 := sapWrite (ringSlot s offRW_RXR_CFG fRW_RXR_CFG_BASE fRW_RXR_CFG_LOG2 t) m s
  raiseIrq pgRw 0 (setRegF (pa pgRw offRW_RXR_TAIL) fRW_RXR_TAIL_POS ((t + 1) % 65536) s1)

/-- A message accepted for this device waits to be handled (R344). -/
def rwTodo (l : Nat) (m : Bytes) (s : State) : State := { s with rw := { s.rw with todo := s.rw.todo ++ [(l, m)] } }

/-- Sends a message that this device originates; one to itself is handled here, and a broadcast is handled here too (R344). -/
def rwOriginate (m : Bytes) (s : State) : State :=
  if !rwFull s then rwToward m s
  else if mDst m = ownId s then rwTodo 0 m s
  else if mDst m = 4095 then rwToward m (rwTodo 0 m s)
  else rwToward m s

/-- The answer to a message (R338, R347): to its originator, with its TAG. -/
def rwAnswer (ty src tag : Nat) (pay : Bytes) (s : State) : State :=
  rwOriginate (mkMsg ty src (ownId s) tag 0 pay) s

/-- A REG_RESP payload (R347). -/
def regResp (status reason off cnt ty : Nat) (data : Bytes) : Bytes :=
  [BitVec.ofNat 8 status, BitVec.ofNat 8 reason] ++ beBytes 2 off ++ [BitVec.ofNat 8 cnt, BitVec.ofNat 8 ty, 0, 0] ++ data

end Sys2Proof.Machine
end

