-- ==== Sys2Proof/Machine/Tae.lean ====
section
/-!
DEFINITION. The Table Access Engine (R49 to R59): its two queues, the indexed spaces, and the commands INSERT, DELETE, MODIFY,
SEARCH, WRITE, READ, READ_CLEAR, SET_MEMB, FENCE, TAE_HSQ_TAIL, TAE_HCQ_HEAD, SHIFT_MOVE and FIRMWARE_LEARN.
-/

namespace Sys2Proof.Machine
open Sys2Proof

/-! ### The command header (R49, R50) -/

/-- Dword i of a command. -/
def tcWord (c : Bytes) (i : Nat) : Nat := leAt c (4 * i) 4
def tcOp (c : Bytes) : Nat := natField (tcWord c 0) 7 0
def tcSpace (c : Bytes) : Nat := natField (tcWord c 0) 15 8
def tcTable (c : Bytes) : Nat := natField (tcWord c 0) 21 16
def tcMemb (c : Bytes) : Nat := natField (tcWord c 0) 23 22
def tcRank (c : Bytes) : Nat := natField (tcWord c 0) 29 24
def tcIrq (c : Bytes) : Bool := (tcWord c 0).testBit 30
def tcTag (c : Bytes) : Nat := tcWord c 1
def tcIndex (c : Bytes) : Nat := tcWord c 2
def tcLen (c : Bytes) : Nat := natField (tcWord c 3) 6 0
def tcData (c : Bytes) : Bytes := slice c 32 96

/-- Opcodes. -/
abbrev opInsert : Nat := 1
abbrev opDelete : Nat := 2
abbrev opModify : Nat := 3
abbrev opSearch : Nat := 4
abbrev opWrite : Nat := 5
abbrev opRead : Nat := 6
abbrev opReadClear : Nat := 7
abbrev opSetMemb : Nat := 8
abbrev opFence : Nat := 9

/-- Whether a space accepts an opcode (R50). -/
def taeAccepts (op sp : Nat) : Bool :=
  if op = opReadClear then sp == 3
  else if op = opFence then sp == 0
  else if op = opWrite then 1 ≤ sp && sp ≤ 9
  else if op = opRead then 1 ≤ sp && sp ≤ 10
  else 1 ≤ op && op ≤ opSetMemb && (sp == 1 || sp == 2)

/-- Whether the header of a command is well formed: no reserved value, no reserved bit, LEN at most 96 (R49, R50). -/
def taeFormatOk (c : Bytes) : Bool :=
  taeAccepts (tcOp c) (tcSpace c) && !(tcWord c 0).testBit 31 && decide (tcWord c 3 < 128) && tcLen c ≤ 96 &&
  tcWord c 4 == 0 && tcWord c 5 == 0 && tcWord c 6 == 0 && tcWord c 7 == 0

/-- A command as bytes. -/
def mkTaeCmdAt (op sp table memb tag index len : Nat) (data : Bytes) : Bytes :=
  leBytes 4 (op + sp * 256 + table % 64 * 65536 + memb % 4 * 2 ^ 22) ++ leBytes 4 tag ++ leBytes 4 index ++
    leBytes 4 len ++ List.replicate 16 0 ++ padTo 96 data

/-- A keyed command as bytes. -/
def mkTaeCmd (op sp table memb tag len : Nat) (data : Bytes) : Bytes := mkTaeCmdAt op sp table memb tag 0 len data

/-! ### The indexed spaces (R50, R53) -/

/-- Entries of an indexed space. -/
def spaceSize (sp : Nat) : Nat :=
  match sp with
  | 3 => 524288
  | 4 => 262144
  | 5 => 1048576
  | 6 => 16384
  | 7 => 4096
  | 8 => 4096
  | 9 => 576
  | 10 => 8192
  | _ => 0

/-- LEN of the entry at an index. -/
def spaceLen (sp i : Nat) : Nat :=
  match sp with
  | 3 => 16
  | 4 => 32
  | 5 => 16
  | 6 => 64
  | 7 => 64
  | 8 => 8
  | 9 => if i < 512 then 4 else 32
  | _ => 64

/-- Whether an entry to be written holds a reserved encoding or bit (R53). -/
def spaceIllegal (sp i v : Nat) : Bool :=
  match sp with
  | 4 => polIllegal v
  | 6 => v.testBit 259 || natField v 511 262 != 0
  | 8 => transIllegal v
  | 9 => if i < 512 then decide (2 ^ 13 ≤ v) else !templateLegal v
  | _ => false

/-- The entry at an index. -/
def spaceRead (s : State) (sp i : Nat) : Nat :=
  match sp with
  | 3 => mget (fun _ => 0) s.store.pairs i
  | 4 => policer s i
  | 5 => context s i
  | 6 => mcGroup s i
  | 7 => mget (fun _ => 0) s.store.encap i
  | 8 => transEntry s i
  | 9 => if i < 512 then dispEntry s i else template s (i - 512)
  | _ => (mfind s.pgu.frag i).getD 0

/-- Writes a dispatch entry or a key template (R177). -/
def setDisp (i v : Nat) (s : State) : State :=
  if i < 512 then { s with grv := { s.grv with disp := mset (dispReset s) s.grv.disp i v } }
  else { s with grv := { s.grv with tmpl := mset (tmplReset s) s.grv.tmpl (i - 512) v } }

/-- Writes a multicast group. -/
def setMcGroup (i v : Nat) (s : State) : State :=
  { s with store := { s.store with mcg := mset (fun _ => 0) s.store.mcg i v, mcgBad := nsErase s.store.mcgBad i } }

/-- Writes an encapsulation template. -/
def setEncap (i v : Nat) (s : State) : State :=
  { s with store := { s.store with encap := mset (fun _ => 0) s.store.encap i v } }

/-- Writes the entry at an index in one row write (R56). -/
def spaceWrite (sp i v : Nat) (s : State) : State :=
  match sp with
  | 3 => setPair i (v % 2 ^ 64) (v / 2 ^ 64) s
  | 4 => polWrite i v s
  | 5 => setContext i v s
  | 6 => setMcGroup i v s
  | 7 => setEncap i v s
  | 8 => setTrans i v s
  | 9 => setDisp i v s
  | _ => s

/-- What a store does with an uncorrectable error that a TAE command meets in the entry read (R51; log entry 12, DESIGN CHOICE);
counter pairs, the context store and encapsulation templates have no source of their own and report on none
(log entry 35, DEDUCED). -/
def spaceError (sp t i : Nat) (s : State) : State :=
  match sp with
  | 1 =>
    if emtIsOvf s t i then capture pgEmt 5 clsUC false 0 (emtOvfLost (emtOvfSlot s t i) s)
    else
      let q := emtQuarter s t (i / 4) (i % 4) 0
      capture pgEmt 1 clsUC false (resId 2 (8192 * (q / 32768) + q / 4 % 8192)) (emtRowLost (q / 32768) (q / 4 % 8192) true s)
  | 2 =>
    let r := thkRowKey s t 0 i
    thkRowError (r / 2048) (r % 2048) false s
  | 4 => polLost i false s
  | 6 => capture pgMc 1 clsUC false (resId 6 (65536 * 4 + i / 4)) s
  | 8 => capture pgPgu 3 clsUC false 0 s
  | 9 => capture (grvPage 0) 11 clsUC false 0 s
  | 10 => capture pgPgu 5 clsUC false (resId 6 (65536 * 5 + i / 4)) (fragRemove i s)
  | _ => s

/-- A completion that returns the entry of an indexed space. -/
def spaceReturn (sp i v : Nat) : TaeRes :=
  ⟨tsOk, i, false, false, 0, spaceLen sp i, leBytes (spaceLen sp i) v⟩

/-- A WRITE, READ or READ_CLEAR of an indexed space (R53, R56): none while it waits for a locked context (R218). A command
whose INDEX is out of range and whose LEN or entry is bad too completes with BAD_INDEX (log entry 103, DESIGN CHOICE). -/
def indexedCommand (op sp i len : Nat) (data : Bytes) (ecc : Bool) (s : State) : Option (State × TaeRes) :=
  if spaceSize sp ≤ i then some (s, resPlain tsBadIndex 0)
  else if op = opWrite then
    let v := leAt data 0 (spaceLen sp i)
    if len ≠ spaceLen sp i || spaceIllegal sp i v then some (s, resPlain tsBadFormat 0)
    else if sp = 5 && (mfind s.ctx.lock i).isSome then none
    else some (spaceWrite sp i v s, resPlain tsOk i)
  else if len ≠ 0 then some (s, resPlain tsBadFormat 0)
  else if ecc || (sp = 6 && s.store.mcgBad.contains i) || (sp = 8 && s.pgu.transBad.contains i) then
    some (spaceError sp 0 i s, resPlain tsUncorrectable i)
  else
    some (if op = opReadClear then setPair i 0 0 s else s, spaceReturn sp i (spaceRead s sp i))

/-! ### Queues (R54, R57) -/

/-- HEAD and TAIL of the host queue. -/
def hsqHead (s : State) : Nat := regF s (pa pgTae offTAE_HSQ_HEAD) fTAE_HSQ_HEAD_HEAD
def hsqTail (s : State) : Nat := regF s (pa pgTae offTAE_HSQ_TAIL) fTAE_HSQ_TAIL_TAIL

/-- Host commands waiting. -/
def hsqFill (s : State) : Nat := (hsqTail s + 512 - hsqHead s) % 512

/-- The bytes of a host slot. -/
def hostSlot (s : State) (k : Nat) : Bytes :=
  (List.range 128).map (fun i => mget (fun _ => 0) s.tae.sub (k % 256 * 128 + i))

/-- Whether the next completion slot of the host window is free (R54). -/
def hcqOpen (s : State) : Bool :=
  (s.tae.hostDone + 512 - regF s (pa pgTae offTAE_HCQ_HEAD) fTAE_HCQ_HEAD_HEAD) % 512 < 256

/-- Submission instant of the host command in a slot (R57). -/
def hostInstant (s : State) (k : Nat) : Nat := mget (fun _ => 0) s.tae.hostAt (k % 256)

/-- The next command of queue q, 0 host and 1 Sapwood; none while the one ahead of it is in execution (R59). -/
def taeNext (s : State) (q : Nat) : Option TaeCmd :=
  if (mfind s.tae.exec q).isSome || !enabled s pgTae || inReset s pgTae then none
  else if q = 0 then
    if hsqFill s = 0 || !hcqOpen s then none else some ⟨hostSlot s (hsqHead s), hostInstant s (hsqHead s)⟩
  else s.tae.sapQ.head?

/-- Takes the next command out of queue q. -/
def taeFetch (q : Nat) (s : State) : State :=
  if q = 0 then setRegF (pa pgTae offTAE_HSQ_HEAD) fTAE_HSQ_HEAD_HEAD ((hsqHead s + 1) % 512) s
  else { s with tae := { s.tae with sapQ := s.tae.sapQ.drop 1 } }

/-- Whether the command is a FENCE. -/
def isFence (c : TaeCmd) : Bool := tcOp c.bytes == opFence

/-- Whether a FENCE of queue q submitted at t0 has to wait for the other queue (R57). Of two FENCEs of one instant the
host's goes first (log entry 19, DESIGN CHOICE). -/
def fenceWaits (s : State) (q t0 : Nat) : Bool :=
  let other := 1 - q
  let early (c : TaeCmd) : Bool := decide (c.t0 < t0) || (c.t0 == t0 && !(q == 0 && isFence c))
  (match mfind s.tae.exec other with | some c => decide (c.t0 ≤ t0) | none => false) ||
  (if other = 0 then hsqFill s != 0 && early ⟨hostSlot s (hsqHead s), hostInstant s (hsqHead s)⟩
   else match s.tae.sapQ with | c :: _ => early c | [] => false)

/-! ### Completions (R51, R54, R58) -/

/-- The completion of a command at position k of its queue. (log entry 55, DEDUCED) (log entry 57, DEDUCED) -/
def completion (c : Bytes) (r : TaeRes) (k : Nat) : Bytes :=
  leBytes 4 (r.status % 256 + tcOp c * 256 + (if k % 512 < 256 then 2 ^ 31 else 0)) ++ leBytes 4 (tcTag c) ++
    leBytes 4 r.index ++
    leBytes 4 ((if r.evicted then 1 else 0) + (if r.overflow then 2 else 0) + r.memb % 4 * 4 + r.len % 128 * 16) ++
    List.replicate 16 0 ++ padTo 96 r.data

/-- Writes bytes into the host completion window (log entry 56, DEDUCED). -/
def compWrite (a : Nat) : Bytes → State → State
  | [], s => s
  | b :: bs, s => compWrite (a + 1) bs { s with tae := { s.tae with comp := mset (fun _ => 0) s.tae.comp a b } }

/-- The answer to a TABLE_OP whose command has position k (R349); on an Understory device the relay consumes the
completion (log entry 20, DEDUCED). -/
def tableAnswer (k : Nat) (comp : Bytes) (s : State) : State :=
  match s.rw.tables.find? (fun e => e.pos == k) with
  | none => s
  | some e =>
    let s1 := { s with rw := { s.rw with tables := s.rw.tables.filter (fun x => x.pos != k) } }
    let s2 := if isUnder s then setRegF (pa pgTae offTAE_HCQ_HEAD) fTAE_HCQ_HEAD_HEAD ((k + 1) % 512) s1 else s1
    rwAnswer mtRegResp e.src e.tag (regResp 0 0 0 0 mtTableOp comp) s2

/-- Completes a command of queue q. -/
def taeFinish (q : Nat) (c : Bytes) (r : TaeRes) (s : State) : State :=
  if q = 0 then
    let k := s.tae.hostDone
    let comp := completion c r k
    let s1 := compWrite (k % 256 * 128) comp { s with tae := { s.tae with hostDone := (k + 1) % 512 } }
    let s2 := if tcIrq c then raiseIrq pgTae 0 s1 else s1
    tableAnswer k comp s2
  else
    let k := s.tae.sapDone
    { s with tae := { s.tae with sapDone := (k + 1) % 512, sapC := s.tae.sapC ++ [completion c r k] } }

/-! ### Execution -/

/-- Whether an EMT operation finds its entry by key, reading the key's bucket (R50, R131). -/
def emtKeyed (op : Nat) : Bool := op ≤ 4 || op == 8

/-- An EMT command, with the error the store met in the row it read: an operation by key meets it in its bucket as a lookup
does, a READ in its entry (R51, R131, R146; log entry 12, DESIGN CHOICE). -/
def emtRun (c : Bytes) (ecc : Bool) (s : State) : ThkOut :=
  let t := tcTable c
  match emtCommand (tcOp c) t (tcMemb c) (tcIndex c) (tcLen c) (tcData c) s with
  | none => .wait
  | some (s1, r) =>
    if ecc && emtKeyed (tcOp c) && r.status ≠ tsBadFormat then
      .done (emtMeetsError t (emtKeyOf s t (tcData c)) 0 0 false s) (resPlain tsUncorrectable 0)
    else if ecc && !emtKeyed (tcOp c) && r.status = tsOk && r.len != 0 then
      .done (spaceError 1 t r.index s) (resPlain tsUncorrectable r.index)
    else .done s1 r

/-- A Thicket command, likewise. -/
def thkRun (c : Bytes) (ecc : Bool) (s : State) : ThkOut :=
  match thkCommand (tcOp c) (tcTable c) (tcMemb c) (tcRank c) (tcIndex c) (tcLen c) (tcData c) s with
  | .done s1 r =>
    if ecc && r.status = tsOk && r.len != 0 then
      .done (spaceError 2 (tcTable c) r.index s) (resPlain tsUncorrectable r.index)
    else .done s1 r
  | o => o

/-- Runs the command c of queue q. -/
def taeRun (q : Nat) (c : TaeCmd) (ecc : Bool) (s : State) : ThkOut :=
  let b := c.bytes
  if !taeFormatOk b then .done s (resPlain tsBadFormat 0)
  else if tcOp b = opFence then (if fenceWaits s q c.t0 then .wait else .done s (resPlain tsOk 0))
  else match tcSpace b with
    | 1 => emtRun b ecc s
    | 2 => thkRun b ecc s
    | sp => match indexedCommand (tcOp b) sp (tcIndex b) (tcLen b) (tcData b) ecc s with
      | none => .wait
      | some (s1, r) => .done s1 r

/-- The TAE takes the next command of queue q when its opcode is `op`, or when its opcode is reserved; `ecc` says that the
entry it reads holds an uncorrectable error (log entry 12, DESIGN CHOICE). -/
def taeCommand (op q : Nat) (ecc : Bool) (s : State) : State :=
  match taeNext s q with
  | none => s
  | some c =>
    let o := tcOp c.bytes
    if o ≠ op && 1 ≤ o && o ≤ opFence then s
    else match taeRun q c ecc s with
      | .wait => s
      | .done s1 r => taeFinish q c.bytes r (taeFetch q s1)
      | .started s1 =>
        let s2 := taeFetch q s1
        { s2 with tae := { s2.tae with exec := mput s2.tae.exec q c } }

/-- An insertion under way in a table whose ENABLE has gone to 0 ends, and its command completes with BAD_FORMAT (R152). -/
def shiftOff (t : Nat) (s : State) : State :=
  if thkOn s t || !thkShifting s t then s
  else
    let s1 := { s with thk := { s.thk with shifts := s.thk.shifts.filter (fun y => y.table != t) } }
    match s1.tae.exec.find? (fun e => tcSpace e.2.bytes == 2 && tcTable e.2.bytes == t) with
    | none => s1
    | some (q, cmd) =>
      taeFinish q cmd.bytes (resPlain tsBadFormat 0) { s1 with tae := { s1.tae with exec := mdel s1.tae.exec q } }

/-- SHIFT_MOVE (R58, R161, R162): one move or write of copy c of table t; the command that began the insertion completes
with it once it has committed. -/
def shiftStep (t c : Nat) (s : State) : State :=
  match shiftMove t c s with
  | (s1, none) => shiftOff t s1
  | (s1, some x) =>
    match s1.tae.exec.find? (fun e => tcSpace e.2.bytes == 2 && tcTable e.2.bytes == t) with
    | none => s1
    | some (q, cmd) =>
      taeFinish q cmd.bytes (resPlain tsOk x) { s1 with tae := { s1.tae with exec := mdel s1.tae.exec q } }

/-! ### Posting (R54, R57) -/

/-- Notes the submission instant of the host slots from k on. -/
def stampSlots (k : Nat) : Nat → State → State
  | 0, s => s
  | n + 1, s =>
    stampSlots (k + 1) n { s with tae := { s.tae with hostAt := mset (fun _ => 0) s.tae.hostAt (k % 256) (now s) } }

/-- TAE_HSQ_TAIL (R54): posts commands when the write advances TAIL by no more than the free slots; any other write is
ignored and sets IRQ_STS bit 1. -/
def hsqTailWrite (v : Nat) (s : State) : State :=
  let a := pa pgTae offTAE_HSQ_TAIL
  let old := hsqTail s
  let n := (v % 512 + 512 - old) % 512
  if n ≤ 256 - hsqFill s then stampSlots old n (setRegF a fTAE_HSQ_TAIL_TAIL (v % 512) s)
  else raiseIrq pgTae 1 s

/-- Whether a requester's write of the host queue is taken: on an Understory device PCIe writes are ignored (R335). -/
def hsqWriter (s : State) (req : Nat) : Bool := !(isUnder s && req == 0)

/-- Writes bytes into the host submission window. -/
def subWrite (a : Nat) : Bytes → State → State
  | [], s => s
  | b :: bs, s => subWrite (a + 1) bs { s with tae := { s.tae with sub := mset (fun _ => 0) s.tae.sub a b } }

/-- Posts a command in the Sapwood queue when it has room (R49). -/
def sapPost (c : Bytes) (s : State) : State :=
  if 256 ≤ s.tae.sapQ.length then s
  else { s with tae := { s.tae with sapQ := s.tae.sapQ ++ [⟨c, now s⟩] } }

/-! ### Resets (R59, R378) -/

/-- The status of the host command in execution once it has run to its end: an insertion that moves rows ends OK. -/
def shiftsEnd (t : Nat) (h : ThkShift) (s : State) : State :=
  let runCopy (c : ThkCopy) (s : State) : State :=
    forAll (fun (m : Nat × Nat) s => count pgThk cThk_MOVES (setThkEntry t c.copy m.2 (thkEntry s t c.copy m.1) s)) c.moves s
  let s1 := forAll runCopy h.copies s
  thkWriteAll t h.pos ⟨h.value, h.mask, h.result, h.tag⟩
    { s1 with thk := { s1.thk with shifts := s1.thk.shifts.filter (fun y => y.table != t) } }

/-- How a reset finds the insertion that a queue has begun (R59): `ended` ran to its end at a position, `fresh` had made no
write and counts as not started. -/
inductive ExecEnd where
  | none
  | fresh (c : TaeCmd)
  | ended (c : TaeCmd) (pos : Nat)
  deriving DecidableEq, Repr

/-- Whether an insertion has made its first move or write. -/
def shiftBegun (h : ThkShift) : Bool := h.copies.any (fun c => 0 < c.made || 0 < c.writes)

/-- A command in execution runs to its end, and its committing write happens; a fetched command that has made no write is
dropped (R59). -/
def execEnd (q : Nat) (s : State) : State × ExecEnd :=
  match mfind s.tae.exec q with
  | none => (s, .none)
  | some c =>
    let t := tcTable c.bytes
    let s1 := { s with tae := { s.tae with exec := mdel s.tae.exec q } }
    match s1.thk.shifts.find? (fun h => h.table == t) with
    | none => (s1, .fresh c)
    | some h =>
      if shiftBegun h then (shiftsEnd t h s1, .ended c h.pos)
      else ({ s1 with thk := { s1.thk with shifts := s1.thk.shifts.filter (fun y => y.table != t) } }, .fresh c)

/-- Steps 1, 3, 4 and 5 of R59 on the host queue. -/
def hostQueueReset (s : State) : State :=
  let r := execEnd 0 s
  let n := hsqFill s + (match r.2 with | .fresh _ => 1 | _ => 0)
  let ended := match r.2 with | .ended c _ => some c | _ => none
  let s1 := r.1
  let abort := fset (fset (fset (fset 0 fTAE_ABORT_VALID (if n = 0 && ended.isNone then 0 else 1)) fTAE_ABORT_EXEC
    (if ended.isSome then 1 else 0)) fTAE_ABORT_STATUS tsOk) fTAE_ABORT_COUNT n
  let tag := match ended with | some c => tcTag c.bytes | none => 0
  let s2 := setReg (pa pgTae offTAE_ABORT) abort (setReg (pa pgTae offTAE_ABORT_TAG) (BitVec.ofNat 32 tag) s1)
  let s3 := setReg (pa pgTae offTAE_HSQ_TAIL) 0 (setReg (pa pgTae offTAE_HSQ_HEAD) 0 (setReg (pa pgTae offTAE_HCQ_HEAD) 0 s2))
  { s3 with tae := { s3.tae with comp := [], hostAt := [], hostDone := 0 }, rw := { s3.rw with tables := [] } }

/-- Completes every waiting command of the Sapwood queue with ABORTED (R59). -/
def sapAbort : List TaeCmd → State → State
  | [], s => s
  | c :: cs, s => sapAbort cs (taeFinish 1 c.bytes (resPlain tsAborted 0) s)

/-- Step 2 of R59 on the Sapwood queue, which then is empty. -/
def sapQueueReset (s : State) : State :=
  let r := execEnd 1 s
  let s1 := match r.2 with
    | .ended c x => taeFinish 1 c.bytes (resPlain tsOk x) r.1
    | .fresh c => taeFinish 1 c.bytes (resPlain tsAborted 0) r.1
    | .none => r.1
  sapAbort s1.tae.sapQ { s1 with tae := { s1.tae with sapQ := [] } }

/-- An insertion that a soft reset of page 0x048 interrupts completes with BAD_FORMAT, its table being disabled (R169). -/
def thkAbort (q : Nat) (s : State) : State :=
  match mfind s.tae.exec q with
  | none => s
  | some c => taeFinish q c.bytes (resPlain tsBadFormat 0) { s with tae := { s.tae with exec := mdel s.tae.exec q } }

/-- The block's own part of a soft reset of page 0x048 (R169): all shifts stop, and their commands complete. -/
def thkSoftReset (s : State) : State :=
  thkAbort 1 (thkAbort 0 { s with thk := { s.thk with shifts := [], repair := [] } })

/-- The block's own part of a soft reset of page 0x041 (R59). -/
def taeSoftReset (s : State) : State := hostQueueReset (sapQueueReset s)

/-! ### Learning by the firmware (R331) -/

/-- Whether a Sapwood core runs. -/
def sapRunning (s : State) : Bool := (List.range 4).any (fun c => !(core s c).halted)

/-- Offset of the forwarding word in an entry image of a learning table. -/
def learnOff (s : State) (t : Nat) : Option Nat :=
  match s.sap.learn.find? (fun e => e.1 == t) with
  | none => none
  | some e => some (emtKeyLen s t + e.2)

/-- The port an entry image names: its forwarding word has MC 0 (R331). -/
def imagePort (img : Bytes) (off : Nat) : Option Nat :=
  let v := leAt img off 4
  if fwMc v then none else some (fwDest v)

/-- The image the firmware inserts for a LEARN notice: the key from PAYLOAD, an action of 0 but for the forwarding word
(R220, R435; log entry 21, DESIGN CHOICE). -/
def learnImage (s : State) (n t off : Nat) : Bytes :=
  let img := padTo (16 * emtN s t) ((leBytes 12 (natField n 127 32)).take (emtKeyLen s t))
  overwrite img off (leBytes 4 (natField n 24 16))

/-- TAG of the firmware's learning commands: the model's own (log entry 21, DESIGN CHOICE). -/
abbrev learnTag : Nat := 1

/-- TAG of the Flow Cache service's commands: the model's own (log entry 104, DESIGN CHOICE). -/
abbrev flowTag : Nat := 2

/-- Contexts that hold a flow key of table t (R165). -/
def flowContexts (s : State) (t : Nat) : Nat := (emtKeyLen s t + 15) / 16

/-- Posts the READ of the next flow context of a Flow Cache notice, the `k`-th (R165). -/
def flowRead (n k : Nat) (s : State) : State :=
  sapPost (mkTaeCmdAt opRead 5 0 0 flowTag ((natField n 115 96 + k) % 2 ^ 20) 0 []) s

/-- A LEARN notice of a Flow Cache table: the firmware begins to read the contexts that hold the flow key (R165). -/
def flowStart (n t : Nat) (s : State) : State :=
  if !emtOn s t then s
  else
    let s1 : State := { s with sap := { s.sap with flow := s.sap.flow ++ [(n, [])] } }
    if s.sap.flow.isEmpty then flowRead n 0 s1 else s1

/-- Whether a completion answers the READ of a flow context. -/
def isFlowRead (comp : Bytes) : Bool := (byteAt comp 1).toNat == opRead && tcTag comp == flowTag

/-- The Flow Cache entry of a notice whose key has been read (R165): the notice is discarded when the recomputed 12 hash
bits differ; else the key goes in with the Thicket result, with MEMB as the notice's parity. -/
def flowInsert (n t : Nat) (bytes : Bytes) (s : State) : State :=
  let key := bytes.take (emtKeyLen s t)
  if !emtOn s t || emtHash s t key % 4096 ≠ natField n 127 116 then s
  else
    let img := padTo (16 * emtN s t) (key ++ leBytes 8 (natField n 95 32))
    sapPost (mkTaeCmd opInsert 1 t (natField n 15 14) flowTag 65 (padTo 64 img)) s

/-- The firmware goes on to its next Flow Cache notice: it serves one at a time. -/
def flowNext (rest : List (Nat × Bytes)) (s : State) : State :=
  let s1 : State := { s with sap := { s.sap with flow := rest } }
  match rest with
  | [] => s1
  | (n, _) :: _ => flowRead n 0 s1

/-- The firmware takes the READ of a flow context: it reads the next one, or inserts the entry (R165). -/
def flowAnswer (comp : Bytes) (s : State) : State :=
  match s.sap.flow with
  | [] => s
  | (n, got) :: rest =>
    let t := natField n 13 8
    let bytes := got ++ slice comp 32 16
    if (byteAt comp 0).toNat ≠ tsOk then flowNext rest s
    else if bytes.length < 16 * flowContexts s t then
      flowRead n (bytes.length / 16) { s with sap := { s.sap with flow := (n, bytes) :: rest } }
    else flowNext rest (flowInsert n t bytes s)

/-- A learning command for an image of table t. -/
def learnPost (op t : Nat) (img : Bytes) (s : State) : State :=
  sapPost (mkTaeCmd op 1 t 3 learnTag 65 (padTo 64 img)) s

/-- The firmware takes the oldest completion of its queue: an INSERT that found the key with another port becomes a
MODIFY. -/
def learnAnswer (comp : Bytes) (s : State) : State :=
  let s1 := { s with tae := { s.tae with sapC := s.tae.sapC.drop 1 } }
  if isFlowRead comp then flowAnswer comp s1
  else if (byteAt comp 1).toNat ≠ opInsert || tcTag comp ≠ learnTag then s1
  else match s1.sap.learning with
    | [] => s1
    | n :: rest =>
      let s2 := { s1 with sap := { s1.sap with learning := rest } }
      let t := natField n 13 8
      match learnOff s t with
      | none => s2
      | some off =>
        if (byteAt comp 0).toNat = tsExists &&
            imagePort (emtImage s t (leAt comp 8 4)) off ≠ some (natField n 24 16) then
          learnPost opModify t (learnImage s n t off) s2
        else s2

/-! ### The host API rings (R376), of which service events are one use (R331) -/

/-- LOG2 of the API rings. -/
def apiLog (s : State) : Nat := liveF s (pa pgSap offAPI_CFG) fAPI_CFG_LOG2

/-- The rings are in use and the host link carries their accesses (R376, R378). -/
def apiOn (s : State) : Bool := liveB s (pa pgSap offAPI_CFG) fAPI_CFG_EN && s.pin.pcieUp && s.pin.perstN

/-- The response ring has a free entry. -/
def apiRoom (s : State) : Bool :=
  let m := 2 ^ (apiLog s + 1)
  (s.sap.apiTail % m + m - regF s (pa pgSap offAPI_RSP_HEAD) fAPI_RSP_HEAD_POS % m) % m < 2 ^ apiLog s

/-- Address in the two words of a 64-bit register. -/
def addr64 (s : State) (a : Nat) : Nat := (live s a).toNat + 2 ^ 32 * (live s (a + 4)).toNat

/-- Writes a response into the next entry of the response ring, with PHASE 1 on odd passes (R376). -/
def apiRespond (op status tag : Nat) (res : Bytes) (s : State) : State :=
  let m := 2 ^ apiLog s
  let k := s.sap.apiTail % (2 * m)
  let bytes := leBytes 2 op ++ leBytes 2 status ++ leBytes 4 tag ++ padTo 55 res ++ [if k < m then 1 else 0]
  { s with sap := { s.sap with apiTail := (k + 1) % (2 * m) },
           host := { s.host with dma := [(addr64 s (pa pgSap offAPI_RSP_BASE) / 64 * 64 + k % m * 64, bytes)] } }

/-- A service event goes to the host as a response with TAG 0, or is lost without a ring to take it (R323, R376; log entry
26, DESIGN CHOICE). -/
def serviceEvent (n : Nat) (s : State) : State :=
  if apiOn s && apiRoom s then freeNext (apiRespond (freeNow s % 65536) (Config.apiStatus true) 0 (leBytes 16 n) s) else s

/-- An AGED notice of a NOTIFY table: the entry it names is deleted, unless its slot holds another image by now (R331; log
entry 21, DESIGN CHOICE). -/
def agedDelete (n t : Nat) (s : State) : State :=
  let img := emtImage s t (natField n 63 32)
  if !emtOn s t || leAt img 0 8 ≠ natField n 127 64 then s
  else sapPost (mkTaeCmd opDelete 1 t (natField n 15 14) 0 65 (padTo 64 (img.take (emtKeyLen s t)))) s

/-- A LEARN notice: the firmware inserts the entry in a table of its learning configuration (R331; log entry 21, DESIGN CHOICE). A
notice
that names another table is one of the Flow Cache (R165; log entry 104, DESIGN CHOICE). -/
def learnInsert (n t : Nat) (s : State) : State :=
  match learnOff s t with
  | none => flowStart n t s
  | some off =>
    if !emtOn s t || 12 < emtKeyLen s t then s
    else { learnPost opInsert t (learnImage s n t off) s with sap := { s.sap with learning := s.sap.learning ++ [n] } }

/-- One notice (R331). -/
def learnNotice (n : Nat) (s : State) : State :=
  let t := natField n 13 8
  if n % 16 = 2 && t = 63 then serviceEvent n s
  else if n % 16 = 1 then learnInsert n t s
  else if n % 16 = 3 && !liveB s (pa pgEmt (offEMT_TBL_AGE t)) fEMT_TBL_AGE_AGE_MODE then agedDelete n t s
  else s

/-- The first entry of the learning tables that names port p: table and INDEX. -/
def flushFind (s : State) (p : Nat) : Option (Nat × Nat) :=
  (s.sap.learn.filterMap (fun e =>
    ((emtUsed s e.1).find? (fun x => imagePort (emtImage s e.1 x) (emtKeyLen s e.1 + e.2) == some p)).map
      (fun x => (e.1, x)))).head?

/-- One step of deleting the entries that name a port; it waits while a command of the queue is not complete. -/
def flushStep (p : Nat) (s : State) : State :=
  if !s.tae.sapQ.isEmpty || (mfind s.tae.exec 1).isSome then s
  else match flushFind s p with
    | none => { s with sap := { s.sap with flush := s.sap.flush.drop 1 } }
    | some (t, x) =>
      sapPost (mkTaeCmd opDelete 1 t 0 0 65 (padTo 64 ((emtImage s t x).take (emtKeyLen s t)))) s

/-- FIRMWARE_LEARN (R331): a running core takes a completion of the Sapwood queue, deletes an entry of a port whose link
went down, or serves the oldest notice while LQ_CFG.OWNER is 0, in that order (log entry 21, DESIGN CHOICE). -/
def firmwareLearn (s : State) : State :=
  if !sapRunning s then s
  else match s.tae.sapC, s.sap.flush, s.emt.lq with
    | c :: _, _, _ => if isFlowRead c && 255 ≤ s.tae.sapQ.length then s else learnAnswer c s
    | [], p :: _, _ => flushStep p s
    | [], [], n :: _ =>
      if liveB s (pa pgEmt offLQ_CFG) fLQ_CFG_OWNER || 256 ≤ s.tae.sapQ.length then s
      else
        let head := (reg s (pa pgEmt offLQ_HEAD)).toNat
        learnNotice n (lqHeadWrite 1 (head + 1) s)
    | [], [], [] => s

end Sys2Proof.Machine
end

