-- ==== Sys2Proof/Machine/Ic.lean ====
section
/-!
DEFINITION. The interrupt controller and the host event page (R386 to R398): source states, presentation and claim, entry and
return, and commands IC_SGI, IC_TMR, IC_EOI, INTERRUPT_ENTRY, RETURN_FROM_INTERRUPT and HEV_ACK.
-/

namespace Sys2Proof.Machine
open Sys2Proof

/-! ### Source states (R388) -/

/-- Whether a source is assigned (R386). -/
def srcAssigned (q : Nat) : Bool := (1 ≤ q && q ≤ 19) || (irqPage q).isSome

/-- The line of a source; sources below 32 only pulse (R387). -/
def icLine (s : State) (q : Nat) : Bool :=
  match irqPage q with | some p => irqLine s p | none => false

/-- Whether a source is ACTIVE on core n. -/
def icActiveOn (s : State) (q n : Nat) : Bool := s.ic.active.contains (q * 4 + n)

/-- Whether a source is ACTIVE or ACTIVE_PENDING. -/
def icActive (s : State) (q : Nat) : Bool := (List.range 4).any (icActiveOn s q)

/-- Whether a source is PENDING or ACTIVE_PENDING (R388); a latch set in a level source is the one R397 sets. -/
def icPending (s : State) (q : Nat) : Bool :=
  if srcEdge s q then s.ic.latch.contains q
  else !icActive s q && (s.ic.latch.contains q || (srcEn s q && icLine s q))

/-- A word of IC_PEND, IC_ACT or IC_LINE. -/
def icBits (f : Nat → Bool) (k : Nat) : Word :=
  BitVec.ofNat 32 (((List.range 32).map (fun i => if f (32 * k + i) then 2 ^ i else 0)).sum)

/-! ### Presentation and claim (R389, R390) -/

/-- Sources whose configuration word differs from its reset value, or that keep another one: the only ones that can be
enabled. -/
def icListed (s : State) : List Nat :=
  (s.bus.regs.filter (fun e => pa pgIc 0x400 ≤ e.1 && e.1 < pa pgIc 0x800)).flatMap
    (fun e => let k := (e.1 - pa pgIc 0x400) / 2; [k, k + 1]) ++ mkeys s.ic.cfg

/-- Running priority and threshold of core n. -/
def icRp (s : State) (n : Nat) : Nat := regF s (pa pgIc (offIC_RP n)) fIC_RP_RP
def icTh (s : State) (n : Nat) : Nat := liveF s (pa pgIc (offIC_TH n)) fIC_TH_TH

/-- The MCLK of the local count. -/
def mclk (s : State) : Nat := now s / 2

/-- What core n receives from a claim of this MCLK that was decided with its rival's (R390). -/
def icWon (s : State) (n : Nat) : Option Nat :=
  match mfind s.ic.won n with
  | some (t, q) => if t = mclk s then some q else none
  | none => none

/-- Whether source q is another core's in this MCLK. -/
def icTaken (s : State) (n q : Nat) : Bool := (List.range 4).any (fun r => r != n && icWon s r == some q)

/-- Whether source q may be presented to core n (R389). -/
def icMay (s : State) (n q : Nat) : Bool :=
  !icTaken s n q && srcEn s q && icPending s q && (srcTarget s q).testBit n && !icActiveOn s q n &&
  decide (srcPrio s q < Nat.min (icRp s n) (icTh s n))

/-- The source presented to core n (R389): the lowest PRIO, and of those the lowest number. -/
def presented (s : State) (n : Nat) : Option Nat :=
  if (core s n).halted then none
  else (sortBy (fun q => srcPrio s q * 512 + q) ((icListed s).filter (icMay s n))).head?

/-- Whether core r claims source q in the same MCLK as core n. -/
def contests (s : State) (n r q : Nat) : Bool := r < 4 && r != n && presented s r == some q

/-- Of two cores that claim one source in the same MCLK the pointer decides for the one it comes to first (R390). -/
def losesTo (s : State) (n r : Nat) : Bool := (r + 4 - s.ic.ptr) % 4 < (n + 4 - s.ic.ptr) % 4

/-- What core n receives at its claim cycle (R390): the outcome already decided with its rival, the source presented to it, or
0; and the outcome that the rival's own claim then has. -/
def claimed (n rival : Nat) (s : State) : Nat × Option Nat :=
  match icWon s n with
  | some q => (q, none)
  | none => match presented s n with
    | none => (0, none)
    | some q => if contests s n rival q then (if losesTo s n rival then (0, some q) else (q, some 0)) else (q, none)

/-- Source q becomes ACTIVE on core n, whose RP is then its PRIO (R391). -/
def icTake (n q : Nat) (s : State) : State :=
  setRegF (pa pgIc (offIC_RP n)) fIC_RP_RP (srcPrio s q)
    { s with ic := { s.ic with latch := nsErase s.ic.latch q, active := nsInsert s.ic.active (q * 4 + n) } }

/-- A claim by core n (R390, R391): the source, or 0, with the state after it; the pointer turns. `rival` is a core whose claim
cycle falls in the same MCLK, 4 for none. -/
def claim (n rival : Nat) (s : State) : Nat × State :=
  let r := claimed n rival s
  let won := match r.2 with | some q => mput (mdel s.ic.won n) rival (mclk s, q) | none => mdel s.ic.won n
  let s1 := { s with ic := { s.ic with ptr := (s.ic.ptr + 1) % 4, won := won } }
  (r.1, if r.1 = 0 then count pgIc (cIc_SPURIOUS n) s1 else icTake n r.1 s1)

/-! ### Entry and exit (R391 to R393) -/

/-- Byte of a core's 256 KB of local memory that an address selects (R374; log entry 123, DESIGN CHOICE). -/
def localAddr (a : Nat) : Nat := a % 2 ^ 18

/-- Word i of the frame at an address of a core's memory (R392). -/
def frameWord (c : SapCore) (i : Nat) : Word :=
  BitVec.ofNat 32 (leNat ((List.range 4).map (fun j => mget (fun _ => 0) c.mem (localAddr (c.sp + 4 * i + j)))))

/-- Writes bytes into a core's local memory. -/
def coreWrite (a : Nat) : Bytes → SapCore → SapCore
  | [], c => c
  | b :: bs, c => coreWrite (a + 1) bs { c with mem := mset (fun _ => 0) c.mem (localAddr a) b }

/-- A register of a core: a0 to a3 are 0 to 3, t0 is 4. -/
def coreReg (c : SapCore) (i : Nat) : Word := mget (fun _ => 0) c.a i

/-- Vector address of a source (R391). -/
def vector (s : State) (n q : Nat) : Nat := ((live s (pa pgIc (offIC_VBAR n))).toNat + q * 32) % 2 ^ 32

/-- Whether core n would receive source 0 while it holds a spurious frame: R392 allows one (log entry 129, DEDUCED). -/
def secondSpurious (n rival : Nat) (s : State) : Bool := (claimed n rival s).1 == 0 && (core s n).frames.contains 0

/-- INTERRUPT_ENTRY (R391, R392): core n, running, pushes its frame, claims and goes to the vector
(log entry 60, DEDUCED). -/
def interruptEntry (n rival : Nat) (s : State) : State :=
  let c := core s n
  if c.halted || secondSpurious n rival s then s
  else
    let rp := icRp s n
    let r := claim n rival s
    let q := r.1
    let words := [BitVec.ofNat 32 c.pc, c.status, BitVec.ofNat 32 (q + rp * 65536)] ++ (List.range 5).map (coreReg c)
    let sp := (c.sp + 2 ^ 32 - 32) % 2 ^ 32
    let c1 := coreWrite sp (words.flatMap (fun w => leBytes 4 w.toNat)) c
    setCore n { c1 with sp := sp, pc := vector s n q, frames := q :: c.frames } r.2

/-- RETURN_FROM_INTERRUPT (R393): RP is restored from the frame; a source then presented is chained to, and otherwise the
frame is popped. -/
def returnInterrupt (n rival : Nat) (s : State) : State :=
  let c := core s n
  match c.halted, c.frames with
  | false, _ :: outer =>
    let w2 := (frameWord c 2).toNat
    let s1 := setRegF (pa pgIc (offIC_RP n)) fIC_RP_RP (natField w2 20 16) s
    if chains s1 outer then
      let r := claim n rival s1
      let q := r.1
      let c1 := coreWrite (c.sp + 8) (leBytes 4 (w2 - w2 % 512 + q)) c
      setCore n { c1 with pc := vector s n q, frames := q :: outer } r.2
    else
      let regs := (List.range 5).foldl (fun m i => mset (fun _ => 0) m i (frameWord c (3 + i))) c.a
      setCore n { c with pc := (frameWord c 0).toNat, status := frameWord c 1, a := regs, sp := (c.sp + 32) % 2 ^ 32,
                         frames := outer } s1
  | _, _ => s
where
  /-- Whether the core goes on to another handler (R393): a source is presented to it under the restored RP; but not to a
  second spurious frame (log entry 129, DEDUCED). -/
  chains (s1 : State) (outer : List Nat) : Bool :=
    ((presented s1 n).isSome || (icWon s1 n).any (fun q => q != 0)) &&
      !((claimed n rival s1).1 == 0 && outer.contains 0)

/-- IC_RP_n as read (R396). -/
def icRpWord (s : State) (n : Nat) : Nat :=
  let c := core s n
  (if c.halted && bootDone s then 2 ^ 31 else 0) + (c.frames.headD 0) % 512 * 65536 +
    c.frames.length % 32 * 256 + icRp s n

/-! ### Registers of page 0x002 -/

/-- The configurations kept for sources that are ACTIVE no longer go: the written ones apply (R399). -/
def icSettle (s : State) : State := { s with ic := { s.ic with cfg := mfilter (icActive s) s.ic.cfg } }

/-- Takes a source out of ACTIVE on core n. -/
def icRetire (q n : Nat) (s : State) : State :=
  icSettle { s with ic := { s.ic with active := nsErase s.ic.active (q * 4 + n) } }

/-- What follows when the controller takes up IC_SRC_CFG of source q, `was` being the state before: an ACTIVE source keeps its
configuration until its EOI (R399), and a source that becomes a level source loses its edge latch (R388). -/
def icTakeUp (q : Nat) (was s : State) : State :=
  let cfg := if icActive was q then mput s.ic.cfg q (srcCfg was q) else s.ic.cfg
  let latch := if srcEdge was q && !srcEdge s q then nsErase s.ic.latch q else s.ic.latch
  { s with ic := { s.ic with cfg := cfg, latch := latch } }

/-- IC_EOI_n (R394): completes a source ACTIVE on core n; a level source whose line is asserted is PENDING again, an edge
source with a further edge is PENDING. -/
def icEoi (n q : Nat) (s : State) : State :=
  if q = 0 then s
  else if icActiveOn s q n then icRetire q n s
  else raiseIrq pgIc 0 (count pgIc cIc_BAD_EOI s)

/-- IC_SGI (R387): an edge on a software-generated source. -/
def icSgi (q : Nat) (s : State) : State :=
  if 1 ≤ q && q ≤ 15 then icEdge q s else refuse pgIc offIC_SGI reasonEncoding s

/-- A write of IC_TMR_n: with EN at 1 the interval starts from the write. -/
def icTmrWrite (n : Nat) (v : Word) (s : State) : State :=
  let g := BitVec.ofNat 32 (v.toNat - natField v.toNat 29 24 * 2 ^ 24)
  let fin := now s + fget v fIC_TMR_INTERVAL_US * tUs
  let s1 := setReg (pa pgIc (offIC_TMR n)) g s
  { s1 with ic := { s1.ic with timer := if fbit v fIC_TMR_EN then mput s1.ic.timer n fin else mdel s1.ic.timer n } }

/-- IC_TMR: the timer of core n expires once its interval has passed and raises an edge; a one-shot timer stops. -/
def icTmrExpire (n : Nat) (s : State) : State :=
  match mfind s.ic.timer n with
  | none => s
  | some fin =>
    if now s < fin then s
    else
      let a := pa pgIc (offIC_TMR n)
      let s1 := icEdge (16 + n) s
      if regB s a fIC_TMR_PERIODIC then
        let next := fin + regF s a fIC_TMR_INTERVAL_US * tUs
        { s1 with ic := { s1.ic with timer := mput s1.ic.timer n next } }
      else
        let s2 := setRegB a fIC_TMR_EN false s1
        { s2 with ic := { s2.ic with timer := mdel s2.ic.timer n } }

/-- Whether a write of IC_SRC_CFG sets EN for source 0 or a reserved source (R388). -/
def srcCfgIllegal (k : Nat) (v : Word) : Bool :=
  (v.toNat.testBit 9 && !srcAssigned (2 * k)) || (v.toNat.testBit 25 && !srcAssigned (2 * k + 1))

/-- The word a write of IC_SRC_CFG stores: TRIG of sources 1 to 19 stays 1. -/
def srcCfgWord (k : Nat) (v : Word) : Word :=
  let half (q h : Nat) : Nat := natSetBit (h % 1024) 8 (h.testBit 8 || (1 ≤ q && q ≤ 19))
  BitVec.ofNat 32 (half (2 * k) (v.toNat % 65536) + half (2 * k + 1) (v.toNat / 65536) * 65536)

/-- Error source 1 of page 0x002 (R397): the affected source is set to PENDING with ACTIVE cleared. -/
def icCopyError (q : Nat) (s : State) : State :=
  let s1 := forAll (fun n s => icRetire q n s) (List.range 4) s
  raiseIrq pgIc 1 { s1 with ic := { s1.ic with latch := nsInsert s1.ic.latch q } }

/-- The controller's part of a core restart (R396): ACTIVE sources are completed, RP and TH are 16. -/
def icCoreRestart (n : Nat) (s : State) : State :=
  let s1 := icSettle { s with ic := { s.ic with active := s.ic.active.filter (fun x => x % 4 != n), won := mdel s.ic.won n } }
  let th := pa pgIc (offIC_TH n)
  setRegF (pa pgIc (offIC_RP n)) fIC_RP_RP 16 (applyLive th (setRegF th fIC_TH_TH 16 s1))

/-! ### The host event page (R398) -/

/-- Pages whose mapping words are listed, with the vectors they name. -/
def hevPages (s : State) (v : Nat) : List Nat :=
  let words := s.bus.regs.filter (fun e => pa pgPcie 0x220 ≤ e.1 && e.1 < pa pgPcie 0x400)
  let srcs := words.flatMap (fun e => (List.range 4).map (fun i => (e.1 - pa pgPcie 0x200) + i))
  srcs.filterMap (fun q => if (hevMap s q).testBit 7 && hevMap s q % 64 == v then irqPage q else none)

/-- Samples every line mapped to a vector. -/
def hevScan (v : Nat) (s : State) : State := forAll hevSample (hevPages s v) s

/-- HEV_ACK (R398): the vector returns to IDLE, and its lines are sampled at once. -/
def hevAck (v : Nat) (s : State) : State := hevScan (v % 64) (setHevSent (v % 64) false s)

/-- Whether a write of HEV_MAP sets EN for a reserved source (R398). -/
def hevMapIllegal (k : Nat) (v : Word) : Bool :=
  (List.range 4).any (fun i => v.toNat.testBit (8 * i + 7) && (irqPage (4 * k + i)).isNone)

end Sys2Proof.Machine
end

