-- ==== Sys2Proof/Machine/PageCtl.lean ====
section
/-!
DEFINITION. The page header at work (R37 to R44, R47): ENABLE, QUIESCE, SOFT_RESET, COMMIT, EPOCH_BIND, SNAPSHOT, DISCARD
and SNAP_CLEAR, and the events that end them: SHADOW_APPLY, SNAPSHOT_COMPLETE, SOFT_RESET_COMPLETE, QUIESCE_COMPLETE.
-/

namespace Sys2Proof.Machine
open Sys2Proof

/-- The port of a MAC page. -/
def macPort (page : Nat) : Option Nat := if 0x080 ≤ page && page < 0x180 then some (page - 0x080) else none

/-- The Grove of a Grove page. -/
def groveOf (page : Nat) : Option Nat := if 0x020 ≤ page && page < 0x040 then some (page - 0x020) else none

/-! ### QUIESCE (R37, R43, R72, R119, R201) -/

/-- QUIESCE written to 1 or 0. -/
def setQuiesce (page : Nat) (b : Bool) (s : State) : State :=
  if !capQuiesce page || quiesceReq s page == b then s
  else
    let s1 := setRegB (pa page offCtl) fPAGE_CTL_QUIESCE b s
    if b then
      match groveOf page with
      | some g => grvQuiesce g s1
      | none => s1
    else
      let s2 := setRegB (pa page offSts) fPAGE_STS_QUIESCED false s1
      match groveOf page with
      | some g => endLoans { s2 with grv := { s2.grv with drainAt := mdel s2.grv.drainAt g } }
      | none => s2

/-- No unit of a block is in flight. -/
def blockIdle (s : State) (page : Nat) : Bool :=
  match macPort page, groveOf page with
  | some p, _ =>
    (match (port s p).rx with | some r => r.ignore | none => true) && (port s p).tx.isNone
  | none, some g => groveIdle s g
  | none, none => !(s.disp.passes.any (fun e => e.2.phase == .walking))

/-- QUIESCE_COMPLETE (R37): QUIESCE is 1 and no unit is in flight. -/
def quiesceComplete (page : Nat) (s : State) : State :=
  if capQuiesce page && quiesceReq s page && blockIdle s page then setRegB (pa page offSts) fPAGE_STS_QUIESCED true s else s

/-! ### ENABLE (R37, R63, R70, R201, R408) -/

/-- ENABLE written; `echo` says that the host or the Lookout wrote it, whose 0 opens an echo window (R408). -/
def setEnable (page : Nat) (b echo : Bool) (s : State) : State :=
  if enabled s page == b then s
  else
    let s1 := setRegB (pa page offCtl) fPAGE_CTL_ENABLE b s
    let s2 :=
      if b then
        (if s1.lko.disabled.contains page then
          echoAfter page { s1 with lko := { s1.lko with disabled := nsErase s1.lko.disabled page } } else s1)
      else if echo then { s1 with lko := { s1.lko with disabled := nsInsert s1.lko.disabled page } }
      else s1
    match macPort page, groveOf page with
    | some p, _ => quadRefresh (quadPage p) s2
    | none, some g => if b then endLoans s2 else grvDisable g s2
    | none, none => s2

/-! ### Snapshots (R47) -/

/-- The counters of a page, as listed. -/
def pageCounters (s : State) (page : Nat) : NMap Nat := mfilter (fun a => pageOf a == page) s.bus.ctr

/-- SNAPSHOT, and SNAP_CLEAR with `clear` (log entry 68, DEDUCED). -/
def snapshot (page : Nat) (clear : Bool) (s : State) : State :=
  if !capSnap page then s
  else
    let s0 := match macPort page with | some p => countUs p s | none => s
    let take := pageCounters s0 page
    let c := if clear then mfilter (fun a => pageOf a != page) s0.bus.ctr else s0.bus.ctr
    setRegB (pa page offSts) fPAGE_STS_SNAP_BUSY true
      { s0 with bus := { s0.bus with ctr := c, taking := mput s0.bus.taking page take } }

/-- SNAPSHOT_COMPLETE: the copy is done, the snapshot held. -/
def snapshotComplete (page : Nat) (s : State) : State :=
  match mfind s.bus.taking page with
  | none => s
  | some take =>
    setRegB (pa page offSts) fPAGE_STS_SNAP_BUSY false (setRegB (pa page offSts) fPAGE_STS_SNAP_VALID true
      { s with bus := { s.bus with taking := mdel s.bus.taking page, snap := mput s.bus.snap page take } })

/-- Discards the snapshot of a page. -/
def dropSnapshot (page : Nat) (s : State) : State :=
  setRegB (pa page offSts) fPAGE_STS_SNAP_BUSY false (setRegB (pa page offSts) fPAGE_STS_SNAP_VALID false
    { s with bus := { s.bus with taking := mdel s.bus.taking page, snap := mdel s.bus.snap page } })

/-! ### Shadows (R41, R42) -/

/-- EPOCH_BIND as written. -/
def bindReq (s : State) (page : Nat) : Bool := regB s (pa page offCtl) fPAGE_CTL_EPOCH_BIND

/-- The shadows of a page wait for an epoch commit: the page is bound, or a change of its binding waits. -/
def epochPaced (s : State) (page : Nat) : Bool := isBound s page || bindReq s page

/-- COMMIT on a page not paced by epochs (R41). -/
def commit (page : Nat) (s : State) : State :=
  if capStaged page then setRegB (pa page offSts) fPAGE_STS_COMMIT_PENDING true s else s

/-- SHADOW_APPLY (R41): every shadow becomes the active value, in one step. -/
def shadowApply (page : Nat) (s : State) : State :=
  if commitPending s page && !epochPaced s page then
    let one (a : Nat) (s : State) : State := setActive 0 a (shadowS s a) (setActive 1 a (shadowS s a) s)
    setRegB (pa page offSts) fPAGE_STS_COMMIT_PENDING false (forAll one (stagedWords page) s)
  else s

/-- DISCARD (R41, R42): the shadows take the active values, of the current parity on a bound page
(log entry 69, DEDUCED). -/
def discard (page : Nat) (s : State) : State :=
  if !capStaged page || (commitPending s page && !epochPaced s page) then s
  else
    let one (a : Nat) (s : State) : State := setShadow a (activeS s (curEpoch s) a) s
    setRegB (pa page offSts) fPAGE_STS_COMMIT_PENDING false (forAll one (stagedWords page) s)

/-! ### SOFT_RESET (R44) -/

/-- Registers of a page that its soft reset leaves to the block's own part (R59, R204). -/
def resetKeeps (page off : Nat) : Bool :=
  if page = pgTae then off == offTAE_ABORT || off == offTAE_ABORT_TAG
  else if (groveOf page).isSome then
    off == offGRV_ENG_PERM || off == offGRV_ENG_FENCE || off == offGRV_ENG_LOAN || off == offGRV_ENG_SVC
  else false

/-- Whether a word at an address is a block register of a page that a soft reset returns to its reset value. -/
def resetDrops (page a : Nat) : Bool := pageOf a == page && 0x40 ≤ offOf a && !resetKeeps page (offOf a)

/-- Block registers, shadows, active values and counters of a page return to their reset values. -/
def resetRegs (page : Nat) (s : State) : State :=
  let keep (a : Nat) : Bool := !resetDrops page a
  { s with bus := { s.bus with regs := mfilter keep s.bus.regs, old := mfilter keep s.bus.old,
                               shadow := mfilter keep s.bus.shadow, even := mfilter keep s.bus.even,
                               odd := mfilter keep s.bus.odd, ctr := mfilter (fun a => pageOf a != page) s.bus.ctr } }

/-- The block's own part of a soft reset (log entry 67, DEDUCED). -/
def resetBlock (page : Nat) (s : State) : State :=
  match macPort page, groveOf page with
  | some p, _ =>
    let s1 := quadRefresh (quadPage p) (dropRx p s)
    -- every timer and IGNORED bit goes with the page (FC_STS)
    fcUpdate p (setPort p { port s1 p with timers := [] } s1)
  | none, some g => grvSoftReset g s
  | none, none =>
    if page = pgEmt then emtSoftReset s
    else if page = pgThk then thkSoftReset s
    -- a PGU_NODE_CMD command in progress ends with the page (R120)
    else if page = pgPgu then { s with pgu := { s.pgu with cmd := none } }
    else s

/-- SOFT_RESET (R44); ignored while IN_RESET is 1. -/
def softReset (page : Nat) (s : State) : State :=
  if !capReset page || inReset s page then s
  else
    let s1 := setRegB (pa page offSts) fPAGE_STS_IN_RESET true s
    -- the TAE ends its queues from the pointers they had (R59)
    -- a port goes down with the events of a link that falls (R72)
    -- held fragments are orphaned under the HOLD_US they were held with (R115, R119)
    let s2 := match macPort page with
      | some p => portStop p lsDown 0 s1
      | none => if page = pgTae then taeSoftReset s1 else if page = pgPgu then fragClear s1 else s1
    let s3 := setRegB (pa page offCtl) fPAGE_CTL_EPOCH_BIND (isBound s page) (resetRegs page s2)
    resetBlock page (dropSnapshot page (setRegB (pa page offSts) fPAGE_STS_COMMIT_PENDING false s3))

/-- SOFT_RESET_COMPLETE (R44): the block is ready. -/
def softResetComplete (page : Nat) (s : State) : State :=
  if !regB s (pa page offSts) fPAGE_STS_IN_RESET then s
  else
    let s1 := echoAfter page (setRegB (pa page offSts) fPAGE_STS_IN_RESET false s)
    match macPort page with
    | some p => quadRefresh (quadPage p) s1
    | none => s1

/-! ### A write of PAGE_CTL -/

/-- Applies the bits of an accepted PAGE_CTL write, in bit order (log entry 23, DEDUCED). -/
def ctlBits (req page v : Nat) (s : State) : State :=
  let b (i : Nat) : Bool := v.testBit i
  let s1 := setQuiesce page (b 1) (setEnable page (b 0) (req == hostReq s) s)
  let s2 := if b 2 then softReset page s1 else s1
  let s3 := if b 3 then commit page s2 else s2
  let s4 := if capEpoch page then setRegB (pa page offCtl) fPAGE_CTL_EPOCH_BIND (b 4) s3 else s3
  let s5 := if b 5 && !b 7 then snapshot page false s4 else s4
  let s6 := if b 6 then discard page s5 else s5
  if b 7 then snapshot page true s6 else s6

/-- A write of PAGE_CTL: refused whole with SNAP_BUSY, BOUND or COMMIT_BUSY (R38, R42), else applied. Where several of these
hold the first in this order is recorded (log entry 117, DESIGN CHOICE). Bits of a capability the page lacks are ignored
(R37). -/
def ctlWrite (req page v : Nat) (s : State) : State :=
  let b (i : Nat) : Bool := v.testBit i
  if capSnap page && (b 5 || b 7) && regB s (pa page offSts) fPAGE_STS_SNAP_BUSY then refuse page offCtl reasonSnapBusy s
  else if capStaged page && b 3 && epochPaced s page then refuse page offCtl reasonBound s
  else if capEpoch page && b 4 != bindReq s page && commitPending s page then refuse page offCtl reasonCommitBusy s
  else ctlBits req page v s

/-- PAGE_CTL as a read gives it: ENABLE, QUIESCE and EPOCH_BIND. -/
def ctlNow (s : State) (page : Nat) : Nat :=
  (if enabled s page then 1 else 0) + (if quiesceReq s page then 2 else 0) + (if bindReq s page then 16 else 0)

/-- PAGE_STS as a read gives it, RUNNING and IN_RESET derived (R37, R430). -/
def stsWord (s : State) (page : Nat) : Word :=
  let w := reg s (pa page offSts)
  fset (fset w fPAGE_STS_RUNNING (if running s page then 1 else 0)) fPAGE_STS_IN_RESET (if inReset s page then 1 else 0)

/-- The behaviour level in force: the locked one, or BL1 while none is locked (R437). -/
def levelNow (s : State) : Nat :=
  let l := regF s (pa dev offDEV_BL) fDEV_BL_LOCKED
  if l = 0 then 1 else l

/-- PAGE_ID as a read gives it: LAYOUT is that of the level in force, 1 at BL1 (R37, R438). -/
def idWord (s : State) (page : Nat) : Word :=
  let l := levelNow s
  fset (reg s (pa page offPAGE_ID)) fPAGE_ID_LAYOUT (if l = 1 then 1 else Config.layoutOf l)

end Sys2Proof.Machine
end

