-- ==== Sys2Proof/Machine/RwTx.lean ====
section
/-!
DEFINITION. Rootway messages that the device itself starts from registers: the transmit ring (R352), EPOCH_CTL with CHAIN
(R238, R242), TR_SWITCH (R358), and the mismatch of a link (R357).
-/

namespace Sys2Proof.Machine
open Sys2Proof

/-! ### The transmit ring (R352) -/

/-- Positions the firmware has filled and the device has not sent. -/
def txrFill (s : State) : Nat :=
  (regF s (pa pgRw offRW_TXR_TAIL) fRW_TXR_TAIL_POS + 65536 - regF s (pa pgRw offRW_TXR_HEAD) fRW_TXR_HEAD_POS) % 65536

/-- The message in the slot at HEAD, with SRC this device's id and HOPS 0. -/
def txrMsg (s : State) : Bytes :=
  let a := ringSlot s offRW_TXR_CFG fRW_TXR_CFG_BASE fRW_TXR_CFG_LOG2 (regF s (pa pgRw offRW_TXR_HEAD) fRW_TXR_HEAD_POS)
  let m := sapRead s a (16 + mLen (sapRead s a 16))
  withHops 0 (overwrite m 8 (beBytes 2 (ownId s)))

/-- Whether the device keeps the TAG of a message it sends (R352). -/
def keepsTag (m : Bytes) : Bool :=
  mDst m != 4095 && (mType m == mtRegWrite || mType m == mtRegRead || mType m == mtTableOp || mType m == mtImageChunk)

/-- Sends the messages of the transmit ring in ring order; the ring waits while 256 TAGs are outstanding, or while the
block has no buffer. -/
def txrPump : Nat → State → State
  | 0, s => s
  | n + 1, s =>
    let m := txrMsg s
    if 256 ≤ s.rw.tags.length || 512 ≤ rwBuffered s then s
    else
      let h := (regF s (pa pgRw offRW_TXR_HEAD) fRW_TXR_HEAD_POS + 1) % 65536
      let s1 := setRegF (pa pgRw offRW_TXR_HEAD) fRW_TXR_HEAD_POS h s
      let s2 := if keepsTag m then { s1 with rw := { s1.rw with tags := s1.rw.tags ++ [⟨mTag m, mDst m, mType m, now s1⟩] } } else s1
      txrPump n (rwOriginate m s2)

/-- Sends what the transmit ring holds; what waits for a buffer or for a TAG goes on at the next tick (log entry 114, DESIGN CHOICE). -/
def txrSend (s : State) : State := txrPump (txrFill s) s

/-- RW_TXR_TAIL (R352): the firmware raises TAIL, and the device sends. -/
def txrTailWrite (v : Nat) (s : State) : State :=
  txrSend (setRegF (pa pgRw offRW_TXR_TAIL) fRW_TXR_TAIL_POS v s)

/-! ### EPOCH_CTL (R238, R242) -/

/-- An EPOCH_ARM payload (R347). -/
def epochArmPay (e sec ns : Nat) : Bytes := beBytes 1 e ++ [0, 0, 0] ++ beBytes 4 sec ++ beBytes 4 ns

/-- The CHAIN side of an ARM or a DISARM on a Canopy device: ACK_OK and ACK_BAD are zeroed, EPOCH_ARM goes to TARGET
(log entry 46, DEDUCED). -/
def epochChain (target e sec ns : Nat) (s : State) : State :=
  if isCanopy s then
    rwOriginate (mkMsg mtEpochArm target (ownId s) 0 0 (epochArmPay e sec ns)) (setReg (pa dev offEPOCH_CHAIN_STS) 0 s)
  else s

/-- A write of EPOCH_CTL with at most one of COMMIT, ARM and DISARM. -/
def epochCtl (v : Word) (s : State) : State :=
  let e := fget v fEPOCH_CTL_EPOCH
  let ns := (reg s (pa dev offEPOCH_TIME)).toNat
  let sec := (reg s (pa dev (offEPOCH_TIME + 4))).toNat
  let chain (sec ns : Nat) (s : State) : State :=
    if fbit v fEPOCH_CTL_CHAIN then epochChain (fget v fEPOCH_CTL_TARGET) e sec ns s else s
  if fbit v fEPOCH_CTL_COMMIT then epochCommit e s
  else if fbit v fEPOCH_CTL_ARM then chain sec ns (epochArm e (placeInstant s sec ns) s).2
  else if fbit v fEPOCH_CTL_DISARM then chain 0 0 (epochDisarm s)
  else s

/-! ### Trail mismatch and TR_SWITCH (R357, R358) -/

/-- RW_LINK_STS of B-port p. -/
def linkSts (p : Nat) : Nat := pa pgRw (offRW_LINK_STS (p - 128))

/-- PARTNER of a B-port: a link HEARTBEAT was received within 300 µs (R341). -/
def rwPartner (s : State) (p : Nat) : Bool :=
  regB s (linkSts p) fRW_LINK_STS_PARTNER &&
  (match (rwLink s p).partnerAt with | some t => decide (now s < t + 300 * tUs) | none => false)

/-- RW_LINK_STS as it reads. -/
def linkStsWord (s : State) (p : Nat) : Word :=
  fset (reg s (linkSts p)) fRW_LINK_STS_PARTNER (if rwPartner s p then 1 else 0)

/-- MISMATCH of a link whose partner has been heard: the partner's TRAIL_EN or Trail EtherType differs from this port's; a
rise sets IRQ_STS bit 3 (R357). -/
def rwMismatch (p : Nat) (s : State) : State :=
  let a := linkSts p
  if p < 128 || 256 ≤ p || !rwPartner s p then s
  else
    let m := regB s a fRW_LINK_STS_PEER_TRAIL != trailEn s p ||
      (rwLink s p).peerEtype != liveF s (pa pgRw offTR_CFG) fTR_CFG_ETYPE
    let was := regB s a fRW_LINK_STS_MISMATCH
    let s1 := setRegB a fRW_LINK_STS_MISMATCH m s
    if m && !was then raiseIrq pgRw 3 s1 else s1

/-- A write of TR_SWITCH (R358); ignored while BUSY. -/
def trSwitchWrite (v : Word) (s : State) : State :=
  let a := pa pgRw offTR_SWITCH
  if regB s a fTR_SWITCH_BUSY then s
  else
    let p := fget v fTR_SWITCH_PORT
    let s1 := setRegB a fTR_SWITCH_BUSY true s
    setQuiesce (macPage p) true
      { s1 with rw := { s1.rw with trSwitch := some (p, fbit v fTR_SWITCH_TRAIL_EN, fget v fTR_SWITCH_MAXLEN) } }

/-- TR_SWITCH_COMPLETE (R358): once QUIESCED, TRAIL_EN and MAXLEN are written and QUIESCE cleared. -/
def trSwitchComplete (s : State) : State :=
  match s.rw.trSwitch with
  | none => s
  | some (p, te, ml) =>
    let pg := macPage p
    if !quiesced s pg then s
    else
      let s1 := applyLive (pa pg offMAC_MAXLEN) (setRegF (pa pg offMAC_MAXLEN) fMAC_MAXLEN_MAXLEN ml s)
      let s2 := setRegB (pa pg offMAC_CFG) fMAC_CFG_TRAIL_EN te s1
      -- other MAC_CFG fields still pending keep their old value at the block (R40)
      let s3 := match mfind s2.bus.old (pa pg offMAC_CFG) with
        | none => s2
        | some w => { s2 with bus := { s2.bus with
            old := mput s2.bus.old (pa pg offMAC_CFG) (fset w fMAC_CFG_TRAIL_EN (if te then 1 else 0)) } }
      let s4 := setQuiesce pg false s3
      rwMismatch p (setReg (pa pgRw offTR_SWITCH) 0 { s4 with rw := { s4.rw with trSwitch := none } })

end Sys2Proof.Machine
end

