-- ==== Sys2Proof/Machine/LkoTop.lean ====
section
/-!
DEFINITION. Areas of the Lookout (R404), its derived words LKO_TOP, LKO_ECHO_TOP and LKO_DIR, the error counts as read
(R405), and which reactions an area permits (R411).
-/

namespace Sys2Proof.Machine
open Sys2Proof

/-- Area of a page (R404). -/
def areaOf (page : Nat) : Nat :=
  if 0x020 ≤ page && page ≤ 0x03F then page - 0x020
  else if page = 0x040 then 32
  else if page = 0x041 then 33
  else if 0x048 ≤ page && page ≤ 0x04F then 34
  else if page = 0x010 then 35
  else if page = 0x050 || page = 0x058 then 36
  else if page = 0x051 then 37
  else if page = 0x060 || page = 0x061 then 38
  else if page = 0x062 then 39
  else if page = 0x068 then 40
  else if 0x180 ≤ page && page ≤ 0x19F then 41 + (page - 0x180) / 8
  else if 0x1A0 ≤ page && page ≤ 0x1BF then 45 + (page - 0x1A0) / 8
  else if 0x080 ≤ page && page ≤ 0x0FF then 49
  else if 0x100 ≤ page && page ≤ 0x17F then 50
  else if page = 0x1C0 then 51
  else if 0x004 ≤ page && page ≤ 0x007 then 52
  else if page = 0x078 then 53
  else if page = 0x070 then 54
  else if page = 0x1D0 then 55
  else if page = 0x1C8 then 56
  else if page = 0x000 then 57
  else if page = 0x002 then 58
  else if page = 0x003 then 59
  else if page = 0x001 then 60
  else 61

/-- Register pages with a header, ascending. -/
def headerPages : List Nat := (List.range 0x1D1).filter hasHeader

/-- Pages of an area, ascending (R404). -/
def areaPages (a : Nat) : List Nat := headerPages.filter (fun p => areaOf p == a)

/-- Whether source `src` of a page has latched class FT (R37). -/
def latchedFt (s : State) (page src : Nat) : Bool := natField (reg s (pa page offERR_CLASS)).toNat (2 * src + 1) (2 * src) == clsFT

/-- Whether a page has an ERR_STS bit that its mask does not hide (R404); a mask bit has no effect on an error of class FT
(R38; log entry 107, DEDUCED). -/
def errShown (s : State) (page : Nat) : Bool :=
  (List.range 16).any (fun src => (reg s (pa page offERR_STS)).toNat.testBit src &&
    (!(live s (pa page offERR_MASK)).toNat.testBit src || latchedFt s page src))

/-- The number whose bit i is f i, for the bits below n. -/
def bitsOf (f : Nat → Bool) : Nat → Nat
  | 0 => 0
  | n + 1 => bitsOf f n + (if f n then 2 ^ n else 0)

/-- LKO_TOP (R404). The bit of an area whose pages have INJECT 0 never rises (R464), so a collector fault, latched on page 0x001,
shows in no area bit (log entry 130, DESIGN CHOICE). -/
def lkoTop (s : State) : Nat := bitsOf (fun a => (areaPages a).any (fun p => capInject p && errShown s p)) 61

/-- LKO_ECHO_TOP (R404). -/
def lkoEchoTop (s : State) : Nat := bitsOf (fun a => (areaPages a).any (fun p => reg s (pa p offECHO_STS) != 0)) 61

/-- LKO_DIR: bit i is the i-th page of the area that LKO_DIR_SEL names (R404). -/
def lkoDir (s : State) : Nat :=
  let ps := areaPages (liveF s (pa pgLko offLKO_DIR_SEL) fLKO_DIR_SEL_AREA)
  bitsOf (fun i => match ps[i]? with | some p => errShown s p | none => false) 128

/-- The window of a source while it is open (R405). -/
def openWin (s : State) (page src : Nat) : Option ErrWin :=
  match mfind s.lko.win (page * 16 + src) with
  | some w => if kNow s < w.fin then some w else none
  | none => none

/-- ERR_COUNT as read: the counts of source SEL (R405). -/
def errCountWord (s : State) (page : Nat) : Word :=
  let w := reg s (pa page offERR_COUNT)
  match openWin s page (fget w fERR_COUNT_SEL) with
  | none => w
  | some e => fset (fset w fERR_COUNT_COUNT e.ce) fERR_COUNT_UC_COUNT e.uc

/-- Reaction codes of R411. -/
abbrev rcLog : Nat := 0
abbrev rcIrq : Nat := 1
abbrev rcReset : Nat := 2
abbrev rcFence : Nat := 3
abbrev rcPortDown : Nat := 4
abbrev rcSafe : Nat := 5

/-- Whether an area permits a reaction code (R411). -/
def reactPermitted (a code : Nat) : Bool :=
  if 61 ≤ a then code == rcLog
  else if code = rcReset then (areaPages a).any capReset && a != 60
  else if code = rcFence then a ≤ 31
  else if code = rcPortDown then 41 ≤ a && a ≤ 50
  else code ≤ rcSafe

/-- Whether a write of LKO_REACT_a places only permitted codes (R411). -/
def reactLegal (a : Nat) (v : Word) : Bool :=
  [fLKO_REACT_UC_P, fLKO_REACT_UC, fLKO_REACT_CE_P, fLKO_REACT_CE].all (fun f => reactPermitted a (fget v f))

end Sys2Proof.Machine
end

