-- ==== Sys2Proof/Machine/HwBase.lean ====
section
/-!
DEFINITION. What other parts need of Heartwood: mailbox slots (R372), the restart of Sapwood cores and their kicks (R373,
R374).
-/

namespace Sys2Proof.Machine
open Sys2Proof

/-! ### Mailbox slots (R372) -/

/-- Offset of a slot's registers. -/
def slotOff (slot : Nat) : Nat := 0x100 + 0x80 * slot

/-- Address of HMB_STS of a slot. -/
def slotSts (slot : Nat) : Nat := pa pgHmb (slotOff slot + 0x44)

/-- Mailbox status codes. -/
abbrev hsOk : Nat := 0
abbrev hsBadCmd : Nat := 1
abbrev hsAuth : Nat := 2
abbrev hsRollback : Nat := 3
abbrev hsState : Nat := 4
abbrev hsPcie : Nat := 5
abbrev hsFlash : Nat := 6
abbrev hsRestarted : Nat := 7
abbrev hsLocked : Nat := 8

/-- Answers the request of a slot: status and TAG in word 0, then the words given; BUSY clears, DONE and IRQ_STS bit s are
set. -/
def hmbAnswer (slot status : Nat) (words : List Nat) (s : State) : State :=
  match mfind s.hw.req slot with
  | none => s
  | some (_, req) =>
    let w0 := status + req.headD 0 / 65536 % 65536 * 65536
    let put (e : Nat × Nat) (s : State) : State := setReg (pa pgHmb (slotOff slot + 0x20 + 4 * e.1)) (BitVec.ofNat 32 e.2) s
    let s1 := forAll put ((List.range 8).zip ([w0] ++ words ++ List.replicate 7 0)) s
    let s2 := setReg (slotSts slot) (fset (fset (reg s1 (slotSts slot)) fHMB_STS_BUSY 0) fHMB_STS_DONE 1) s1
    raiseIrq pgHmb slot { s2 with hw := { s2.hw with req := mdel s2.hw.req slot } }

/-- GO of a slot: ignored while BUSY; the request waits for Heartwood, whose source 5 or 6 it raises (R400). A reserved opcode is
answered BAD_CMD (log entry 30, DEDUCED). -/
def hmbGo (slot : Nat) (s : State) : State :=
  if regB s (slotSts slot) fHMB_STS_BUSY then s
  else
    let words := (List.range 8).map (fun k => (live s (pa pgHmb (slotOff slot + 4 * k))).toNat)
    let op := words.headD 0 % 256
    let s1 := setReg (slotSts slot) (fset (reg s (slotSts slot)) fHMB_STS_BUSY 1) s
    let s2 := hicRaise (5 + slot) { s1 with hw := { s1.hw with req := mput s1.hw.req slot (op, words) } }
    if (op = 0 || 0x0A < op) && s2.hw.downTill.isNone && s2.pin.keepClk then hmbAnswer slot hsBadCmd [] s2 else s2

/-! ### Core restarts (R373, R374, R396) -/

/-- Active code bank: 0 A, 1 B. -/
def activeBank (s : State) : Nat := regF s (pa pgHmb offHW_BOOT_STS) fHW_BOOT_STS_BANK

/-- Base of a code bank in Sapwood shared memory (R364). -/
def bankBase (b : Nat) : Nat := b * 0x100000

/-- Restart of one core: halted, cleared, and started at ENTRY of the active bank with its number in a0 (R374). -/
def restartCore (n : Nat) (s : State) : State :=
  let b := activeBank s
  setCore n { coreReset n with halted := false, pc := bankBase b + mget (fun _ => 0) s.hw.entry b,
                               a := mset (fun _ => 0) [] 0 (BitVec.ofNat 32 n), kickAt := kNow s } (icCoreRestart n s)

/-- The next core in line is restarted. -/
def restartNext (s : State) : State :=
  match s.sap.restart with
  | [] => { s with sap := { s.sap with started := none } }
  | n :: rest => restartCore n { s with sap := { s.sap with restart := rest, started := some n } }

/-- Restarts the cores of a mask, in ascending order one after the other, or all at once (R374)
(log entry 74, DEDUCED). -/
def restartCores (mask : Nat) (atOnce : Bool) (s : State) : State :=
  let cs := (List.range 4).filter (fun n => mask.testBit n)
  if atOnce then forAll restartCore cs { s with sap := { s.sap with restart := [], started := none } }
  else
    let s1 := { s with sap := { s.sap with
      restart := s.sap.restart ++ cs.filter (fun n => !s.sap.restart.contains n) } }
    if s1.sap.started.isSome then s1 else restartNext s1

/-- SW_KICK (R373): core n restarts its watchdog interval; a core that waits for it is restarted now. -/
def swKick (n : Nat) (s : State) : State :=
  let s1 := setCore n { core s n with kickAt := kNow s, kicked := true } s
  if s1.sap.started = some n then restartNext s1 else s1

/-- Watchdog interval of the Sapwood cores, by KCLK. -/
def swdTimeout (s : State) : Nat := liveF s (pa pgHmb offHW_SWD) fHW_SWD_TIMEOUT_MS * tMs

/-- SAPWOOD_WATCHDOG (R373, R374, R385): core n has missed its interval. A core in a restart in progress is not restarted a
second time: the next core in line starts. The watchdog is suspended while Heartwood restarts (R375). An expiry is source 7 + n
of Heartwood's controller (R400). -/
def sapwoodWatchdog (n : Nat) (s : State) : State :=
  let c := core s n
  if c.halted || kNow s < c.kickAt + swdTimeout s || s.hw.downTill.isSome || !s.pin.keepClk then s
  else if s.sap.started = some n then restartNext (hicRaise (7 + n) s)
  else if !liveB s (pa pgHmb offHW_SWD) fHW_SWD_EN || s.sap.restart.contains n then s
  else raiseIrq pgHmb 2 (restartCore n (hicRaise (7 + n) s))

end Sys2Proof.Machine
end

