-- ==== Sys2Proof/Machine/Reset.lean ====
section
/-!
DEFINITION. Device resets (R428, R429), the conditions that hold the device in reset (R426, R430, R459), and the host-link
reset (R378).
-/

namespace Sys2Proof.Machine
open Sys2Proof

/-- The device is held in reset: VDD_KEEP low, RST_N low, or TEST_EN high (R426, R428, R459). -/
def held (s : State) : Bool := !s.pin.keep || !s.pin.rstN || s.pin.testEn

/-- What no block changes: the commands that wait, and the pins that the board or the VDD_KEEP island drives (R422, R428,
R431, R442, R459). Only the events on those pins do. -/
def boardKeeps (s t : State) : State :=
  { t with pending := s.pending,
           pin := { t.pin with straps := s.pin.straps, keep := s.pin.keep, rstN := s.pin.rstN, perstN := s.pin.perstN,
                               testEn := s.pin.testEn, keepClk := s.pin.keepClk, trip := s.pin.trip, cells := s.pin.cells,
                               jtag := s.pin.jtag, dr := s.pin.dr } }

/-- The meaning of what a block does on KCLK, TCLK or a lane clock: while the device is held in reset it does nothing. -/
def actK (f : State → State) (s : State) : Host.Outcome State Fault Refusal :=
  .next (if held s then s else boardKeeps s (f s))

/-- Nothing on CCLK, BCLK or MCLK works: the device is held in reset, or SYSCLK is lost (R428, R454). -/
def stopped (s : State) : Bool := held s || clkStopped s

/-- The meaning of what a block does on CCLK, BCLK or MCLK: while these stand still it does nothing, and a register access or
a TAE command waits with its sender (R17, R454; log entry 132, DEDUCED). -/
def act (f : State → State) (s : State) : Host.Outcome State Fault Refusal :=
  .next (if stopped s then s else boardKeeps s (f s))

/-- The meaning of an event on a pin, which acts whether or not the device is held in reset. -/
def actPin (f : State → State) (s : State) : Host.Outcome State Fault Refusal :=
  .next { f s with pending := s.pending }

/-- Causes of a device reset (R428). -/
abbrev causeCold : Nat := 1
abbrev causeRstN : Nat := 2
abbrev causeDevRst : Nat := 3

/-- What of Heartwood a device reset keeps: flash and OTP always, the SMBus address in a warm one (R429). -/
def hwAfterReset (cold : Bool) (s : State) : HwSt :=
  { hwReset with flash := s.hw.flash, floor := s.hw.floor, steps := s.hw.steps, revoked := s.hw.revoked,
                 smbAddr := if cold then hwReset.smbAddr else s.hw.smbAddr }

/-- What of the Lookout a device reset keeps: the OTP records always; the remaps in service and the island's records in a
warm one (R418, R429). -/
def lkoAfterReset (cold : Bool) (s : State) : LkoSt :=
  if cold then { lkoReset with otp := s.lko.otp }
  else { lkoReset with otp := s.lko.otp, island := s.lko.island, otpWait := s.lko.otpWait, spares := s.lko.spares }

/-- Pins after a device reset: FAULT_N released, ALIVE low, PCIe down, the clock monitors anew; THERM_TRIP_N stays driven
until a cold reset (R430, R442, R463). -/
def pinAfterReset (cold : Bool) (s : State) : PinSt :=
  { s.pin with pcieUp := false, alive := false, aliveAt := 0, bothSince := 0, fault := false,
               trip := s.pin.trip && !cold, back := [], verdict := false }

/-- A device reset (R429). PT_AGE.SLOW_PPM is kept in OTP (R441). (log entry 65, DEDUCED) (log entry 66, DEDUCED) -/
def deviceReset (cold : Bool) (cause : Nat) (s : State) : State :=
  let age := fset 0 fPT_AGE_SLOW_PPM (regF s (pa pgPt offPT_AGE) fPT_AGE_SLOW_PPM)
  let r : State := { State.reset with
    pending := s.pending, freeCtr := s.freeCtr, straps := s.pin.straps, bus := busReset, hw := hwAfterReset cold s,
    lko := lkoAfterReset cold s, pin := pinAfterReset cold s }
  setReg (pa pgPt offPT_AGE) age (setRegF (pa dev offDEV_RST_STS) fDEV_RST_STS_LAST_CAUSE cause r)

/-- A ring block's registers at reset, its pending messages gone (R378). -/
def clearPages (pages : List Nat) (s : State) : State :=
  let keep (a : Nat) : Bool := !pages.contains (pageOf a)
  { s with bus := { s.bus with regs := mfilter keep s.bus.regs, old := mfilter keep s.bus.old } }

/-- HOST_LINK_RESET (R378): the DMA rings and API_CFG.EN are disabled, the rings' registers cleared, the TAE host queue
reset, the MSI-X table cleared and masked, and Heartwood is told (R400); a FETCH in progress is answered PCIE and the staging
area released (R385). -/
def hostLinkReset (s : State) : State :=
  let s1 := clearPages [pgTxr, pgRxr, pgMsix, pgPba] s
  let api := pa pgSap offAPI_CFG
  let s2 := applyLive api (setRegF api fAPI_CFG_EN 0 s1)
  let s3 := hicRaise 15 (hostQueueReset s2)
  let s4 := { s3 with host := { s3.host with msgAt := [], msgHeld := [], lastTx := 15, gen := 0, width := 0 },
                      pin := { s3.pin with pcieUp := false } }
  match mfind s4.hw.req 0 with
  | some (258, _) =>
    hmbAnswer 0 hsPcie [] { s4 with hw := { s4.hw with hold := if s4.hw.hold = some 0 then none else s4.hw.hold } }
  | _ => s4

end Sys2Proof.Machine
end

