-- ==== Sys2Proof/Machine/Bus.lean ====
section
/-!
DEFINITION. The register bus (R33 to R48): writes and reads of BAR0 and BAR2 by the seven requesters, judged by access type
and change class, refused under R39 or applied, with the effect each command register has; LIVE_VALUE_APPLY (R40) and the
commands on the page header.
-/

namespace Sys2Proof.Machine
open Sys2Proof

/-! ### Requesters (R45) -/

/-- Requesters: 0 the PCIe host, 1 to 4 the Sapwood cores 0 to 3, 5 Heartwood, 6 Rootway relay. -/
abbrev reqHeartwood : Nat := 5

/-! ### Fields of a write (R7, R9, R43) -/

/-- The bits of a field. -/
def frFld (f : FieldRow) : Fld := ⟨f.hi, f.lo⟩

/-- Whether a value is not reserved (R7). -/
def legalVal (l : Legal) (v : Nat) : Bool :=
  match l with
  | .any => true
  | .range lo hi => decide (lo ≤ v) && decide (v ≤ hi)
  | .zeroOr lo hi => v == 0 || (decide (lo ≤ v) && decide (v ≤ hi))

/-- Whether every written field of a word holds a value that is not reserved. -/
def rowLegal (r : RegRow) (v : Word) : Bool :=
  r.fields.all (fun f => match f.acc with
    | .rw | .wo => legalVal f.legal (fget v (frFld f))
    | _ => true)

/-- A field's new value in the register's home: RW takes the value written, W1C clears the bits written as 1, the others keep
their value. -/
def fieldMerge (v : Word) (w : Word) (f : FieldRow) : Word :=
  match f.acc with
  | .rw => fset w (frFld f) (fget v (frFld f))
  | .w1c => fset w (frFld f) (fget w (frFld f) &&& (2 ^ (f.hi + 1 - f.lo) - 1 - fget v (frFld f)))
  | _ => w

/-- The word a write leaves in a register's home. A VALID bit cleared by writing 1 clears its whole register. -/
def rowMerge (r : RegRow) (old v : Word) : Word :=
  if r.fields.any (fun f => f.hi == 31 && f.lo == 31 && f.acc == .w1c) && v.msb then 0
  else r.fields.foldl (fieldMerge v) old

/-- Whether a write changes a class Q field, or writes one that is write-only (R43). -/
def rowQuiet (r : RegRow) (old v : Word) : Bool :=
  r.fields.any (fun f => f.cls == .quiet && (f.acc == .wo || (f.acc == .rw && fget v (frFld f) != fget old (frFld f))))

/-- Whether a register's fields are of class S. -/
def rowStaged (r : RegRow) : Bool := r.fields.any (fun f => f.cls == .staged)

/-- Stores a word: class L fields reach the block at its next unit boundary, the others at once (R40). -/
def storeWord (r : RegRow) (a : Nat) (v : Word) (s : State) : State :=
  let keep := r.fields.foldl (fun w f => if f.cls == .live && f.acc == .rw then w else fset w (frFld f) (fget v (frFld f)))
    (live s a)
  noteOld a keep v (setReg a v s)

/-- A class S write goes to the shadow; on a page paced by epochs it sets COMMIT_PENDING (R41, R42). -/
def storeShadow (r : RegRow) (a : Nat) (v : Word) (s : State) : State :=
  let s1 := setShadow a (rowMerge r (shadowS s a) v) s
  if epochPaced s1 (pageOf a) then setRegB (pa (pageOf a) offSts) fPAGE_STS_COMMIT_PENDING true s1 else s1

/-- The word a read or a merge starts from: the shadow of a class S register, else the register's home. -/
def oldWord (s : State) (r : RegRow) (a : Nat) : Word := if rowStaged r then shadowS s a else reg s a

/-! ### Checks across the fields of a register (R7) -/

/-- PORT_MODE codes of a port's side whose width divides its lane number (R62). -/
def modeLegal (p m : Nat) : Bool :=
  m == 0 || (if p < 128 then decide (1 ≤ m) && decide (m ≤ 7) && p % modeLanes m == 0
    else m == 0x1F || (decide (0x10 ≤ m) && decide (m ≤ 0x19) && p % modeLanes m == 0))

/-- MAC_CFG (R62, R70). -/
def macCfgLegal (p : Nat) (v : Word) : Bool :=
  modeLegal p (fget v fMAC_CFG_PORT_MODE) && !(fbit v fMAC_CFG_PAUSE_RX_EN && fbit v fMAC_CFG_PFC_RX_EN) &&
    !(fbit v fMAC_CFG_PAUSE_TX_EN && fbit v fMAC_CFG_PFC_TX_EN) &&
    !(128 ≤ p && fbit v fMAC_CFG_EEE_EN && fbit v fMAC_CFG_COPPICE_EN)

/-- SDQ_TXEQ (R457): the three magnitudes sum to at most 32. -/
def txeqLegal (v : Word) : Bool :=
  let mag (f : Fld) : Nat := (signed 6 (fget v f)).natAbs
  mag ⟨21, 16⟩ + mag ⟨13, 8⟩ + mag ⟨5, 0⟩ ≤ 32

/-- EPOCH_CTL: at most one of COMMIT, ARM and DISARM. -/
def epochCtlLegal (v : Word) : Bool :=
  fget v fEPOCH_CTL_COMMIT + fget v fEPOCH_CTL_ARM + fget v fEPOCH_CTL_DISARM ≤ 1

/-- Whether a word written to offset `off` of a page holds no reserved combination. -/
def crossLegal (s : State) (k : PageKind) (page off : Nat) (v : Word) : Bool :=
  match k with
  | .dev =>
    if off = offEPOCH_CTL then epochCtlLegal v
    else if off = offACT_CTXH then fget v ⟨19, 0⟩ % 2 ^ fget v ⟨24, 20⟩ == 0
    else if off = offACT_CNT_FW then v.toNat % 8 == 0
    else if off = offDEV_RST then fget v fDEV_RST_KEY == 0xB007
    else true
  | .lko => if 0x100 ≤ off && off < 0x200 then reactLegal ((off - 0x100) / 4) v else true
  | .ic => if 0x400 ≤ off && off < 0x800 then !srcCfgIllegal ((off - 0x400) / 4) v else true
  | .emt => if 0x100 ≤ off && off < 0x500 && off % 16 = 12 then
      !(fbit v fEMT_TBL_AGE_AGE_MODE && decide (12 < emtKeyLen s ((off - 0x100) / 16))) else true
  | .clr => if off = offCLR_CNT_BASE then v.toNat % 16 == 0 && decide (v.toNat % 2 ^ 19 + 4160 ≤ 524288) else true
  | .sch =>
    if off = offSCH_CNT_BASE then v.toNat % 16 == 0 && decide (v.toNat % 2 ^ 19 + 32768 ≤ 524288)
    else if off = offSCH_CMD then decide (fget v fSCH_CMD_OP = 2) || decide (fget v fSCH_CMD_TYPE ≤ 4)
    else true
  | .ptp => if off = offPPS_OFS then decide ((signed 32 v.toNat).natAbs ≤ 499999999) else true
  | .lmac | .bmac => if off = offMAC_CFG then macCfgLegal (page - 0x080) v else true
  | .sdql => if 0x0C0 ≤ off && off < 0x0E0 then txeqLegal v else true
  | .pcie => if 0x220 ≤ off && off < 0x400 then !hevMapIllegal ((off - 0x200) / 4) v else true
  | _ => true

/-- The port whose MAC page governs a lane of a SerDes quad: the enabled port that has the lane, else the lane's own number
(R457). -/
def lanePort (s : State) (page n : Nat) : Nat :=
  let l := (if page < 0x1A0 then (page - 0x180) / 2 * 8 else 128 + (page - 0x1A0) / 2 * 8) + n
  ((List.range (Nat.min 4 (l % 128 + 1))).map (fun i => l - i)).find?
    (fun p => portEnabled s p && !laneBusy s p && decide (l - p < claimWidth s p)) |>.getD l

/-- Whether class Q fields of a register may change (R43, R457). -/
def quietAt (s : State) (k : PageKind) (page off : Nat) : Bool :=
  match k with
  | .sdql | .sdqb =>
    if 0x080 ≤ off && off < 0x0A0 then quiet s (macPage (lanePort s page ((off - 0x080) / 4)))
    else if 0x0C0 ≤ off && off < 0x0E0 then quiet s (macPage (lanePort s page ((off - 0x0C0) / 4)))
    else quiet s page
  | _ => quiet s page

/-- LOCKED (R363, R412): LKO_REACT and LKO_CFG once Heartwood has locked the reactions. -/
def lockedAt (s : State) (k : PageKind) (req off : Nat) : Bool :=
  k == .lko && (off == offLKO_CFG || (0x100 ≤ off && off < 0x200)) && s.hw.locks.testBit 0 && req != reqHeartwood

/-! ### Live values taken up by a block (R40) -/

/-- What follows when a block takes up class L values of a page, `was` being the state before. -/
def liveHook (k : PageKind) (page off : Nat) (was s : State) : State :=
  match k with
  | .ic =>
    if 0x400 ≤ off && off < 0x800 then
      let q := (off - 0x400) / 2
      icTakeUp (q + 1) was (icTakeUp q was s)
    else s
  | .lmac | .bmac =>
    let p := page - 0x080
    if off = offMAC_CFG then fcUpdate p (clearTimers p s) else s
  | .clr => if off < 0x040 || 0x500 ≤ off && off < 0x600 then s else forAll fcUpdate (List.range 256) s
  | .ptp => if off = offPPS_OUT || off = offPPS_OFS then { s with time := { s.time with ppsLast := ppsPoint s } } else s
  | .rw => if off = offTR_CFG then forAll rwMismatch ((List.range 128).map (fun i => 128 + i)) s else s
  | _ => s

/-- Whether a block may take up a class L value now. The unit of a MAC, an engine and a parse unit is a packet: a value waits
for the end of a frame in reception, of the passes on its Grove, or on all Groves for ACT_CFG, but no longer than 1 µs, and a
frame in transmission keeps the MAXLEN it was selected under (R40). A change of a Rootway ring's base or size waits for an
empty ring (R352). -/
def liveReady (s : State) (a : Nat) : Bool :=
  let waited := decide (mget (fun _ => 0) s.bus.oldAt a + tUs ≤ now s)
  if a = pa pgRw offRW_TXR_CFG then txrFill s == 0
  else if a = pa pgRw offRW_RXR_CFG then rxrFill s == 0
  else match macPort (pageOf a) with
    | some p => (match (port s p).rx with | some r => r.ignore | none => true) || waited
    | none =>
      if (groveOf (pageOf a)).isSome || pageOf a = pgPgu then blockIdle s (pageOf a) || waited
      else if a = pa dev offACT_CFG then (List.range 32).all (groveIdle s) || waited
      else true

/-- The words of the register that has a word at an address: both halves of a 64-bit register, which is taken up whole
(R9). -/
def liveUnit (a : Nat) : List Nat :=
  match rowAt a with
  | some r => (match r.half with | .single => [a] | .low => [a, a + 4] | .high => [a - 4, a])
  | none => [a]

/-- LIVE_VALUE_APPLY (R40): the block takes up the value of the register that has a word at an address. -/
def liveValueApply (a : Nat) (s : State) : State :=
  if (liveUnit a).all (fun x => (mfind s.bus.old x).isNone) || !liveReady s a then s
  else
    let s1 := forAll applyLive (liveUnit a) s
    match kindOf (pageOf a) with
    | some k => liveHook k (pageOf a) (offOf a) s s1
    | none => s1

/-! ### Command registers -/

/-- TIME_CTL (R306, R307). -/
def timeCtl (v : Word) (s : State) : State :=
  match v.toNat % 4 with
  | 1 => timeRead s
  | 2 => timeSet s
  | 3 => timeAdd s
  | _ => s

/-- SCH_CMD (R291, R292, R281). -/
def schCmd (v : Word) (s : State) : State :=
  let ty := fget v fSCH_CMD_TYPE
  let i := fget v fSCH_CMD_INDEX
  match fget v fSCH_CMD_OP with
  | 0 => schRead ty i s
  | 1 => schWrite ty i s
  | _ => schFlush ty i s

/-- GATE_CMD (R291, R299, R303). -/
def gateCmd (v : Word) (s : State) : State :=
  let ty := fget v fGATE_CMD_TYPE
  let i := fget v fGATE_CMD_INDEX
  match fget v fGATE_CMD_OP with
  | 0 => gateRead ty i s
  | 1 => gateWrite ty i s
  | _ => configChange ty i s

/-- A write of GATE_EN (R299): a B-port whose list becomes enabled leaves Coppice (R84). -/
def gateEnCmd (m : Nat) (v : Word) (s : State) : State :=
  let old := (reg s (pa pgGate (offGATE_EN m))).toNat
  forAll (fun i s => if 4 ≤ m && v.toNat.testBit i && !old.testBit i then copLeave (32 * m + i) s else s) (List.range 32)
    (gateEnWrite m v s)

/-- TMR_CMD (R319, R322). -/
def tmrCmd (v : Word) (s : State) : State :=
  let i := fget v fTMR_CMD_INDEX
  if fget v fTMR_CMD_OP = 0 then tmrRead i s else tmrWrite i s

/-- PGU_NODE_CMD (R120). -/
def pguNodeCmd (v : Word) (s : State) : State :=
  let key := fget v fPGU_NODE_CMD_BANK * 256 + fget v fPGU_NODE_CMD_NODE
  if fget v fPGU_NODE_CMD_OP = 0 then pguNodeRead key s else pguNodeWrite key s

/-- A write of MAC_CFG that changes a class Q field brings the port's link up anew (R443) (log entry 40, DEDUCED), and its
TRAIL_EN is held against the partner's (R357). -/
def macCfgWrite (p : Nat) (changed : Bool) (s : State) : State :=
  if changed then rwMismatch p (portRestart p s) else s

/-- A ring register of BAR2: BASE and LOG2 change only while EN is 0 (R377, R382) (log entry 71, DEDUCED). -/
def ringWrite (r : RegRow) (a : Nat) (v : Word) (s : State) : State :=
  let o := offOf a % 256
  let cfg := a - o + 8
  let on := regB s cfg fTXR_CFG_EN
  let v1 := if o = 8 && on then fset v fTXR_CFG_LOG2 (regF s cfg fTXR_CFG_LOG2) else v
  if o < 8 && on then s
  else if o = 0x0C then storeWord r a (BitVec.ofNat 32 (v.toNat % 2 ^ (regF s cfg fTXR_CFG_LOG2 + 1))) s
  else storeWord r a (rowMerge r (reg s a) v1) s

/-- A write of the MSI-X table: an entry that becomes unmasked sends its pending message (R382). -/
def msixWrite (a : Nat) (v : Word) (s : State) : State :=
  let s1 := setReg a v s
  let n := offOf a / 16
  let pend := pa pgPba (4 * (n / 32))
  if offOf a % 16 = 12 && !v.toNat.testBit 0 && (reg s1 pend).toNat.testBit (n % 32) then
    msixSend n (setReg pend (BitVec.ofNat 32 (natSetBit (reg s1 pend).toNat (n % 32) false)) s1)
  else s1

/-- Whether a requester may write a mailbox slot (R372). -/
def slotWriter (s : State) (req slot : Nat) : Bool :=
  if slot = 0 then req == hostReq s else 1 ≤ req && req ≤ 4

/-! ### A write of one register word, or of both words of a 64-bit register -/

/-- The effect of an accepted write of one word, beyond what its access types say. -/
def regEffect (req : Nat) (k : PageKind) (page : Nat) (r : RegRow) (a : Nat) (v : Word) (s : State) : State :=
  let off := offOf a
  let plain (s : State) : State := storeWord r a (rowMerge r (reg s a) v) s
  match k with
  | .dev =>
    if off = offEPOCH_CTL then epochCtl v s
    else if off = offSVC_CFG then svcCfg (v.toNat % 2) s
    else if off = offDEV_RST then (if fbit v fDEV_RST_WARM then deviceReset false causeDevRst s else s)
    else plain s
  | .ic =>
    if 0x400 ≤ off && off < 0x800 then storeWord r a (srcCfgWord ((off - 0x400) / 4) v) s
    else if off = offIC_SGI then icSgi (v.toNat % 512) s
    else if 0x090 ≤ off && off < 0x0A0 then icTmrWrite ((off - 0x090) / 4) v s
    else if 0x040 ≤ off && off < 0x080 && off % 16 = 12 then icEoi ((off - 0x040) / 16) (v.toNat % 512) s
    else plain s
  | .hmb =>
    let slot := (off - 0x100) / 0x80
    if off < 0x100 then plain s
    else if !slotWriter s req slot then s
    else if off = slotOff slot + 0x40 then (if v.toNat.testBit 0 then hmbGo slot s else s)
    else plain s
  | .sap0 | .sap => if off = offSW_KICK then swKick (page - 0x004) s else plain s
  | .pgu =>
    if off = offPGU_NODE_CMD then pguNodeCmd v s
    else if off = offFRAG_SEED then fragSeed v s
    else if pguBusy s && 0x060 ≤ off && off < 0x070 then s
    else plain s
  | .grv =>
    let g := page - 0x020
    if off = offGRV_ENG_SVC then grvSvcWrite g v s
    else if off = offGRV_ENG_FENCE then grvFenceWrite g v s
    else if off = offGRV_CS_WR then grvCsWr g (fget v fGRV_CS_WR_ADDR) s
    else if off = offGRV_CS_RD then grvCsRd g (fget v fGRV_CS_RD_COPY) (fget v fGRV_CS_RD_ADDR) s
    else if off = offGRV_CS_CRC then grvCsCrc g s
    else plain s
  | .emt =>
    if off = offLQ_HEAD then lqHeadWrite req v.toNat s
    else if 0x100 ≤ off && off < 0x500 && off % 16 = 12 then agePeriod ((off - 0x100) / 16) (reg s a) (plain s)
    else plain s
  | .tae =>
    if off = offTAE_HSQ_TAIL then (if hsqWriter s req then hsqTailWrite (v.toNat % 512) s else s) else plain s
  | .wp => if off = offWP_AUDIT then (if fbit v fWP_AUDIT_GO then wpAudit s else s) else plain s
  | .sch => if off = offSCH_CMD then schCmd v s else plain s
  | .rc => if off = offTMR_CMD then tmrCmd v s else plain s
  | .gate =>
    if off = offGATE_CMD then gateCmd v s
    else if 0x100 ≤ off && off < 0x120 then gateEnCmd ((off - 0x100) / 4) v s
    else plain s
  | .ptp =>
    if off = offTIME_CTL then timeCtl v s
    else if off = offPTP_CFG then
      applyLive a (tref25 (fbit v fPTP_CFG_TREF_25) (plain s))
    else plain s
  | .rw =>
    if off = offTR_SWITCH then trSwitchWrite v s
    else if off = offRW_TXR_TAIL then txrTailWrite (v.toNat % 65536) s
    else plain s
  | .lmac | .bmac =>
    let p := page - 0x080
    if off = offMAC_CFG then macCfgWrite p (rowQuiet r (reg s a) v) (plain s)
    else if page ≥ 0x100 && off = offANMASK then macCfgWrite p (reg s a != rowMerge r (reg s a) v) (plain s)
    else plain s
  | .sdql | .sdqb =>
    if 0x080 ≤ off && off < 0x0A0 then
      macCfgWrite (lanePort s page ((off - 0x080) / 4)) (reg s a != rowMerge r (reg s a) v) (plain s)
    else plain s
  | .pcie =>
    if off = offHEV_ACK then hevAck (v.toNat % 64) s
    else if 0x220 ≤ off && off < 0x400 then
      forAll (fun i s => match irqPage (off - 0x200 + i) with | some p => hevSample p s | none => s) (List.range 4)
        (applyLive a (plain s))
    else plain s
  | .txr | .rxr => ringWrite r a v s
  | .msix => msixWrite a v s
  | _ => if rowStaged r then storeShadow r a v s else plain s

/-- The words of one write: address, its row and its value. -/
abbrev WriteWord : Type := Nat × RegRow × Word

/-- Registers whose own write judges encoding and class Q by their table's ENABLE (R128, R151). -/
def ownJudge (k : PageKind) (off : Nat) : Bool :=
  match k with
  | .emt => 0x100 ≤ off && off < 0x500 && off % 16 != 12
  | .thk0 => 0x100 ≤ off && off < 0x300 && off % 8 == 0
  | _ => false

/-- A write of a register whose table judges it. -/
def ownWrite (k : PageKind) (off : Nat) (v : Word) (s : State) : State :=
  match k with
  | .emt =>
    let t := (off - 0x100) / 16
    if off % 16 = 0 then emtGeoWrite t v s else emtQuietWrite t off v s
  | _ =>
    let t := (off - 0x100) / 8
    shiftOff t (thkCfgWrite t v s)

/-- Why a write is refused, if it is: IN_RESET, LOCKED, ENCODING, QUIET, COMMIT_BUSY in this order (R38; log entry 24, DEDUCED). -/
def refusal (req : Nat) (k : PageKind) (page : Nat) (ws : List WriteWord) (s : State) : Option Nat :=
  if hasHeader page && inReset s page then some reasonInReset
  else if ws.any (fun w => lockedAt s k req (offOf w.1)) then some reasonLocked
  else if !ws.all (fun w => ownJudge k (offOf w.1) || (rowLegal w.2.1 w.2.2 && crossLegal s k page (offOf w.1) w.2.2)) then
    some reasonEncoding
  else if ws.any (fun w => !ownJudge k (offOf w.1) && rowQuiet w.2.1 (oldWord s w.2.1 w.1) w.2.2 &&
      !quietAt s k page (offOf w.1)) then some reasonQuiet
  else if ws.any (fun w => rowStaged w.2.1) && commitPending s page && !epochPaced s page then some reasonCommitBusy
  else none

/-- A write to block registers, accepted or refused as one; `off` is the offset that a refusal records. -/
def writeBlock (req : Nat) (k : PageKind) (page off : Nat) (ws : List WriteWord) (s : State) : State :=
  match refusal req k page ws s with
  | some why => if hasHeader page then refuse page off why s else s
  | none =>
    forAll (fun (w : WriteWord) s =>
      if ownJudge k (offOf w.1) then ownWrite k (offOf w.1) w.2.2 s else regEffect req k page w.2.1 w.1 w.2.2 s) ws s

/-! ### The page header (R37 to R39) -/

/-- ERR_CLASS with the fields of some sources cleared (R38). -/
def clearClasses (mask : Nat) (w : Word) : Word :=
  (List.range 16).foldl (fun w s => if mask.testBit s then fset w ⟨2 * s + 1, 2 * s⟩ 0 else w) w

/-- ERR_STS_CLEAR (R38): clearing a bit also clears the source's class. -/
def errStsClear (page mask : Nat) (s : State) : State :=
  let a := pa page offERR_STS
  setReg (pa page offERR_CLASS) (clearClasses mask (reg s (pa page offERR_CLASS)))
    (setReg a (BitVec.ofNat 32 ((reg s a).toNat &&& (0xFFFF - mask % 0x10000))) s)

/-- REFUSED_CLEAR (R39). -/
def refusedClear (page : Nat) (s : State) : State :=
  setReg (pa page offWRITE_REFUSED) 0 (setRegB (pa page offSts) fPAGE_STS_REFUSED false s)

/-- A write of a header register. -/
def headerWrite (req page off : Nat) (v : Word) (s : State) : State :=
  match rowFind off rowsHdr with
  | none => s
  | some r =>
    if off = offERR_INJECT then
      if !capInject page then s
      else if !rowLegal r v then refuse page off reasonEncoding s
      else if fbit v fERR_INJECT_GO then
        capture page (fget v fERR_INJECT_SRC) (fget v fERR_INJECT_CLASS) false 0 s
      else s
    else if !rowLegal r v then refuse page off reasonEncoding s
    else if off = offCtl then ctlWrite req page v.toNat s
    else if off = offSts then (if fbit v fPAGE_STS_REFUSED then refusedClear page s else s)
    else if off = offERR_STS then errStsClear page (v.toNat % 0x10000) s
    else
      let a := pa page off
      let was := irqLine s page
      let s1 := setReg a (rowMerge r (reg s a) v) s
      -- a change of IRQ_EN moves the page's line
      if off = offIRQ_EN then hevSample page (lineRise page was s1) else s1

/-! ### Addresses (R33, R36, R46) -/

/-- The offset a write at `off` acts on: the shadow view of a STAGED page is taken down by 0x800 (R36). -/
def trueOff (page off : Nat) : Nat := if capStaged page && 0x840 ≤ off then off - 0x800 else off

/-- Empties a requester's holding word (R46). -/
def dropHold (req : Nat) (s : State) : State := { s with bus := { s.bus with hold := mdel s.bus.hold req } }

/-- Fills a requester's holding word (R46). -/
def putHold (req a : Nat) (isWrite : Bool) (v : Word) (s : State) : State :=
  { s with bus := { s.bus with hold := mput s.bus.hold req ⟨a, isWrite, v⟩ } }

/-- The word held for a requester by an access of the kind given to the low word at `a`. -/
def heldWord (s : State) (req a : Nat) (isWrite : Bool) : Option Word :=
  match mfind s.bus.hold req with
  | some h => if h.addr = a && h.isWrite == isWrite then some h.val else none
  | none => none

/-- HIGH_WORD_WRITE (R46): both halves as one write when the low half is held, else the high half alone. -/
def highWrite (req : Nat) (k : PageKind) (page off : Nat) (r : RegRow) (v : Word) (s : State) : State :=
  let a := pa page off
  let low := heldWord s req (a - 4) true
  let s1 := dropHold req s
  match low, rowAt (a - 4) with
  | some w, some rl => writeBlock req k page (off - 4) [(a - 4, rl, w), (a, r, v)] s1
  | _, _ => writeBlock req k page (off - 4) [(a, r, v)] s1

/-- A 32-bit write to a register page. -/
def pageWrite (req page off : Nat) (v : Word) (s : State) : State :=
  match kindOf page with
  | none => s
  | some k =>
    if hasHeader page && off < 0x40 then headerWrite req page off v s
    else
      let x := trueOff page off
      match rowAt (pa page x) with
      | none =>
        if isCounter (pa page x) then putHold req (pa page x) true v s
        else if 4 ≤ x && isCounter (pa page x - 4) then
          (if inReset s page then refuse page (x - 4) reasonInReset (dropHold req s) else dropHold req s)
        -- mapping bytes of the sources below 32 (R398)
        else if k == .pcie && 0x200 ≤ x && x < 0x220 && v &&& 0x80808080 != 0 then refuse page x reasonEncoding s
        else s
      | some r =>
        match r.half with
        | .single => writeBlock req k page x [(pa page x, r, v)] s
        | .low => putHold req (pa page x) true v s
        | .high => highWrite req k page x r v s

/-- BAR0 address of the first byte after the register pages, and the windows of R33. -/
abbrev aSub : Nat := 0x01000000
abbrev aComp : Nat := 0x01008000
abbrev aWinEnd : Nat := 0x01010000
abbrev aAper : Nat := 0x02000000
/-- BAR2 follows BAR0 in the model's address numbering. -/
abbrev aBar2 : Nat := 0x04000000

/-- Whether an address is a register page's: BAR0 below 16 MB, or BAR2. -/
def isRegAddr (a : Nat) : Bool := a < aSub || (aBar2 ≤ a && a < aBar2 + 0x10000)

/-- One 32-bit write by a requester; to what is neither a register page nor the submission window it is ignored (R34, R54,
R55) (log entry 61, DEDUCED), and so is a write of the submission window while page 0x041 is in reset
(log entry 124, DESIGN CHOICE). -/
def write32 (req a : Nat) (v : Word) (s : State) : State :=
  if isRegAddr a then pageWrite req (pageOf a) (offOf a) v s
  else if aSub ≤ a && a < aComp then
    (if hsqWriter s req && !inReset s pgTae then subWrite (a - aSub) (leBytes 4 v.toNat) s else s)
  else s

/-- A write of `size` bytes (R34): 8 bytes act as two 32-bit writes, the lower address first; 1 or 2 bytes to a register
page are refused with reason SIZE, at an offset that holds no register as well (log entry 24, DEDUCED). -/
def busWrite (req a size v : Nat) (s : State) : State :=
  if size = 8 then write32 req (a + 4) (BitVec.ofNat 32 (v / 2 ^ 32)) (write32 req a (BitVec.ofNat 32 v) s)
  else if size = 4 then write32 req (a / 4 * 4) (BitVec.ofNat 32 v) s
  else if isRegAddr a then
    (if hasHeader (pageOf a) then refuse (pageOf a) (trueOff (pageOf a) (offOf a)) reasonSize s else s)
  else if aSub ≤ a && a < aComp && hsqWriter s req && !inReset s pgTae then subWrite (a - aSub) (leBytes size v) s
  else s

/-! ### Reads -/

/-- A table read aperture (R55): the stored bits of the space it names, from its base on. Entries stand one behind another in
INDEX order: EMT entry images without their tags, the TAE READ data of Thicket entries, the dispatch entries and then the
key templates of space 9 (log entry 72, DESIGN CHOICE). -/
def aperWord (s : State) (a : Nat) : Word :=
  let n := (a - aAper) / 0x400000
  let w := live s (pa pgTae (offTAE_APER n))
  let o := fget w fTAE_APER_BASE * 0x400000 + (a - aAper) % 0x400000
  let sp := fget w fTAE_APER_SPACE
  let t := fget w fTAE_APER_TABLE
  let pick (len : Nat) (bytes : Nat → Bytes) : Word := BitVec.ofNat 32 (leAt (bytes (o / len)) (o % len) 4)
  if sp = 0 || 0x0A < sp then 0
  else if sp = 1 then pick (16 * emtN s t) (emtImage s t)
  else if sp = 2 then
    pick 96 (fun i => let e := thkEntry s t 0 i
      leBytes 40 e.value ++ leBytes 40 e.mask ++ leBytes 8 e.result ++ leBytes 8 e.tag)
  else if sp = 9 && 2048 ≤ o then
    let i := 512 + (o - 2048) / 32
    if i < spaceSize 9 then BitVec.ofNat 32 (leAt (leBytes 32 (spaceRead s 9 i)) ((o - 2048) % 32) 4) else 0
  else
    let len := spaceLen sp 0
    if len = 0 then 0 else pick len (fun i => if i < spaceSize sp then leBytes len (spaceRead s sp i) else [])

/-- A derived or stored register word as a read gives it (log entry 45, DEDUCED). -/
def regWord (s : State) (k : PageKind) (page off : Nat) (r : RegRow) : Word :=
  let a := pa page off
  let w := reg s a
  let half (n : Nat) : Word := BitVec.ofNat 32 (if r.half == .high then n / 2 ^ 32 else n)
  match k with
  | .dev => if off = 0x314 then BitVec.ofNat 32 (epInflight s) else w
  | .lko =>
    if off = offLKO_TOP || off = offLKO_TOP + 4 then half (lkoTop s)
    else if off = offLKO_ECHO_TOP || off = offLKO_ECHO_TOP + 4 then half (lkoEchoTop s)
    else if 0x058 ≤ off && off < 0x068 then BitVec.ofNat 32 (lkoDir s >>> (32 * ((off - 0x058) / 4)))
    else w
  | .ic =>
    if 0x040 ≤ off && off < 0x080 && off % 16 = 8 then BitVec.ofNat 32 (icRpWord s ((off - 0x040) / 16))
    else if 0x100 ≤ off && off < 0x140 then icBits (icPending s) ((off - 0x100) / 4)
    else if 0x140 ≤ off && off < 0x180 then icBits (icActive s) ((off - 0x140) / 4)
    else if 0x180 ≤ off && off < 0x1C0 then icBits (icLine s) ((off - 0x180) / 4)
    else w
  | .grv => if off = offGRV_STS then grvSts s (page - 0x020) else w
  | .emt => if 0x500 ≤ off && off < 0x600 then emtSts s ((off - 0x500) / 4) else w
  | .thk0 | .thk =>
    if 0x040 ≤ off && off < 0x060 then thkBankWord s (8 * (page - 0x048) + (off - 0x040) / 4)
    else if 0x100 ≤ off && off < 0x300 && off % 8 = 4 then thkSts s ((off - 0x104) / 8)
    else w
  | .clr =>
    if off = offCLR_FREE then BitVec.ofNat 32 (freeCells s)
    else if off = offCLR_OCC then
      let p := liveF s (pa pgClr offCLR_OCC_SEL) fCLR_OCC_SEL_PORT
      let what := liveF s (pa pgClr offCLR_OCC_SEL) fCLR_OCC_SEL_WHAT
      BitVec.ofNat 32 (if what < 8 then txcC s p what else if what = 8 then txc s p
        else if what = 9 then rxc s p else rxcC s p (what - 10))
    else w
  | .wp => if 0x100 ≤ off && off < 0x180 then BitVec.ofNat 32 (freeLen s (freeList s ((off - 0x100) / 4))) else w
  | .rc =>
    if off = offRC_OCC then BitVec.ofNat 32 (rcOcc s)
    else if off = offTMR_STS then BitVec.ofNat 32 s.svc.fifo.length
    else w
  | .ptp =>
    if 0x080 ≤ off && off < 0x090 then txtsWord s ((off - 0x080) / 4)
    else if off = offTXTS_CNT then BitVec.ofNat 32 s.time.fifo.length
    else w
  | .lmac | .bmac => if off = offFC_STS then BitVec.ofNat 32 (fcSts s (page - 0x080)) else w
  | .rw => if 0x400 ≤ off && off < 0x600 then linkStsWord s (128 + (off - 0x400) / 4) else w
  | _ => if rowStaged r then activeS s (curEpoch s) a else w

/-- The RW fields and the read-only ones: a write-only field reads 0. -/
def readMask (r : RegRow) (w : Word) : Word :=
  r.fields.foldl (fun w f => if f.acc == .wo then fset w (frFld f) 0 else w) w

/-- What a read does to the state: RC_LAG clears, TXTS_3 removes the head entry (R290, R312). -/
def readEffect (page off : Nat) (s : State) : State :=
  if page = pgRc && off = offRC_LAG then rcLagRead s
  else if page = pgPtp && off = 0x08C then txts3 s
  else s

/-- A header word as read. -/
def headerWord (s : State) (page off : Nat) : Word :=
  if off = offSts then stsWord s page
  else if off = offPAGE_ID then idWord s page
  else if off = offERR_COUNT then errCountWord s page
  else match rowFind off rowsHdr with
    | none => 0
    | some r => readMask r (reg s (pa page off))

/-- A counter as read: from the snapshot while one is held (R47). -/
def ctrRead (s : State) (a : Nat) : Nat :=
  if regB s (pa (pageOf a) offSts) fPAGE_STS_SNAP_VALID then
    match mfind s.bus.snap (pageOf a) with
    | some m => mget (fun _ => 0) m a
    | none => 0
  else ctr s a

/-- A read of one half of a 64-bit value `lo`, `hi` whose low word lies at `a`: the low half latches the high one (R46). -/
def read64 (req a : Nat) (isHigh : Bool) (lo hi : Word) (s : State) : Word × State :=
  if isHigh then ((heldWord s req a false).getD hi, dropHold req s)
  else (lo, putHold req a false hi s)

/-- A 32-bit read of a register page: its value and the state after it. The shadow view of a word without a shadow, a
counter among them, gives the word's reset value, or a counter its value (log entry 97, DESIGN CHOICE). -/
def pageRead (req page off : Nat) (s : State) : Word × State :=
  match kindOf page with
  | none => (0, s)
  | some k =>
    if hasHeader page && off < 0x40 then (headerWord s page off, s)
    -- Sapwood cores cannot reach slot 0 (R362)
    else if page = pgHmb && 0x100 ≤ off && off < 0x180 && 1 ≤ req && req ≤ 4 then (0, s)
    else
      let x := trueOff page off
      let a := pa page x
      if isCounter a then read64 req a false (BitVec.ofNat 32 (ctrRead s a)) (BitVec.ofNat 32 (ctrRead s a / 2 ^ 32)) s
      else if 4 ≤ x && isCounter (a - 4) then
        read64 req (a - 4) true 0 (BitVec.ofNat 32 (ctrRead s (a - 4) / 2 ^ 32)) s
      else if page = pgEmt && 0x600 ≤ x && x < 0x800 then (lqWindow s x, s)
      else match rowAt a with
        | none => (0, s)
        | some r =>
          let word (o : Nat) (r : RegRow) : Word :=
            readMask r (if x != off then shadowS s (pa page o) else regWord s k page o r)
          let w := word x r
          match r.half with
          | .single => (w, readEffect page x s)
          | .low => match rowAt (a + 4) with
            | some rh => read64 req a false w (word (x + 4) rh) s
            | none => (w, s)
          | .high => read64 req (a - 4) true 0 w s

/-- One 32-bit read by a requester. -/
def read32 (req a : Nat) (s : State) : Word × State :=
  if isRegAddr a then pageRead req (pageOf a) (offOf a) s
  else if aSub ≤ a && a < aComp then
    (BitVec.ofNat 32 (leNat ((List.range 4).map (fun i => mget (fun _ => 0) s.tae.sub (a - aSub + i)))), s)
  else if aComp ≤ a && a < aWinEnd then
    (BitVec.ofNat 32 (leNat ((List.range 4).map (fun i => mget (fun _ => 0) s.tae.comp (a - aComp + i)))), s)
  else if aAper ≤ a && a < aBar2 then (aperWord s a, s)
  else (0, s)

/-- Shows what a read returned. -/
def showRead (r : Word × State) : State := { r.2 with bus := { r.2.bus with rdata := r.1, rdataHi := 0 } }

/-- Shows what a 64-bit read returned. -/
def showRead64 (lo hi : Word) (s : State) : State := { s with bus := { s.bus with rdata := lo, rdataHi := hi } }

/-- Whether a requester's accesses reach the device: PCIe needs its link (R378, R430). -/
def reaches (s : State) (req : Nat) : Bool := req != 0 || (s.pin.pcieUp && s.pin.perstN)

/-- The bytes of a word that an access of `size` bytes at `a` addresses (R34). -/
def readBytes (a size : Nat) (w : Word) : Word := BitVec.ofNat 32 (w.toNat / 2 ^ (8 * (a % 4)) % 2 ^ (8 * size))

/-- A read of `size` bytes (R34): 8 bytes act as two 32-bit reads, the lower address first; 1 or 2 bytes return the
addressed bytes. -/
def busRead (req a size : Nat) (s : State) : State :=
  if size = 8 then
    let lo := read32 req (a / 8 * 8) s
    let hi := read32 req (a / 8 * 8 + 4) lo.2
    showRead64 lo.1 hi.1 hi.2
  else
    let r := read32 req (a / 4 * 4) s
    showRead (if size < 4 then readBytes a size r.1 else r.1, r.2)

end Sys2Proof.Machine
end

