-- ==== Sys2Proof/Machine/BusCmds.lean ====
section
/-!
DEFINITION. The commands that are one access of a requester to the register bus (02), and the block's side of the page
header commands. Every access passes the checks of the bus: change class, encoding, IN_RESET, locks (R38 to R46).
-/

namespace Sys2Proof.Machine
open Sys2Proof

/-- One 32-bit write by a requester, which a PCIe access makes only while the link is up. -/
def reqWrite (req a : Nat) (v : Word) (s : State) : State := if reaches s req then write32 req a v s else s

/-- One 32-bit read by a requester. -/
def reqRead (req a : Nat) (s : State) : State := if reaches s req then busRead req a 4 s else s

/-- A register word with the fields given, 0 elsewhere. -/
def mkWord (l : List (Fld × Nat)) : Word := l.foldl (fun w e => fset w e.1 e.2) 0

/-- A write of PAGE_CTL that gives one bit a value and leaves the others as they read (R37). -/
def reqCtl (req page bit : Nat) (b : Bool) (s : State) : State :=
  reqWrite req (pa page offCtl) (BitVec.ofNat 32 (natSetBit (ctlNow s page) bit b)) s

/-- REGISTER_WRITE (R9, R34, R38): a write of `size` bytes at a bus address. -/
def execRegisterWrite (req a size v : Nat) (s : State) : Host.Outcome State Fault Refusal :=
  act (fun s => if reaches s req then busWrite req a size v s else s) s

/-- LIVE_VALUE_APPLY (R40): the block takes up the class L value of the register word at an address. -/
def execLiveValueApply (a : Nat) (s : State) : Host.Outcome State Fault Refusal := act (liveValueApply a) s

/-- COMMIT (R41). -/
def execCommit (req page : Nat) (s : State) : Host.Outcome State Fault Refusal := act (reqCtl req page 3 true) s

/-- SHADOW_APPLY (R41): the unit boundary at which a page's shadows become active. -/
def execShadowApply (page : Nat) (s : State) : Host.Outcome State Fault Refusal := act (shadowApply page) s

/-- DISCARD (R41). -/
def execDiscard (req page : Nat) (s : State) : Host.Outcome State Fault Refusal := act (reqCtl req page 6 true) s

/-- EPOCH_BIND (R42). -/
def execEpochBind (req page : Nat) (b : Bool) (s : State) : Host.Outcome State Fault Refusal :=
  act (reqCtl req page 4 b) s

/-- SNAPSHOT (R47). -/
def execSnapshot (req page : Nat) (s : State) : Host.Outcome State Fault Refusal := act (reqCtl req page 5 true) s

/-- SNAP_CLEAR (R47). -/
def execSnapClear (req page : Nat) (s : State) : Host.Outcome State Fault Refusal := act (reqCtl req page 7 true) s

/-- SNAPSHOT_COMPLETE (R47): the copy of a page's counters is complete. -/
def execSnapshotComplete (page : Nat) (s : State) : Host.Outcome State Fault Refusal := act (snapshotComplete page) s

/-- SOFT_RESET (R44). -/
def execSoftReset (req page : Nat) (s : State) : Host.Outcome State Fault Refusal := act (reqCtl req page 2 true) s

/-- SOFT_RESET_COMPLETE (R44): the block is ready. -/
def execSoftResetComplete (page : Nat) (s : State) : Host.Outcome State Fault Refusal := act (softResetComplete page) s

/-- QUIESCE (R43). -/
def execQuiesce (req page : Nat) (b : Bool) (s : State) : Host.Outcome State Fault Refusal := act (reqCtl req page 1 b) s

/-- QUIESCE_COMPLETE (R43): no unit of the block is in flight. -/
def execQuiesceComplete (page : Nat) (s : State) : Host.Outcome State Fault Refusal := act (quiesceComplete page) s

/-- ENABLE (R37, R43). -/
def execEnable (req page : Nat) (b : Bool) (s : State) : Host.Outcome State Fault Refusal := act (reqCtl req page 0 b) s

/-- REFUSED_CLEAR (R39): 1 written to PAGE_STS.REFUSED. -/
def execRefusedClear (req page : Nat) (s : State) : Host.Outcome State Fault Refusal :=
  act (reqWrite req (pa page offSts) (mkWord [(fPAGE_STS_REFUSED, 1)])) s

/-- ERR_STS_CLEAR (R38): ones written to ERR_STS bits. -/
def execErrStsClear (req page mask : Nat) (s : State) : Host.Outcome State Fault Refusal :=
  act (reqWrite req (pa page offERR_STS) (BitVec.ofNat 32 mask)) s

/-- ERR_INJECT (R38): GO with a source and a class. -/
def execErrInject (req page src cls : Nat) (s : State) : Host.Outcome State Fault Refusal :=
  act (reqWrite req (pa page offERR_INJECT)
    (mkWord [(fERR_INJECT_SRC, src), (fERR_INJECT_CLASS, cls), (fERR_INJECT_GO, 1)])) s

/-- LOW_WORD_WRITE (R46): the low word of the 64-bit register at `a`. -/
def execLowWordWrite (req a : Nat) (v : Word) (s : State) : Host.Outcome State Fault Refusal := act (reqWrite req a v) s

/-- HIGH_WORD_WRITE (R46): the high word of the 64-bit register whose low word lies at `a`. -/
def execHighWordWrite (req a : Nat) (v : Word) (s : State) : Host.Outcome State Fault Refusal :=
  act (reqWrite req (a + 4) v) s

/-- LOW_WORD_READ (R34, R46). -/
def execLowWordRead (req : Nat) (a : Access) (s : State) : Host.Outcome State Fault Refusal :=
  act (fun s => if reaches s req then busRead req a.addr a.size s else s) s

/-- HIGH_WORD_READ (R46). -/
def execHighWordRead (req a : Nat) (s : State) : Host.Outcome State Fault Refusal := act (reqRead req (a + 4)) s

/-- RC_LAG_READ (R290). -/
def execRcLagRead (req : Nat) (s : State) : Host.Outcome State Fault Refusal :=
  act (reqRead req (pa pgRc offRC_LAG)) s

/-- TAE_HSQ_TAIL (R54). -/
def execTaeHsqTail (req v : Nat) (s : State) : Host.Outcome State Fault Refusal :=
  act (reqWrite req (pa pgTae offTAE_HSQ_TAIL) (BitVec.ofNat 32 v)) s

/-- TAE_HCQ_HEAD (R54). -/
def execTaeHcqHead (req v : Nat) (s : State) : Host.Outcome State Fault Refusal :=
  act (reqWrite req (pa pgTae offTAE_HCQ_HEAD) (BitVec.ofNat 32 v)) s

/-- MAC_CFG (R43, R62): the configuration word of a port. -/
def execMacCfg (req p : Nat) (v : Word) (s : State) : Host.Outcome State Fault Refusal :=
  act (reqWrite req (pa (macPage p) offMAC_CFG) v) s

/-- FRAG_SEED (R115). -/
def execFragSeed (req : Nat) (v : Word) (s : State) : Host.Outcome State Fault Refusal :=
  act (reqWrite req (pa pgPgu offFRAG_SEED) v) s

/-- The word of PGU_NODE_CMD. -/
def nodeCmd (op bank node : Nat) : Word :=
  mkWord [(fPGU_NODE_CMD_OP, op), (fPGU_NODE_CMD_BANK, bank), (fPGU_NODE_CMD_NODE, node)]

/-- PGU_NODE_READ (R120). -/
def execPguNodeRead (req bank node : Nat) (s : State) : Host.Outcome State Fault Refusal :=
  act (reqWrite req (pa pgPgu offPGU_NODE_CMD) (nodeCmd 0 bank node)) s

/-- PGU_NODE_WRITE (R120). -/
def execPguNodeWrite (req bank node : Nat) (s : State) : Host.Outcome State Fault Refusal :=
  act (reqWrite req (pa pgPgu offPGU_NODE_CMD) (nodeCmd 1 bank node)) s

/-- LQ_HEAD (R143). -/
def execLqHead (req v : Nat) (s : State) : Host.Outcome State Fault Refusal :=
  act (reqWrite req (pa pgEmt offLQ_HEAD) (BitVec.ofNat 32 v)) s

/-- EMT_TBL_GEO (R128). -/
def execEmtTblGeo (req t : Nat) (v : Word) (s : State) : Host.Outcome State Fault Refusal :=
  act (reqWrite req (pa pgEmt (offEMT_TBL_GEO (t % 64))) v) s

/-- THK_TBL_CFG (R151). -/
def execThkTblCfg (req t : Nat) (v : Word) (s : State) : Host.Outcome State Fault Refusal :=
  act (reqWrite req (pa pgThk (offTHK_TBL_CFG (t % 64))) v) s

/-- GRV_CS_WR (R205). -/
def execGrvCsWr (req g addr : Nat) (s : State) : Host.Outcome State Fault Refusal :=
  act (reqWrite req (pa (grvPage g) offGRV_CS_WR) (mkWord [(fGRV_CS_WR_ADDR, addr)])) s

/-- GRV_CS_RD (R204). -/
def execGrvCsRd (req g copy addr : Nat) (s : State) : Host.Outcome State Fault Refusal :=
  act (reqWrite req (pa (grvPage g) offGRV_CS_RD) (mkWord [(fGRV_CS_RD_COPY, copy), (fGRV_CS_RD_ADDR, addr)])) s

/-- GRV_CS_CRC (R204): any write restarts the stream. -/
def execGrvCsCrc (req g : Nat) (v : Word) (s : State) : Host.Outcome State Fault Refusal :=
  act (reqWrite req (pa (grvPage g) offGRV_CS_CRC) v) s

/-- IN_SERVICE (R199): a write of GRV_ENG_SVC. -/
def execInService (req g : Nat) (v : Word) (s : State) : Host.Outcome State Fault Refusal :=
  act (reqWrite req (pa (grvPage g) offGRV_ENG_SVC) v) s

/-- FENCED (R200): a write of GRV_ENG_FENCE. -/
def execFenced (req g : Nat) (v : Word) (s : State) : Host.Outcome State Fault Refusal :=
  act (reqWrite req (pa (grvPage g) offGRV_ENG_FENCE) v) s

/-- EPOCH_COMMIT (R239). -/
def execEpochCommit (req e : Nat) (s : State) : Host.Outcome State Fault Refusal :=
  act (reqWrite req (pa dev offEPOCH_CTL) (mkWord [(fEPOCH_CTL_COMMIT, 1), (fEPOCH_CTL_EPOCH, e)])) s

/-- EPOCH_ARM (R238, R242): for the instant in EPOCH_TIME, with CHAIN toward a device. -/
def execEpochArm (req e : Nat) (chain : Bool) (target : Nat) (s : State) : Host.Outcome State Fault Refusal :=
  act (reqWrite req (pa dev offEPOCH_CTL) (mkWord [(fEPOCH_CTL_ARM, 1), (fEPOCH_CTL_CHAIN, if chain then 1 else 0),
    (fEPOCH_CTL_EPOCH, e), (fEPOCH_CTL_TARGET, target)])) s

/-- EPOCH_DISARM (R238, R242). -/
def execEpochDisarm (req : Nat) (chain : Bool) (target : Nat) (s : State) : Host.Outcome State Fault Refusal :=
  act (reqWrite req (pa dev offEPOCH_CTL) (mkWord [(fEPOCH_CTL_DISARM, 1), (fEPOCH_CTL_CHAIN, if chain then 1 else 0),
    (fEPOCH_CTL_TARGET, target)])) s

/-- WP_AUDIT (R276): GO. -/
def execWpAudit (req : Nat) (s : State) : Host.Outcome State Fault Refusal :=
  act (reqWrite req (pa pgWp offWP_AUDIT) (mkWord [(fWP_AUDIT_GO, 1)])) s

/-- The word of SCH_CMD. -/
def schWord (op ty i : Nat) : Word := mkWord [(fSCH_CMD_OP, op), (fSCH_CMD_TYPE, ty), (fSCH_CMD_INDEX, i)]

/-- SCH_READ (R291). -/
def execSchRead (req ty i : Nat) (s : State) : Host.Outcome State Fault Refusal :=
  act (reqWrite req (pa pgSch offSCH_CMD) (schWord 0 ty i)) s

/-- SCH_WRITE (R292). -/
def execSchWrite (req ty i : Nat) (s : State) : Host.Outcome State Fault Refusal :=
  act (reqWrite req (pa pgSch offSCH_CMD) (schWord 1 ty i)) s

/-- FLUSH (R281). -/
def execFlush (req ty i : Nat) (s : State) : Host.Outcome State Fault Refusal :=
  act (reqWrite req (pa pgSch offSCH_CMD) (schWord 2 ty i)) s

/-- The word of GATE_CMD. -/
def gateWord (op ty i : Nat) : Word := mkWord [(fGATE_CMD_OP, op), (fGATE_CMD_TYPE, ty), (fGATE_CMD_INDEX, i)]

/-- GATE_READ (R291). -/
def execGateRead (req ty i : Nat) (s : State) : Host.Outcome State Fault Refusal :=
  act (reqWrite req (pa pgGate offGATE_CMD) (gateWord 0 ty i)) s

/-- GATE_WRITE (R303). -/
def execGateWrite (req ty i : Nat) (s : State) : Host.Outcome State Fault Refusal :=
  act (reqWrite req (pa pgGate offGATE_CMD) (gateWord 1 ty i)) s

/-- CONFIGURATION_CHANGE (R299). -/
def execConfigurationChange (req ty i : Nat) (s : State) : Host.Outcome State Fault Refusal :=
  act (reqWrite req (pa pgGate offGATE_CMD) (gateWord 2 ty i)) s

/-- GATE_EN (R297): word m of the enables, ports 32 m to 32 m + 31. -/
def execGateEn (req m : Nat) (v : Word) (s : State) : Host.Outcome State Fault Refusal :=
  act (reqWrite req (pa pgGate (offGATE_EN (m % 8))) v) s

/-- TIME_READ (R306). -/
def execTimeRead (req : Nat) (s : State) : Host.Outcome State Fault Refusal :=
  act (reqWrite req (pa pgPtp offTIME_CTL) (mkWord [(fTIME_CTL_OP, 1)])) s

/-- TIME_SET (R307). -/
def execTimeSet (req : Nat) (s : State) : Host.Outcome State Fault Refusal :=
  act (reqWrite req (pa pgPtp offTIME_CTL) (mkWord [(fTIME_CTL_OP, 2)])) s

/-- TIME_ADD (R307). -/
def execTimeAdd (req : Nat) (s : State) : Host.Outcome State Fault Refusal :=
  act (reqWrite req (pa pgPtp offTIME_CTL) (mkWord [(fTIME_CTL_OP, 3)])) s

/-- TREF_25 (R313): a write of PTP_CFG that gives TREF_25 a value and leaves the other fields as they read. -/
def execTref25 (req : Nat) (b : Bool) (s : State) : Host.Outcome State Fault Refusal :=
  act (fun s => reqWrite req (pa pgPtp offPTP_CFG)
    (fset (reg s (pa pgPtp offPTP_CFG)) fPTP_CFG_TREF_25 (if b then 1 else 0)) s) s

/-- TXTS_3 (R312): the read that removes the head entry. -/
def execTxts3 (req : Nat) (s : State) : Host.Outcome State Fault Refusal := act (reqRead req (pa pgPtp (offTXTS 3))) s

/-- SVC_CFG (R317): a write of PROFILE. -/
def execSvcCfg (req : Nat) (v : Word) (s : State) : Host.Outcome State Fault Refusal :=
  act (reqWrite req (pa dev offSVC_CFG) v) s

/-- TMR_READ (R322). -/
def execTmrRead (req i : Nat) (s : State) : Host.Outcome State Fault Refusal :=
  act (reqWrite req (pa pgRc offTMR_CMD) (mkWord [(fTMR_CMD_OP, 0), (fTMR_CMD_INDEX, i)])) s

/-- TMR_WRITE (R319). -/
def execTmrWrite (req i : Nat) (s : State) : Host.Outcome State Fault Refusal :=
  act (reqWrite req (pa pgRc offTMR_CMD) (mkWord [(fTMR_CMD_OP, 1), (fTMR_CMD_INDEX, i)])) s

/-- RW_TXR_TAIL (R352). -/
def execRwTxrTail (req v : Nat) (s : State) : Host.Outcome State Fault Refusal :=
  act (reqWrite req (pa pgRw offRW_TXR_TAIL) (BitVec.ofNat 32 v)) s

/-- TR_SWITCH (R358): B-port, TRAIL_EN and MAXLEN. -/
def execTrSwitch (req p : Nat) (trail : Bool) (maxlen : Nat) (s : State) : Host.Outcome State Fault Refusal :=
  act (reqWrite req (pa pgRw offTR_SWITCH) (mkWord [(fTR_SWITCH_PORT, p), (fTR_SWITCH_TRAIL_EN, if trail then 1 else 0),
    (fTR_SWITCH_MAXLEN, maxlen)])) s

/-- DEV_RST (R428): the key and WARM. -/
def execDevRst (req key : Nat) (warm : Bool) (s : State) : Host.Outcome State Fault Refusal :=
  act (reqWrite req (pa dev offDEV_RST) (mkWord [(fDEV_RST_KEY, key), (fDEV_RST_WARM, if warm then 1 else 0)])) s

/-- SW_KICK (R373): core n writes its SW_KICK. -/
def execSwKick (n : Nat) (v : Word) (s : State) : Host.Outcome State Fault Refusal :=
  act (reqWrite (n % 4 + 1) (pa (0x004 + n % 4) offSW_KICK) v) s

/-- RING_TAIL (R379): the tail of transmit ring i, or of receive ring i, in BAR2. -/
def execRingTail (recv : Bool) (i v : Nat) (s : State) : Host.Outcome State Fault Refusal :=
  act (reqWrite 0 (pa (if recv then pgRxr else pgTxr) (offTXR_TAIL (i % 16))) (BitVec.ofNat 32 v)) s

/-- HEV_ACK (R398). -/
def execHevAck (req v : Nat) (s : State) : Host.Outcome State Fault Refusal :=
  act (reqWrite req (pa pgPcie offHEV_ACK) (BitVec.ofNat 32 v)) s

/-- IC_SGI (R387). -/
def execIcSgi (req q : Nat) (s : State) : Host.Outcome State Fault Refusal :=
  act (reqWrite req (pa pgIc offIC_SGI) (BitVec.ofNat 32 q)) s

/-- IC_EOI (R394): a source written to IC_EOI of core n. -/
def execIcEoi (req n q : Nat) (s : State) : Host.Outcome State Fault Refusal :=
  act (reqWrite req (pa pgIc (offIC_EOI (n % 4))) (BitVec.ofNat 32 q)) s

/-- API_CMD_TAIL (R376). -/
def execApiCmdTail (req v : Nat) (s : State) : Host.Outcome State Fault Refusal :=
  act (reqWrite req (pa pgSap offAPI_CMD_TAIL) (BitVec.ofNat 32 v)) s

end Sys2Proof.Machine
end

