-- ==== Sys2Proof/Machine/Subs.lean ====
section
/-!
DEFINITION. Subroutine calls (R185) and the two subroutines of the SVC image that a routine calls, svc_arp and svc_nd (R318,
R330). In the SVC profile a CALL of one of them runs the subroutine to its return (log entry 29, DEDUCED).
-/

namespace Sys2Proof.Machine
open Sys2Proof

/-- Entry of svc_arp (R318). -/
abbrev svcArpEntry : Nat := 0xC00

/-- Entry of svc_nd (R318). -/
abbrev svcNdEntry : Nat := 0xC02

/-- EtherType of a frame behind at most n tags of 802.1Q, the first field at `o`, and where what it names starts. -/
def etherTypeAt (c : Bytes) : Nat → Nat → Nat × Nat
  | 0, o => (beAt c o 2, o + 2)
  | n + 1, o => if beAt c o 2 = 0x8100 || beAt c o 2 = 0x88A8 then etherTypeAt c n (o + 4) else (beAt c o 2, o + 2)

/-- VID of the subroutines' keys: XS0 [11:0] as the PRV holds it (R101, R330). -/
def subVid (p : Pass) : Bytes := leBytes 2 (leAt p.prv 24 2 % 4096)

/-- An ARP request at o that is not gratuitous (R330, RFC 826): Ethernet and IPv4, operation 1. -/
def arpAsks (c : Bytes) (o : Nat) : Bool :=
  decide (o + 28 ≤ c.length) && beAt c o 2 == 1 && beAt c (o + 2) 2 == 0x0800 && beAt c (o + 4) 2 == 0x0604 &&
    beAt c (o + 6) 2 == 1 && slice c (o + 14) 4 != slice c (o + 24) 4

/-- The ARP reply in place of the request at o (RFC 826), from the MAC address found. -/
def arpReply (c : Bytes) (o : Nat) (mac : Bytes) : Bytes :=
  let sha := slice c (o + 8) 6
  overwrite (overwrite c 0 (sha ++ mac)) (o + 6)
    (beBytes 2 2 ++ mac ++ slice c (o + 24) 4 ++ sha ++ slice c (o + 14) 4)

/-- A Neighbor Solicitation in an IPv6 packet at o, its ICMPv6 header right behind the IPv6 header. -/
def ndAsks (c : Bytes) (o : Nat) : Bool :=
  decide (o + 64 ≤ c.length) && (byteAt c o).toNat / 16 == 6 && byteAt c (o + 6) == 58 && beAt c (o + 40) 2 == 135 * 256

/-- Option bytes of the solicitation at o that the copy holds. -/
def ndOptions (c : Bytes) (o : Nat) : Nat := Nat.min (beAt c (o + 4) 2 - 24) (c.length - (o + 64))

/-- The copy with the solicitation at o resized to 32 bytes of ICMPv6, as one PUSH or POP behind the IPv6 header. -/
def ndResize (p : Pass) (st : Staged) (o : Nat) : Edited :=
  let n := ndOptions st.copy o
  if n < 8 then editPush p st (o + 40) (List.replicate (8 - n) 0)
  else if n = 8 then .ok st.copy st.orig
  else editPop p st (o + 40) (n - 8)

/-- The Neighbor Advertisement (R330): O = 1, with the target link-layer address option; S = 1 to the solicitor, or S = 0 to
ff02::1 when the solicitation's source is unspecified. `c` is the solicitation and `d` the resized copy. -/
def ndReply (c d : Bytes) (o : Nat) (mac : Bytes) (router : Bool) : Bytes :=
  let src := slice c (o + 8) 16
  let target := slice c (o + 48) 16
  let unspec := src.all (· == 0)
  let dst : Bytes := if unspec then beBytes 16 (0xFF02 * 2 ^ 112 + 1) else src
  let dmac : Bytes := if unspec then beBytes 6 0x333300000001 else slice c 6 6
  let flags := (if router then 128 else 0) + (if unspec then 0 else 64) + 32
  let msg (ck : Nat) : Bytes :=
    [136, 0] ++ beBytes 2 ck ++ beBytes 4 (flags * 2 ^ 24) ++ target ++ [2, 1] ++ mac
  let ck := 0xFFFF - foldSum (sum16 (target ++ dst ++ beBytes 4 32 ++ beBytes 4 58 ++ msg 0))
  overwrite (overwrite (overwrite (overwrite d 0 (dmac ++ mac)) (o + 4) (beBytes 2 32)) (o + 8) (target ++ dst)) (o + 40) (msg ck)

/-- The subroutine returns: `answered` in w29; what the caller must not rely on, w20 to w28, lr6, lr7 and the flags, takes
free values (R330). -/
def subReturn (t : Nat) (answered : Bool) (s : State) : State :=
  let v (i : Nat) : Nat := Config.freeValue (s.freeCtr + i)
  let st (n : Nat) : LrStatus := if n % 3 = 0 then .none else if n % 3 = 1 then .hit else .miss
  updThread t (fun th =>
    let th1 := (List.range 9).foldl (fun th i => setWreg (20 + i) (BitVec.ofNat 32 (v i)) th) th
    let th2 := setLreg 7 (v 11 % 2 ^ 128) (st (v 12)) (setLreg 6 (v 9 % 2 ^ 128) (st (v 10)) th1)
    { setWreg 29 (if answered then 1 else 0) th2 with
        flagZ := v 13 % 2 == 1, flagN := v 14 % 2 == 1, flagC := v 15 % 2 == 1, flagV := v 16 % 2 == 1, pc := th.ret % 4096 })
    { s with freeCtr := s.freeCtr + 17 }

/-- Stages a count of service counter k, as MEM CNT does (R215, R334). -/
def subCount (t k : Nat) (p : Pass) (s : State) (go : State → State) : State :=
  if 8 ≤ (thread s t).staged.cnts.length then editFault t faultStage s
  else go (updStaged t (fun st => { st with cnts := st.cnts ++ [(0x75FE0 + k, passLen p)] }) s)

/-- The subroutine has answered: the edited copy, FWD to RX_PORT with queue 7 and class 7, the count, and the return. How many
edits it takes and the Trail word of its FWD are free values. -/
def subAnswer (t k : Nat) (p : Pass) (copy : Bytes) (orig : List (Option Nat)) (s : State) : State :=
  subCount t k p s (fun s =>
    let fw := leAt p.prv 4 2 % 512 + 7 * 2 ^ 16 + 7 * 2 ^ 28 + 2 ^ 31
    subReturn t true (freeNext (freeNext (updStaged t (fun st =>
      stageFwd fw (Config.freeValue (s.freeCtr + 1) % 2 ^ 32)
        { st with copy := copy, orig := orig, edits := st.edits + freeNow s % (17 - st.edits) }) s))))

/-- The key of svc_arp for a request at o: VID, target address and two zero bytes. -/
def arpKey (p : Pass) (c : Bytes) (o : Nat) : Bytes := subVid p ++ slice c (o + 24) 4 ++ [0, 0]

/-- The key of svc_nd for a solicitation at o: VID, two zero bytes and the target address. -/
def ndKey (p : Pass) (c : Bytes) (o : Nat) : Bytes := subVid p ++ [0, 0] ++ slice c (o + 48) 16

/-- svc_arp (R330): answers an ARP request from table 60. -/
def svcArp (t : Nat) (p : Pass) (s : State) : State :=
  let st := (thread s t).staged
  let e := etherTypeAt st.copy 4 12
  if e.1 ≠ 0x0806 || !arpAsks st.copy e.2 then subReturn t false s
  else
    let found := emtFind s 60 (padTo (emtKeyLen s 60) (arpKey p st.copy e.2)) p.epoch
    let s1 := emtTouch 60 found s
    match found with
    | none => subReturn t false s1
    | some x =>
      if 16 ≤ st.edits then editFault t faultStage s1
      else subAnswer t 10 p (arpReply st.copy e.2 (slice (emtImage s 60 x) 8 6)) st.orig s1

/-- svc_nd (R330): answers a Neighbor Solicitation from table 61; one whose hop limit is not 255 is counted ND_BAD. -/
def svcNd (t : Nat) (p : Pass) (s : State) : State :=
  let st := (thread s t).staged
  let e := etherTypeAt st.copy 4 12
  if e.1 ≠ 0x86DD || !ndAsks st.copy e.2 then subReturn t false s
  else if byteAt st.copy (e.2 + 7) ≠ 255 then subCount t 12 p s (subReturn t false)
  else
    let found := emtFind s 61 (padTo (emtKeyLen s 61) (ndKey p st.copy e.2)) p.epoch
    let s1 := emtTouch 61 found s
    match found with
    | none => subReturn t false s1
    | some x =>
      let img := emtImage s 61 x
      if 16 ≤ st.edits then editFault t faultStage s1
      else match ndResize p st e.2 with
        | .fault r => editFault t r s1
        | .ok d o => subAnswer t 11 p (ndReply st.copy d e.2 (slice img 20 6) ((byteAt img 26).toNat.testBit 0)) o s1

/-- A subroutine of c microwords runs (R332): they count as issued, and the watchdog of R181 takes the attempt at its 512th. -/
def runSub (t c : Nat) (body : Pass → State → State) (s : State) : State :=
  match passOf s t with
  | none => s
  | some p =>
    let n := (thread s t).issued
    let m := Nat.min c (512 - n)
    let s1 := updThread t (fun th => { th with issued := n + m }) (ctrAdd (grvPage (thGrove t)) cGrv_ISSUES m s)
    if 512 ≤ n + m then abandon t causeWatchdog 0 0 s1 else body p s1

/-- A CALL of a subroutine of the SVC image, in the SVC profile (R317, R318). -/
def svcSub (t : Nat) (s : State) : State :=
  if !svcOn s then s
  else if (thread s t).pc = svcArpEntry then runSub t 40 (svcArp t) s
  else if (thread s t).pc = svcNdEntry then runSub t 96 (svcNd t) s
  else s

/-- SEQ_CALL: the return register takes IMMEDIATE[11:0] and the thread goes to NEXT; svc_arp and svc_nd run and return. -/
def seqCall (eng : Nat) (s : State) : State :=
  runSeq eng 4 (fun t w s => svcSub t (goTo t (nextC (thread s t) w)
    (updThread t (fun th => { th with ret := mwImm w % 4096 }) s))) s

end Sys2Proof.Machine
end

