-- ==== Sys2Proof/Machine/Cfm.lean ====
section
/-!
DEFINITION. CFM and Y.1731 of the SVC image (R328): commands CCM_TICK, CFM_RECEIVE and LM_DM_TICK. PDUs as IEEE 802.1Q and
ITU-T Y.1731 lay them out (log entry 121, PRESUMED).
-/

namespace Sys2Proof.Machine
open Sys2Proof

/-! ### A MEP and its block -/

/-- What the image keeps of a MEP nobody has touched. -/
def mepReset (_ : Nat) : Mep := ⟨[], [], 0, false, false, false, none, none⟩

/-- First context of a MEP's block. -/
def mepCtx (m : Nat) : Nat := 0xB0000 + 4 * m

/-- The block's first three contexts. -/
def mepBytes (m : Nat) (s : State) : Bytes := (block s (mepCtx m)).take 48

/-- The MEP as it stands: a block that software has written since the image last left it is configured anew. -/
def mepNow (s : State) (m : Nat) : Mep :=
  let v := mget mepReset s.svc.mep m
  let b := mepBytes m s
  if v.last = b then v else { mepReset m with base := b }

/-- The image updates a MEP: the bytes of its block's first three contexts are its own, and become free values. -/
def setMep (m : Nat) (v : Mep) (s : State) : State :=
  let s1 := forAll (fun i s => freeNext (setContext (mepCtx m + i) (freeNow s % 2 ^ 128) s)) (List.range 3) s
  { s1 with svc := { s1.svc with mep := mset mepReset s1.svc.mep m { v with last := mepBytes m s1 } } }

/-- The MEP of a timer pass by its context. -/
def mepOf (p : Pass) : Nat := (leAt p.prv 28 4 % 2 ^ 20 - 0xB0000) / 4

/-- The frame counts that the user's routines keep: transmit and receive (R329). -/
def mepTx (s : State) (m : Nat) : Nat := context s (mepCtx m + 3) % 2 ^ 32
def mepRx (s : State) (m : Nat) : Nat := context s (mepCtx m + 3) / 2 ^ 32 % 2 ^ 32

/-- Frames lost between two sets of counts: [15:0] far end, [31:16] near end (R323). -/
def lossDetail (a b : LossCounts) : Nat :=
  let d (x y : Nat) : Nat := (y + 2 ^ 32 - x % 2 ^ 32) % 2 ^ 32
  let lost (tx rx : Nat) : Nat := (tx + 2 ^ 32 - rx) % 2 ^ 16
  lost (d a.farTx b.farTx) (d a.farRx b.farRx) + lost (d a.nearTx b.nearTx) (d a.nearRx b.nearRx) * 2 ^ 16

/-- The loss event of a measurement, once there is an earlier one. -/
def lossEvent (p : Pass) (m : Nat) (before : Option LossCounts) (c : LossCounts) : List Nat :=
  match before with
  | none => []
  | some a => [svcEvent p (mepCtx m) 2 0x15 (lossDetail a c)]

/-! ### PDUs -/

/-- The common header of a PDU: level, opcode, flags, offset of the first TLV. -/
def cfmHead (level op flags tlv : Nat) : Bytes :=
  [BitVec.ofNat 8 (level % 8 * 32), BitVec.ofNat 8 op, BitVec.ofNat 8 flags, BitVec.ofNat 8 tlv]

/-- The CCM of a MEP, RDI as said; with the LM bit it carries the counts of dual-ended loss measurement. -/
def ccmFrame (s : State) (m : Nat) (v : Mep) (rdi : Bool) : Bytes :=
  let b := v.base
  let counts : Bytes :=
    if Config.mepLm b then
      let c := v.ccm.getD ⟨0, 0, 0, 0⟩
      beBytes 4 (mepTx s m) ++ beBytes 4 c.nearRx ++ beBytes 4 c.nearTx
    else beBytes 12 0
  Config.mepHead b 1 ++ cfmHead (Config.mepLevel b) 1 (Config.mepPeriod b % 8 + if rdi then 128 else 0) 70 ++ beBytes 4 0 ++
    beBytes 2 (Config.mepId b) ++ padTo 48 (Config.mepMeg b) ++ counts ++ beBytes 5 0

/-- The LMM of a MEP: its transmit count. -/
def lmmFrame (s : State) (m : Nat) (b : Bytes) : Bytes :=
  Config.mepHead b 43 ++ cfmHead (Config.mepLevel b) 43 0 12 ++ beBytes 4 (mepTx s m) ++ beBytes 9 0

/-- The DMM of a MEP: the injection time of its timer head. -/
def dmmFrame (p : Pass) (b : Bytes) : Bytes :=
  Config.mepHead b 47 ++ cfmHead (Config.mepLevel b) 47 0 32 ++ beBytes 4 (p.rxTime.sec % 2 ^ 32) ++ beBytes 4 p.rxTime.ns ++
    beBytes 25 0

/-- The address a MEP sends from. -/
def mepMac (b : Bytes) : Bytes := padTo 6 ((Config.mepHead b 1).drop 6)

/-- The answer to a request whose PDU is at `o` of the head: back to the address `da`, with the opcode one below the request's, and
`new` written over the PDU at `at_`. -/
def cfmReply (h b da : Bytes) (o at_ : Nat) (new : Bytes) : Bytes :=
  overwrite (overwrite (overwrite h 0 (padTo 6 da ++ mepMac b)) (o + 1) [byteAt h (o + 1) - 1]) (o + at_) new

/-- The LTR of an LTM: the terminal MEP's answer to the LTM's origin. -/
def ltrFrame (h b : Bytes) (o : Nat) : Bytes :=
  slice h (o + 9) 6 ++ mepMac b ++ slice h 12 (o - 12) ++
    cfmHead ((byteAt h o).toNat / 32) 4 ((byteAt h (o + 2)).toNat / 128 * 128 + 32) 6 ++ slice h (o + 4) 4 ++
    [BitVec.ofNat 8 ((byteAt h (o + 8)).toNat - 1), 1] ++ Config.ltrTlvs b (h.drop o)

/-! ### Sending -/

/-- The tick of MEP m (R328): its MISS, loss of continuity, and its CCM. -/
def ccmWork (t k m : Nat) (p : Pass) (s : State) : State :=
  let v := mepNow s m
  let miss := Nat.min 65535 (v.miss + 1)
  let loc := decide (4 ≤ miss)
  let ev := if loc && !v.loc then [svcEvent p (mepCtx m) 2 0x10 miss] else []
  let s1 := setMep m { v with miss := miss, loc := v.loc || loc } s
  let s2 := svcCount 3 p (svcCount 14 p (forAll (fun _ s => svcCount 13 p s) ev s1))
  svcSend t k (Config.mepFw v.base) (ccmFrame s m v (v.loc || loc || v.unexp)) [] ev s2

/-- CCM_TICK (R328): the timer pass on thread t runs the tick of its MEP. `cfg`, `own` and `cnt` say that a read of the configured
bytes, of what the image keeps, and of the frame counts is UNCORRECTABLE. -/
def ccmTick (t : Nat) (cfg own cnt : Bool) (s : State) : State :=
  match svcPass s t 0xF2 with
  | none => s
  | some (k, p) => svcTake k (mepCtx (mepOf p)) (svcRead t [cfg, own, cnt] (ccmWork t k (mepOf p) p)) s

/-- The LMM or DMM of a tick of profile 0xF6 (R328). -/
def lmDmWork (t k m : Nat) (p : Pass) (s : State) : State :=
  let b := (mepNow s m).base
  svcSend t k (Config.mepFw b) (if Config.mepDm (leAt p.prv 28 4 % 2 ^ 20) then dmmFrame p b else lmmFrame s m b) [] []
    (svcCount 15 p (svcCount 14 p s))

/-- LM_DM_TICK (R328): the timer pass on thread t sends the LMM or DMM of its MEP. `cfg` and `cnt` say that a read of
its contexts 0 to 2, and of the frame counts is UNCORRECTABLE. -/
def lmDmTick (t : Nat) (cfg cnt : Bool) (s : State) : State :=
  match svcPass s t 0xF6 with
  | none => s
  | some (k, p) => svcTake k (mepCtx (mepOf p)) (svcRead t [cfg, cnt] (lmDmWork t k (mepOf p) p)) s

/-! ### Receiving -/

/-- Why a CCM is unexpected (R323): 1 level, 2 MEG ID, 3 MEP ID, 4 period; 0 for a valid one. -/
def ccmCause (b pdu : Bytes) : Nat :=
  if (byteAt pdu 0).toNat / 32 ≠ Config.mepLevel b % 8 then 1
  else if slice pdu 10 48 ≠ padTo 48 (Config.mepMeg b) then 2
  else if beAt pdu 8 2 % 8192 ≠ Config.mepRemote b % 8192 then 3
  else if (byteAt pdu 2).toNat % 8 ≠ Config.mepPeriod b % 8 then 4
  else 0

/-- A pass ends with events and no frame. -/
def cfmNote (t k : Nat) (p : Pass) (ev : List Nat) (s : State) : State :=
  svcDrop t k ev (forAll (fun _ s => svcCount 13 p s) ev s)

/-- A CCM received for MEP m: LOC, RDI, the unexpected conditions, and dual-ended loss measurement. -/
def ccmHear (t k m : Nat) (p : Pass) (pdu : Bytes) (s : State) : State :=
  let c := mepCtx m
  let v := mepNow s m
  let cause := ccmCause v.base pdu
  if cause ≠ 0 then cfmNote t k p [svcEvent p c 2 0x14 cause] (svcCount 5 p (setMep m { v with unexp := true } s))
  else
    let rdi := (byteAt pdu 2).toNat.testBit 7
    let evL := if v.loc then [svcEvent p c 2 0x11 v.miss] else []
    let evR := if rdi ≠ v.rdi then [svcEvent p c 2 (if rdi then 0x12 else 0x13) 0] else []
    let cnt : LossCounts := ⟨beAt pdu 66 4, beAt pdu 62 4, beAt pdu 58 4, mepRx s m⟩
    let lm := Config.mepLm v.base
    let evM := if lm then lossEvent p m v.ccm cnt else []
    cfmNote t k p (evL ++ evR ++ evM) (svcCount 4 p (setMep m
      { v with miss := 0, loc := false, rdi := rdi, unexp := false, ccm := if lm then some cnt else none } s))

/-- An LMR received for MEP m: the counts of single-ended loss measurement. -/
def lmrHear (t k m : Nat) (p : Pass) (pdu : Bytes) (s : State) : State :=
  let v := mepNow s m
  let cnt : LossCounts := ⟨beAt pdu 4 4, beAt pdu 8 4, beAt pdu 12 4, mepRx s m⟩
  cfmNote t k p (lossEvent p m v.lmr cnt) (setMep m { v with lmr := some cnt } s)

/-- The two-way delay of a DMR that came at `rx`, in ns: less what the far end took where it says so. -/
def dmrDelay (rx : Tstamp) (pdu : Bytes) : Nat :=
  let ns (o : Nat) : Int := (beAt pdu o 4 : Int) * 1000000000 + beAt pdu (o + 4) 4
  let now : Int := (rx.sec % 2 ^ 32 : Nat) * 1000000000 + rx.ns
  ((now - ns 4 - (ns 20 - ns 12)) % 2 ^ 32).toNat

/-- Whether the image serves an opcode: CCM, LBM, LTM, LMR, LMM, DMR, DMM. -/
def cfmServed (op : Nat) : Bool := [1, 3, 5, 42, 43, 46, 47].contains op

/-- A CFM frame for MEP m with its PDU at `o` of the head (R328). -/
def cfmWork (t k m o : Nat) (p : Pass) (s : State) : State :=
  let h := p.head
  let pdu := h.drop o
  let b := (mepNow s m).base
  let back (n : Nat) (f : Bytes) : State := svcSend t k (Config.mepFw b) f p.segs [] (svcCount n p s)
  match (byteAt pdu 1).toNat with
  | 1 => ccmHear t k m p pdu s
  | 3 => back 6 (cfmReply h b (slice h 6 6) o 0 [])
  | 5 =>
    if slice pdu 15 6 = mepMac b then svcSend t k (Config.mepFw b) (ltrFrame h b o) [] [] (svcCount 7 p s)
    else svcDrop t k [] s
  | 42 => lmrHear t k m p pdu s
  | 43 => back 8 (cfmReply h b (slice h 6 6) o 8 (beBytes 4 (mepRx s m) ++ beBytes 4 (mepTx s m)))
  | 46 => cfmNote t k p [svcEvent p (mepCtx m) 2 0x16 (dmrDelay p.rxTime pdu)] s
  | _ => back 9 (cfmReply h b (slice h 6 6) o 12 (beBytes 16 0))

/-- Where the PDU of a CFM frame starts. -/
def cfmAt (h : Bytes) : Option Nat :=
  let e := etherTypeAt h 4 12
  if e.1 = 0x8902 then some e.2 else none

/-- The key of table 62 for a received CFM frame: receive port, VID and MEG level. -/
def cfmKey (s : State) (p : Pass) (o : Nat) : Bytes :=
  padTo (emtKeyLen s 62) (Config.mepKey (leAt p.prv 4 2 % 512) (leAt p.prv 24 2 % 4096) ((byteAt p.head o).toNat / 32))

/-- The entry of table 62 for a received CFM frame. -/
def cfmFind (s : State) (p : Pass) (o : Nat) : Option Nat := emtFind s 62 (cfmKey s p o) p.epoch

/-- CFM_RECEIVE (R328): the pass on thread t holds a CFM frame. One that table 62 gives no MEP for, or of an opcode that the image
leaves to the host, goes on in the user's routine. `ecc` says that the lookup meets an uncorrectable error, of the kind and at
the place of LOOKUP_EMT, and `c0` to `c3` which contexts of the block read UNCORRECTABLE. -/
def cfmReceive (t : Nat) (ecc : Bool) (kind x : Nat) (c0 c1 c2 c3 : Bool) (s : State) : State :=
  match svcPass s t 0xF3 with
  | none => s
  | some (k, p) =>
    match cfmAt p.head with
    | none => s
    | some o =>
      if ecc && emtOn s 62 && !emtClearing s 62 then
        abandon t causeLookup 0 0 (count pgEmt cEmt_LOOKUP_UC (emtMeetsError 62 (cfmKey s p o) kind x true s))
      else match cfmFind s p o with
      | none => s
      | some e =>
        let m := Config.mepEntry (emtImage s 62 e) % 16384
        if !cfmServed (byteAt p.head (o + 1)).toNat then s
        else svcTake k (mepCtx m) (svcRead t [c0, c1, c2, c3] (fun s => cfmWork t k m o p (emtTouch 62 (some e) s))) s

end Sys2Proof.Machine
end

