-- ==== Sys2Proof/Machine/EventCmds.lean ====
section
/-!
DEFINITION. Events of epochs, the Clearing, the scheduler, gates, time, services and the interrupt controller
(09 to 13, 16).
-/

namespace Sys2Proof.Machine
open Sys2Proof

/-- EPOCH_ARM_FIRE (R239). -/
def execEpochArmFire (s : State) : Host.Outcome State Fault Refusal := act epochArmFire s

/-- EPOCH_RETIRE (R237). -/
def execEpochRetire (s : State) : Host.Outcome State Fault Refusal := act epochRetire s

/-- CELL_PUSH (R258): bank b. -/
def execCellPush (b : Nat) (s : State) : Host.Outcome State Fault Refusal := act (cellPush b) s

/-- RESIDUE_VISIT (R267). -/
def execResidueVisit (s : State) : Host.Outcome State Fault Refusal := act residueVisit s

/-- RESIDUE_EXPIRE (R268). -/
def execResidueExpire (s : State) : Host.Outcome State Fault Refusal := act residueExpire s

/-- AUDIT_DONE (R276). -/
def execAuditDone (s : State) : Host.Outcome State Fault Refusal := act auditDone s

/-- SELECTION (R283): selector g. -/
def execSelection (g : Nat) (s : State) : Host.Outcome State Fault Refusal := act (selection g) s

/-- WHEEL_RELEASE (R289, R290). -/
def execWheelRelease (s : State) : Host.Outcome State Fault Refusal := act wheelRelease s

/-- CONFIG_CHANGE_TAKE (R300): port p. -/
def execConfigChangeTake (p : Nat) (s : State) : Host.Outcome State Fault Refusal := act (configTake p) s

/-- GATE_ENTRY_ADVANCE (R298): port p. -/
def execGateEntryAdvance (p : Nat) (s : State) : Host.Outcome State Fault Refusal := act (gateAdvance p) s

/-- TIMEREF_LOSS (R313). -/
def execTimerefLoss (s : State) : Host.Outcome State Fault Refusal := actK timerefLoss s

/-- TIMEREF_RELOCK (R313). -/
def execTimerefRelock (mhz25 : Bool) (s : State) : Host.Outcome State Fault Refusal := actK (timerefRelock mhz25) s

/-- PPS_IN (R314): a rising edge. -/
def execPpsIn (s : State) : Host.Outcome State Fault Refusal := actK ppsIn s

/-- PPS_OUT (R314). -/
def execPpsOut (s : State) : Host.Outcome State Fault Refusal := actK ppsOut s

/-- SQUELCHED (R315): output n. -/
def execSquelched (n : Nat) (s : State) : Host.Outcome State Fault Refusal := actK (squelched n) s

/-- TIMER_FIRE (R320): entry i. -/
def execTimerFire (i : Nat) (s : State) : Host.Outcome State Fault Refusal := act (timerFire i) s

/-- TIMER_INJECT (R321). -/
def execTimerInject (s : State) : Host.Outcome State Fault Refusal := act timerInject s

/-- BFD_TICK (R326) on thread t. -/
def execBfdTick (t : Nat) (b : BfdRead) (s : State) : Host.Outcome State Fault Refusal := act (bfdTick t b) s

/-- BFD_RECEIVE (R327) on thread t: a control packet at byte `off` of its head. -/
def execBfdReceive (t off : Nat) (b : BfdRead) (s : State) : Host.Outcome State Fault Refusal := act (bfdReceive t off b) s

/-- CCM_TICK (R328) on thread t. -/
def execCcmTick (t : Nat) (cfg own cnt : Bool) (s : State) : Host.Outcome State Fault Refusal := act (ccmTick t cfg own cnt) s

/-- CFM_RECEIVE (R328) on thread t. -/
def execCfmReceive (t : Nat) (ecc : Bool) (kind x : Nat) (c0 c1 c2 c3 : Bool) (s : State) :
    Host.Outcome State Fault Refusal :=
  act (cfmReceive t ecc kind x c0 c1 c2 c3) s

/-- LM_DM_TICK (R328) on thread t. -/
def execLmDmTick (t : Nat) (cfg cnt : Bool) (s : State) : Host.Outcome State Fault Refusal := act (lmDmTick t cfg cnt) s

/-- FIRMWARE_LEARN (R331). -/
def execFirmwareLearn (s : State) : Host.Outcome State Fault Refusal := act firmwareLearn s

/-- IC_TMR (R387): the timer of core n expires. -/
def execIcTmr (n : Nat) (s : State) : Host.Outcome State Fault Refusal := act (icTmrExpire (n % 4)) s

/-- INTERRUPT_ENTRY (R391): core n; `rival` is a core that claims in the same cycle (R390). -/
def execInterruptEntry (n rival : Nat) (s : State) : Host.Outcome State Fault Refusal :=
  act (interruptEntry (n % 4) rival) s

/-- RETURN_FROM_INTERRUPT (R393): core n. -/
def execReturnFromInterrupt (n rival : Nat) (s : State) : Host.Outcome State Fault Refusal :=
  act (returnInterrupt (n % 4) rival) s

/-- TR_SWITCH_COMPLETE (R358). -/
def execTrSwitchComplete (s : State) : Host.Outcome State Fault Refusal := act trSwitchComplete s

/-- SAPWOOD_WATCHDOG (R373): core n. -/
def execSapwoodWatchdog (n : Nat) (s : State) : Host.Outcome State Fault Refusal := act (sapwoodWatchdog (n % 4)) s

end Sys2Proof.Machine
end

