-- ==== Sys2Proof/Machine/Alu.lean ====
section
/-!
DEFINITION. The ALU operations (R189, R190): commands ALU_NOP to ALU_LDT, each for slot 0 (ALU_A, which sets the flags) or
slot 1 (ALU_B, which does not).
-/

namespace Sys2Proof.Machine
open Sys2Proof

/-- Whether the word's ALU of a slot carries an opcode, in its register form or its immediate form. -/
def aluIs (slot op : Nat) (w : Nat) : Bool := aluOp (mwAlu w slot) == op || aluOp (mwAlu w slot) == op + 32

/-- Writes an ALU result: the destination register, and the flags for ALU_A (R190). -/
def aluWrite (slot d : Nat) (o : AluOut) (th : Thread) : Thread :=
  let th1 := setWreg d o.r th
  if slot = 0 then { th1 with flagZ := o.z, flagN := o.n, flagC := o.c, flagV := o.v } else th1

/-- Writes the flags of a comparison only. -/
def aluFlags (slot : Nat) (o : AluOut) (th : Thread) : Thread :=
  if slot = 0 then { th with flagZ := o.z, flagN := o.n, flagC := o.c, flagV := o.v } else th

/-- An ALU operation that writes `f` of operand A and shifted operand B. -/
def aluBin (eng slot op : Nat) (f : Word → Word → AluOut) (s : State) : State :=
  runField eng (slot % 2) (aluIs (slot % 2) op) (fun t w s => updThread t (fun th =>
    let a := mwAlu w (slot % 2)
    aluWrite (slot % 2) (aluDest a) (f (opA th a) (opB th w a)) th) s) s

/-- An ALU operation without immediate form that writes `f` of the thread, its number, its pass and the ALU field. -/
def aluLoad (eng slot op : Nat) (f : State → Nat → Thread → Pass → Nat → Word) (s : State) : State :=
  runField eng (slot % 2) (fun w => aluOp (mwAlu w (slot % 2)) == op) (fun t w s =>
    match passOf s t with
    | none => s
    | some p => updThread t (fun th =>
        let a := mwAlu w (slot % 2)
        aluWrite (slot % 2) (aluDest a) (outLogic (f s t th p a)) th) s) s

/-- ALU_NOP. -/
def aluNop (eng slot : Nat) (s : State) : State :=
  runField eng (slot % 2) (fun w => aluOp (mwAlu w (slot % 2)) == 0) (fun _ _ s => s) s

/-- The number of 1 bits of a word. -/
def popWord (b : Word) : Nat := ((List.range 32).filter (fun i => b.toNat.testBit i)).length

/-- The index of the lowest 1 bit of a word, or 32. -/
def ffsWord (b : Word) : Nat := ((List.range 32).find? (fun i => b.toNat.testBit i)).getD 32

/-- A with low `n` bits placed into `d` from bit `i` upward; bits beyond 31 are dropped (INS). -/
def insBits (d a : Word) (i n : Nat) : Word :=
  let mask : Nat := ((2 ^ n - 1) * 2 ^ i) % 2 ^ 32
  (d &&& ~~~(BitVec.ofNat 32 mask)) ||| (BitVec.ofNat 32 (a.toNat % 2 ^ n * 2 ^ i) &&& BitVec.ofNat 32 mask)

/-- The CRC-32C register after the four bytes of A, most significant first, from register value B (HASH). -/
def hashWord (a b : Word) (fin : Bool) : Word :=
  let r := crcRun polyC b.toNat (beBytes 4 a.toNat)
  BitVec.ofNat 32 (if fin then r ^^^ 0xFFFFFFFF else r)

/-- Head-window address of LDH: w[srcA][8:0] + aux. -/
def ldhAddr (th : Thread) (a : Nat) : Nat := (opA th a).toNat % 512 + aluAux a

/-- Scratch address of LDM and STM: (w[srcA] + 4 × aux) mod 2,048. -/
def ldmAddr (th : Thread) (a : Nat) : Nat := ((opA th a).toNat + 4 * aluAux a) % 2048

/-- PRV bytes of LDP, little-endian: 1, 2 or 4. -/
def ldpWord (p : Pass) (a : Nat) : Word :=
  BitVec.ofNat 32 (leAt p.prv (aluAux a % 64) (if aluSrcB a = 0 then 1 else if aluSrcB a = 1 then 2 else 4))

/-- EXT: A shifted right by aux[4:0], its low srcB + 1 bits. -/
def extWord (th : Thread) (a : Nat) : Word :=
  BitVec.ofNat 32 ((opA th a).toNat / 2 ^ (aluAux a % 32) % 2 ^ (aluSrcB a + 1))

/-- ALU_STM: the scratch word takes B; no register and no flag changes. -/
def aluStm (eng slot : Nat) (s : State) : State :=
  runField eng (slot % 2) (aluIs (slot % 2) 0x14) (fun t w s =>
    let th := thread s t
    let a := mwAlu w (slot % 2)
    let m := mset scratchReset s.grv.scratch (scratchKey t (ldmAddr th a)) (opB0 th w a)
    { s with grv := { s.grv with scratch := m } }) s

/-- ALU_CMP: the flags of A − B. -/
def aluCmp (eng slot : Nat) (s : State) : State :=
  runField eng (slot % 2) (aluIs (slot % 2) 0x0F) (fun t w s => updThread t (fun th =>
    let a := mwAlu w (slot % 2)
    aluFlags (slot % 2) (outSub (opA th a) (opB th w a)) th) s) s

/-- ALU_HASH. -/
def aluHash (eng slot : Nat) (s : State) : State :=
  runField eng (slot % 2) (aluIs (slot % 2) 0x15) (fun t w s => updThread t (fun th =>
    let a := mwAlu w (slot % 2)
    aluWrite (slot % 2) (aluDest a) (outLogic (hashWord (opA th a) (opB0 th w a) ((aluAux a).testBit 0))) th) s) s

end Sys2Proof.Machine
end

