-- ==== Sys2Proof/Machine/Bridge.lean ====
section
/-!
DEFINITION. The routine of the default bridge (R435) and the command DISPATCH_ENTRY, which starts a pass's routine. The spec gives
what the ROM microcode does and no listing of its words, so the routine runs whole while nothing of it has been overwritten
(log entry 140, DESIGN CHOICE).
-/

namespace Sys2Proof.Machine
open Sys2Proof

/-- Index of a pass's dispatch entry: its epoch's parity and its profile (R176, R177). -/
def dispIndex (p : Pass) : Nat := 256 * (p.epoch % 2) + (byteAt p.prv 2).toNat

/-- The thread's Grove, and its engine's copy of the control store, hold the ROM words outside the SVC image's region (R318, R436). -/
def romWords (s : State) (t : Nat) : Bool :=
  let ours (k : Nat) : Bool := k / 4096 == thGrove t * 8 + thEng t / 4 && decide (k % 4096 < 0xC00)
  s.grv.rom && s.grv.cs.all (fun e => e.1 / 4096 != thGrove t || decide (0xC00 ≤ e.1 % 4096)) &&
    !s.grv.csZero.any ours && !s.grv.csBad.any ours && s.grv.tmpl.isEmpty

/-- The pass's routine is the ROM bridge: of epoch parity 0, received on a port without Trail, its dispatch entry the ROM's (R435,
R436). -/
def romBridge (s : State) (t : Nat) (p : Pass) : Bool :=
  romWords s t && p.epoch % 2 == 0 && decide (p.src < 260) && !passTrail p && (mfind s.grv.disp (dispIndex p)).isNone

/-- The 802.1Q tag of a frame, if it has one. -/
def bridgeTag (c : Bytes) : Option Nat := if beAt c 12 2 = 0x8100 then some (beAt c 14 2) else none

/-- VID: that of the tag; 1 for an untagged or priority-tagged frame. -/
def bridgeVid (c : Bytes) : Nat :=
  match bridgeTag c with
  | some x => if x % 4096 = 0 then 1 else x % 4096
  | none => 1

/-- Class: the PCP of the tag; 0 for an untagged frame. -/
def bridgeClass (c : Bytes) : Nat :=
  match bridgeTag c with
  | some x => x / 8192
  | none => 0

/-- Frames the bridge drops unseen: VID 0xFFF, and the reserved addresses 01-80-C2-00-00-00 to -0F. -/
def bridgeDrops (c : Bytes) : Bool :=
  bridgeVid c == 0xFFF || (slice c 0 5 == [0x01, 0x80, 0xC2, 0x00, 0x00] && decide ((byteAt c 5).toNat < 16))

/-- Key bytes of table 0: the VID, low byte first, and the MAC address as received. -/
def bridgeKey (vid : Nat) (mac : Bytes) : Bytes := leBytes 2 vid ++ mac

/-- Forwarding word of an entry of table 0: image bytes 12 to 15. -/
def bridgeWord (s : State) (x : Nat) : Nat := natField (emtWord s 0 x 0) 127 96

/-- The LEARN notice for a source that table 0 does not hold on this port: its payload is the key and the port. -/
def bridgeNotice (p : Pass) (vid port : Nat) : Nat :=
  notice 1 0 (2 ^ (p.epoch % 2)) port (leNat (bridgeKey vid (slice p.head 6 6)) + port * 2 ^ 64)

/-- The staged FWD of a forwarding word, then CLASS and QUEUE set to the frame's class (R280). -/
def bridgeFwd (v trail cls : Nat) (st : Staged) : Staged :=
  let st1 := stageFwd v trail st
  { st1 with dispo := putField (putField st1.dispo 5 3 cls) 35 24 cls }

/-- The frame leaves untagged if it came untagged or priority-tagged: a tag of VID 0 is taken out. -/
def bridgePop (st : Staged) : Staged :=
  match bridgeTag st.copy with
  | some x => if x % 4096 = 0 then
      { st with copy := st.copy.take 12 ++ st.copy.drop 16, orig := st.orig.take 12 ++ st.orig.drop 16, edits := 1 }
    else st
  | none => st

/-- What the bridge stages for a frame that it does not drop unseen, with what its two lookups in table 0 found: `sa` the source,
`da` the destination. -/
def bridgeStage (s : State) (p : Pass) (sa da : Option Nat) (st : Staged) : Staged :=
  let vid := bridgeVid p.head
  let cls := bridgeClass p.head
  let port := leAt p.prv 4 2 % 512
  let known : Bool := match sa with
    | some x => !fwMc (bridgeWord s x) && fwDest (bridgeWord s x) == port
    | none => false
  let learn := !known && decide (port < 256) && !(byteAt p.head 6).toNat.testBit 0
  let st1 := bridgePop (if learn then { st with notices := [bridgeNotice p vid port] } else st)
  match (if (byteAt p.head 0).toNat.testBit 0 then none else da) with
  | none => bridgeFwd (vid + 2 ^ 15) 0 cls st1
  | some x =>
    let v := bridgeWord s x
    if !fwMc v && fwDest v = port then { st1 with dispo := putField (putField st1.dispo 2 0 4) 21 8 511 }
    else bridgeFwd v (natField (emtWord s 0 x 0) 95 64) cls st1

/-- The bridge routine of a started thread, to its END: 40 microwords and 2 lookups (R435). -/
def bridgeRun (t : Nat) (p : Pass) (s : State) : State :=
  let key (mac : Bytes) : Bytes := padTo (emtKeyLen s 0) (bridgeKey (bridgeVid p.head) mac)
  let done (st : Staged → Staged) (s : State) : State :=
    updThread t (fun th => { th with st := .committing, issued := 40, staged := st th.staged })
      (ctrAdd (grvPage (thGrove t)) cGrv_ISSUES 40 s)
  if bridgeDrops p.head then done (fun st => { st with dispo := putField (putField st.dispo 2 0 4) 21 8 511 }) s
  else
    let sa := emtFind s 0 (key (slice p.head 6 6)) p.epoch
    let s1 := emtTouch 0 sa s
    let da := emtFind s1 0 (key (slice p.head 0 6)) p.epoch
    let s2 := emtTouch 0 da s1
    done (bridgeStage s2 p sa da) s2

/-- DISPATCH_ENTRY (R176): the reserved thread of a pass starts at the entry of its profile and parity; an invalid entry
drops the packet. Where the routine is the ROM bridge, it runs to its END (R435; log entry 140, DESIGN CHOICE). -/
def dispatchEntry (t : Nat) (s : State) : State :=
  let th := thread s t
  match pass? s th.pass with
  | none => s
  | some p =>
    if th.st ≠ .reserved || p.phase ≠ .ready || p.tid ≠ t then s
    else
      let e := dispEntry s (dispIndex p)
      let start (s : State) : State :=
        setThread t (entryThread s th.pass p (e % 4096))
          (setPass th.pass { p with phase := .running, attempts := p.attempts + 1 } s)
      if romBridge s t p then bridgeRun t p (start s)
      else if !e.testBit 12 then
        count (grvPage (thGrove t)) cGrv_NO_ROUTINE (endPass th.pass (freeThread t s))
      else start s

end Sys2Proof.Machine
end

