-- ==== Sys2Proof/Machine/GroveCmds.lean ====
section
/-!
DEFINITION. Commands of dispatch, the parse graph, the Groves and the commit stage (01, 04, 07, 08). A
microword acts field by field: each of its fields is one command of the engine that issues it (log entry 16, DEDUCED).
-/

namespace Sys2Proof.Machine
open Sys2Proof

/-- HEAD_ENQUEUE (R16): the oldest arrived head of a source, port 0 to 259 or 260 for a timer. -/
def execHeadEnqueue (src : Nat) (s : State) : Host.Outcome State Fault Refusal :=
  act (fun s => rwVirtualNext (headEnqueue src s)) s

/-- DISPATCH_GRANT (R174): the grants of one CCLK. -/
def execDispatchGrant (s : State) : Host.Outcome State Fault Refusal := act dispatchGrant s

/-- PARSE_WALK (R90 to R115): the walk of pass k. -/
def execParseWalk (k : Nat) (s : State) : Host.Outcome State Fault Refusal := act (parseWalk k) s

/-- HOLD_TIMEOUT (R113). -/
def execHoldTimeout (s : State) : Host.Outcome State Fault Refusal := act holdTimeout s

/-- FRAG_AGED (R115). -/
def execFragAged (s : State) : Host.Outcome State Fault Refusal := act fragAged s

/-- DISPATCH_ENTRY (R176): reserved thread t starts. -/
def execDispatchEntry (t : Nat) (s : State) : Host.Outcome State Fault Refusal := act (dispatchEntry t) s

/-- ALU_NOP. -/
def execAluNop (eng slot : Nat) (s : State) : Host.Outcome State Fault Refusal := act (aluNop eng slot) s

/-- ALU_MOV: d := B. -/
def execAluMov (eng slot : Nat) (s : State) : Host.Outcome State Fault Refusal :=
  act (aluBin eng slot 0x01 (fun _ b => outLogic b)) s

/-- ALU_ADD: d := A + B. -/
def execAluAdd (eng slot : Nat) (s : State) : Host.Outcome State Fault Refusal := act (aluBin eng slot 0x02 outAdd) s

/-- ALU_SUB: d := A − B. -/
def execAluSub (eng slot : Nat) (s : State) : Host.Outcome State Fault Refusal := act (aluBin eng slot 0x03 outSub) s

/-- ALU_AND. -/
def execAluAnd (eng slot : Nat) (s : State) : Host.Outcome State Fault Refusal :=
  act (aluBin eng slot 0x04 (fun a b => outLogic (a &&& b))) s

/-- ALU_OR. -/
def execAluOr (eng slot : Nat) (s : State) : Host.Outcome State Fault Refusal :=
  act (aluBin eng slot 0x05 (fun a b => outLogic (a ||| b))) s

/-- ALU_XOR. -/
def execAluXor (eng slot : Nat) (s : State) : Host.Outcome State Fault Refusal :=
  act (aluBin eng slot 0x06 (fun a b => outLogic (a ^^^ b))) s

/-- ALU_ANDN: d := A AND NOT B. -/
def execAluAndn (eng slot : Nat) (s : State) : Host.Outcome State Fault Refusal :=
  act (aluBin eng slot 0x07 (fun a b => outLogic (a &&& ~~~b))) s

/-- ALU_SHL: d := A << (B mod 32). -/
def execAluShl (eng slot : Nat) (s : State) : Host.Outcome State Fault Refusal :=
  act (aluBin eng slot 0x08 (fun a b => outLogic (a <<< (b.toNat % 32)))) s

/-- ALU_SHR: d := A >> (B mod 32), logical. -/
def execAluShr (eng slot : Nat) (s : State) : Host.Outcome State Fault Refusal :=
  act (aluBin eng slot 0x09 (fun a b => outLogic (a >>> (b.toNat % 32)))) s

/-- ALU_ROR: d := A rotated right by B mod 32. -/
def execAluRor (eng slot : Nat) (s : State) : Host.Outcome State Fault Refusal :=
  act (aluBin eng slot 0x0A (fun a b => outLogic (rotr a (b.toNat % 32)))) s

/-- ALU_EXT: d := (A >> aux[4:0]) AND (2^(srcB + 1) − 1). -/
def execAluExt (eng slot : Nat) (s : State) : Host.Outcome State Fault Refusal :=
  act (aluLoad eng slot 0x0B (fun _ _ th _ a => extWord th a)) s

/-- ALU_INS: d with bits from aux[4:0] upward replaced by the low srcB + 1 bits of A. -/
def execAluIns (eng slot : Nat) (s : State) : Host.Outcome State Fault Refusal :=
  act (aluLoad eng slot 0x0C (fun _ _ th _ a =>
    insBits (oldReg th (aluDest a)) (opA th a) (aluAux a % 32) (aluSrcB a + 1))) s

/-- ALU_MIN: the unsigned lesser of A and B. -/
def execAluMin (eng slot : Nat) (s : State) : Host.Outcome State Fault Refusal :=
  act (aluBin eng slot 0x0D (fun a b => outLogic (if a.toNat ≤ b.toNat then a else b))) s

/-- ALU_MAX: the unsigned greater of A and B. -/
def execAluMax (eng slot : Nat) (s : State) : Host.Outcome State Fault Refusal :=
  act (aluBin eng slot 0x0E (fun a b => outLogic (if b.toNat ≤ a.toNat then a else b))) s

/-- ALU_CMP: the flags of A − B. -/
def execAluCmp (eng slot : Nat) (s : State) : Host.Outcome State Fault Refusal := act (aluCmp eng slot) s

/-- ALU_LDP: PRV bytes. -/
def execAluLdp (eng slot : Nat) (s : State) : Host.Outcome State Fault Refusal :=
  act (aluLoad eng slot 0x10 (fun _ _ _ p a => ldpWord p a)) s

/-- ALU_LDH: one to four bytes of the thread's copy, the first most significant. -/
def execAluLdh (eng slot : Nat) (s : State) : Host.Outcome State Fault Refusal :=
  act (aluLoad eng slot 0x11 (fun _ _ th _ a =>
    BitVec.ofNat 32 (beNat (copyBytes th (ldhAddr th a) (aluSrcB a + 1))))) s

/-- ALU_LDL: a word of a lookup-result register. -/
def execAluLdl (eng slot : Nat) (s : State) : Host.Outcome State Fault Refusal :=
  act (aluLoad eng slot 0x12 (fun _ _ th _ a =>
    BitVec.ofNat 32 (lrWord th (aluSrcB a % 8) (aluAux a % 4)))) s

/-- ALU_LDM: a scratch word. -/
def execAluLdm (eng slot : Nat) (s : State) : Host.Outcome State Fault Refusal :=
  act (aluLoad eng slot 0x13 (fun s t th _ a =>
    mget scratchReset s.grv.scratch (scratchKey t (ldmAddr th a)))) s

/-- ALU_STM: the scratch word takes B. -/
def execAluStm (eng slot : Nat) (s : State) : Host.Outcome State Fault Refusal := act (aluStm eng slot) s

/-- ALU_HASH: CRC-32C over the four bytes of A. -/
def execAluHash (eng slot : Nat) (s : State) : Host.Outcome State Fault Refusal := act (aluHash eng slot) s

/-- ALU_POPC: the number of 1 bits of B. -/
def execAluPopc (eng slot : Nat) (s : State) : Host.Outcome State Fault Refusal :=
  act (aluBin eng slot 0x16 (fun _ b => outLogic (BitVec.ofNat 32 (popWord b)))) s

/-- ALU_FFS: the index of the lowest 1 bit of B, 32 for 0. -/
def execAluFfs (eng slot : Nat) (s : State) : Host.Outcome State Fault Refusal :=
  act (aluBin eng slot 0x17 (fun _ b => outLogic (BitVec.ofNat 32 (ffsWord b)))) s

/-- ALU_LDT: the nanoseconds of the time counter. -/
def execAluLdt (eng slot : Nat) (s : State) : Host.Outcome State Fault Refusal :=
  act (aluLoad eng slot 0x18 (fun s _ _ _ _ => BitVec.ofNat 32 s.time.now.ns)) s

/-- SEQ_CONT (R185): the sequencing of the word engine eng issues. -/
def execSeqCont (eng : Nat) (s : State) : Host.Outcome State Fault Refusal := act (seqCont eng) s

/-- SEQ_TWOWAY (R185): the sequencing of the word engine eng issues. -/
def execSeqTwoway (eng : Nat) (s : State) : Host.Outcome State Fault Refusal := act (seqTwoway eng) s

/-- SEQ_DISP4 (R185): the sequencing of the word engine eng issues. -/
def execSeqDisp4 (eng : Nat) (s : State) : Host.Outcome State Fault Refusal := act (seqDisp4 eng) s

/-- SEQ_DISP16 (R185): the sequencing of the word engine eng issues. -/
def execSeqDisp16 (eng : Nat) (s : State) : Host.Outcome State Fault Refusal := act (seqDisp16 eng) s

/-- SEQ_CALL (R185): the sequencing of the word engine eng issues. -/
def execSeqCall (eng : Nat) (s : State) : Host.Outcome State Fault Refusal := act (seqCall eng) s

/-- SEQ_RETURN (R185): the sequencing of the word engine eng issues. -/
def execSeqReturn (eng : Nat) (s : State) : Host.Outcome State Fault Refusal := act (seqReturn eng) s

/-- SEQ_WAIT (R185): the sequencing of the word engine eng issues. -/
def execSeqWait (eng : Nat) (s : State) : Host.Outcome State Fault Refusal := act (seqWait eng) s

/-- SEQ_END (R185): the sequencing of the word engine eng issues. -/
def execSeqEnd (eng : Nat) (s : State) : Host.Outcome State Fault Refusal := act (seqEnd eng) s

/-- SEQ_ABANDON (R185): the sequencing of the word engine eng issues. -/
def execSeqAbandon (eng : Nat) (s : State) : Host.Outcome State Fault Refusal := act (seqAbandon eng) s

/-- RESTART (R226). -/
def execRestart (s : State) : Host.Outcome State Fault Refusal := act restart s

/-- LOOKUP_EMT (R131); `ecc`, `kind` and `i` name an uncorrectable error that it meets (log entry 12, DESIGN CHOICE). -/
def execLookupEmt (eng : Nat) (ecc : Bool) (kind i : Nat) (s : State) : Host.Outcome State Fault Refusal :=
  act (lookupEmt eng ecc kind i) s

/-- LOOKUP_THICKET (R153). -/
def execLookupThicket (eng : Nat) (ecc : Bool) (s : State) : Host.Outcome State Fault Refusal :=
  act (lookupThicket eng ecc) s

/-- LOOKUP_RESULT (R196): the results of request `grp` of thread t land. -/
def execLookupResult (t grp : Nat) (s : State) : Host.Outcome State Fault Refusal := act (lookupResult t grp) s

/-- HDR_SET (R210 to R213). -/
def execHdrSet (eng : Nat) (s : State) : Host.Outcome State Fault Refusal := act (hdrSet eng) s

/-- HDR_PUSH (R210 to R213). -/
def execHdrPush (eng : Nat) (s : State) : Host.Outcome State Fault Refusal := act (hdrPush eng) s

/-- HDR_POP (R210 to R213). -/
def execHdrPop (eng : Nat) (s : State) : Host.Outcome State Fault Refusal := act (hdrPop eng) s

/-- HDR_INC (R210 to R213). -/
def execHdrInc (eng : Nat) (s : State) : Host.Outcome State Fault Refusal := act (hdrInc eng) s

/-- HDR_DEC (R210 to R213). -/
def execHdrDec (eng : Nat) (s : State) : Host.Outcome State Fault Refusal := act (hdrDec eng) s

/-- HDR_CSUM4 (R210 to R213). -/
def execHdrCsum4 (eng : Nat) (s : State) : Host.Outcome State Fault Refusal := act (hdrCsum4 eng) s

/-- HDR_UDP0 (R210 to R213). -/
def execHdrUdp0 (eng : Nat) (s : State) : Host.Outcome State Fault Refusal := act (hdrUdp0 eng) s

/-- MEM_CNT (R215). -/
def execMemCnt (eng : Nat) (s : State) : Host.Outcome State Fault Refusal := act (memCnt eng) s

/-- MEM_POL (R216). -/
def execMemPol (eng : Nat) (ecc : Bool) (s : State) : Host.Outcome State Fault Refusal := act (memPol eng ecc) s

/-- MEM_CTX_RD (R217). -/
def execMemCtxRd (eng : Nat) (ecc : Bool) (s : State) : Host.Outcome State Fault Refusal := act (memCtxRd eng ecc) s

/-- MEM_CTX_WRT (R217). -/
def execMemCtxWrt (eng : Nat) (s : State) : Host.Outcome State Fault Refusal := act (memCtxWrt eng) s

/-- MEM_CTX_WRL (R217). -/
def execMemCtxWrl (eng : Nat) (s : State) : Host.Outcome State Fault Refusal := act (memCtxWrl eng) s

/-- MEM_CTX_ADD (R217). -/
def execMemCtxAdd (eng : Nat) (s : State) : Host.Outcome State Fault Refusal := act (memCtxAdd eng) s

/-- MEM_LEARN (R219). -/
def execMemLearn (eng : Nat) (s : State) : Host.Outcome State Fault Refusal := act (memLearn eng) s

/-- CONTEXT_LOCK_GRANT (R218): the lock of context i. -/
def execContextLockGrant (i : Nat) (s : State) : Host.Outcome State Fault Refusal := act (contextLockGrant i) s

/-- DISP_FWD (R220). -/
def execDispFwd (eng : Nat) (s : State) : Host.Outcome State Fault Refusal := act (dispFwd eng) s

/-- DISP_CLASS (R220). -/
def execDispClass (eng : Nat) (s : State) : Host.Outcome State Fault Refusal := act (dispClass eng) s

/-- DISP_COLOUR (R220). -/
def execDispColour (eng : Nat) (s : State) : Host.Outcome State Fault Refusal := act (dispColour eng) s

/-- DISP_MIRROR (R220). -/
def execDispMirror (eng : Nat) (s : State) : Host.Outcome State Fault Refusal := act (dispMirror eng) s

/-- DISP_OAM (R220). -/
def execDispOam (eng : Nat) (s : State) : Host.Outcome State Fault Refusal := act (dispOam eng) s

/-- DISP_RESTORE (R220). -/
def execDispRestore (eng : Nat) (s : State) : Host.Outcome State Fault Refusal := act (dispRestore eng) s

/-- DISP_COMMIT (R220). -/
def execDispCommit (eng : Nat) (s : State) : Host.Outcome State Fault Refusal := act (dispCommit eng) s

/-- DISP_DROP (R220). -/
def execDispDrop (eng : Nat) (s : State) : Host.Outcome State Fault Refusal := act (dispDrop eng) s

/-- DISP_TO_HOST (R220). -/
def execDispToHost (eng : Nat) (s : State) : Host.Outcome State Fault Refusal := act (dispToHost eng) s

/-- DISP_RECIRC (R220). -/
def execDispRecirc (eng : Nat) (s : State) : Host.Outcome State Fault Refusal := act (dispRecirc eng) s

/-- COMMIT_ACCEPT (R222) of thread t; `x6`, `x7` and `x8` name crossing entries that are lost (R228). -/
def execCommitAccept (t : Nat) (x6 : Bool) (x7 x8 : List Nat) (s : State) : Host.Outcome State Fault Refusal :=
  act (commitAccept t x6 x7 x8) s

/-- REORDER_RELEASE (R15) of pass k. -/
def execReorderRelease (k : Nat) (s : State) : Host.Outcome State Fault Refusal := act (reorderRelease k) s

/-- CS_SCRUB (R171): the next scrub slot of copy q of Grove g. -/
def execCsScrub (g q ecc : Nat) (s : State) : Host.Outcome State Fault Refusal := act (csScrub g q ecc) s

/-- CS_REPAIR (R172). -/
def execCsRepair (g q a : Nat) (s : State) : Host.Outcome State Fault Refusal := act (csRepair g q a) s

/-- DRAIN_TIMEOUT (R201). -/
def execDrainTimeout (g : Nat) (s : State) : Host.Outcome State Fault Refusal := act (drainTimeout g) s

end Sys2Proof.Machine
end

