-- ==== Sys2Proof/Machine/Ecdsa.lean ====
section
/-!
DEFINITION. The signature check of R368: ECDSA over the curve P-384 as FIPS 186-5 gives it (R5; the standard's own algorithm; log
entry 122, PRESUMED). Points are pairs of coordinates, none being the point at infinity.
-/

namespace Sys2Proof.Machine
open Sys2Proof

/-- The field's prime, the group's order and the base point of P-384; its coefficient a is -3. -/
def ecP : Nat := 2 ^ 384 - 2 ^ 128 - 2 ^ 96 + 2 ^ 32 - 1
def ecN : Nat :=
  0xFFFFFFFFFFFFFFFFFFFFFFFFFFFFFFFFFFFFFFFFFFFFFFFFC7634D81F4372DDF581A0DB248B0A77AECEC196ACCC52973
def ecG : Nat × Nat :=
  (0xAA87CA22BE8B05378EB1C71EF320AD746E1D3B628BA79B9859F741E082542A385502F25DBF55296C3A545E3872760AB7,
   0x3617DE4A96262C6F5D9E98BF9292DC29F8F41DBD289A147CE9DA3113B5F0B8C00A60B1CE1D7E819D7A431D7C90EA0E5F)

/-- A number to a power of at most `bits` bits, modulo m. -/
def powMod (m b : Nat) : Nat → Nat → Nat
  | 0, _ => 1
  | bits + 1, e =>
    let h := powMod m b bits (e / 2)
    if e % 2 = 1 then h * h % m * b % m else h * h % m

/-- The inverse modulo a prime m. -/
def invMod (m x : Nat) : Nat := powMod m (x % m) 384 (m - 2)

/-- The third point on the line of slope l through a point and one with abscissa x2, reflected. -/
def ecChord (l : Nat) (p : Nat × Nat) (x2 : Nat) : Nat × Nat :=
  let x := (l * l + 2 * ecP - p.1 - x2) % ecP
  (x, (l * (p.1 + ecP - x) + ecP - p.2) % ecP)

/-- The sum of two points. -/
def ecAdd : Option (Nat × Nat) → Option (Nat × Nat) → Option (Nat × Nat)
  | none, q => q
  | p, none => p
  | some p, some q =>
    if p.1 ≠ q.1 then some (ecChord ((q.2 + ecP - p.2) * invMod ecP (q.1 + ecP - p.1)) p q.1)
    else if (p.2 + q.2) % ecP = 0 then none
    else some (ecChord ((3 * p.1 * p.1 + ecP - 3) * invMod ecP (2 * p.2)) p q.1)

/-- A multiple of a point by a number of at most `bits` bits. -/
def ecMul (p : Nat × Nat) : Nat → Nat → Option (Nat × Nat)
  | 0, _ => none
  | bits + 1, k =>
    let h := ecMul p bits (k / 2)
    if k % 2 = 1 then ecAdd (ecAdd h h) (some p) else ecAdd h h

/-- Whether the signature (r, s) of the hash value `e` verifies under the public key `q`. -/
def ecdsaOk (q : Nat × Nat) (e r s : Nat) : Bool :=
  decide (0 < r ∧ r < ecN ∧ 0 < s ∧ s < ecN) &&
    (let w := invMod ecN s
     match ecAdd (ecMul ecG 384 (e * w % ecN)) (ecMul q 384 (r * w % ecN)) with
     | none => false
     | some p => p.1 % ecN == r)

end Sys2Proof.Machine
end

