-- ==== Sys2Proof/Machine/Lookout.lean ====
section
/-!
DEFINITION. The Lookout (17): what a block does at each of its error sources, the decision of reports, persistence,
reactions, repair and the safe state. Commands ERROR_REPORT to COLLECTOR_FAULT.
-/

namespace Sys2Proof.Machine
open Sys2Proof

/-! ### The error sources of the pages, with their classes (R71, R119, R146, R167, R206, R277, R305, R361 and others) -/

/-- Class by source from a list of digits: 0 none, 1 CE, 2 UC, 3 FT. -/
def classAt (l : List Nat) (src : Nat) : Nat := l.getD src 0

/-- Class of a source that a block asserts by ERROR_REPORT; 0 where the page has no such source. Pages 0x1C8 and 0x1D0 have
commands of their own. -/
def srcClass (page src : Nat) : Nat :=
  match kindOf page with
  | some .dev => if src = 8 then clsFT else 0
  | some .ic => classAt [1, 2, 3] src
  | some .pgu => classAt [1, 2, 1, 2, 1, 2] src
  | some .grv => classAt [1, 2, 1, 2, 1, 2, 1, 2, 1, 2, 1, 2, 2] src
  | some .emt => classAt [1, 2, 1, 2, 1, 2, 1, 2] src
  | some .thk0 | some .thk => if src < 16 then 1 + src % 2 else 0
  | some .clr => classAt [1, 2, 1, 2, 1, 2, 3] src
  | some .wp => classAt [3] src
  | some .mc => classAt [1, 2, 1, 2] src
  | some .sch => classAt [1, 2, 1, 2, 3] src
  | some .rc => classAt [1, 2, 3, 1, 2] src
  | some .pol => classAt [1, 2] src
  | some .gate => classAt [1, 2] src
  | some .ptp => classAt [1, 2] src
  | some .rw => classAt [1, 2, 1, 2] src
  | some .lmac | some .bmac => classAt [1, 2, 1, 2] src
  | some .sdql | some .sdqb => if page % 2 = 0 then classAt [2, 2] src else 0
  | _ => 0

/-- Whether another block can file a PARTNER report against a source (R402). -/
def partnerSource (page src : Nat) : Bool :=
  (page == pgEmt && (src == 1 || src == 3)) || (pgThk ≤ page && page < pgThk + 8 && src % 2 == 1) ||
  (page == pgPol && src == 1) || ((groveOf page).isSome && src == 12)

/-- Resource id of a report (R403); `index` is the row, word, engine or entry that the source names. -/
def srcResource (page src index : Nat) : Nat :=
  match kindOf page with
  | some .grv =>
    if src ≤ 1 then resId 5 (32768 * (page - 0x020) + index % 32768)
    else if src ≤ 7 || src = 12 then resId 1 (index % 4096 / 4)
    else 0
  | some .emt => if src ≤ 3 then resId 2 (index % 2 ^ 20) else if 6 ≤ src then resId 6 (65536 * 6 + index % 65536 / 16) else 0
  | some .thk0 | some .thk =>
    -- from index 2,048 on an error of the bank's X5 queue, which names no row (R167)
    if index % 4096 < 2048 then resId 3 (2048 * (8 * (page - pgThk) + src / 2) + index % 2048) else 0
  | some .clr => if src ≤ 3 then resId 4 (16384 * (index % 32) + index / 32 % 16384) else 0
  | some .mc => if src ≤ 1 then resId 6 (65536 * 4 + index % 16384 / 4) else 0
  | some .pgu => if src = 4 || src = 5 then resId 6 (65536 * 5 + index % 8192 / 4) else 0
  | some .sch => if src ≤ 1 then resId 6 (65536 * 3 + index % 32768 / 8) else 0
  | some .rc => if src ≤ 1 then resId 6 (65536 * 7 + index / 64 % 2048) else 0
  | some .pol => resId 6 (65536 + index % 262144 / 8)
  | some .lmac | some .bmac => resId 7 (page - 0x080)
  | _ => 0

/-! ### Clearing (R277) -/

/-- Copies that hold a cell. -/
def copiesOf (s : State) (c : Nat) : List (Nat × Desc) := s.clr.desc.filter (fun e => (copyCells e.2).contains c)

/-- Cells that hold the frame of a pass. -/
def frameCells (p : Pass) : List Nat :=
  segCells p.segs ++ (match p.com with | some x => x.headCells ++ segCells x.segs | none => [])

/-- Changes the passes and the frames in reception whose frame a cell holds: copies made of them later follow. -/
def updHolders (c : Nat) (f : Pass → Pass) (g : RxFrame → RxFrame) (s : State) : State :=
  let s1 := forAll (fun (e : Nat × Pass) s => if (frameCells e.2).contains c then setPass e.1 (f e.2) s else s) s.disp.passes s
  forAll (fun p s => match (port s p).rx with
    | some r => if r.cells.contains c then setPort p { port s p with rx := some (g r) } s else s
    | none => s) (mkeys s1.ports.port) s1

/-- Source 1 of page 0x050: every copy that reads the cell ends stomped, those yet to be made of its frame among them. -/
def cellDataLost (c : Nat) (s : State) : State :=
  updHolders c (fun p => { p with broken := true }) (fun r => { r with broken := true })
    (forAll (fun (e : Nat × Desc) s =>
      { s with clr := { s.clr with desc := mput s.clr.desc e.1 { e.2 with broken := true } } }) (copiesOf s c) s)

/-- Cells counted in LEAKED_CELLS: they keep their references until the next audit. -/
def leak (n : Nat) (s : State) : State :=
  if n = 0 then s else raiseIrq pgClr 2 (ctrAdd pgClr cClr_LEAKED_CELLS n s)

/-- The part of a list up to and including the first element that satisfies `p`. -/
def throughFirst {α : Type} (p : α → Bool) : List α → List α
  | [] => []
  | x :: xs => if p x then [x] else x :: throughFirst p xs

/-- A copy cut off after the cell `c`. -/
def cutCopy (c : Nat) (d : Desc) : Desc :=
  let heads := throughFirst (fun x => x == c) d.headCells
  let segs := if d.headCells.contains c then [] else cutAfter c d.segs
  let headLen := Nat.min d.headLen (256 * heads.length - 48)
  { d with headCells := heads, headLen := headLen, segs := segs, broken := true,
           len := Nat.min d.len (headLen + (segs.map (fun g => g.len)).sum) }

/-- The frame of a pass cut off after the cell `c`. -/
def cutPass (c : Nat) (p : Pass) : Pass :=
  let com (x : Committed) : Committed :=
    if x.headCells.contains c then
      let heads := throughFirst (fun y => y == c) x.headCells
      { x with headCells := heads, headLen := Nat.min x.headLen (256 * heads.length - 48), segs := [] }
    else { x with segs := cutAfter c x.segs }
  let head := match p.com with | some x => x.headCells.contains c | none => false
  { p with broken := true, segs := if head then [] else cutAfter c p.segs, com := p.com.map com }

/-- Cells of a list beyond the cell `c`. -/
def beyond (c : Nat) (l : List Nat) : List Nat := (l.dropWhile (fun x => x != c)).drop 1

/-- Source 3 of page 0x050: every copy of the frame, made or yet to be made, ends at the break, and the cells beyond it
leak. -/
def cellLinkLost (c : Nat) (s : State) : State :=
  let l := copiesOf s c
  let copies := l.flatMap (fun e => (copyCells e.2).filter (fun x => !(copyCells (cutCopy c e.2)).contains x))
  let passes := s.disp.passes.flatMap (fun e =>
    if (frameCells e.2).contains c then (frameCells e.2).filter (fun x => !(frameCells (cutPass c e.2)).contains x) else [])
  let rx := s.ports.port.flatMap (fun e => match e.2.rx with | some r => beyond c r.cells | none => [])
  let gone := (copies ++ passes ++ rx).dedup
  leak gone.length (updHolders c (cutPass c) (fun r => { r with broken := true, cut := some c })
    (forAll (fun (e : Nat × Desc) s =>
      { s with clr := { s.clr with desc := mput s.clr.desc e.1 (cutCopy c e.2) } }) l s))

/-- Source 5 of page 0x050: the copy is dropped and its cells leak. -/
def descLost (id : Nat) (s : State) : State :=
  match mfind s.clr.desc id with
  | none => s
  | some d =>
    let s1 := landCopy d s
    let s2 := setQueueList d.queue ((queueList s1 d.queue).filter (fun x => x != id))
      { s1 with clr := { s1.clr with desc := mdel s1.clr.desc id, residue := unlinkHeld id s1.clr.residue } }
    let s3 := match s2.ports.port.find? (fun x => x.2.tx == some id) with
      | some o => txFree o.1 (setPort o.1 { port s2 o.1 with tx := none, txStomp := false, idleSince := now s2 } s2)
      | none => unselect id s2
    leak (copyCells d).length s3

/-! ### Scheduler and Ring Calendar (R305, R322) -/

/-- Source 1 of page 0x060: the queue is flushed and its EN set to 0. -/
def queueStateLost (q : Nat) (s : State) : State :=
  let s1 := flushQueue cSch_STATE_UC_FLUSHED q s
  raiseIrq pgSch 0 (setNode (nodeKey 0 q) (natSetBit (node s1 (nodeKey 0 q)) 30 false) s1)

/-- Source 3 of page 0x060: D is set to Q and S to now, so that the node permits. -/
def nodeStateLost (key : Nat) (s : State) : State := setDyn key ⟨quantum s key, now16 s⟩ (wheelRemove key s)

/-- Source 1 of page 0x061: the node permits at once; a timer entry's time has come at once. -/
def wheelLost (key : Nat) (s : State) : State :=
  let s1 := wheelRemove key s
  if 2 ^ 20 ≤ key then
    (if (mfind s1.svc.next (key - 2 ^ 20)).isSome then
      { s1 with svc := { s1.svc with next := mput s1.svc.next (key - 2 ^ 20) (now s1) } } else s1)
  else setDyn key { dyn s1 key with s := now16 s1 } s1

/-! ### Ports, Learn Queue, Groves (R71, R146, R206) -/

/-- Source 1 of a MAC page: the frame in reception is dropped, the rest of it with it. -/
def rxBufferLost (p : Nat) (s : State) : State :=
  match (port s p).rx with
  | none => s
  | some r =>
    if r.ignore || r.discard then s
    else
      let s1 := count (macPage p) cMac_RX_INT_ERR (rxFail p r s)
      setPort p { port s1 p with rx := some { r with ignore := true, cells := [], pass := none } } s1

/-- Source 3 of a MAC page: the frame in transmission ends with an inverted FCS. -/
def txBufferLost (p : Nat) (s : State) : State :=
  if (port s p).tx.isSome then setPort p { port s p with txStomp := true } s else s

/-- Source 7 of page 0x040 (R146): the i-th notice of the Learn Queue is discarded, its place reading 0 from then on, or from
65,536 on a notice of the filter, by set and way (log entry 106, DESIGN CHOICE). -/
def noticeLost (i : Nat) (s : State) : State :=
  if i < s.emt.lq.length then
    count pgEmt cEmt_LQ_LOST { s with emt := { s.emt with lq := s.emt.lq.set i 0 } }
  else
    let k := (i - 65536) / 4
    let l := mget (fun _ => []) s.emt.filter k
    if i < 65536 || l.length ≤ i % 4 then s
    else count pgEmt cEmt_LQ_LOST { s with emt := { s.emt with
      filter := mset (fun _ => []) s.emt.filter k (l.eraseIdx (i % 4)) } }

/-- Sources 3, 5, 7, 11 and 12 of a Grove: the pass of thread t is abandoned with the cause "engine uncorrectable error";
sources 3, 5 and 7 are recorded in GRV_ERR_ENG. -/
def engineLost (g src t : Nat) (s : State) : State :=
  let s1 := if src = 3 || src = 5 || src = 7 then noteEngErr g (t / 4 % 32) (t % 4) src s else s
  let th := thread s1 t
  if thGrove t ≠ g then s
  else if attempting th then abandon t causeEngine 0 0 s1
  else s1

/-- Source 9 of a Grove: the pass whose buffered head is lost is dropped at its next attempt, or at once between attempts. -/
def headLost (g k : Nat) (s : State) : State :=
  match pass? s k with
  | none => s
  | some p =>
    if p.phase == .running then updPass k (fun (q : Pass) => { q with headLost := true }) s
    else if p.phase == .reorder || p.phase == .exception then s
    else
      let s1 := if p.tid = noThread then s else freeThread p.tid s
      let s2 := { unhold k s1 with disp := { s1.disp with
        restarts := s1.disp.restarts.filter (fun x => x != k),
        queue := setQ s1.disp.queue } }
      count (grvPage g) cGrv_HEAD_LOST (endPass k (fragFail p s2))
where
  /-- The dispatch queues without the pass. -/
  setQ (m : NMap (List Nat)) : NMap (List Nat) :=
    m.foldl (fun acc e => mset (fun _ => []) acc e.1 (e.2.filter (fun x => x != k))) []

/-- What the block that owns a source does when it asserts it. -/
def errorEffect (page src index : Nat) (s : State) : State :=
  match kindOf page with
  | some .ic => if src = 1 then icCopyError (index % 512) s else s
  | some .pgu =>
    if src = 1 then { s with pgu := { s.pgu with nodeBad := nsInsert s.pgu.nodeBad (index % 512) } }
    else if src = 3 then { s with pgu := { s.pgu with transBad := nsInsert s.pgu.transBad (index % 131072) } }
    else if src = 5 then fragRemove (index % 8192) s
    else s
  | some .grv =>
    let g := page - 0x020
    if src = 1 then
      { s with grv := { s.grv with csBad := nsInsert s.grv.csBad (csCopyKey g (index / 4096 % 8) (index % 4096)) } }
    else if src = 9 then headLost g index s
    else if src = 3 || src = 5 || src = 7 || src = 11 || src = 12 then engineLost g src (index % 4096) s
    else s
  | some .emt =>
    if src = 1 then emtRowLost (index / 8192 % 128) (index % 8192) true s
    else if src = 3 then emtRowLost (index / 8192 % 128) (index % 8192) false s
    else if src = 5 then emtOvfLost index s
    else if src = 7 then noticeLost index s
    else s
  | some .clr =>
    if src = 1 then cellDataLost index s
    else if src = 3 then cellLinkLost index s
    else if src = 5 then descLost index s
    else s
  | some .mc =>
    if src = 1 then { s with store := { s.store with mcgBad := nsInsert s.store.mcgBad (index % 16384) } }
    else if src = 3 then
      forAll expireCopy ((s.clr.residue.filter (fun e => e.pkt == index)).flatMap (fun e => e.copies)) s
    else s
  | some .sch => if src = 1 then queueStateLost (index % 32768) s else if src = 3 then nodeStateLost index s else s
  | some .rc => if src = 1 then wheelLost index s else if src = 4 then timerLost index s else s
  | some .gate =>
    if src = 1 then { s with gate := { s.gate with poolBad := nsInsert s.gate.poolBad (index % 65536) } } else s
  | some .ptp => if src = 1 then txtsLost s else s
  | some .rw =>
    if src = 1 then rwBufferLost index s
    else if src = 3 then { s with rw := { s.rw with route := mdel s.rw.route (index % 4096) } }
    else s
  | some .lmac | some .bmac =>
    if src = 1 then rxBufferLost (page - 0x080) s else if src = 3 then txBufferLost (page - 0x080) s else s
  | some .sdql | some .sdqb => pllDrop page src s
  | _ => s

/-- ERROR_REPORT (R401, R402): a block asserts source `src` of a page for the row, word, thread or entry `index`, or files
a PARTNER report against it. -/
def errorReport (page src index : Nat) (partner : Bool) (s : State) : State :=
  let cls := srcClass page src
  if cls = 0 || !s.pin.keepClk then s
  else if partner then
    (if partnerSource page src then capture page src cls true (srcResource page src index) s else s)
  -- the two stores that handle and report an error in one step
  else if (kindOf page == some .thk0 || kindOf page == some .thk) && src % 2 = 1 && index % 4096 < 2048 then
    thkRowError (8 * (page - pgThk) + src / 2) (index % 2048) false s
  else if page = pgPol && src = 1 then polLost (index % 262144) false s
  else capture page src cls false (srcResource page src index) (errorEffect page src index s)

/-- Unit of a resource as a key: kind and bank, copy or store (R403). -/
def unitKey (res : Nat) : Nat :=
  let i := res % 2 ^ 20
  match res / 2 ^ 20 with
  | 2 => 2 * 2 ^ 20 + i / 8192
  | 3 => 3 * 2 ^ 20 + i / 2048
  | 4 => 4 * 2 ^ 20 + i / 16384
  | 5 => 5 * 2 ^ 20 + i / 4096
  | 6 => 6 * 2 ^ 20 + i / 65536
  | _ => res

/-! ### The safe state (R419) -/

/-- Enters the safe state; LKO_SAFE records the first cause only, and Heartwood's source 1 is raised (R419, R420). -/
def enterSafe (cause page src : Nat) (s : State) : State :=
  if safe s then s
  else
    let w := mkSafe
    let s1 := hicRaise 1 (setReg (pa pgLko offLKO_SAFE) w s)
    let s2 := setReg (pa pgLko offLKO_SAFE_TIME) (BitVec.ofNat 32 s1.time.now.ns)
      (setReg (pa pgLko (offLKO_SAFE_TIME + 4)) (BitVec.ofNat 32 s1.time.now.sec) s1)
    let s3 := epochDisarm { s2 with pin := { s2.pin with fault := true },
                                    lko := { s2.lko with remapQ := begun s2.lko.remapQ } }
    let s4 := forAll (fun p s => match (port s p).rx with
      | none => s
      | some r =>
        let s1 := rxFail p r s
        setPort p { port s1 p with rx := some { r with ignore := true, cells := [], pass := none } } s1) (List.range 256) s3
    forAll squelched [0, 1] s4
where
  /-- The word of LKO_SAFE. -/
  mkSafe : Word :=
    [(fLKO_SAFE_SAFE, 1), (fLKO_SAFE_CAUSE, cause), (fLKO_SAFE_AREA, areaOf page), (fLKO_SAFE_SOURCE, src),
     (fLKO_SAFE_PAGE, page)].foldl (fun (w : Word) (e : Fld × Nat) => fset w e.1 e.2) 0
  /-- The remaps already in progress: the first of each unit (R415). -/
  begun (l : List Nat) : List Nat :=
    (l.foldl (fun (acc : List Nat) r => if acc.any (fun x => unitKey x == unitKey r) then acc else acc ++ [r]) [])

/-! ### Echo (R408, R409) -/

/-- The echo unit of a resource, and the unit that owns its spares; none for KIND 0 (R403). -/
def unitOf (res : Nat) : Option Nat := if res / 2 ^ 20 = 0 then none else some (unitKey res)

/-- Whether a page is in its echo window (R408). -/
def inEcho (s : State) (page : Nat) : Bool :=
  inReset s page || s.lko.disabled.contains page || kNow s < mget (fun _ => 0) s.lko.echoEnd page

/-- ECHO_US by KCLK. -/
def echoTime (s : State) : Nat := liveF s (pa pgLko offLKO_CFG) fLKO_CFG_ECHO_US * tUs

/-- Hold of a partner report, 32 KCLK (R408). -/
abbrev echoHold : Nat := 192

/-- Whether a partner report echoes an own report of its unit (R409). -/
def echoes (s : State) (r : Report) : Bool :=
  r.partner && (unitOf r.res).isSome && s.lko.own.any (fun o =>
    unitOf o.res == unitOf r.res && r.t0 ≤ o.t0 + echoTime s && o.t0 / 6 ≤ (r.t0 + echoHold) / 6)

/-! ### Windows and the tracker (R405, R406) -/

/-- The counts of a window after one more report of a class: a closed or missing window opens anew. -/
def windowAdd (s : State) (page cls : Nat) (w : Option ErrWin) : ErrWin :=
  let base : ErrWin := match w with
    | some w => if kNow s < w.fin then w else fresh
    | none => fresh
  if cls = clsUC then { base with uc := Nat.min 255 (base.uc + 1) } else { base with ce := Nat.min 255 (base.ce + 1) }
where
  /-- A window that opens now. -/
  fresh : ErrWin :=
    { fin := kNow s + liveF s (pa page offERR_WINDOW) fERR_WINDOW_MS * tMs, ce := 0, uc := 0,
      ceTh := liveF s (pa page offERR_THRESH) fERR_THRESH_CE, ucTh := liveF s (pa page offERR_THRESH) fERR_THRESH_UC,
      ceSaid := false, ucSaid := false }

/-- The count of a class has reached its threshold. -/
def windowFull (cls : Nat) (w : ErrWin) : Bool := if cls = clsUC then w.ucTh ≤ w.uc else w.ceTh ≤ w.ce

/-- Persistence for a class was already reached in this window. -/
def windowSaid (cls : Nat) (w : ErrWin) : Bool := if cls = clsUC then w.ucSaid else w.ceSaid

/-- Notes persistence for a class. -/
def windowSay (cls : Nat) (w : ErrWin) : ErrWin := if cls = clsUC then { w with ucSaid := true } else { w with ceSaid := true }

/-- Counts an unmasked report in the tracker; says whether its resource becomes persistent now (R406). -/
def trackAdd (page cls res : Nat) (s : State) : Bool × State :=
  if !(1 ≤ res / 2 ^ 20 && res / 2 ^ 20 ≤ 6) then (false, s)
  else
    let open_ := s.lko.track.filter (fun e => kNow s < e.2.fin)
    if (mfind open_ res).isNone && 1024 ≤ open_.length then (false, count pgLko cLko_TRACK_FULL s)
    else
      let w := windowAdd s page cls (mfind open_ res)
      let hit := windowFull cls w && !windowSaid cls w
      (hit, { s with lko := { s.lko with track := mput open_ res (if hit then windowSay cls w else w) } })

/-! ### Repair (R412, R414 to R417) -/

/-- Spares of a unit that are used or promised to a waiting remap. -/
def sparesTaken (s : State) (u : Nat) : Nat :=
  mget (fun _ => 0) s.lko.spares u + (s.lko.remapQ.filter (fun r => unitOf r == some u)).length

/-- Fences an engine for the Lookout (R410, R412). -/
def lkoFence (e : Nat) (perm : Bool) (s : State) : State :=
  let g := e / 32 % 32
  let s1 := if engBit s offGRV_ENG_FENCE g (e % 32) then s else count pgLko cLko_LOOKOUT_FENCES s
  fenceEngine g (e % 32) causeEngine perm s1

/-- What the persistence of a resource triggers; says whether it leads to a repair (R412, R416, R417). -/
def onResource (cls res : Nat) (s : State) : Bool × State :=
  if !liveB s (pa pgLko offLKO_CFG) fLKO_CFG_REPAIR_EN then (false, s)
  else if res / 2 ^ 20 = 1 then (false, if cls = clsUC then lkoFence (res % 2 ^ 20) true s else s)
  else match unitOf res with
    | none => (false, s)
    | some u =>
      if sparesTaken s u < 16 then (true, { s with lko := { s.lko with remapQ := s.lko.remapQ ++ [res] } })
      else
        let s1 := raiseIrq pgLko 3 (count pgLko cLko_REPAIR_EXHAUSTED s)
        let i := res % 2 ^ 20
        (false, if res / 2 ^ 20 = 4 then
          { s1 with clr := { s1.clr with retired := nsInsert s1.clr.retired (i % 16384 * 32 + i / 16384) } } else s1)

/-! ### Decision and reactions (R407 to R413) -/

/-- A reaction to be started: code, page, resource, and whether the field was a persistent one. -/
structure React where
  code : Nat
  page : Nat
  res : Nat
  persist : Bool
  deriving DecidableEq, Repr

/-- Latches a source in ERR_STS and the highest of its classes in ERR_CLASS (R38); pages 0x1C8 and 0x1D0 show some sources in
IRQ_STS (R442, R454). -/
def latchErr (page src cls : Nat) (s : State) : State :=
  let s1 := setRegF (pa page offERR_STS) ⟨src, src⟩ 1 s
  let f : Fld := ⟨2 * src + 1, 2 * src⟩
  let s2 := setRegF (pa page offERR_CLASS) f (Nat.max (regF s1 (pa page offERR_CLASS) f) cls) s1
  if page = pgClk && src < 5 then raiseIrq pgClk src s2
  else if page = pgPt && src = 0 then raiseIrq pgPt 0 s2
  else if page = pgPt && src = 2 then raiseIrq pgPt 1 s2
  else s2

/-- The field of LKO_REACT for a class. -/
def reactField (s : State) (a cls : Nat) (persist : Bool) : Nat :=
  liveF s (pa pgLko (offLKO_REACT a))
    (if cls = clsUC then (if persist then fLKO_REACT_UC_P else fLKO_REACT_UC)
     else (if persist then fLKO_REACT_CE_P else fLKO_REACT_CE))

/-- Records a counted report in LKO_LAST. -/
def noteLast (r : Report) (persist : Bool) (s : State) : State :=
  let v := r.page + r.src * 2 ^ 12 + r.cls * 2 ^ 16 + (if persist then 2 ^ 18 else 0) + r.res * 2 ^ 24
  setReg (pa pgLko offLKO_LAST) (BitVec.ofNat 32 v)
    (setReg (pa pgLko (offLKO_LAST + 4)) (BitVec.ofNat 32 (v / 2 ^ 32)) s)

/-- Decides a report that is neither FT nor ECHO (R405 to R407, R411 to R413); a reaction other than SAFE is added to the
list. -/
def decideCounted (r : Report) (acc : List React × State) : List React × State :=
  let s := latchErr r.page r.src r.cls acc.2
  let key := r.page * 16 + r.src
  let w := windowAdd s r.page r.cls (mfind s.lko.win key)
  let masked := (live s (pa r.page offERR_MASK)).toNat.testBit r.src
  let persist := !masked && windowFull r.cls w
  let fresh := persist && !windowSaid r.cls w && !safe s
  let s1 := { s with lko := { s.lko with win := mput s.lko.win key (if fresh then windowSay r.cls w else w) } }
  let s2 := noteLast r (persist && !safe s) s1
  if masked then (acc.1, s2)
  else
    let t := trackAdd r.page r.cls r.res s2
    if safe s then (acc.1, t.2)
    else
      -- persistence is escalated to the Sapwood cores and to Heartwood (R400, R406)
      let s3 := if fresh then hicRaise 2 (raiseIrq pgLko 1 t.2) else t.2
      let q := if t.1 then onResource r.cls r.res s3 else (false, s3)
      let f := reactField q.2 (areaOf r.page) r.cls persist
      let code := if q.1 && 2 ≤ f && f ≤ 4 then rcIrq else f
      let s4 := if 1 ≤ code then raiseIrq pgLko 0 q.2 else q.2
      if code = rcSafe then (acc.1, enterSafe 2 r.page r.src s4)
      else if 2 ≤ code then (acc.1 ++ [⟨code, r.page, r.res, persist⟩], s4)
      else (acc.1, s4)

/-- Decides one report. -/
def decideOne (r : Report) (acc : List React × State) : List React × State :=
  let s := acc.2
  if !hasHeader r.page then acc
  -- R407: FT is never masked, never ECHO and not counted
  else if r.cls = clsFT then (acc.1, enterSafe 1 r.page r.src (hicRaise 1 (latchErr r.page r.src clsFT s)))
  else if inEcho s r.page || echoes s r then
    (acc.1, count pgLko (cLko_LKO_ECHO_CNT (areaOf r.page)) (setRegF (pa r.page offECHO_STS) ⟨r.src, r.src⟩ 1 s))
  else decideCounted r acc

/-- Ports on which a PORT_DOWN acts (R411): the page's own, or those that have a lane in the quad. A port with PORT_MODE 0 has
none, and one put in LANE_BUSY has given its lanes up (log entry 76, DEDUCED). -/
def reactPorts (s : State) (page : Nat) : List Nat :=
  match macPort page with
  | some p => [p]
  | none => (quadPorts page).filter (fun p => portMode s p != 0 && !laneBusy s p)

/-- Starts one reaction (R410, R411). -/
def react (x : React) (s : State) : State :=
  if x.code = rcReset then
    if !capReset x.page then s
    else if inEcho s x.page then raiseIrq pgLko 4 (count pgLko cLko_RESETS_SUPPRESSED s)
    else softReset x.page s
  else if x.code = rcFence then
    (if x.res / 2 ^ 20 = 1 then lkoFence (x.res % 2 ^ 20) x.persist s else setEnable x.page false true s)
  else if x.code = rcPortDown then forAll (fun p s => setEnable (macPage p) false true s) (reactPorts s x.page) s
  else s

/-- The KCLK in which a report is decided (R413). -/
def dueClk (r : Report) : Nat := (if r.partner && r.cls != clsFT then r.t0 + echoHold else r.t0) / 6

/-- The reports decided next: those of the earliest KCLK already reached, by page, source, and own before partner. -/
def dueReports (s : State) : List Report :=
  let due := s.lko.cap.filter (fun r => dueClk r ≤ kNow s / 6)
  match due.map dueClk with
  | [] => []
  | c :: cs =>
    let first := cs.foldl Nat.min c
    sortBy (fun r => (r.page * 16 + r.src) * 2 + (if r.partner then 1 else 0)) (due.filter (fun r => dueClk r == first))

/-- REPORT_DECIDE (R413): the reports of one KCLK are decided together, then their reactions start
(log entry 76, DEDUCED). -/
def reportDecide (s : State) : State :=
  if !s.pin.keepClk then s
  else
    let l := dueReports s
    let r := l.foldl (fun acc x => decideOne x acc) (([] : List React), s)
    let s1 := forAll react r.1 r.2
    let cap := s1.lko.cap.filter (fun x => !l.contains x)
    let own := s1.lko.own.filter (fun o => kNow s1 ≤ o.t0 + 256 * tUs)
    { s1 with lko := { s1.lko with cap := cap, own := own } }

/-- ERR_WINDOW_CLOSE (R405): the window of a source closes when its time has come. -/
def errWindowClose (page src : Nat) (s : State) : State :=
  match mfind s.lko.win (page * 16 + src) with
  | some w =>
    if w.fin ≤ kNow s && s.pin.keepClk then { s with lko := { s.lko with win := mdel s.lko.win (page * 16 + src) } } else s
  | none => s

/-- ECHO_WINDOW_END (R408). -/
def echoWindowEnd (page : Nat) (s : State) : State :=
  if mget (fun _ => 0) s.lko.echoEnd page ≤ kNow s && s.pin.keepClk then
    { s with lko := { s.lko with echoEnd := mdel s.lko.echoEnd page } }
  else s

/-! ### REMAP and OTP (R416, R418) -/

/-- Zero data with correct ECC in a control-store word that held an uncorrectable error (R416): the copy gives 0 until the word
is repaired. -/
def remapWord (k : Nat) (s : State) : State :=
  if s.grv.csBad.contains k then
    { s with grv := { s.grv with csBad := nsErase s.grv.csBad k, csZero := nsInsert s.grv.csZero k } }
  else s

/-- Zero data in a multicast row that held an uncorrectable error. -/
def remapGroup (g : Nat) (s : State) : State :=
  if s.store.mcgBad.contains g then setMcGroup g 0 { s with store := { s.store with mcgBad := nsErase s.store.mcgBad g } }
  else s

/-- Zero data in a Thicket row whose entry the block removed. -/
def remapRow (k : Nat) (s : State) : State :=
  let used := match thkPlaceOf s (k / 2048) (k % 2048) with
    | some (t, c, x) => tagUsed (thkEntry s t c x).tag
    | none => false
  if used then s else setThkRow k (thkRowReset k) s

/-- Zero data in a Clearing row. -/
def remapCell (c : Nat) (s : State) : State := setCell c [] (cell s c).link s

/-- Content that a remap writes: what is salvageable as it stands, and a row that held an uncorrectable error, reported and not
written since, with zero data (R416) (log entry 131, DEDUCED). -/
def remapContent (res : Nat) (s : State) : State :=
  let i := res % 2 ^ 20
  let s1 := if !s.lko.bad.contains res then s else match res / 2 ^ 20 with
    | 3 => remapRow i s
    | 4 => remapCell (i % 16384 * 32 + i / 16384) s
    | 5 => remapWord (csCopyKey (i / 32768) (i / 4096 % 8) (i % 4096)) s
    | 6 => if i / 65536 = 4 then forAll (fun j s => remapGroup (4 * (i % 65536) + j) s) (List.range 4) s else s
    -- the block itself has zeroed a row of the hash store (R146)
    | _ => s
  { s1 with lko := { s1.lko with bad := nsErase s1.lko.bad res } }

/-- REMAP (R416): the remap in progress of a unit, that of `res`, completes. -/
def remap (res : Nat) (s : State) : State :=
  match s.lko.remapQ.find? (fun r => unitOf r == unitOf res), unitOf res with
  | some r, some u =>
    if r ≠ res || !s.pin.keepClk then s
    else
      let k := mget (fun _ => 0) s.lko.spares u
      let rec_ : Repair := ⟨res, k⟩
      let full := 512 ≤ s.lko.otp.length + s.lko.otpWait.length
      let s1 := remapContent res { s with lko := { s.lko with
        remapQ := s.lko.remapQ.erase res, spares := mset (fun _ => 0) s.lko.spares u (k + 1),
        island := s.lko.island ++ [rec_], otpWait := if full then s.lko.otpWait else s.lko.otpWait ++ [rec_] } }
      let w := fset (fset (fset 0 fLKO_REPAIR_LAST_VALID 1) fLKO_REPAIR_LAST_SPARE k) fLKO_REPAIR_LAST_RESOURCE res
      let s2 := raiseIrq pgLko 2 (setReg (pa pgLko offLKO_REPAIR_LAST) w (count pgLko cLko_REPAIRS s1))
      if full then raiseIrq pgLko 5 (count pgLko cLko_OTP_REPAIR_FULL s2) else s2
  | _, _ => s

/-- OTP_REPAIR_WRITE (R418): the oldest repair record not yet there goes into OTP. -/
def otpRepairWrite (s : State) : State :=
  match s.lko.otpWait with
  | [] => s
  | r :: rest => if !s.pin.keepClk then s else { s with lko := { s.lko with otpWait := rest, otp := s.lko.otp ++ [r] } }

/-! ### ALIVE and the collector (R421, R423) -/

/-- The 1 ms tick of Heartwood's controller is paced with ALIVE: every rising edge (R400; log entry 128, DESIGN CHOICE). -/
def aliveTick (s : State) : State := if s.pin.alive then hicRaise 16 s else s

/-- ALIVE_TOGGLE (R421): an edge, 0.5 ms after the last, while Heartwood kicks, no safe state holds and KCLK runs. -/
def aliveToggle (s : State) : State :=
  if s.pin.keepClk && !safe s && s.hw.downTill.isNone && s.pin.aliveAt + 1500000 ≤ kNow s then
    aliveTick { s with pin := { s.pin with alive := !s.pin.alive, aliveAt := s.pin.aliveAt + 1500000 } }
  else s

/-- COLLECTOR_FAULT (R423): a mismatch or ECC error in the Lookout's own state. -/
def collectorFault (s : State) : State :=
  if !s.pin.keepClk then s else enterSafe 3 pgLko 0 (latchErr pgLko 0 clsFT s)

/-! ### Commands -/

/-- ERROR_REPORT (R401). -/
def execErrorReport (page src index : Nat) (partner : Bool) (s : State) : Host.Outcome State Fault Refusal :=
  act (errorReport page src index partner) s

/-- REPORT_DECIDE (R413). -/
def execReportDecide (s : State) : Host.Outcome State Fault Refusal := actK reportDecide s

/-- ERR_WINDOW_CLOSE (R405). -/
def execErrWindowClose (page src : Nat) (s : State) : Host.Outcome State Fault Refusal := actK (errWindowClose page src) s

/-- ECHO_WINDOW_END (R408). -/
def execEchoWindowEnd (page : Nat) (s : State) : Host.Outcome State Fault Refusal := actK (echoWindowEnd page) s

/-- REMAP (R416). -/
def execRemap (res : Nat) (s : State) : Host.Outcome State Fault Refusal := act (remap res) s

/-- OTP_REPAIR_WRITE (R418). -/
def execOtpRepairWrite (s : State) : Host.Outcome State Fault Refusal := actK otpRepairWrite s

/-- ALIVE_TOGGLE (R421). -/
def execAliveToggle (s : State) : Host.Outcome State Fault Refusal := actK aliveToggle s

/-- COLLECTOR_FAULT (R423). -/
def execCollectorFault (s : State) : Host.Outcome State Fault Refusal := actK collectorFault s

end Sys2Proof.Machine
end

