-- ==== Sys2Proof/Machine/Images.lean ====
section
/-!
DEFINITION. Images, flash and locks (R363, R367 to R371, R437): the checks of R368, what loading each kind does, and the
records of a CONFIG image.
-/

namespace Sys2Proof.Machine
open Sys2Proof

/-! ### Flash (R371) -/

/-- A byte of flash; an erased one reads 0xFF. -/
def flashByte (s : State) (a : Nat) : Byte := mget (fun _ => 0xFF) s.hw.flash a

/-- Bytes of flash. -/
def flashRead (s : State) (a n : Nat) : Bytes := (List.range n).map (fun i => flashByte s (a + i))

/-- Writes bytes of flash. -/
def flashPut (a : Nat) : Bytes → State → State
  | [], s => s
  | b :: bs, s => flashPut (a + 1) bs { s with hw := { s.hw with flash := mset (fun _ => 0xFF) s.hw.flash a b } }

/-- Programs flash: programming only clears bits (R371; log entry 27, PRESUMED). -/
def flashProgram (a : Nat) (bs : Bytes) (s : State) : State :=
  flashPut a ((List.range bs.length).map (fun i => byteAt bs i &&& flashByte s (a + i))) s

/-- Erases a range of flash. -/
def flashErase (a n : Nat) (s : State) : State :=
  { s with hw := { s.hw with flash := s.hw.flash.filter (fun e => !(a ≤ e.1 && e.1 < a + n)) } }

/-- A range of flash whose content an interrupted write leaves open (R372, R385). -/
def flashOpen (a n : Nat) (s : State) : State := freeNext (flashPut a (leBytes n (freeNow s)) s)

/-- Whether a directory copy is valid: its magic is "VLRD" and its CRC is correct (R371). -/
def dirValid (d : Bytes) : Bool := d.take 4 == [0x56, 0x4C, 0x52, 0x44] && crc32 (d.take 508) == leAt d 508 4

/-- The directory in use: of two valid copies the one with the higher SEQ (R371). -/
def directory (s : State) : Option Bytes :=
  let a := flashRead s 0 512
  let b := flashRead s 0x10000 512
  if dirValid a && dirValid b then some (if leAt a 4 4 < leAt b 4 4 then b else a)
  else if dirValid a then some a
  else if dirValid b then some b
  else none

/-- Kind of entry i of a directory, 0 past the end of the list. -/
def dirKind (d : Bytes) (i : Nat) : Nat :=
  if 16 ≤ i || (List.range (i + 1)).any (fun j => byteAt d (32 + 16 * j) == 0) then 0 else (byteAt d (32 + 16 * i)).toNat

/-- The image of entry i, read with 4-byte or 3-byte addresses as byte 8 bit 1 says: of an address the flash sees that many
bytes. -/
def dirImage (s : State) (d : Bytes) (i : Nat) : Bytes :=
  let space := if (byteAt d 8).toNat.testBit 1 then 2 ^ 32 else 2 ^ 24
  (List.range (leAt d (40 + 16 * i) 4)).map (fun j => flashByte s ((leAt d (36 + 16 * i) 4 + j) % space))

/-- First entry of a kind. -/
def dirFind (d : Bytes) (kind : Nat) : Option Nat := (List.range 16).find? (fun i => dirKind d i == kind)

/-! ### The image container (R367, R368) -/

abbrev imSapwood : Nat := 1
abbrev imMicrocode : Nat := 2
abbrev imConfig : Nat := 3
abbrev imPatch : Nat := 4

/-- Kind, payload length, load offset, entry, security version and digest of an image. -/
def imKind (i : Bytes) : Nat := (byteAt i 5).toNat
def imLen (i : Bytes) : Nat := leAt i 8 4
def imLoad (i : Bytes) : Nat := leAt i 12 4
def imEntry (i : Bytes) : Nat := leAt i 16 4
def imSvn (i : Bytes) : Nat := leAt i 20 4
def imDigest (i : Bytes) : Nat := leAt i 32 48

/-- The payload. -/
def imPayload (i : Bytes) : Bytes := slice i 256 (imLen i)

/-- Whether some bytes are all 0. -/
def allZero (bs : Bytes) : Bool := bs.all (fun b => b == 0)

/-- Check 1 of R368 on an image of which `n` bytes are present. -/
def imShapeOk (i : Bytes) : Bool :=
  let k := imKind i
  i.take 4 == [0x56, 0x4C, 0x52, 0x49] && byteAt i 4 == 1 && 1 ≤ k && k ≤ 4 && (byteAt i 6).toNat < 4 &&
  byteAt i 7 == 0 && allZero (slice i 25 7) && allZero (slice i 180 76) && 256 + imLen i ≤ i.length &&
  (k == imSapwood || (imLoad i == 0 && imEntry i == 0)) &&
  (k != imSapwood || imLoad i + imLen i ≤ 0x100000) && (k != imPatch || imLen i ≤ 0x8000) &&
  (k != imMicrocode || imLen i ≤ 24 * 4096)

/-- Check 2 of R368. -/
def imCrcOk (i : Bytes) : Bool := crc32 (i.take 176 ++ imPayload i) == leAt i 176 4

/-- Whether DIGEST equals the payload's SHA-384 (R368). -/
def imDigestOk (i : Bytes) : Bool := leNat (sha384 (imPayload i)) == imDigest i

/-- Key id of an image. -/
def imKey (i : Bytes) : Nat := (byteAt i 6).toNat % 4

/-- Whether the signature, over the SHA-384 of bytes 0 to 79, verifies under the ROM public key of the key id (R367, R368; log
entry 52, DESIGN CHOICE). -/
def imSigOk (i : Bytes) : Bool :=
  ecdsaOk (Config.romKeyX (imKey i) % ecP, Config.romKeyY (imKey i) % ecP) (beNat (sha384 (i.take 80)))
    (leAt i 80 48) (leAt i 128 48)

/-- The checks of R368 in their order: a mailbox status. -/
def imVerify (s : State) (i : Bytes) : Nat :=
  let signed := imKind i == imSapwood || imKind i == imPatch
  if !imShapeOk i || !imCrcOk i then hsBadCmd
  else if signed && (s.hw.revoked.contains (imKey i) || !imDigestOk i || !imSigOk i) then hsAuth
  else if signed && imSvn i < mget (fun _ => 0) s.hw.floor (imKind i) then hsRollback
  else if levelNow s < (byteAt i 24).toNat then hsState
  else hsOk

/-! ### Loading (R370) -/

/-- A SAPWOOD image goes into a code bank. -/
def loadSapwood (bank : Nat) (i : Bytes) (s : State) : State :=
  let s1 := sapWrite (bankBase bank + imLoad i) (imPayload i) s
  { s1 with hw := { s1.hw with entry := mset (fun _ => 0) s1.hw.entry bank (imEntry i),
                               svn := mset (fun _ => 0) s1.hw.svn bank (imSvn i) } }

/-- Base of the protected part of Heartwood's memory, its top 32 KB (R370; log entry 108, DESIGN CHOICE). -/
abbrev patchBase : Nat := 0x58000

/-- Writes bytes into Heartwood's memory. -/
def hwWrite (a : Nat) : Bytes → State → State
  | [], s => s
  | b :: bs, s => hwWrite (a + 1) bs { s with hw := { s.hw with mem := mset (fun _ => 0) s.hw.mem a b } }

/-- The kept HW_PATCH. -/
def hwPatch (s : State) : Bytes := (List.range s.hw.patchLen).map (fun i => mget (fun _ => 0) s.hw.mem (patchBase + i))

/-- A HW_PATCH is installed and kept with its digest. -/
def loadPatch (i : Bytes) (s : State) : State :=
  let s1 := hwWrite patchBase (imPayload i) s
  setRegF (pa pgHmb offHW_BOOT_STS) fHW_BOOT_STS_PATCHED 1
    { s1 with hw := { s1.hw with patchLen := imLen i, digest := imDigest i, patchSvn := imSvn i } }

/-- One record of a MICROCODE image, written to every Grove; a word the control store rejects is refused there (R191). -/
def loadMicroword (r : Bytes) (s : State) : State :=
  let w := leAt r 4 20
  forAll (fun g s =>
    if microLegal w then setCs g (leAt r 0 2 % 4096) w s else refuse (grvPage g) offGRV_CS_WR reasonEncoding s)
    (List.range 32) s

/-- A MICROCODE image. -/
def loadMicrocode (i : Bytes) (s : State) : State :=
  forAll (fun k s => loadMicroword (slice (imPayload i) (24 * k) 24) s) (List.range (imLen i / 24)) s

/-! ### Locks (R363, R437) -/

/-- What a lock word asks for: its status, and the state with the locks set when that is OK. -/
def lockWord (w : Nat) (s : State) : Nat × State :=
  let lvl := w / 16 % 16
  let highest := regF s (pa dev offDEV_BL) fDEV_BL_HIGHEST
  let locked := regF s (pa dev offDEV_BL) fDEV_BL_LOCKED
  let st :=
    if w.testBit 1 && (lvl = 0 || highest < lvl) then hsBadCmd
    else if w.testBit 0 && s.hw.locks.testBit 0 then hsLocked
    else if !w.testBit 1 then hsOk
    else if locked ≠ 0 then hsLocked
    else if lvl = 1 || !bootDone s then hsOk
    else hsState
  if st ≠ hsOk then (st, s)
  else
    let s1 := { s with hw := { s.hw with locks := s.hw.locks ||| (w % 4) } }
    (hsOk, if w.testBit 1 then setRegF (pa dev offDEV_BL) fDEV_BL_LOCKED lvl s1 else s1)

/-! ### CONFIG records (R370) -/

/-- What became of a record: the image goes on at another offset, waits, has ended, or has stopped with error CONFIG. -/
inductive CfgOut where
  | next (off : Nat) (s : State)
  | wait (s : State)
  | done (s : State)
  | stop (s : State)

/-- Whether a register write of Heartwood would be refused (R39). -/
def wouldRefuse (s : State) (page off : Nat) (v : Word) : Bool :=
  hasHeader page &&
    regB (write32 reqHeartwood (pa page off) v (refusedClear page s)) (pa page offSts) fPAGE_STS_REFUSED

/-- Notes since when the record of an image has waited. -/
def cfgWait (s : State) : State := { s with hw := { s.hw with bootT := some (s.hw.bootT.getD (kNow s)) } }

/-- The record after the one at `off`. -/
def cfgNext (p : Bytes) (off : Nat) (s : State) : CfgOut :=
  .next (off + 4 + leAt p (off + 2) 2) { s with hw := { s.hw with bootT := none } }

/-- A TAE command record: it is posted to the host queue, then its completion is awaited. -/
def cfgTae (p : Bytes) (off : Nat) (s : State) : CfgOut :=
  match s.hw.bootT with
  | none =>
    if 256 ≤ hsqFill s then .wait s
    else
      let k := hsqTail s
      .wait (cfgWait (hsqTailWrite ((k + 1) % 512) (subWrite (k % 256 * 128) (slice p (off + 4) 128) s)))
  | some _ =>
    if s.tae.hostDone ≠ hsqTail s then .wait s
    else
      let st := (mget (fun _ => 0) s.tae.comp ((s.tae.hostDone + 511) % 512 % 256 * 128)).toNat
      let s1 := setRegF (pa pgTae offTAE_HCQ_HEAD) fTAE_HCQ_HEAD_HEAD s.tae.hostDone s
      if st = tsOk || st = tsExists then cfgNext p off s1 else .stop s1

/-- One record of a CONFIG image with payload `p`, at offset `off`. -/
def cfgRecord (p : Bytes) (off : Nat) (s : State) : CfgOut :=
  let d := off + 4
  -- pages above 0xFFF do not exist
  let page := Nat.min (leAt p d 2) 0xFFF
  let o := leAt p (d + 2) 2 % 0x1000
  match (byteAt p off).toNat with
  | 0 => .done s
  | 1 =>
    let v := BitVec.ofNat 32 (leAt p (d + 4) 4)
    if wouldRefuse s page o v then .stop (write32 reqHeartwood (pa page o) v s)
    else
      let s1 := if (macPort page).isSome && o = offCtl then
          { s with hw := { s.hw with cfgPages := nsInsert s.hw.cfgPages page } } else s
      cfgNext p off (write32 reqHeartwood (pa page o) v s1)
  | 2 => cfgTae p off s
  | 3 =>
    let s1 := cfgWait s
    if s1.hw.bootT.getD 0 + leAt p d 4 * tUs ≤ kNow s then cfgNext p off s1 else .wait s1
  | 4 =>
    let s1 := cfgWait s
    let r := read32 reqHeartwood (pa page o) s1
    if r.1.toNat &&& leAt p (d + 4) 4 = leAt p (d + 8) 4 then cfgNext p off r.2
    else if s1.hw.bootT.getD 0 + leAt p (d + 12) 4 * tMs ≤ kNow s then .stop r.2
    else .wait r.2
  | 5 => cfgNext p off (lockWord (leAt p d 4) s).2
  | _ => .stop s

/-- Sets HW_BOOT_STS.ERROR and ERR_ARG. -/
def bootError (code arg : Nat) (s : State) : State :=
  setRegF (pa pgHmb offHW_BOOT_STS) fHW_BOOT_STS_ERROR code (setRegF (pa pgHmb offHW_BOOT_STS) fHW_BOOT_STS_ERR_ARG arg s)

/-- HW_BOOT_STS.ERROR of a mailbox status; a MIN_BL that is too high has no code of its own, so its code is a free value. -/
def errorOf (s : State) (st : Nat) : Nat :=
  if st = hsAuth then 2 else if st = hsRollback then 3 else if st = hsState then freeNow s % 16 else 4

end Sys2Proof.Machine
end

