-- ==== Sys2Proof/Machine/Heartwood.lean ====
section
/-!
DEFINITION. Heartwood (15): the boot (R365, R366, R432, R435), the mailbox requests (R372), restarts (R374, R375), SMBus and AVS
(R383, R384, R441).
-/

namespace Sys2Proof.Machine
open Sys2Proof

/-! ### BOOT (R366) -/

/-- A field of HW_BOOT_STS. -/
def bootF (s : State) (f : Fld) : Nat := regF s (pa pgHmb offHW_BOOT_STS) f
def setBoot (f : Fld) (v : Nat) (s : State) : State := setRegF (pa pgHmb offHW_BOOT_STS) f v s
def bootStep (s : State) : Nat := bootF s fHW_BOOT_STS_STEP

/-- BOOT[1:0] as sampled: 0 FLASH, 1 HOST, 2 ROOTWAY, 3 ROM (R365). -/
def bootSource (s : State) : Nat := bootF s fHW_BOOT_STS_SOURCE

/-- Step 1: the OTP repair records are applied; every spare they name is in use (R418). -/
def bootRepairs (s : State) : State :=
  forAll (fun (r : Repair) s =>
    match unitOf r.res with
    | none => s
    | some u =>
      let used := Nat.max (mget (fun _ => 0) s.lko.spares u) (r.spare + 1)
      let island := if s.lko.island.contains r then s.lko.island else s.lko.island ++ [r]
      { s with lko := { s.lko with spares := mset (fun _ => 0) s.lko.spares u used, island := island } }) s.lko.otp s

/-- Multicast group of every VID 1 to 4,094: ports 0 to 255 with SKIP_RX (R264, R435). -/
def romGroups : NMap Nat := (List.range 4094).map (fun i => (i + 1, 2 ^ 256 - 1 + 2 ^ 260 + 2 ^ 261))

/-- The learning table and its aging (R435). -/
def romTable (s : State) : State :=
  let geo : Word := [(fEMT_TBL_GEO_ENABLE, 1), (fEMT_TBL_GEO_EVICT, 2), (fEMT_TBL_GEO_KEY_BYTES, 8),
    (fEMT_TBL_GEO_SIZE_LOG2, 9)].foldl (fun (w : Word) (e : Fld × Nat) => fset w e.1 e.2) 0
  let age : Word := [(fEMT_TBL_AGE_AGE_EN, 1), (fEMT_TBL_AGE_AGE_MODE, 1), (fEMT_TBL_AGE_AGE_LIMIT, 15),
    (fEMT_TBL_AGE_TICK_MS, 20000)].foldl (fun (w : Word) (e : Fld × Nat) => fset w e.1 e.2) 0
  let s1 := setReg (pa pgEmt (offEMT_TBL_GEO 0)) geo (setReg (pa pgEmt (offEMT_TBL_AGE 0)) age s)
  { s1 with emt := { s1.emt with sweepAt := mset (fun _ => 0) s1.emt.sweepAt 0 (now s1 + 20000 * tMs) } }

/-- The echo window of a page whose unit starts with the staggered start: ECHO_US from the end of its IN_RESET (R408, R432). -/
def echoStart (page : Nat) (s : State) : State :=
  let t := kNow s + unitDelay page * tUs + liveF s (pa pgLko offLKO_CFG) fLKO_CFG_ECHO_US * tUs
  { s with lko := { s.lko with echoEnd := mset (fun _ => 0) s.lko.echoEnd page t } }

/-- Step 2, its beginning: the PLLs have locked and the sequences of the staggered start begin, each unit in its turn (R432). The
SRAM is clear, the free lists begin to fill, and the ROM bridge is installed (R254, R435) (log entry 77, DEDUCED). -/
def bootStart (s : State) : State :=
  let s1 := { s with hw := { s.hw with startAt := some (kNow s) } }
  let s2 := forAll echoStart (headerPages.filter (fun p => !islandPage p)) s1
  let s3 := forAll (fun b s => setFreeList b ⟨0, 16384, []⟩ s) (List.range 32) s2
  romTable { s3 with clr := { s3.clr with fillAt := some (now s3) }, grv := { s3.grv with rom := true }, pgu := { s3.pgu with rom := true },
                     store := { s3.store with mcg := romGroups }, sap := { s3.sap with learn := [(0, 4)] } }

/-- Step 2: it begins once the PLLs have locked, `locked`, and ends when the last unit has started, 640 µs later (R432), and not
before the clock monitors' first verdict (R463). -/
def bootClocks (locked : Bool) (s : State) : State :=
  match s.hw.startAt with
  | none => if locked then bootStart s else s
  | some t => if s.pin.verdict && t + 640 * tUs ≤ kNow s then setBoot fHW_BOOT_STS_STEP 3 s else s

/-- The boot goes on as a ROM boot (R365, R366). -/
def bootFallback (code arg : Nat) (s : State) : State := setBoot fHW_BOOT_STS_ROM_FALLBACK 1 (bootError code arg s)

/-- Step 3: the directory is read and a HW_PATCH in it installed. `flashOk` says that flash could be read. -/
def bootPatch (flashOk : Bool) (s : State) : State :=
  let s1 := setBoot fHW_BOOT_STS_STEP 4 s
  match (if flashOk then directory s else none) with
  | none => if bootSource s = 0 then bootFallback (if flashOk then 1 else 6) 0 s1 else s1
  | some d => match dirFind d imPatch with
    | none => s1
    | some i =>
      let st := if imKind (dirImage s1 d i) = imPatch then imVerify s1 (dirImage s1 d i) else hsBadCmd
      if st = hsOk then loadPatch (dirImage s1 d i) s1 else freeNext (bootError (errorOf s1 st) i s1)

/-- The base Sapwood image of the ROM goes into bank A; its contents are the part's own (R365). -/
def bootRom (s : State) : State :=
  setBoot fHW_BOOT_STS_STEP 6
    { s with hw := { s.hw with entry := mset (fun _ => 0) s.hw.entry 0 Config.romEntry,
                               svn := mset (fun _ => 0) s.hw.svn 0 Config.romSvn } }

/-- Step 4: the SAPWOOD image, from flash, from the ROM, or awaited through the mailbox or Rootway. -/
def bootSapwood (flashOk : Bool) (s : State) : State :=
  let src := bootSource s
  if src = 3 || bootF s fHW_BOOT_STS_ROM_FALLBACK = 1 then bootRom s
  else if src ≠ 0 then { s with hw := { s.hw with waiting := true, noPorts := true } }
  else match (if flashOk then directory s else none) with
    | none => bootRom (bootFallback (if flashOk then 1 else 6) 0 s)
    | some d => match dirFind d imSapwood with
      | none => bootRom (bootFallback 1 0 s)
      | some i =>
        let st := if imKind (dirImage s d i) = imSapwood then imVerify s (dirImage s d i) else hsBadCmd
        if st = hsOk then setBoot fHW_BOOT_STS_STEP 5 (loadSapwood 0 (dirImage s d i) s)
        else bootRom (freeNext (bootFallback (errorOf s st) i s))

/-- The boot stops with dispatch closed and the ports disabled; an image can still be loaded (R366). -/
def bootStop (code arg : Nat) (s : State) : State :=
  bootError code arg (forAll (fun p s => setEnable (macPage p) false false s) (List.range 256)
    { s with hw := { s.hw with waiting := true, noPorts := true, bootOff := 0, bootT := none } })

/-- The next directory entry of step 5. -/
def bootNext (s : State) : State :=
  { s with hw := { s.hw with bootEnt := s.hw.bootEnt + 1, bootOff := 0, bootT := none } }

/-- Step 5: the directory's MICROCODE and CONFIG images in order; a CONFIG image goes one record at a time. -/
def bootImages (flashOk : Bool) (s : State) : State :=
  let e := s.hw.bootEnt
  match (if flashOk then directory s else none) with
  | none => bootStop 6 e s
  | some d =>
    let i := dirImage s d e
    let k := dirKind d e
    if k = 0 then setBoot fHW_BOOT_STS_STEP 6 s
    else if k ≠ imMicrocode && k ≠ imConfig then bootNext s
    else
      let st := if imKind i = k then imVerify s i else hsBadCmd
      if st ≠ hsOk then freeNext (bootStop (errorOf s st) e s)
      else if k = imMicrocode then bootNext (loadMicrocode i s)
      else if imLen i ≤ s.hw.bootOff then bootNext s
      else match cfgRecord (imPayload i) s.hw.bootOff s with
        | .next o s1 => { s1 with hw := { s1.hw with bootOff := o } }
        | .wait s1 => s1
        | .done s1 => bootNext s1
        | .stop s1 => bootStop 5 (s.hw.bootOff / 4) s1

/-- Step 6: the directory's lock word takes effect, the cores start, dispatch opens and the ports that R365 gives are
enabled (log entry 62, DEDUCED). -/
def bootFinish (flashOk : Bool) (s : State) : State :=
  let s1 := match (if flashOk then directory s else none) with
    | none => s
    | some d => (lockWord (byteAt d 9).toNat s).2
  let s2 := restartCores 15 true (setBoot fHW_BOOT_STS_BANK 0 s1)
  let fill := if fillOver s2 then none else s2.clr.fillAt
  let s3 := setBoot fHW_BOOT_STS_BOOT_DONE 1
    { s2 with hw := { s2.hw with waiting := false }, clr := { s2.clr with fillAt := fill } }
  let ports := if s3.hw.noPorts then []
    else (List.range 256).filter (fun p => !s3.hw.cfgPages.contains (macPage p) && portMode s3 p != 0)
  raiseIrq pgHmb 4 (forAll (fun p s => setEnable (macPage p) true false s) ports s3)

/-- BOOT (R366): the step in progress of the boot is done, or one image or record of it. `locked` says that the CCLK, BCLK and
MCLK PLLs have locked. -/
def boot (locked flashOk : Bool) (s : State) : State :=
  if bootDone s || s.hw.waiting || s.hw.downTill.isSome || !s.pin.keepClk then s
  else match bootStep s with
    | 0 | 1 => bootRepairs (setBoot fHW_BOOT_STS_STEP 2 s)
    | 2 => bootClocks locked s
    | 3 => bootPatch flashOk s
    | 4 => bootSapwood flashOk s
    | 5 => bootImages flashOk s
    | _ => bootFinish flashOk s

/-! ### Mailbox requests (R372) -/

/-- A waiting request of a slot with the opcode given: its words. Heartwood serves none while it restarts or without KCLK. -/
def hmbReq (s : State) (slot op : Nat) : Option (List Nat) :=
  match mfind s.hw.req slot with
  | some (o, w) => if o = op && s.hw.downTill.isNone && s.pin.keepClk then some w else none
  | none => none

/-- A request that takes time begins. -/
def hmbBegin (slot op : Nat) (w : List Nat) (s : State) : State :=
  { s with hw := { s.hw with req := mput s.hw.req slot (op + 256, w) } }

/-- Takes the staging area for a slot. -/
def hmbHold (slot : Nat) (s : State) : State := { s with hw := { s.hw with hold := some slot } }

/-- Answers a request and releases the staging area it holds. -/
def hmbEnd (slot status : Nat) (s : State) : State :=
  hmbAnswer slot status [] { s with hw := { s.hw with hold := if s.hw.hold = some slot then none else s.hw.hold } }

/-- A request that only slot 0 may make. -/
def hostOnly (slot : Nat) (f : State → State) (s : State) : State :=
  if slot = 0 then f s else hmbAnswer slot hsBadCmd [] s

/-- STATUS. -/
def hmbStatus (slot : Nat) (s : State) : State :=
  match hmbReq s slot 1 with
  | none => s
  | some _ =>
    let lvl := regF s (pa dev offDEV_BL) fDEV_BL_HIGHEST + regF s (pa dev offDEV_BL) fDEV_BL_LOCKED * 16 +
      mget (fun _ => 0) s.hw.floor imSapwood % 256 * 256
    hmbAnswer slot hsOk [Config.serial % 2 ^ 32, Config.serial / 2 ^ 32, (reg s (pa pgHmb offHW_BOOT_STS)).toNat, lvl] s

/-- Base of the staging area (R364). -/
abbrev staging : Nat := 0x4A0000

/-- FETCH begins: the staging area is held until host memory has been read. -/
def hmbFetch (slot : Nat) (s : State) : State :=
  match hmbReq s slot 2 with
  | none => s
  | some w => hostOnly slot (fun s =>
      if 0x200000 < w.getD 3 0 then hmbAnswer slot hsBadCmd [] s
      else if s.hw.hold.isSome then hmbAnswer slot hsState [] s
      else hmbHold slot (hmbBegin slot 2 w s)) s

/-- VERIFY_LOAD begins (R368, R385). Before BOOT_DONE an image is taken only while the boot waits for one
(log entry 78, DEDUCED). -/
def hmbVerify (slot : Nat) (s : State) : State :=
  match hmbReq s slot 3 with
  | none => s
  | some w =>
    if s.hw.hold.isSome || (!bootDone s && !s.hw.waiting) then hmbAnswer slot hsState [] s
    else
      let s1 := hmbHold slot (hmbBegin slot 3 w s)
      { s1 with hw := { s1.hw with loaded := false, bootOff := 0, bootT := none } }

/-- ACTIVATE (R374): the loaded bank becomes active and the cores restart. -/
def hmbActivate (slot : Nat) (s : State) : State :=
  match hmbReq s slot 4 with
  | none => s
  | some w =>
    if !s.hw.loaded || !bootDone s then hmbAnswer slot hsState [] s
    else
      let s1 := setBoot fHW_BOOT_STS_BANK (1 - activeBank s) { s with hw := { s.hw with loaded := false } }
      hmbAnswer slot hsOk [] (restartCores 15 ((w.getD 1 0).testBit 0) s1)

/-- RESTART_CORE (R374). -/
def hmbRestart (slot : Nat) (s : State) : State :=
  match hmbReq s slot 5 with
  | none => s
  | some w =>
    if !bootDone s then hmbAnswer slot hsState [] s
    else hmbAnswer slot hsOk [] (restartCores (w.getD 1 0 % 16) false s)

/-- LOCK (R363, R437) (log entry 51, DEDUCED). -/
def hmbLock (slot : Nat) (s : State) : State :=
  match hmbReq s slot 6 with
  | none => s
  | some w => hostOnly slot (fun s => hmbAnswer slot (lockWord (w.getD 1 0) s).1 [] (lockWord (w.getD 1 0) s).2) s

/-- COMMIT_SVN raises the OTP floor of a kind to `v` where that is higher: each rise takes one of the kind's 64 OTP steps
(R369; log entry 109, DESIGN CHOICE). Answers whether the floor now is at least `v`. -/
def raiseFloor (k v : Nat) (s : State) : Bool × State :=
  let n := mget (fun _ => 0) s.hw.steps k
  if v ≤ mget (fun _ => 0) s.hw.floor k then (true, s)
  else if 64 ≤ n then (false, s)
  else (true, { s with hw := { s.hw with floor := mset (fun _ => 0) s.hw.floor k v,
                                         steps := mset (fun _ => 0) s.hw.steps k (n + 1) } })

/-- COMMIT_SVN (R369): the floor of a signed kind rises to the SVN of what runs. With no OTP step left, or no patch kept, the
status is a free value. -/
def hmbCommitSvn (slot : Nat) (s : State) : State :=
  match hmbReq s slot 7 with
  | none => s
  | some w => hostOnly slot (fun s =>
      let k := w.getD 1 0
      let open_ : State := hmbAnswer slot (freeNow s % 9) [] (freeNext s)
      let end_ (r : Bool × State) : State := if r.1 then hmbAnswer slot hsOk [] r.2 else open_
      if k = imSapwood then end_ (raiseFloor k (mget (fun _ => 0) s.hw.svn (activeBank s)) s)
      else if k = imPatch then
        (if bootF s fHW_BOOT_STS_PATCHED = 1 then end_ (raiseFloor k s.hw.patchSvn s) else open_)
      else hmbAnswer slot hsBadCmd [] s) s

/-- FLASH_WRITE begins. -/
def hmbFlashWrite (slot : Nat) (s : State) : State :=
  match hmbReq s slot 8 with
  | none => s
  | some w => hostOnly slot (fun s =>
      if 0x200000 < w.getD 2 0 then hmbAnswer slot hsBadCmd [] s
      else if s.hw.hold.isSome then hmbAnswer slot hsState [] s
      else hmbHold slot (hmbBegin slot 8 w s)) s

/-- FLASH_ERASE begins. -/
def hmbFlashErase (slot : Nat) (s : State) : State :=
  match hmbReq s slot 9 with
  | none => s
  | some w => hostOnly slot (fun s =>
      if w.getD 1 0 % 0x10000 ≠ 0 || w.getD 2 0 % 0x10000 ≠ 0 then hmbAnswer slot hsBadCmd [] s
      else hmbBegin slot 9 w s) s

/-- SAFE_STATE (R419). -/
def hmbSafeState (slot : Nat) (s : State) : State :=
  match hmbReq s slot 0x0A with
  | none => s
  | some _ => hostOnly slot (fun s => enterSafe 4 pgHmb 0 (hmbAnswer slot hsOk [] s)) s

/-- The image in the staging area. -/
def stagedImage (s : State) : Bytes := sapRead s staging 0x200000

/-- A verified SAPWOOD image is loaded: after BOOT_DONE into the inactive bank; before it into bank A, with which the boot
goes on (R366, R372). -/
def verifySapwood (slot : Nat) (i : Bytes) (s : State) : State :=
  if bootDone s then
    let s1 := loadSapwood (1 - activeBank s) i s
    hmbEnd slot hsOk { s1 with hw := { s1.hw with loaded := true } }
  else
    let s1 := setBoot fHW_BOOT_STS_STEP 6 (loadSapwood 0 i s)
    hmbEnd slot hsOk { s1 with hw := { s1.hw with waiting := false } }

/-- VERIFY_LOAD ends, or one record of the CONFIG image it executes does (R368, R370). -/
def verifyDone (slot : Nat) (s : State) : State :=
  let i := stagedImage s
  let st := imVerify s i
  if st ≠ hsOk then hmbEnd slot st s
  else if imKind i = imSapwood then verifySapwood slot i s
  else if bootDone s then hmbEnd slot hsState s
  else if imKind i = imPatch then hmbEnd slot hsOk (loadPatch i s)
  else if imKind i = imMicrocode then hmbEnd slot hsOk (loadMicrocode i s)
  else if imLen i ≤ s.hw.bootOff then hmbEnd slot hsOk s
  else match cfgRecord (imPayload i) s.hw.bootOff s with
    | .next o s1 => { s1 with hw := { s1.hw with bootOff := o } }
    | .wait s1 => s1
    | .done s1 => hmbEnd slot hsOk s1
    | .stop s1 => hmbEnd slot (freeNow s1 % 9) (freeNext (bootError 5 (s.hw.bootOff / 4) s1))

/-- HMB_DONE (R372): a FETCH, VERIFY_LOAD, FLASH_WRITE or FLASH_ERASE in progress ends. `ok` says that host memory or flash
answered without error, and `data` is what host memory held. The end of a flash command is source 12 of Heartwood's controller
(R400). -/
def hmbDone (slot : Nat) (ok : Bool) (data : Bytes) (s : State) : State :=
  if s.hw.downTill.isSome || !s.pin.keepClk then s
  else match mfind s.hw.req slot with
    | some (258, w) =>
      if ok then hmbEnd slot hsOk (sapWrite staging (padTo (w.getD 3 0) data) s) else hmbEnd slot hsPcie s
    | some (259, _) => verifyDone slot s
    | some (264, w) =>
      let a := w.getD 1 0
      let n := w.getD 2 0
      hicRaise 12
        (if ok then hmbEnd slot hsOk (flashProgram a (sapRead s staging n) s) else hmbEnd slot hsFlash (flashOpen a n s))
    | some (265, w) =>
      hicRaise 12
        (if ok then hmbAnswer slot hsOk [] (flashErase (w.getD 1 0) (w.getD 2 0) s)
         else hmbAnswer slot hsFlash [] (flashOpen (w.getD 1 0) (w.getD 2 0) s))
    | _ => s

/-! ### Heartwood restart (R375, R385) -/

/-- A request in progress is answered RESTARTED; a flash range being written is left open. -/
def restartSlot (slot : Nat) (s : State) : State :=
  let s1 := match mfind s.hw.req slot with
    | some (264, w) => flashOpen (w.getD 1 0) (w.getD 2 0) s
    | some (265, w) => flashOpen (w.getD 1 0) (w.getD 2 0) s
    | _ => s
  hmbEnd slot hsRestarted s1

/-- A reserved request that arrived while Heartwood was down. -/
def answerReserved (slot : Nat) (s : State) : State :=
  match mfind s.hw.req slot with
  | some (o, _) => if o = 0 || (0x0A < o && o < 256) then hmbAnswer slot hsBadCmd [] s else s
  | none => s

/-- Heartwood's controller at a restart of its core: its ACTIVE sources are completed, RP is 16 and its frames are gone (R396,
R400). -/
def hicRestart (s : State) : State := { s with hw := { s.hw with hic := { hicReset with latch := s.hw.hic.latch } } }

/-- HEARTWOOD_WATCHDOG (R375): a missed kick starts the restart; the next such command ends it, `patchOk` saying that the
memory with the kept HW_PATCH reads without error; the patch is installed only if it still has the kept digest (log entry
79, DEDUCED). -/
def heartwoodWatchdog (patchOk : Bool) (s : State) : State :=
  if !s.pin.keepClk then s
  else match s.hw.downTill with
    | none =>
      let s1 := hicRestart (restartSlot 1 (restartSlot 0 s))
      raiseIrq pgHmb 3 { s1 with hw := { s1.hw with downTill := some (kNow s1 + 5 * tMs), hold := none } }
    | some _ =>
      let s1 := if patchOk && leNat (sha384 (hwPatch s)) == s.hw.digest then s else setBoot fHW_BOOT_STS_PATCHED 0 s
      let s2 := { s1 with hw := { s1.hw with downTill := none }, pin := { s1.pin with aliveAt := kNow s1 } }
      answerReserved 1 (answerReserved 0 s2)

/-! ### SMBus (R383) -/

/-- An SMBus transfer: Heartwood acknowledges unless it restarts or KCLK has stopped; one it acknowledges is its source 11
(R400). -/
def smbus (f : State → Bytes × State) (s : State) : State :=
  if s.hw.downTill.isSome || !s.pin.keepClk then { s with hw := { s.hw with smbOut := [] } }
  else
    let r := f (hicRaise 11 s)
    { r.2 with hw := { r.2.hw with smbOut := r.1 } }

/-- Command 0x01. -/
def smbIdentity (s : State) : State :=
  smbus (fun s =>
    let bl := pa dev offDEV_BL
    (leBytes 8 Config.serial ++ leBytes 1 (regF s bl fDEV_BL_HIGHEST) ++ leBytes 1 (regF s bl fDEV_BL_LOCKED) ++
      leBytes 1 (bootStep s) ++ leBytes 1 (bootF s fHW_BOOT_STS_ERROR), s)) s

/-- Whether ALIVE keeps its edges (R421). -/
def aliveRuns (s : State) : Bool := s.pin.keepClk && !safe s && s.hw.downTill.isNone

/-- Command 0x02. -/
def smbStatus (s : State) : State :=
  smbus (fun s =>
    let b (x : Bool) (i : Nat) : Nat := if x then 2 ^ i else 0
    (leBytes 2 (b (bootDone s) 0 + b (safe s) 1 + b (aliveRuns s) 2 + b s.pin.fault 3 +
      b (bootF s fHW_BOOT_STS_PATCHED == 1) 4), s)) s

/-- Command 0x03. -/
def smbTemperature (s : State) : State := smbus (fun s => (leBytes 2 (regF s (pa pgPt offPT_TEMP) fPT_TEMP_TEMP), s)) s

/-- Command 0x04, with what the regulator reports. -/
def smbPower (power : Nat) (s : State) : State := smbus (fun s => (leBytes 2 power, s)) s

/-- Command 0x05. -/
def smbLkoTop (s : State) : State := smbus (fun s => (leBytes 8 (lkoTop s), s)) s

/-- Command 0x06: a new target address, unless it is locked or not an address that may be taken. -/
def smbAddress (a : Nat) (s : State) : State :=
  smbus (fun s => ([], if s.hw.locks.testBit 2 || a < 0x08 || 0x77 < a then s else { s with hw := { s.hw with smbAddr := a } })) s

/-! ### AVS and aging (R384, R441) -/

/-- AVS_RETRY (R384): an AVS transaction ends; a failed one is reported and repeated 1 ms later. Either end is source 13 of
Heartwood's controller (R400). -/
def avsRetry (ok : Bool) (s : State) : State :=
  if s.hw.downTill.isSome || !s.pin.keepClk then s
  else match s.hw.avsAt with
    | some t => if kNow s < t + tMs then s else go (hicRaise 13 s)
    | none => go (hicRaise 13 s)
where
  /-- The outcome of the transaction. -/
  go (s : State) : State :=
    if ok then { s with hw := { s.hw with avsAt := none } }
    else capture pgPt 1 clsUC false 0 { s with hw := { s.hw with avsAt := some (kNow s) } }

/-- AGING_MONITOR (R441): the slowdown the monitors read, the margin left and the VDD_CORE target Heartwood sets for it,
which never falls and stays within 700 to 820 mV (R451); TARGET_MV is moved there in steps (R384). -/
def agingMonitor (ppm margin target : Nat) (s : State) : State :=
  if s.hw.downTill.isSome || !s.pin.keepClk then s
  else
    let a := pa pgPt offPT_AGE
    let s1 := setRegF a fPT_AGE_SLOW_PPM (Nat.max (regF s a fPT_AGE_SLOW_PPM) (Nat.min ppm 0xFFFF)) s
    let s2 := setRegF a fPT_AGE_MARGIN_MV (Nat.min 255 margin) s1
    let s3 := if 700 ≤ target && target ≤ 820 then
      { s2 with hw := { s2.hw with avsGoal := Nat.max s2.hw.avsGoal target } } else s2
    if margin < 10 && !s.hw.ageSaid then
      capture pgPt 2 clsUC false 0 { s3 with hw := { s3.hw with ageSaid := true } }
    else s3

/-! ### Commands -/

/-- BOOT (R366). -/
def execBoot (locked flashOk : Bool) (s : State) : Host.Outcome State Fault Refusal := act (boot locked flashOk) s

/-- STATUS (R372): the waiting request of a slot. -/
def execStatus (slot : Nat) (s : State) : Host.Outcome State Fault Refusal := actK (hmbStatus (slot % 2)) s

/-- FETCH (R372). -/
def execFetch (slot : Nat) (s : State) : Host.Outcome State Fault Refusal := actK (hmbFetch (slot % 2)) s

/-- VERIFY_LOAD (R368, R372). -/
def execVerifyLoad (slot : Nat) (s : State) : Host.Outcome State Fault Refusal := actK (hmbVerify (slot % 2)) s

/-- ACTIVATE (R374). -/
def execActivate (slot : Nat) (s : State) : Host.Outcome State Fault Refusal := act (hmbActivate (slot % 2)) s

/-- RESTART_CORE (R374). -/
def execRestartCore (slot : Nat) (s : State) : Host.Outcome State Fault Refusal := act (hmbRestart (slot % 2)) s

/-- LOCK (R437). -/
def execLockCommand (slot : Nat) (s : State) : Host.Outcome State Fault Refusal := actK (hmbLock (slot % 2)) s

/-- COMMIT_SVN (R369). -/
def execCommitSvn (slot : Nat) (s : State) : Host.Outcome State Fault Refusal := actK (hmbCommitSvn (slot % 2)) s

/-- FLASH_WRITE (R372). -/
def execFlashWrite (slot : Nat) (s : State) : Host.Outcome State Fault Refusal := actK (hmbFlashWrite (slot % 2)) s

/-- FLASH_ERASE (R372). -/
def execFlashErase (slot : Nat) (s : State) : Host.Outcome State Fault Refusal := actK (hmbFlashErase (slot % 2)) s

/-- SAFE_STATE (R372). -/
def execSafeState (slot : Nat) (s : State) : Host.Outcome State Fault Refusal := actK (hmbSafeState (slot % 2)) s

/-- HMB_DONE (R372). What a signature says Heartwood computes (R368): the command's third operand has no effect. -/
def execHmbDone (slot : Nat) (ok _auth : Bool) (data : Bytes) (s : State) : Host.Outcome State Fault Refusal :=
  act (hmbDone (slot % 2) ok data) s

/-- HEARTWOOD_WATCHDOG (R375). -/
def execHeartwoodWatchdog (patchOk : Bool) (s : State) : Host.Outcome State Fault Refusal := actK (heartwoodWatchdog patchOk) s

/-- SMBUS_IDENTITY (R383). -/
def execSmbusIdentity (s : State) : Host.Outcome State Fault Refusal := actK smbIdentity s

/-- SMBUS_STATUS (R383). -/
def execSmbusStatus (s : State) : Host.Outcome State Fault Refusal := actK smbStatus s

/-- SMBUS_TEMPERATURE (R383). -/
def execSmbusTemperature (s : State) : Host.Outcome State Fault Refusal := actK smbTemperature s

/-- SMBUS_POWER (R383). -/
def execSmbusPower (power : Nat) (s : State) : Host.Outcome State Fault Refusal := actK (smbPower power) s

/-- SMBUS_LKO_TOP (R383). -/
def execSmbusLkoTop (s : State) : Host.Outcome State Fault Refusal := actK smbLkoTop s

/-- SMBUS_ADDRESS (R383). -/
def execSmbusAddress (a : Nat) (s : State) : Host.Outcome State Fault Refusal := actK (smbAddress a) s

/-- AVS_RETRY (R384). -/
def execAvsRetry (ok : Bool) (s : State) : Host.Outcome State Fault Refusal := actK (avsRetry ok) s

/-- AGING_MONITOR (R441). -/
def execAgingMonitor (ppm margin target : Nat) (s : State) : Host.Outcome State Fault Refusal :=
  actK (agingMonitor ppm margin target) s

end Sys2Proof.Machine
end

