-- ==== Sys2Proof/Machine/HostCmds.lean ====
section
/-!
DEFINITION. Commands of the host link: the firmware's host API (R376), the host-link reset (R378), the DMA rings (R379 to
R382).
-/

namespace Sys2Proof.Machine
open Sys2Proof

/-! ### The host API (R376) -/

/-- Commands posted in the API command ring and not yet taken. -/
def apiPosted (s : State) : Nat :=
  let m := 2 ^ (apiLog s + 1)
  (regF s (pa pgSap offAPI_CMD_TAIL) fAPI_CMD_TAIL_POS + m - s.sap.apiHead % m) % m

/-- A running core takes the oldest command of the ring and answers it: whether it succeeded, its results, and what it
wrote into the host's buffer. It waits for a free response entry (log entry 28, DESIGN CHOICE). -/
def apiCommand (op tag : Nat) (f : State → Bool × Bytes × List (Nat × Bytes) × State) (s : State) : State :=
  if apiOn s && sapRunning s && 0 < apiPosted s && apiRoom s then
    let s1 := { s with sap := { s.sap with apiHead := (s.sap.apiHead + 1) % 2 ^ (apiLog s + 1) } }
    match f s1 with
    | (ok, res, buf, s2) =>
      let s3 := apiRespond op (Config.apiStatus ok) tag res s2
      { s3 with host := { s3.host with dma := buf ++ s3.host.dma } }
  else s

/-- The counters of a snapshot as the firmware lays them out: a page image with each counter at its own offset (log entry
28, DESIGN CHOICE). -/
def counterImage (s : State) (page : Nat) : Bytes :=
  (pageCounters s page).foldl (fun (b : Bytes) (e : Nat × Nat) => overwrite b (offOf e.1) (leBytes 8 e.2))
    (List.replicate 4096 0)

/-- COUNTER_READ: a snapshot of a page's counters goes into the host's buffer. -/
def apiCounterRead (page buf : Nat) (s : State) : Bool × Bytes × List (Nat × Bytes) × State :=
  if capSnap page then (true, [], [(buf, counterImage s page)], snapshotComplete page (snapshot page false s))
  else (false, [], [], s)

/-- The core that serves the rings: the lowest that runs. -/
def apiCore (s : State) : Nat := ((List.range 4).find? (fun c => !(core s c).halted)).getD 0

/-- ROOTWAY_SEND: the message of the host's buffer goes into the Canopy transmit ring, unless the ring is full or
lies where a core may not write. -/
def apiRootwaySend (msg : Bytes) (s : State) : Bool × Bytes × List (Nat × Bytes) × State :=
  if !isCanopy s || 2 ^ liveF s (pa pgRw offRW_TXR_CFG) fRW_TXR_CFG_LOG2 ≤ txrFill s then (false, [], [], s)
  else
    let t := regF s (pa pgRw offRW_TXR_TAIL) fRW_TXR_TAIL_POS
    let r := sapStore (apiCore s) (ringSlot s offRW_TXR_CFG fRW_TXR_CFG_BASE fRW_TXR_CFG_LOG2 t) (msg.take 2048) s
    if r.1 then (true, [], [], txrTailWrite ((t + 1) % 65536) r.2) else (false, [], [], r.2)

/-- Key of a session: BFD session n, or MEP n. -/
def sessionKey (mep : Bool) (n : Nat) : Nat := if mep then 65536 + n else n

/-- First context of a session's block (R325, R328). -/
def sessionCtx (mep : Bool) (n : Nat) : Nat := if mep then mepCtx n else 0xC0000 + 4 * n

/-- The timer entry of a session (R319, R324, R328): its profile, its block, its period; a BFD session jitters, by the rule
for a detect multiplier of 1 where it has that one. -/
def sessionTimer (mep : Bool) (n period : Nat) (block : Bytes) : Nat :=
  1 + (if mep then 0 else if (byteAt block 10).toNat = 1 then 2 else 1) * 2 + (if mep then 0xF2 else 0xF0) * 8 +
    sessionCtx mep n * 2048 + period * 2 ^ 32

/-- The block the firmware writes for a session: in a BFD block it sets TXDIV_SLOW, so that TXDIV_SLOW × PERIOD is 1 s or more,
and DETECT, ⌈detection time / (0.75 × PERIOD)⌉ (R325; log entry 111, DESIGN CHOICE). -/
def sessionBlock (mep : Bool) (period det : Nat) (blk : Bytes) : Bytes :=
  if mep then blk
  else overwrite (overwrite blk 14 (leBytes 2 ((1000000 + period - 1) / period))) 18
    (leBytes 2 (Nat.min 65535 ((4 * det + 3 * period - 1) / (3 * period))))

/-- SESSION_ADD (R324, R328): block and timer entry of a BFD session or a MEP; for a session already there, its new
parameters (R325). -/
def apiSessionAdd (mep : Bool) (n i period det : Nat) (blk : Bytes) (s : State) :
    Bool × Bytes × List (Nat × Bytes) × State :=
  let e := sessionTimer mep n period blk
  if (if mep then 16384 else 65536) ≤ n || 131072 ≤ i || timerIllegal e then
    (false, [], [], s)
  else
    let s1 := setBlock (sessionCtx mep n) (sessionBlock mep period det blk) s
    let s2 := { s1 with sap := { s1.sap with sessions := nsInsert s1.sap.sessions (sessionKey mep n) },
                        svc := { s1.svc with mep := if mep then mdel s1.svc.mep n else s1.svc.mep } }
    (true, [], [], setTimer i e s2)

/-- SESSION_DEL: the session's timer entries stop and its block is cleared. -/
def apiSessionDel (mep : Bool) (n : Nat) (s : State) : Bool × Bytes × List (Nat × Bytes) × State :=
  let c := sessionCtx mep n
  if !s.sap.sessions.contains (sessionKey mep n) then (false, [], [], s)
  else
    let ts := (s.svc.entry.filter (fun (e : Nat × Nat) => tEn e.2 && tCtx e.2 == c)).map (fun e => e.1)
    let s1 := forAll (fun i s => setTimer i (natSetBit (timerEntry s i) 0 false) s) ts s
    let s2 := setBlock c (List.replicate 64 0) s1
    (true, [], [], { s2 with sap := { s2.sap with sessions := nsErase s2.sap.sessions (sessionKey mep n) },
                             svc := { s2.svc with mep := if mep then mdel s2.svc.mep n else s2.svc.mep } })

/-- FW_INFO: the results are the firmware's own. -/
def apiFwInfo (s : State) : Bool × Bytes × List (Nat × Bytes) × State := (true, leBytes 55 (freeNow s), [], freeNext s)

/-- COUNTER_READ (R376): TAG, page, bus address of the buffer. -/
def execCounterRead (tag page buf : Nat) (s : State) : Host.Outcome State Fault Refusal :=
  act (apiCommand 1 tag (apiCounterRead page buf)) s

/-- ROOTWAY_SEND (R376): TAG and the message in the host's buffer. -/
def execRootwaySend (tag : Nat) (msg : Bytes) (s : State) : Host.Outcome State Fault Refusal :=
  act (apiCommand 2 tag (apiRootwaySend msg)) s

/-- A command of the API that writes a session's block waits for the block's locks (R333). -/
def apiSession (op tag : Nat) (mep : Bool) (n : Nat) (f : State → Bool × Bytes × List (Nat × Bytes) × State) (s : State) :
    State :=
  if blockFree s (sessionCtx mep n) then apiCommand op tag f s else s

/-- SESSION_ADD (R376): TAG, MEP or BFD, session number, timer entry, period and detection time, block. -/
def execSessionAdd (tag : Nat) (mep : Bool) (n i : Nat) (tm : SessionTimes) (blk : Bytes) (s : State) :
    Host.Outcome State Fault Refusal :=
  act (apiSession 3 tag mep n (apiSessionAdd mep n i tm.period tm.det blk)) s

/-- SESSION_DEL (R376): TAG, MEP or BFD, session number. -/
def execSessionDel (tag : Nat) (mep : Bool) (n : Nat) (s : State) : Host.Outcome State Fault Refusal :=
  act (apiSession 4 tag mep n (apiSessionDel mep n)) s

/-- TABLE_FLUSH_PORT (R376, R331): TAG and port. -/
def execTableFlushPort (tag port : Nat) (s : State) : Host.Outcome State Fault Refusal :=
  act (apiCommand 5 tag (fun s => (true, [], [], flushPort port s))) s

/-- FW_INFO (R376): TAG. -/
def execFwInfo (tag : Nat) (s : State) : Host.Outcome State Fault Refusal := act (apiCommand 6 tag apiFwInfo) s

/-! ### Host-link reset (R378) -/

/-- PCIE_PERST_N changes level, or a hot reset, link-down or FLR happens: all reset the host link. -/
def hostReset_ (perst : Option Bool) (s : State) : State :=
  match perst with
  | some true =>
    -- PCIE_PERST_N rises: the link may train again (R430)
    { s with pin := { s.pin with perstN := true, bothSince := if s.pin.perstN then s.pin.bothSince else now s } }
  | some false => hostLinkReset { s with pin := { s.pin with perstN := false } }
  | none => hostLinkReset s

/-- HOST_LINK_RESET (R378): `perst` is the new level of PCIE_PERST_N, or none for a hot reset, a link-down or an FLR. -/
def execHostLinkReset (perst : Option Bool) (s : State) : Host.Outcome State Fault Refusal :=
  actPin (fun s => if held s then
      (match perst with | some b => { s with pin := { s.pin with perstN := b } } | none => s)
    else hostReset_ perst s) s

/-! ### Rings (R377, R382) -/

/-- Address of a ring's configuration register: transmit ring i is i, receive ring i is 16 + i. -/
def ringCfg (r : Nat) : Nat := if r < 16 then pa pgTxr (offTXR_CFG r) else pa pgRxr (offRXR_CFG (r - 16))

/-- A ring's message: sent at once, or held back until ITR_US has passed since its last one (R382)
(log entry 80, DESIGN CHOICE). -/
def ringMsg (r : Nat) (s : State) : State :=
  let gap := liveF s (ringCfg r) fTXR_CFG_ITR_US * tUs
  match mfind s.host.msgAt r with
  | some t =>
    if now s < t + gap then { s with host := { s.host with msgHeld := nsInsert s.host.msgHeld r } }
    else msixSend (liveF s (ringCfg r) fTXR_CFG_VEC) { s with host := { s.host with
      msgAt := mput s.host.msgAt r (now s), msgHeld := nsErase s.host.msgHeld r } }
  | none => msixSend (liveF s (ringCfg r) fTXR_CFG_VEC) { s with host := { s.host with
      msgAt := mput s.host.msgAt r (now s), msgHeld := nsErase s.host.msgHeld r } }

/-- A held message goes once its ring's time has passed. -/
def itrExpiry (r : Nat) (s : State) : State := if s.host.msgHeld.contains r then ringMsg r s else s

/-- A PCIe error stops a ring (R382). -/
def ringError (r : Nat) (s : State) : State := setRegB (ringCfg r) fTXR_CFG_ERR true s

/-- ITR_US_EXPIRY (R382): ring r, receive ring i being 16 + i. -/
def execItrUsExpiry (r : Nat) (s : State) : Host.Outcome State Fault Refusal := act (itrExpiry r) s

/-! ### Transmit rings (R379) -/

/-- Posted entries of transmit ring i. -/
def txPosted (s : State) (i : Nat) : Nat :=
  let m := 2 ^ (liveF s (pa pgTxr (offTXR_CFG i)) fTXR_CFG_LOG2 + 1)
  (regF s (pa pgTxr (offTXR_TAIL i)) fTXR_TAIL_POS + m - regF s (pa pgTxr (offTXR_HEAD i)) fTXR_HEAD_POS % m) % m

/-- Whether transmit ring i is in use with posted entries. -/
def txActive (s : State) (i : Nat) : Bool :=
  let c := pa pgTxr (offTXR_CFG i)
  liveB s c fTXR_CFG_EN && !regB s c fTXR_CFG_ERR && 0 < txPosted s i

/-- The ring served next, round robin among those of a mask (log entry 81, DEDUCED). -/
def txNext (s : State) (ready : Nat) : Option Nat :=
  ((List.range 16).map (fun j => (s.host.lastTx + 1 + j) % 16)).find? (fun i => ready.testBit i && txActive s i)

/-- A frame's flags keep the rules: one to eight entries, FIRST on the first alone, LAST on the last. -/
def txFlagsOk (flags : List Nat) : Bool :=
  flags.length ≤ 8 && (flags.headD 0).testBit 0 && (flags.drop 1).all (fun f => !f.testBit 0)

/-- HEAD passes the frame's entries; the write-back and the message of an entry with IRQ follow. -/
def txAdvance (i n : Nat) (irq : Bool) (s : State) : State :=
  let c := pa pgTxr (offTXR_CFG i)
  let h := (regF s (pa pgTxr (offTXR_HEAD i)) fTXR_HEAD_POS + n) % 2 ^ (liveF s c fTXR_CFG_LOG2 + 1)
  let s1 := setReg (pa pgTxr (offTXR_HEAD i)) (BitVec.ofNat 32 h) s
  let wb := addr64 s1 (pa pgTxr (offTXR_WB i)) / 4 * 4
  let s2 := if wb = 0 then s1 else { s1 with host := { s1.host with dma := [(wb, leBytes 4 h)] } }
  if irq then ringMsg i s2 else s2

/-- A fetched frame enters port 256's dispatch queue: its body cells are requested reserved by requester 64 (R256). -/
def txEnter (data : Bytes) (s : State) : State :=
  let f := padTo (Nat.max 60 data.length) data
  let body := f.drop 256
  let n := (body.length + 255) / 256
  match bodyCells 64 true 256 8 n [] s with
    | (got, s1, why + 1) => countBody (why + 1) 256 (wholeLen (f.length + 4)) (dropRefs got s1)
    | (got, s1, 0) =>
      let p : Pass := { passReset with src := 256, rxPort := 256, phase := .queued, raw := f.take 256,
                                       segs := bodySegs got body.length, flen := f.length + 4, rxTime := s1.time.now }
      let r := newPass p (writeChain got body s1)
      count pgPcie cHst_HOST_TX_FRAMES (setDispQ 32 (dispQ r.2 32 ++ [r.1]) r.2)

/-- HOST_TX_FETCH (R379, R382) (log entry 53, DESIGN CHOICE). -/
def hostTxFetch (ready : Nat) (lens flags : List Nat) (data : Bytes) (err : Bool) (s : State) : State :=
  if !hostUp s || 256 ≤ (dispQ s 32).length then s
  else match txNext s ready with
    | none => s
    | some i =>
      let n := (flags.takeWhile (fun f => !f.testBit 1)).length + 1
      let fl := flags.take n
      let len := (((lens.take n).map (fun l => l % 16384))).sum
      -- no LAST among the posted entries: no frame is posted
      if flags.length < n || txPosted s i < n then s
      else
        let s1 := { s with host := { s.host with lastTx := i } }
        if err then ringError i (count pgPcie cHst_HOST_TX_BAD s1)
        else
          let irq := fl.any (fun f => f.testBit 2)
          if !txFlagsOk fl || len < 1 || 12284 < len then txAdvance i n irq (count pgPcie cHst_HOST_TX_BAD s1)
          else txAdvance i n irq (txEnter (padTo len data) s1)

/-- HOST_TX_FETCH (R379): `ready` names the rings that host memory shows with a whole frame posted; `lens`, `flags` and
`data` are what the fetch reads at the ring served next; `err` a PCIe error (R382). -/
def execHostTxFetch (ready : Nat) (lens flags : List Nat) (data : Bytes) (err : Bool) (s : State) :
    Host.Outcome State Fault Refusal := act (hostTxFetch ready lens flags data err) s

/-! ### Receive rings and the exception queue (R380, R381) -/

/-- What a receive record says of a frame beside its place in the buffers. -/
structure RxInfo where
  kind : Nat
  reason : Nat
  rxPort : Nat
  epoch : Nat
  clsCol : Nat
  time : Bytes
  deriving DecidableEq, Repr

/-- Bytes 8 to 31 of a receive entry. -/
def rxRecord (i : RxInfo) (len : Nat) (first last phase : Bool) : Bytes :=
  let b (x : Bool) (v : Nat) : Nat := if x then v else 0
  leBytes 2 len ++ [BitVec.ofNat 8 (b first 1 + b last 2 + i.kind + b phase 128)] ++ leBytes 1 i.reason ++
    leBytes 2 i.rxPort ++ leBytes 1 i.epoch ++ leBytes 1 i.clsCol ++ padTo 12 i.time ++ [0, 0, 0, 0]

/-- Writes the data of a frame into its buffers and then the entries, from position `pos` of receive ring k. -/
def rxWrites (s : State) (k : Nat) (i : RxInfo) (first : Bool) (pos : Nat) : List Nat → Bytes → List (Nat × Bytes)
  | [], _ => []
  | b :: bs, data =>
    let c := pa pgRxr (offRXR_CFG k)
    let sz := liveF s c fRXR_CFG_BUFSZ * 256
    let m := 2 ^ liveF s c fRXR_CFG_LOG2
    let slot := addr64 s (pa pgRxr (offRXR_BASE k)) / 16 * 16 + pos % m * 32
    let n := Nat.min sz data.length
    let last := bs.isEmpty
    (b, data.take n) :: (slot + 8, rxRecord i n first last (pos % (2 * m) < m)) ::
      rxWrites s k i false (pos + 1) bs (data.drop n)

/-- Delivers data into receive ring k at the buffers the host posted there: HEAD passes its entries and the ring's message
follows. -/
def rxDeliver (k : Nat) (i : RxInfo) (bufs : List Nat) (data : Bytes) (s : State) : State :=
  let h := regF s (pa pgRxr (offRXR_HEAD k)) fRXR_HEAD_POS
  let n := ringNeed s k data.length
  let m := 2 ^ (liveF s (pa pgRxr (offRXR_CFG k)) fRXR_CFG_LOG2 + 1)
  let bs := (List.range n).map (fun j => bufs.getD j 0)
  let w := rxWrites s k i true h bs data
  let s1 := setReg (pa pgRxr (offRXR_HEAD k)) (BitVec.ofNat 32 ((h + n) % m)) s
  ringMsg (16 + k) { s1 with host := { s1.host with dma := w } }

/-- Bytes 16 to 27 of a record from a packet header: fractional ns, ns, seconds. -/
def rxTimeBytes (h : Bytes) : Bytes := slice h 30 2 ++ slice h 32 4 ++ slice h 36 6

/-- HOST_RX_DELIVER (R380, R382): nothing while a packet of the exception queue can go first (R381). -/
def hostRxDeliver (bufs : List Nat) (err : Bool) (s : State) : State :=
  match (port s 256).tx with
  | none => s
  | some id => match mfind s.clr.desc id with
    | none => setPort 256 { port s 256 with tx := none } s
    | some d =>
      let k := d.queue - nQbase (node s (nodeKey 3 256))
      if d.rxPass.isSome || !hostUp s || safe s || excReady s || !ringRoom s k d.len then s
      else
        let s1 := txDone 256 id (countQueue d (txLen s d) s)
        if d.broken then s1
        else if err then ringError (16 + k) (count pgPcie cHst_HOST_RX_ERR s1)
        else
          let h := pktHeader s d.headCells
          let w := hDispo h
          let i : RxInfo := ⟨0, dReason w, hRxPort h, (byteAt h 20).toNat, d.cls + dColour w * 8, rxTimeBytes h⟩
          count pgPcie cHst_HOST_RX_FRAMES (rxDeliver k i bufs (copyBytesOf s d) s1)

/-- HOST_RX_DELIVER (R380): `bufs` are the buffer addresses of the entries the copy takes; `err` a PCIe error (R382). -/
def execHostRxDeliver (bufs : List Nat) (err : Bool) (s : State) : Host.Outcome State Fault Refusal :=
  act (hostRxDeliver bufs err) s

/-- A packet leaves the exception queue with its head chain. -/
def excDone (k : Nat) (heads : List Nat) (s : State) : State := endPass k (dropRefs heads s)

/-- EXCEPTION_DELIVER (R381, R382). -/
def exceptionDeliver (bufs : List Nat) (err : Bool) (s : State) : State :=
  match s.disp.excQ with
  | [] => s
  | k :: _ => match pass? s k with
    | none => { s with disp := { s.disp with excQ := s.disp.excQ.drop 1 } }
    | some p =>
      let r := liveF s (pa dev offACT_CFG) fACT_CFG_EXC_RING
      let heads := match p.com with | some c => c.headCells | none => []
      let f := headBytes s heads p.head.length ++ segBytes s p.segs
      let parse := decide (0x81 ≤ p.reason ∧ p.reason ≤ 0x87)
      let data := p.prv ++ padTo 16 p.exc ++ f
      if p.bad || p.broken then excDone k heads s
      else if !p.complete || !hostUp s || safe s || !ringRoom s r data.length then s
      else if err then ringError (16 + r) (count pgPcie cHst_HOST_RX_ERR (excDone k heads s))
      else
        let i : RxInfo := ⟨if parse then 8 else 4, p.reason, leAt p.prv 4 2 % 512, p.epoch, 0,
          rxTimeBytes (pktHeader s heads)⟩
        count pgPcie cHst_HOST_RX_FRAMES (rxDeliver r i bufs data (excDone k heads s))

/-- EXCEPTION_DELIVER (R381): `bufs` are the buffer addresses of the entries the delivery takes; `err` a PCIe error. -/
def execExceptionDeliver (bufs : List Nat) (err : Bool) (s : State) : Host.Outcome State Fault Refusal :=
  act (exceptionDeliver bufs err) s

end Sys2Proof.Machine
end

