-- ==== Sys2Proof/Machine/Pins.lean ====
section
/-!
DEFINITION. Events on pins: resets (R428), supplies and temperature (R426, R427, R442), reference clocks (R454, R463), PCIe
training (R430) and JTAG (R459).
-/

namespace Sys2Proof.Machine
open Sys2Proof

/-! ### Resets (R428 to R431) -/

/-- Strap balls as a reset samples them (R431). -/
def strapBalls (mode boot bpgen lngen : Nat) : Straps := ⟨mode % 4, boot % 4, bpgen % 8, lngen % 4⟩

/-- VDD_KEEP rises through 90 % of nominal: a cold device reset with these straps. KEEPCLK runs (log entry 10, DESIGN CHOICE)
(log entry 64, DEDUCED). -/
def coldReset (st : Straps) (s : State) : State :=
  deviceReset true causeCold { s with pin := { s.pin with keep := true, keepClk := true, straps := st } }

/-- COLD_RESET (R428): with the levels of MODE, BOOT, BPGEN and LNGEN. -/
def execColdReset (mode boot bpgen lngen : Nat) (s : State) : Host.Outcome State Fault Refusal :=
  actPin (coldReset (strapBalls mode boot bpgen lngen)) s

/-- The end of a hold in reset: the strap balls are sampled, the 1 ms of R430 and the ALIVE grid of R421 begin. -/
def releaseReset (s : State) : State :=
  { s with straps := s.pin.straps, pin := { s.pin with aliveAt := kNow s, bothSince := kNow s } }

/-- RST_N held low for at least 1 µs starts a warm reset and holds the device; its rise lets it start. The strap balls take the
levels given with it, which the next device reset samples (R431). -/
def rstN (high : Bool) (st : Straps) (s : State) : State :=
  let was := s.pin.rstN
  let s1 := { s with pin := { s.pin with straps := st, rstN := high } }
  if high then (if was || held s1 then s1 else releaseReset s1)
  else if !s.pin.keep then s1
  else deviceReset false causeRstN s1

/-- RST_N (R428): its level, and those of the strap balls from now on (R431). -/
def execRstN (high : Bool) (mode boot bpgen lngen : Nat) (s : State) : Host.Outcome State Fault Refusal :=
  actPin (rstN high (strapBalls mode boot bpgen lngen)) s

/-- TEST_EN at 1 holds the device as RST_N low does, except the TAP (R459) (log entry 85, DEDUCED). -/
def testEn (high : Bool) (s : State) : State :=
  if high then
    let s1 := { s with pin := { s.pin with testEn := true } }
    if s.pin.testEn || !s.pin.keep then s1 else deviceReset false causeRstN s1
  else if !s.pin.testEn then s
  else
    let s1 := { s with pin := { s.pin with testEn := false } }
    if held s1 then s1 else releaseReset s1

/-- TEST_EN (R459): its new level. -/
def execTestEn (high : Bool) (s : State) : Host.Outcome State Fault Refusal := actPin (testEn high) s

/-- VDD_KEEP_FALL (R426, R427): the device is held in cold reset until VDD_KEEP rises. -/
def execVddKeepFall (s : State) : Host.Outcome State Fault Refusal :=
  actPin (fun s => deviceReset true causeCold { s with pin := { s.pin with keep := false } }) s

/-! ### Supplies and temperature (R427, R442, R460) -/

/-- RAIL_OUT_OF_TOLERANCE (R427): source 3 of page 0x1C8. -/
def execRailOutOfTolerance (s : State) : Host.Outcome State Fault Refusal :=
  actK (fun s => hicRaise 4 (capture pgPt 3 clsFT false 0 s)) s

/-- The ordering code's limit in 1/16 °C (R442). -/
def junctionLimit : Int := (if Config.orderEb then 110 else 105) * 16

/-- The hottest sensor is reported, and a reading above the limit is source 0 of page 0x1C8 (R442, R460). -/
def junctionOver (sensor temp : Nat) (s : State) : State :=
  let s1 := setReg (pa pgPt offPT_TEMP) (fset (fset 0 fPT_TEMP_SENSOR sensor) fPT_TEMP_TEMP temp) s
  if junctionLimit < signed 16 temp then hicRaise 4 (capture pgPt 0 clsCE false 0 s1) else s1

/-- JUNCTION_OVER_LIMIT (R442): the hottest sensor and its reading, 16 bits in 1/16 °C. -/
def execJunctionOverLimit (sensor temp : Nat) (s : State) : Host.Outcome State Fault Refusal :=
  actK (junctionOver sensor temp) s

/-- THERM_TRIP_N (R442): asserted from the VDD_KEEP island and held until cold reset. -/
def execThermTripN (s : State) : Host.Outcome State Fault Refusal :=
  actPin (fun s => if s.pin.keep then { s with pin := { s.pin with trip := true } } else s) s

/-! ### Reference clocks (R313, R454, R463, R422) -/

/-- The bit of CLK_STS that shows input i. -/
def clkOk (i : Nat) : Fld := ⟨i, i⟩

/-- Shows an input in CLK_STS and among the lost ones; source 3 of Heartwood's controller (R400). -/
def clkShow (i : Nat) (ok : Bool) (s : State) : State :=
  hicRaise 3 (setRegB (pa pgClk offCLK_STS) (clkOk i) ok
    { s with pin := { s.pin with lost := if ok then nsErase s.pin.lost i else nsInsert s.pin.lost i,
                                 back := mdel s.pin.back i } })

/-- Every PLL of a side's quads loses lock (R71). -/
def sideLoss (b : Bool) (s : State) : State :=
  forAll (fun q s => pllLoss ((if b then 0x1A0 else 0x180) + 2 * q) 1
    (pllLoss ((if b then 0x1A0 else 0x180) + 2 * q) 0 s)) (List.range 16) s

/-- CLOCK_LOSS (R454): input i is absent for 200 ns or out of limits. -/
def clockLoss (i : Nat) (s : State) : State :=
  if !s.pin.verdict || !s.pin.keepClk || 4 < i then s
  else if s.pin.lost.contains i then { s with pin := { s.pin with back := mdel s.pin.back i } }
  else match i with
    | 0 =>
      let s1 := capture pgClk 0 clsFT false 0 (clkShow 0 false s)
      if s.pin.lost.contains 1 then setRegB (pa pgPtp offTIME_STS) fTIME_STS_STOPPED true s1 else s1
    | 1 => timerefLoss s
    | 2 => sideLoss false (capture pgClk 2 clsUC false 0 (clkShow 2 false s))
    | 3 => sideLoss true (capture pgClk 3 clsUC false 0 (clkShow 3 false s))
    | _ => hostLinkReset (capture pgClk 4 clsUC false 0 (clkShow 4 false s))

/-- CLOCK_LOSS (R454): input i, 0 SYSCLK, 1 TIMEREF, 2 SDREF_L, 3 SDREF_B, 4 PCIE_REFCLK. -/
def execClockLoss (i : Nat) (s : State) : Host.Outcome State Fault Refusal := actK (clockLoss i) s

/-- CLOCK_RETURN (R454): the first such command of a lost input says that it is within limits again, a later one that it has
been so for 10 ms: it is then present. TIMEREF follows R313. -/
def clockReturn (i : Nat) (mhz25 : Bool) (s : State) : State :=
  if !s.pin.verdict || !s.pin.keepClk || !s.pin.lost.contains i then s
  else if i = 1 then
    let s1 := timerefAppears mhz25 (clkShow 1 true s)
    setRegB (pa pgPtp offTIME_STS) fTIME_STS_STOPPED false { s1 with time := { s1.time with trefSince := some (kNow s) } }
  else match mfind s.pin.back i with
    | none => { s with pin := { s.pin with back := mput s.pin.back i (kNow s) } }
    | some t =>
      if kNow s < t + 10 * tMs then s
      else if i = 0 then setRegB (pa pgPtp offTIME_STS) fTIME_STS_STOPPED false (clkShow 0 true s)
      else clkShow i true s

/-- CLOCK_RETURN (R454). -/
def execClockReturn (r : RefInput) (s : State) : Host.Outcome State Fault Refusal := actK (clockReturn r.i r.mhz25) s

/-- FIRST_VERDICT (R463, R313): after 1 ms of checking. `present` names the inputs found within limits, `mhz25` what TIMEREF
measures (log entry 87, DEDUCED). -/
def firstVerdict (present : Nat) (mhz25 : Bool) (s : State) : State :=
  if s.pin.verdict || !s.pin.keepClk || kNow s < tMs then s
  else
    let s1 := forAll (fun i s => clkShow i (present.testBit i) s) (List.range 5)
      { s with pin := { s.pin with verdict := true } }
    let cfg := pa pgPtp offPTP_CFG
    let s2 := if s1.time.tref25Written then s1
      else setRegB cfg fPTP_CFG_TREF_25 (!present.testBit 1 || mhz25) s1
    if present.testBit 1 then
      let sts := pa pgPtp offTIME_STS
      let s3 := setRegB sts fTIME_STS_TREF_LOCK true { s2 with time := { s2.time with trefSince := some (kNow s) } }
      -- a TREF_25 written before the verdict has left TCLK in holdover
      if regB s3 sts fTIME_STS_HOLDOVER then raiseIrq pgPtp 2 (setRegB sts fTIME_STS_HOLDOVER false s3) else s3
    else
      let s3 := enterHoldover s2
      if present.testBit 0 then s3 else setRegB (pa pgPtp offTIME_STS) fTIME_STS_STOPPED true s3

/-- FIRST_VERDICT (R463). -/
def execFirstVerdict (present : Nat) (mhz25 : Bool) (s : State) : Host.Outcome State Fault Refusal :=
  actK (firstVerdict present mhz25) s

/-- KEEPCLK_LOSS (R422): the Lookout and ALIVE stop; FAULT_N is not asserted (log entry 75, DEDUCED). -/
def execKeepclkLoss (s : State) : Host.Outcome State Fault Refusal :=
  actPin (fun s => { s with pin := { s.pin with keepClk := false } }) s

/-! ### PCIe (R377, R430) -/

/-- The PCIe function as configuration space shows it (R377). -/
structure PcieFunction where
  deviceId : Nat
  classCode : Nat
  /-- Sizes of BAR0 and BAR2, both 64-bit and not prefetchable. -/
  bar0 : Nat
  bar2 : Nat
  maxPayload : Nat
  maxReadRequest : Nat
  msixVectors : Nat
  aer : Bool
  flr : Bool
  /-- INTx, MSI, SR-IOV, ATS and PASID. -/
  intx : Bool
  msi : Bool
  sriov : Bool
  ats : Bool
  pasid : Bool
  deriving DecidableEq, Repr

/-- The device's one function (R377). -/
def pcieFunction : PcieFunction :=
  { deviceId := 0x8800, classCode := 0x028000, bar0 := 2 ^ 26, bar2 := 2 ^ 16, maxPayload := 512, maxReadRequest := 4096,
    msixVectors := 64, aer := true, flr := true, intx := false, msi := false, sriov := false, ats := false, pasid := false }

/-- PCIE_LINK_TRAINING: no earlier than 1 ms after RST_N and PCIE_PERST_N are both high, with the reference present. The link
trains at 32 GT/s ×4 or falls back to a lower rate or width, which a free value chooses (R377). -/
def pcieTrain (s : State) : State :=
  if s.pin.perstN && !s.pin.lost.contains 4 && s.pin.bothSince + tMs ≤ kNow s then
    freeNext { s with pin := { s.pin with pcieUp := true },
                      host := { s.host with gen := 1 + freeNow s % 5, width := [4, 2, 1].getD (freeNow s / 5 % 3) 4 } }
  else s

/-- PCIE_LINK_TRAINING (R430). -/
def execPcieLinkTraining (s : State) : Host.Outcome State Fault Refusal := actK pcieTrain s

/-! ### Balls of the west field (R447) -/

/-- The signals of R447. -/
inductive Ball where
  | rstN | pciePerstN | faultN | alive | thermTripN | keepClk | timeRef | ppsIn | ppsOut
  | syncEClk (n : Fin 2)
  | mode (i : Fin 2)
  | boot (i : Fin 2)
  | bpgen (i : Fin 3)
  | lngen (i : Fin 2)
  | flashCsN | flashClk
  | flashIo (i : Fin 4)
  | smbScl | smbSda | avsClk | avsMdata | avsSdata | pmbScl | pmbSda | tck | tms | tdi | tdo | trstN | testEn
  deriving DecidableEq, Repr

/-- The signals in the order of R447. -/
def balls : List Ball :=
  [.rstN, .pciePerstN, .faultN, .alive, .thermTripN, .keepClk, .timeRef, .ppsIn, .ppsOut, .syncEClk 0, .syncEClk 1] ++
  [.mode 0, .mode 1, .boot 0, .boot 1, .bpgen 0, .bpgen 1, .bpgen 2, .lngen 0, .lngen 1] ++
  [.flashCsN, .flashClk, .flashIo 0, .flashIo 1, .flashIo 2, .flashIo 3, .smbScl, .smbSda, .avsClk, .avsMdata, .avsSdata] ++
  [.pmbScl, .pmbSda, .tck, .tms, .tdi, .tdo, .trstN, .testEn]

/-- Kinds of pin: input, push-pull output or I/O, open drain. -/
inductive PinKind where
  | input | output | openDrain
  deriving DecidableEq, Repr

/-- The type of a pin (R447). -/
def pinKind : Ball → PinKind
  | .faultN | .thermTripN | .smbScl | .smbSda | .pmbScl | .pmbSda => .openDrain
  | .alive | .ppsOut | .syncEClk _ | .flashCsN | .flashClk | .flashIo _ | .avsClk | .avsMdata | .tdo => .output
  | _ => .input

/-- What the device itself drives on a ball, none where it drives nothing: while RST_N is low the state of R447, else what State
says, and on a serial or clock output `serial`, what its transfer gives. TDO follows the TAP, which TEST_EN does not hold
(R459). -/
def ballDrive (s : State) (b : Ball) (serial : Option Bool) : Option Bool :=
  let low (x : Bool) : Option Bool := if x then some false else none
  match b with
  | .faultN => low s.pin.fault
  | .thermTripN => low s.pin.trip
  | .alive => some s.pin.alive
  | .ppsOut => some s.time.ppsEnd.isSome
  | .syncEClk n => if held s || syncEOff s n then some false else serial
  | .flashCsN | .avsMdata => if held s then some true else serial
  | .flashClk | .avsClk => if held s then some false else serial
  | .flashIo _ | .smbScl | .smbSda | .pmbScl | .pmbSda => if held s then none else serial
  | .tdo => if held s && !s.pin.testEn then none else serial
  | _ => none

/-- The level of a ball that State holds because the board drives it. -/
def ballInput (s : State) : Ball → Option Bool
  | .rstN => some s.pin.rstN
  | .pciePerstN => some s.pin.perstN
  | .testEn => some s.pin.testEn
  | .mode i => some (s.pin.straps.mode.testBit i)
  | .boot i => some (s.pin.straps.boot.testBit i)
  | .bpgen i => some (s.pin.straps.bpgen.testBit i)
  | .lngen i => some (s.pin.straps.lngen.testBit i)
  | _ => none

/-! ### JTAG (R459) -/

/-- The IDCODE: stepping, part, manufacturer, and bit 0 at 1 as IEEE 1149.1 has it (log entry 86, PRESUMED). -/
def idcodeWord : Nat :=
  Config.stepping % 16 * 2 ^ 28 + 0x8800 * 2 ^ 12 + Config.manufacturer % 2048 * 2 + 1

/-- The selected data register: before the first instruction IDCODE is selected (log entry 86, PRESUMED). -/
def jtagData (s : State) : Nat := s.pin.dr.getD idcodeWord

/-- Whether a pin of R447 is in the boundary chain (R459). -/
def inChain (b : Ball) : Bool := !(b == .tck || b == .tms || b == .tdi || b == .tdo || b == .trstN)

/-- The boundary cell of a ball. -/
def cellOf (b : Ball) : Nat := Config.boundaryCell (balls.idxOf b)

/-- What the boundary chain captures: the levels of the chain's pins, those that the device drives or State holds as they stand,
the others and what the cells beside them hold from a free value (log entry 125, DESIGN CHOICE). -/
def capturePins (s : State) (free : Nat) : Nat :=
  balls.foldl (fun w b =>
    match inChain b, (ballDrive s b none).orElse (fun _ => ballInput s b) with
    | true, some v => natSetBit w (cellOf b) v
    | _, _ => w) free

/-- Selects the bypass register, which captures 0. -/
def jtagBypass (s : State) : State := { s with pin := { s.pin with jtag := .bypass, dr := some 0 } }

/-- An instruction other than BYPASS and IDCODE: accepted only while TEST_EN is 1, else it loads BYPASS. SAMPLE/PRELOAD and
EXTEST select the boundary chain, which captures the pins, and SAMPLE/PRELOAD loads the latches from what is shifted in, a free
value. CLAMP and HIGHZ select the bypass register (log entry 86, PRESUMED). -/
def jtagTest (j : Jtag) (s : State) : State :=
  if !s.pin.testEn then jtagBypass s
  else if j = .clamp || j = .highz then { s with pin := { s.pin with jtag := j, dr := some 0 } }
  else
    let cells := if j = .samplePreload then Config.freeValue (s.freeCtr + 1) else s.pin.cells
    freeNext (freeNext { s with pin := { s.pin with jtag := j, dr := some (capturePins s (freeNow s)), cells := cells } })

/-- What stands on a ball from the device's side: under EXTEST and CLAMP its boundary cell, on an open drain its 0 only, under
HIGHZ nothing, and otherwise what the device drives (R447, R459). -/
def ballOut (s : State) (b : Ball) (serial : Option Bool) : Option Bool :=
  if !s.pin.testEn || !inChain b then ballDrive s b serial
  else match s.pin.jtag with
    | .extest | .clamp =>
      let v := s.pin.cells.testBit (cellOf b)
      (match pinKind b with
        | .input => none
        | .output => some v
        | .openDrain => if v then none else some false)
    | .highz => none
    | _ => ballDrive s b serial

/-- BYPASS (R459). -/
def execBypass (s : State) : Host.Outcome State Fault Refusal := actPin jtagBypass s

/-- IDCODE (R459). -/
def execIdcode (s : State) : Host.Outcome State Fault Refusal :=
  actPin (fun s => { s with pin := { s.pin with jtag := .idcode, dr := some idcodeWord } }) s

/-- SAMPLE/PRELOAD (R459). -/
def execSamplePreload (s : State) : Host.Outcome State Fault Refusal := actPin (jtagTest .samplePreload) s

/-- EXTEST (R459). -/
def execExtest (s : State) : Host.Outcome State Fault Refusal := actPin (jtagTest .extest) s

/-- CLAMP (R459). -/
def execClamp (s : State) : Host.Outcome State Fault Refusal := actPin (jtagTest .clamp) s

/-- HIGHZ (R459). -/
def execHighz (s : State) : Host.Outcome State Fault Refusal := actPin (jtagTest .highz) s

end Sys2Proof.Machine
end

