-- ==== Sys2Proof/Machine/PortCmds.lean ====
section
/-!
DEFINITION. Commands of the ports (03).
-/

namespace Sys2Proof.Machine
open Sys2Proof

/-- AUTO_NEGOTIATION (R64, R66): the partner's types, FEC bits and EEE arrive. -/
def execAutoNegotiation (p types fec : Nat) (eee : Bool) (s : State) : Host.Outcome State Fault Refusal :=
  act (autoNegotiation p types fec eee) s

/-- LINK_TRAINING (R67): training of a B-port completes or fails. -/
def execLinkTraining (p : Nat) (ok : Bool) (s : State) : Host.Outcome State Fault Refusal := act (linkTraining p ok) s

/-- LINK_UP (R70, R71), with the receivers' signal-to-noise estimate. -/
def execLinkUp (p snr : Nat) (s : State) : Host.Outcome State Fault Refusal := act (linkUpEvent p snr) s

/-- LINK_DOWN (R70, R71). -/
def execLinkDown (p : Nat) (s : State) : Host.Outcome State Fault Refusal := act (linkDownEvent p) s

/-- PLL_LOSS_OF_LOCK (R71): PLL k of a quad page. -/
def execPllLossOfLock (page k : Nat) (s : State) : Host.Outcome State Fault Refusal := act (pllLoss page (k % 2)) s

/-- FRAME_RECEIVE (R73): the next bytes of a frame arrive on a port, FCS included, with the FEC codewords
counted since the last ones (R75); `last` ends the frame. -/
def execFrameReceive (p : Nat) (part : RxPart) (last : Bool) (s : State) : Host.Outcome State Fault Refusal :=
  act (fun s => frameReceive p part.bytes last (fecCount p part.corr part.uncorr s)) s

/-- PAUSE (R77): a PAUSE frame of q quanta is received. -/
def execPause (p q : Nat) (s : State) : Host.Outcome State Fault Refusal := act (pauseEvent p q) s

/-- PFC (R78): a PFC frame with its priority enables and its eight quanta is received. -/
def execPfc (p en : Nat) (qs : List Nat) (s : State) : Host.Outcome State Fault Refusal := act (pfcEvent p en qs) s

/-- PAUSE_TIMER_EXPIRE (R77, R78): timer i, 0 to 7 a priority and 8 PAUSE. -/
def execPauseTimerExpire (p i : Nat) (s : State) : Host.Outcome State Fault Refusal := act (pauseTimerExpire p i) s

/-- PAUSE_STORM (R81). -/
def execPauseStorm (p i : Nat) (s : State) : Host.Outcome State Fault Refusal := act (pauseStorm p i) s

/-- IGNORE_EXPIRE (R81). -/
def execIgnoreExpire (p i : Nat) (s : State) : Host.Outcome State Fault Refusal := act (ignoreExpire p i) s

/-- FC_FRAME_SEND (R79). -/
def execFcFrameSend (p : Nat) (s : State) : Host.Outcome State Fault Refusal := act (fcFrameSend p) s

/-- FC_REFRESH (R79): condition i, 0 to 7 a class and 8 PAUSE. -/
def execFcRefresh (p i : Nat) (s : State) : Host.Outcome State Fault Refusal := act (fcRefresh p i) s

/-- LPI_ENTER (R83). -/
def execLpiEnter (p : Nat) (s : State) : Host.Outcome State Fault Refusal := act (lpiEnter p) s

/-- LPI_WAKE (R83). -/
def execLpiWake (p : Nat) (s : State) : Host.Outcome State Fault Refusal := act (lpiWake p) s

/-- HELLO (R84): sent, or received. -/
def execHello (p : Nat) (recv : Bool) (s : State) : Host.Outcome State Fault Refusal := act (hello p recv) s

/-- SHED_REQ (R86): sent, or received with its target, sequence and nonce. -/
def execShedReq (p : Nat) (recv : Bool) (target seq nonce : Nat) (s : State) : Host.Outcome State Fault Refusal :=
  act (shedReq p recv target seq nonce) s

/-- SHED_ACK (R86). -/
def execShedAck (p : Nat) (s : State) : Host.Outcome State Fault Refusal := act (copArrive p (shedAck p)) s

/-- SHED_NAK (R86). -/
def execShedNak (p : Nat) (s : State) : Host.Outcome State Fault Refusal := act (copArrive p (shedNak p)) s

/-- WAKE_REQ (R87): sent on a trigger, or received. -/
def execWakeReq (p : Nat) (recv : Bool) (seq nonce : Nat) (s : State) : Host.Outcome State Fault Refusal :=
  act (wakeReq p recv seq nonce) s

/-- WAKE_ACK (R87). -/
def execWakeAck (p : Nat) (s : State) : Host.Outcome State Fault Refusal := act (copArrive p (wakeAck p)) s

/-- UTILISATION_WINDOW (R86). -/
def execUtilisationWindow (p : Nat) (s : State) : Host.Outcome State Fault Refusal := act (utilisationWindow p) s

/-- COPPICE_TIMEOUT (R86, R87). -/
def execCoppiceTimeout (p nonce : Nat) (s : State) : Host.Outcome State Fault Refusal :=
  act (coppice p (coppiceTimeout p nonce)) s

/-- FRAME_TRANSMIT (R74): the frame in transmission leaves; `under` says that its next byte was not stored in time. -/
def execFrameTransmit (p : Nat) (under : Bool) (s : State) : Host.Outcome State Fault Refusal :=
  act (frameTransmit p under) s

/-- PLL_LOCK (R63, R71). -/
def execPllLock (page k : Nat) (s : State) : Host.Outcome State Fault Refusal := act (pllLock page (k % 2)) s

/-- RX_LPI (R70, R82, R83): the partner enters or leaves LPI. -/
def execRxLpi (p : Nat) (on : Bool) (s : State) : Host.Outcome State Fault Refusal := act (rxLpi p on) s

end Sys2Proof.Machine
end

