-- ==== Sys2Proof/Machine/Rootway.lean ====
section
/-!
DEFINITION. Rootway at its receiving side (14): frames in sequence, routing, the message types at their destination, heartbeats
and the tree, retransmission and timeouts.
-/

namespace Sys2Proof.Machine
open Sys2Proof

/-! ### Acknowledgements and acceptance (R339, R340) -/

/-- ACK of a received frame: frames up to it are acknowledged, and waiting ones follow. -/
def rwAck (l : Nat) (m : Bytes) (s : State) : State :=
  if !mAckv m then s
  else
    let k := rwLink s l
    let rest := k.unacked.filter (fun (f : RwFrame) => 32768 ≤ (mAck m + 65536 - f.seq) % 65536)
    let k1 := if rest.length < k.unacked.length then { k with unacked := rest, retries := 0 } else k
    rwPump l 64 (setRwLink l k1 s)

/-- Types that only id 1 sends: ASSIGN_ID, REG_WRITE, REG_READ, TABLE_OP, EPOCH_ARM, manager HEARTBEAT, IMAGE_CHUNK. -/
def fromManagerOnly (m : Bytes) : Bool :=
  let t := mType m
  t == mtAssignId || t == mtRegWrite || t == mtRegRead || t == mtTableOp || t == mtEpochArm || t == mtImageChunk ||
    (t == mtHeartbeat && !mHopLocal m)

/-- A frame that is acknowledged and discarded (R339); `m` holds its bytes from the message header on. -/
def rwBad (m : Bytes) : Bool :=
  mType m == 0 || 12 ≤ mType m || mVersion m != 1 || 1040 < mLen m || m.length < 16 + mLen m ||
    (fromManagerOnly m && mSrc m != 1)

/-- Types that end in the receive ring. -/
def toRing (m : Bytes) : Bool :=
  mType m == mtDiscover || mType m == mtRegResp || mType m == mtEvent || mType m == mtEpochAck

/-- Waiting messages of this device that satisfy a test. -/
def todoCount (s : State) (f : Bytes → Bool) : Nat := (s.rw.todo.filter (fun (e : Nat × Bytes) => f e.2)).length

/-- Whether a message is for this device: its own id, or a broadcast on the upstream (R344). -/
def rwMine (s : State) (l : Nat) (m : Bytes) : Bool :=
  (mDst m == ownId s && ownId s != 0) || (mDst m == 4095 && rwUpstream s == some l)

/-- No buffer for a message: the block's 512 are in use, its place in the receive ring or in the TAE host queue is taken
(R340, R349). -/
def rwNoBuffer (s : State) (l : Nat) (m : Bytes) : Bool :=
  512 ≤ rwBuffered s ||
  (rwMine s l m && toRing m && decide (2 ^ liveF s (pa pgRw offRW_RXR_CFG) fRW_RXR_CFG_LOG2 ≤ rxrFill s + todoCount s toRing)) ||
  (rwMine s l m && mType m == mtTableOp && decide (256 ≤ hsqFill s + todoCount s (fun m => mType m == mtTableOp)))

/-- Whether a message is a manager HEARTBEAT, which R343 relays. -/
def isManagerHb (m : Bytes) : Bool := mType m == mtHeartbeat && !mHopLocal m

/-- A message that arrives on a link other than the upstream shows the way to its sender (R344). -/
def rwLearn (l : Nat) (m : Bytes) (s : State) : State :=
  if 1 ≤ mSrc m && mSrc m ≤ 4094 && rwUpstream s ≠ some l then
    { s with rw := { s.rw with route := mput s.rw.route (mSrc m) l } } else s

/-- A message accepted on link l is routed (R344): route learning, handling here, relaying with HOPS increased. -/
def rwRoute (l : Nat) (m : Bytes) (s : State) : State :=
  let s1 := rwLearn l m s
  let fwd := withHops ((mHops m + 1) % 4096) m
  if isManagerHb m then rwTodo l m s1
  else if mHopLocal m then (if rwMine s1 l m then rwTodo l m s1 else s1)
  else if mDst m = 4095 then
    (if rwUpstream s1 = some l then rwToward fwd (rwTodo l m s1) else s1)
  else if rwMine s1 l m then rwTodo l m s1
  else rwToward fwd s1

/-- A link HEARTBEAT passes outside the sequence; on a link that is Rootway-down both sequences restart (R340, R341). A bad
one is counted and discarded (R339). -/
def rwLinkHb (l : Nat) (m : Bytes) (s : State) : State :=
  let k := rwLink s l
  if rwBad m then count pgRw cRw_RW_BAD s
  else
    let s1 := if k.up then s
      else setRwLink l { k with up := true, txSeq := 0, rxSeq := 0, unacked := [], retries := 0, ackDue := false } s
    let s2 := rwLearn l m s1
    { s2 with rw := { s2.rw with todo := (l, m) :: s2.rw.todo } }

/-- A numbered frame: accepted when its SEQ is the next one and it has a buffer, else discarded (R340). -/
def rwNumbered (l : Nat) (m : Bytes) (s : State) : State :=
  let k := rwLink s l
  if !k.up || !rwFull s then s
  else if mSeq m ≠ (k.rxSeq + 1) % 65536 then setRwLink l { k with ackDue := true } s
  else
    let s1 := setRwLink l { k with rxSeq := mSeq m, ackDue := true } s
    if rwBad m then count pgRw cRw_RW_BAD s1
    else if rwNoBuffer s l m then s
    else rwRoute l (m.take (16 + mLen m)) (count pgRw cRw_RW_RX s1)

/-- ROOTWAY_FRAME_RECEIVE (R340): the oldest frame received on link l and not yet handled. -/
def rootwayFrame (l : Nat) (s : State) : State :=
  let k := rwLink s l
  match k.inbox with
  | [] => s
  | f :: rest =>
    let s1 := setRwLink l { k with inbox := rest } s
    if !rwIsLink s l then s1
    else
      let m := f.drop 14
      let s2 := setRwLink l { rwLink s1 l with heardAt := some (now s) } s1
      if mType m == mtHeartbeat && mHopLocal m then
        let s3 := rwLinkHb l m s2
        if (rwLink s3 l).up then rwAck l m s3 else s3
      else rwNumbered l m (if (rwLink s2 l).up then rwAck l m s2 else s2)

/-- ROOTWAY_FRAME_RECEIVE (R340): link l, a B-port or 259. -/
def execRootwayFrameReceive (l : Nat) (s : State) : Host.Outcome State Fault Refusal := act (rootwayFrame l) s

/-! ### Messages at their destination -/

/-- Takes the oldest waiting message when it is one of the wanted kind; `f` gets its link and the message. -/
def rwTake (want : Bytes → Bool) (f : Nat → Bytes → State → State) (s : State) : State :=
  match s.rw.todo with
  | [] => s
  | (l, m) :: rest => if want m then f l m { s with rw := { s.rw with todo := rest } } else s

/-- A message that goes into the receive ring waits while the ring is full. -/
def rwRing (want : Bytes → Bool) (f : Bytes → State → State) (s : State) : State :=
  if rxrFull s then s else rwTake want (fun _ m s => rxrPut m (f m s)) s

/-- A message of one type. -/
def ofType (t : Nat) (m : Bytes) : Bool := mType m == t

/-- The locked behaviour level. -/
def lockedLevel (s : State) : Nat := regF s (pa dev offDEV_BL) fDEV_BL_LOCKED

/-- The DISCOVER payload (R347). -/
def discoverPay (s : State) : Bytes :=
  let up := pa pgRw offRW_UP
  beBytes 8 Config.serial ++ beBytes 2 (ownId s) ++
    beBytes 1 (regF s (pa pgRw offRW_ID) fRW_ID_MODE + regF s (pa dev offDEV_BL) fDEV_BL_HIGHEST * 16) ++
    beBytes 1 (lockedLevel s) ++ beBytes 2 (regF s up fRW_UP_PORT) ++ beBytes 2 (regF s up fRW_UP_HOPS)

/-- DISCOVER (R345): sent when owed or when its period has passed; received, it goes into the Canopy's receive ring. -/
def discover (recv : Bool) (s : State) : State :=
  if recv then rwRing (ofType mtDiscover) (fun _ s => s) s
  else
    let period := if ownId s = 0 then 1000 * tMs else 100 * tMs
    if (rwUpstream s).isNone || !(s.rw.discDue || decide (s.rw.discAt + period ≤ now s)) then s
    else rwOriginate (mkMsg mtDiscover 1 (ownId s) 0 0 (discoverPay s))
      { s with rw := { s.rw with discAt := now s, discDue := false } }

/-- DISCOVER (R345). -/
def execDiscover (recv : Bool) (s : State) : Host.Outcome State Fault Refusal := act (discover recv) s

/-- ASSIGN_ID (R345): the device whose serial matches takes an id of 2 to 4,094. -/
def assignId (_ : Nat) (m : Bytes) (s : State) : State :=
  let p := mPay m
  let id := beAt p 8 2 % 4096
  if isUnder s && beAt p 0 8 = Config.serial % 2 ^ 64 && 2 ≤ id && id ≤ 4094 then
    raiseIrq pgRw 5 (setRegF (pa pgRw offRW_ID) fRW_ID_ID id { s with rw := { s.rw with discDue := true } })
  else s

/-- ASSIGN_ID (R345). -/
def execAssignId (s : State) : Host.Outcome State Fault Refusal := act (rwTake (ofType mtAssignId) assignId) s

/-! ### REG_WRITE and REG_READ (R348) -/

/-- The relay's requester number. -/
abbrev reqRelay : Nat := 6

/-- The refusal that a write by the relay would meet: its REASON and offset (R39). -/
def relayRefusal (s : State) (page off : Nat) (v : Word) : Option (Nat × Nat) :=
  if !hasHeader page then none
  else
    let t := write32 reqRelay (pa page off) v (refusedClear page s)
    let w := reg t (pa page offWRITE_REFUSED)
    if regB t (pa page offSts) fPAGE_STS_REFUSED then some (fget w fWRITE_REFUSED_REASON, fget w fWRITE_REFUSED_OFFSET)
    else none

/-- Writes words at consecutive offsets, and the first refusal met. -/
def relayWrites (page off : Nat) (first : Option (Nat × Nat)) : List Word → State → Option (Nat × Nat) × State
  | [], s => (first, s)
  | v :: vs, s =>
    let r := relayRefusal s page off v
    relayWrites page (off + 4) (if first.isSome then first else r) vs (write32 reqRelay (pa page off) v s)

/-- Reads words at consecutive offsets. -/
def relayReads (page : Nat) : Nat → Nat → Bytes → State → Bytes × State
  | 0, _, acc, s => (acc, s)
  | n + 1, off, acc, s =>
    let r := read32 reqRelay (pa page off) s
    relayReads page n (off + 4) (acc ++ leBytes 4 r.1.toNat) r.2

/-- Words of bytes in their little-endian layout. -/
def wordsOf (n : Nat) (bs : Bytes) : List Word := (List.range n).map (fun i => BitVec.ofNat 32 (leAt bs (4 * i) 4))

/-- Page and offset of a register message, and whether they and the length are well formed. -/
def regMsgOk (off n len want : Nat) : Bool := off % 4 == 0 && off + 4 * n ≤ 4096 && len == want

/-- REG_WRITE (R348) (log entry 58, DEDUCED). -/
def regWriteMsg (_ : Nat) (m : Bytes) (s : State) : State :=
  let p := mPay m
  let page := beAt p 0 2 % 4096
  let off := beAt p 2 2 % 4096
  let n := (byteAt p 4).toNat % 32 + 1
  if !regMsgOk off n (mLen m) (8 + 4 * n) then rwAnswer mtRegResp (mSrc m) (mTag m) (regResp 2 0 0 0 mtRegWrite []) s
  else
    let r := relayWrites page off none (wordsOf n (p.drop 8)) s
    match r.1 with
    | none => rwAnswer mtRegResp (mSrc m) (mTag m) (regResp 0 0 0 n mtRegWrite []) r.2
    | some (why, o) => rwAnswer mtRegResp (mSrc m) (mTag m) (regResp 1 why o n mtRegWrite []) r.2

/-- REG_WRITE (R348). -/
def execRegWrite (s : State) : Host.Outcome State Fault Refusal := act (rwTake (ofType mtRegWrite) regWriteMsg) s

/-- REG_READ (R348). -/
def regReadMsg (_ : Nat) (m : Bytes) (s : State) : State :=
  let p := mPay m
  let page := beAt p 0 2 % 4096
  let off := beAt p 2 2 % 4096
  let n := (byteAt p 4).toNat % 64 + 1
  if !regMsgOk off n (mLen m) 8 then rwAnswer mtRegResp (mSrc m) (mTag m) (regResp 2 0 0 0 mtRegRead []) s
  else
    let r := relayReads page n off [] s
    rwAnswer mtRegResp (mSrc m) (mTag m) (regResp 0 0 0 n mtRegRead r.1) r.2

/-- REG_READ (R348). -/
def execRegRead (s : State) : Host.Outcome State Fault Refusal := act (rwTake (ofType mtRegRead) regReadMsg) s

/-- A REG_RESP releases its TAG and goes into the receive ring; one that comes after its TIMEOUT is discarded (R352). -/
def regRespMsg (_ : Nat) (m : Bytes) (s : State) : State :=
  let isIt (t : RwTag) : Bool := t.tag == mTag m && t.dst == mSrc m
  if s.rw.tags.any isIt then
    txrSend (rxrPut m { s with rw := { s.rw with tags := s.rw.tags.eraseP isIt } })
  else if s.rw.late.contains (mTag m, mSrc m) then
    { s with rw := { s.rw with late := s.rw.late.erase (mTag m, mSrc m) } }
  else rxrPut m s

/-- A waiting REG_RESP is taken when the receive ring has a free entry. -/
def regRespTake (s : State) : State := if rxrFull s then s else rwTake (ofType mtRegResp) regRespMsg s

/-- REG_RESP (R352). -/
def execRegResp (s : State) : Host.Outcome State Fault Refusal := act regRespTake s

/-! ### TABLE_OP (R349) -/

/-- A TABLE_OP goes into the next slot of the TAE host queue. -/
def tableOpMsg (_ : Nat) (m : Bytes) (s : State) : State :=
  if mLen m ≠ 128 then rwAnswer mtRegResp (mSrc m) (mTag m) (regResp 2 0 0 0 mtTableOp []) s
  else
    let t := hsqTail s
    let s1 := { s with rw := { s.rw with tables := s.rw.tables ++ [⟨t, mSrc m, mTag m⟩] } }
    hsqTailWrite ((t + 1) % 512) (subWrite (t % 256 * 128) (mPay m) s1)

/-- A waiting TABLE_OP is taken while the host queue has a free slot. -/
def tableOpTake (s : State) : State := if 256 ≤ hsqFill s then s else rwTake (ofType mtTableOp) tableOpMsg s

/-- TABLE_OP (R349): it waits while the host queue is full. -/
def execTableOp (s : State) : Host.Outcome State Fault Refusal := act tableOpTake s

/-! ### EVENT (R350) -/

/-- EVENT: sent for a page with an enabled bit risen, at most one per page every 100 µs; received, it goes into the receive
ring. -/
def eventMsg (recv : Bool) (page : Nat) (s : State) : State :=
  if recv then rwRing (ofType mtEvent) (fun _ s => s) s
  else
    let soon := match mfind s.rw.evtAt page with | some t => decide (now s < t + 100 * tUs) | none => false
    if !isUnder s || !s.rw.evtPend.contains page || soon then s
    else
      let pay := beBytes 2 page ++ [0, 0] ++ leBytes 4 (reg s (pa page offIRQ_STS)).toNat ++ leBytes 8 (lkoTop s)
      rwOriginate (mkMsg mtEvent 1 (ownId s) 0 0 pay)
        { s with rw := { s.rw with evtPend := nsErase s.rw.evtPend page, evtAt := mput s.rw.evtAt page (now s) } }

/-- EVENT (R350). -/
def execEvent (recv : Bool) (page : Nat) (s : State) : Host.Outcome State Fault Refusal := act (eventMsg recv page) s

/-! ### EPOCH_ARM and EPOCH_ACK (R242, R247) -/

/-- Acts on a received EPOCH_ARM: a repeated one is answered with the same result and changes nothing
(log entry 47, DEDUCED). -/
def epochArmMsg (_ : Nat) (m : Bytes) (s : State) : State :=
  let p := mPay m
  let e := beAt p 0 1
  let sec := beAt p 4 4
  let ns := beAt p 8 4
  let done : Option Nat := match s.ep.lastArm with
    | some (e', sec', ns', r) => if e = e' && sec = sec' && ns = ns' then some r else none
    | none => none
  let r : Nat × State := match done with
    | some r => (r, s)
    | none => if sec = 0 && ns = 0 then (erDisarmed, epochDisarm s) else epochArm e (placeInstant s sec ns) s
  let s1 := { r.2 with ep := { r.2.ep with lastArm := some (e, sec, ns, r.1) } }
  rwAnswer mtEpochAck (mSrc m) (mTag m) (beBytes 1 e ++ beBytes 1 r.1 ++ [0, 0]) s1

/-- EPOCH_ARM_MESSAGE (R247). -/
def execEpochArmMessage (s : State) : Host.Outcome State Fault Refusal := act (rwTake (ofType mtEpochArm) epochArmMsg) s

/-- An EPOCH_ACK counts in EPOCH_CHAIN_STS; a bad one is recorded in EPOCH_CHAIN_BAD (R242). -/
def epochAckMsg (m : Bytes) (s : State) : State :=
  let r := beAt (mPay m) 1 1 % 16
  let a := pa dev offEPOCH_CHAIN_STS
  let b := pa dev offEPOCH_CHAIN_BAD
  if !isCanopy s then s
  else if r = erArmed || r = erDisarmed then
    setRegF a fEPOCH_CHAIN_STS_ACK_OK (Nat.min 4095 (regF s a fEPOCH_CHAIN_STS_ACK_OK + 1)) s
  else if r = erBusy || r = erLate || r = erBadEpoch then
    let s1 := setRegF a fEPOCH_CHAIN_STS_ACK_BAD (Nat.min 4095 (regF s a fEPOCH_CHAIN_STS_ACK_BAD + 1)) s
    if regB s1 b fEPOCH_CHAIN_BAD_VALID then setRegB b fEPOCH_CHAIN_BAD_MORE true s1
    else setReg b (fset (fset (fset 0 fEPOCH_CHAIN_BAD_VALID 1) fEPOCH_CHAIN_BAD_RESULT r) fEPOCH_CHAIN_BAD_DEVICE (mSrc m)) s1
  else s

/-- EPOCH_ACK (R242). -/
def execEpochAck (s : State) : Host.Outcome State Fault Refusal := act (rwRing (ofType mtEpochAck) epochAckMsg) s

/-! ### Heartbeats and the tree (R341, R343, R345, R346) -/

/-- A link becomes the upstream: routes over it go, and a DISCOVER is owed. -/
def setUpstream (l hops : Nat) (s : State) : State :=
  let v := fset (fset (fset 0 fRW_UP_VALID 1) fRW_UP_PORT l) fRW_UP_HOPS hops
  setReg (pa pgRw offRW_UP) v { s with rw := { s.rw with
    route := s.rw.route.filter (fun (e : Nat × Nat) => e.2 != l), alt := [], discDue := true } }

/-- A manager HEARTBEAT that arrives ends the orphan state and shows its generation. -/
def managerSeen (gen : Nat) (s : State) : State :=
  let s1 := { s with rw := { s.rw with hbAt := now s } }
  let s2 := if rwOrphan s1 then raiseIrq pgRw 2 (setRegB (pa pgRw offRW_ID) fRW_ID_ORPHAN false s1) else s1
  if regF s2 (pa pgRw offRW_GEN) fRW_GEN_GEN = gen then s2
  else setReg (pa pgRw offRW_GEN) (BitVec.ofNat 32 gen) { s2 with rw := { s2.rw with discDue := true } }

/-- Whether a sequence that came on another link has had its HB_MS to come on the upstream (R343). -/
def altDue (s : State) (e : Nat × Nat × Nat × Nat) : Bool :=
  decide (e.2.2.2 + liveF s (pa pgRw offRW_HB) fRW_HB_HB_MS * tMs ≤ now s)

/-- A manager HEARTBEAT arrives on link l: the first copy of a sequence is relayed on every other link. -/
def managerHb (l : Nat) (m : Bytes) (s : State) : State :=
  let gen := beAt (mPay m) 0 4
  let seq := beAt (mPay m) 4 4
  let d := (seq + 2 ^ 32 - s.rw.hbSeq) % 2 ^ 32
  let fresh := regF s (pa pgRw offRW_GEN) fRW_GEN_GEN != gen || (d != 0 && decide (d < 2 ^ 31))
  if !isUnder s || l = 0 || 4094 ≤ mHops m then s
  else
    let s1 := managerSeen gen s
    let s2 := if fresh then
        rwFlood (rwLinks s1) (some l) (withHops (mHops m + 1) m) { s1 with rw := { s1.rw with hbSeq := seq } } else s1
    match rwUpstream s2 with
    | none => if fresh then setUpstream l (mHops m) s2 else s2
    | some u =>
      if u = l then
        setRegF (pa pgRw offRW_UP) fRW_UP_HOPS (mHops m)
          { s2 with rw := { s2.rw with upSeq := seq, alt := s2.rw.alt.filter (fun e => e.1 != seq || altDue s2 e) } }
      else if fresh then { s2 with rw := { s2.rw with alt := s2.rw.alt ++ [(seq, l, mHops m, now s2)] } }
      else s2

/-- The Canopy sends a manager HEARTBEAT every HB_MS; its generation is a new nonzero one after each device reset. -/
def managerSend (s : State) : State :=
  let hb := liveF s (pa pgRw offRW_HB) fRW_HB_HB_MS * tMs
  if !isCanopy s || now s < s.rw.hbAt + hb then s
  else
    let s1 := if regF s (pa pgRw offRW_GEN) fRW_GEN_GEN = 0 then
        freeNext (setReg (pa pgRw offRW_GEN) (BitVec.ofNat 32 (freeNow s % (2 ^ 32 - 1) + 1)) s) else s
    let seq := (s1.rw.hbSeq + 1) % 2 ^ 32
    let m := mkMsg mtHeartbeat 4095 1 0 0 (beBytes 4 (regF s1 (pa pgRw offRW_GEN) fRW_GEN_GEN) ++ beBytes 4 seq)
    rwFlood (rwLinks s1) none m { s1 with rw := { s1.rw with hbSeq := seq, hbAt := now s1 } }

/-- A manager heartbeat is sent by the Canopy, or one that waits is taken. -/
def managerBeat (recv : Bool) (s : State) : State := if recv then rwTake isManagerHb managerHb s else managerSend s

/-- MANAGER_HEARTBEAT (R343): sent by the Canopy, or received. -/
def execManagerHeartbeat (recv : Bool) (s : State) : Host.Outcome State Fault Refusal := act (managerBeat recv) s

/-- A received link HEARTBEAT is shown in RW_LINK_STS (R341, R357). -/
def linkHbMsg (l : Nat) (m : Bytes) (s : State) : State :=
  let p := mPay m
  let b := (byteAt p 0).toNat
  let up := b.testBit 0
  let s1 := setRwLink l { rwLink s l with peerUp := up, peerEtype := beAt p 2 2, partnerAt := some (now s) } s
  if l < 128 || 256 ≤ l then s1
  else
    let bit (x : Bool) : Nat := if x then 1 else 0
    let w := fset (fset (fset (fset (fset (fset (reg s1 (linkSts l)) fRW_LINK_STS_PARTNER 1) fRW_LINK_STS_PEER_TRAIL
      (bit (b.testBit 1))) fRW_LINK_STS_PEER_UP (bit up)) fRW_LINK_STS_RW_UP 1) fRW_LINK_STS_PEER_BL (b / 16))
      fRW_LINK_STS_PEER_ID (beAt p 4 2 % 4096)
    rwMismatch l (setReg (linkSts l) w s1)

/-- A link HEARTBEAT leaves: every 100 µs, every 100 ms until the partner has been heard, or when an acknowledgement is
due (log entry 83, DEDUCED). -/
def linkHbSend (l : Nat) (s : State) : State :=
  let k := rwLink s l
  let period := if k.heardAt.isSome then 100 * tUs else 100 * tMs
  let due := k.ackDue || (match k.hbAt with | some t => decide (t + period ≤ now s) | none => true)
  if !rwIsLink s l || !due then s
  else
    let bit (x : Bool) (v : Nat) : Nat := if x then v else 0
    let b := bit (rwUpstream s == some l) 1 + bit (trailEn s l) 2 + lockedLevel s * 16
    let pay := beBytes 1 b ++ [0] ++ beBytes 2 (liveF s (pa pgRw offTR_CFG) fTR_CFG_ETYPE) ++ beBytes 2 (ownId s) ++ [0, 0]
    rwXmit l (withSeq 0 k.rxSeq (hopLocal (mkMsg mtHeartbeat 0 (ownId s) 0 0 pay)))
      (setRwLink l { k with ackDue := false, hbAt := some (now s) } s)

/-- A link HEARTBEAT is sent on link l, or one that waits is taken. -/
def linkBeat (l : Nat) (recv : Bool) (s : State) : State :=
  if recv then rwTake (fun m => mType m == mtHeartbeat && mHopLocal m) linkHbMsg s else linkHbSend l s

/-- LINK_HEARTBEAT (R341): sent on link l, or received. -/
def execLinkHeartbeat (l : Nat) (recv : Bool) (s : State) : Host.Outcome State Fault Refusal := act (linkBeat l recv) s

/-! ### IMAGE_CHUNK (R351) -/

/-- Heartwood places a chunk in the staging area, or answers AUTH while that area is held or Heartwood restarts; its source 14
rises (R400). -/
def imageChunkMsg (_ : Nat) (m : Bytes) (s : State) : State :=
  let p := mPay m
  let off := beAt p 0 4
  let data := p.drop 16
  let st := if data.length < 1 || 1024 < data.length || 0x200000 < off + data.length || beAt p 4 4 < off + data.length then 2
    else if s.hw.hold.isSome || s.hw.downTill.isSome then 4 else 0
  rwAnswer mtRegResp (mSrc m) (mTag m) (regResp st 0 0 0 mtImageChunk [])
    (hicRaise 14 (if st = 0 then sapWrite (staging + off) data s else s))

/-- A waiting IMAGE_CHUNK is taken while Heartwood has its clock (log entry 84, DEDUCED). -/
def imageChunkTake (s : State) : State := if s.pin.keepClk then rwTake (ofType mtImageChunk) imageChunkMsg s else s

/-- IMAGE_CHUNK (R351). -/
def execImageChunk (s : State) : Host.Outcome State Fault Refusal := act imageChunkTake s

/-! ### Retransmission, link loss, timeouts (R340, R343, R346, R352) -/

/-- Whether the oldest unacknowledged frame of a link is older than RTX_US. -/
def rtxDue (s : State) (l : Nat) : Bool :=
  match (rwLink s l).unacked with
  | [] => false
  | f :: _ => decide (f.sentAt + liveF s (pa pgRw offRW_REL) fRW_REL_RTX_US * tUs < now s)

/-- Retransmissions in a row have reached RETRY_MAX. -/
def rtxSpent (s : State) (l : Nat) : Bool := liveF s (pa pgRw offRW_REL) fRW_REL_RETRY_MAX ≤ (rwLink s l).retries

/-- RW_RTX (R340): every unacknowledged frame is resent in order. -/
def rwRtx (l : Nat) (s : State) : State :=
  let k := rwLink s l
  if !k.up || !rtxDue s l || rtxSpent s l || !rwIsLink s l then s
  else
    let fs := k.unacked.map (fun (f : RwFrame) => { f with sentAt := now s })
    let s1 := setRwLink l { k with unacked := fs, retries := k.retries + 1, ackDue := false } s
    forAll (fun (f : RwFrame) s => rwXmit l (withSeq f.seq (rwLink s l).rxSeq f.msg) (count pgRw cRw_RW_RTX s)) fs s1

/-- RW_RTX (R340): link l. -/
def execRwRtx (l : Nat) (s : State) : Host.Outcome State Fault Refusal := act (rwRtx l) s

/-- Whether a link has become Rootway-down. -/
def downDue (s : State) (l : Nat) : Bool :=
  let k := rwLink s l
  k.up && ((rtxDue s l && rtxSpent s l) ||
    (match k.heardAt with | some t => decide (t + 300 * tUs ≤ now s) | none => false))

/-- ROOTWAY_DOWN (R340, R343, R344): the link's frames are lost, its routes cleared; a lost upstream gives way to the link on
which a newer sequence arrived, if there is one. -/
def rootwayDown (l : Nat) (s : State) : State :=
  if !downDue s l then s
  else
    let k := rwLink s l
    let n := k.unacked.length + k.backlog.length
    let s1 := setRwLink l { rwLinkReset l with inbox := k.inbox, peerEtype := k.peerEtype, partnerAt := k.partnerAt }
      (ctrAdd pgRw cRw_RW_LOST n s)
    let s2 := { s1 with rw := { s1.rw with
      route := s1.rw.route.filter (fun (e : Nat × Nat) => e.2 != l),
      alt := s1.rw.alt.filter (fun e => e.2.1 != l) } }
    let s3 := if 128 ≤ l && l < 256 then
        setReg (linkSts l) (if rwPartner s2 l then fset (reg s2 (linkSts l)) fRW_LINK_STS_RW_UP 0 else 0) s2 else s2
    let s4 := if rwUpstream s3 = some l then
        (match s3.rw.alt with
          | (_, x, h, _) :: _ => setUpstream x h s3
          | [] => setReg (pa pgRw offRW_UP) 0 s3) else s3
    raiseIrq pgRw 4 s4

/-- ROOTWAY_DOWN (R340): link l. -/
def execRootwayDown (l : Nat) (s : State) : Host.Outcome State Fault Refusal := act (rootwayDown l) s

/-- ORPHAN (R346). -/
def orphanEnter (s : State) : State :=
  let a := pa pgRw offRW_HB
  if isUnder s && !rwOrphan s && s.rw.hbAt + liveF s a fRW_HB_HB_MISS * liveF s a fRW_HB_HB_MS * tMs ≤ now s then
    raiseIrq pgRw 1 (setRegB (pa pgRw offRW_ID) fRW_ID_ORPHAN true s)
  else s

/-- ORPHAN (R346). -/
def execOrphan (s : State) : Host.Outcome State Fault Refusal := act orphanEnter s

/-- RW_TIMEOUT (R352): the oldest request without an answer within E2E_MS is answered TIMEOUT in the receive ring. -/
def rwTimeout (s : State) : State :=
  match s.rw.tags with
  | [] => s
  | t :: rest =>
    if now s < t.sentAt + liveF s (pa pgRw offRW_HB) fRW_HB_E2E_MS * tMs || rxrFull s then s
    else
      let m := mkMsg mtRegResp (ownId s) t.dst t.tag 0 (regResp 3 0 0 0 t.ty [])
      txrSend (rxrPut m (count pgRw cRw_RW_TIMEOUT
        { s with rw := { s.rw with tags := rest, late := s.rw.late ++ [(t.tag, t.dst)] } }))

/-- RW_TIMEOUT (R352). -/
def execRwTimeout (s : State) : Host.Outcome State Fault Refusal := act rwTimeout s

/-- UPSTREAM_CHANGE (R343): a newer sequence arrived on another link and no copy of it on the upstream within HB_MS. -/
def upstreamChange (s : State) : State :=
  match s.rw.alt.find? (fun e => altDue s e && (rwLink s e.2.1).up) with
  | none => s
  | some (_, l, h, _) => if (rwUpstream s).isSome then setUpstream l h s else s

/-- UPSTREAM_CHANGE (R343). -/
def execUpstreamChange (s : State) : Host.Outcome State Fault Refusal := act upstreamChange s

end Sys2Proof.Machine
end

