-- ==== Sys2Proof/Machine/TableCmds.lean ====
section
/-!
DEFINITION. Commands of the Table Access Engine and the tables (02, 05, 06, 11).
-/

namespace Sys2Proof.Machine
open Sys2Proof

/-- INSERT (R53, R136): the TAE takes the next command of queue q, 0 host and 1 Sapwood, when it is a INSERT; `ecc` says
that the entry it reads holds an uncorrectable error (log entry 12, DESIGN CHOICE). -/
def execInsert (q : Nat) (ecc : Bool) (s : State) : Host.Outcome State Fault Refusal :=
  act (taeCommand opInsert (q % 2) ecc) s

/-- DELETE (R53, R136): the TAE takes the next command of queue q, 0 host and 1 Sapwood, when it is a DELETE; `ecc` says
that the entry it reads holds an uncorrectable error (log entry 12, DESIGN CHOICE). -/
def execDelete (q : Nat) (ecc : Bool) (s : State) : Host.Outcome State Fault Refusal :=
  act (taeCommand opDelete (q % 2) ecc) s

/-- MODIFY (R53, R136): the TAE takes the next command of queue q, 0 host and 1 Sapwood, when it is a MODIFY; `ecc` says
that the entry it reads holds an uncorrectable error (log entry 12, DESIGN CHOICE). -/
def execModify (q : Nat) (ecc : Bool) (s : State) : Host.Outcome State Fault Refusal :=
  act (taeCommand opModify (q % 2) ecc) s

/-- SEARCH (R53, R136): the TAE takes the next command of queue q, 0 host and 1 Sapwood, when it is a SEARCH; `ecc` says
that the entry it reads holds an uncorrectable error (log entry 12, DESIGN CHOICE). -/
def execSearch (q : Nat) (ecc : Bool) (s : State) : Host.Outcome State Fault Refusal :=
  act (taeCommand opSearch (q % 2) ecc) s

/-- WRITE (R53, R136): the TAE takes the next command of queue q, 0 host and 1 Sapwood, when it is a WRITE; `ecc` says
that the entry it reads holds an uncorrectable error (log entry 12, DESIGN CHOICE). -/
def execWrite (q : Nat) (ecc : Bool) (s : State) : Host.Outcome State Fault Refusal :=
  act (taeCommand opWrite (q % 2) ecc) s

/-- READ (R53, R136): the TAE takes the next command of queue q, 0 host and 1 Sapwood, when it is a READ; `ecc` says
that the entry it reads holds an uncorrectable error (log entry 12, DESIGN CHOICE). -/
def execRead (q : Nat) (ecc : Bool) (s : State) : Host.Outcome State Fault Refusal :=
  act (taeCommand opRead (q % 2) ecc) s

/-- READ_CLEAR (R53, R136): the TAE takes the next command of queue q, 0 host and 1 Sapwood, when it is a READ_CLEAR; `ecc` says
that the entry it reads holds an uncorrectable error (log entry 12, DESIGN CHOICE). -/
def execReadClear (q : Nat) (ecc : Bool) (s : State) : Host.Outcome State Fault Refusal :=
  act (taeCommand opReadClear (q % 2) ecc) s

/-- SET_MEMB (R53, R136): the TAE takes the next command of queue q, 0 host and 1 Sapwood, when it is a SET_MEMB; `ecc` says
that the entry it reads holds an uncorrectable error (log entry 12, DESIGN CHOICE). -/
def execSetMemb (q : Nat) (ecc : Bool) (s : State) : Host.Outcome State Fault Refusal :=
  act (taeCommand opSetMemb (q % 2) ecc) s

/-- FENCE (R53, R136): the TAE takes the next command of queue q, 0 host and 1 Sapwood, when it is a FENCE; `ecc` says
that the entry it reads holds an uncorrectable error (log entry 12, DESIGN CHOICE). -/
def execFence (q : Nat) (ecc : Bool) (s : State) : Host.Outcome State Fault Refusal :=
  act (taeCommand opFence (q % 2) ecc) s

/-- TABLE_CLEAR_DONE (R129). -/
def execTableClearDone (t : Nat) (s : State) : Host.Outcome State Fault Refusal := act (emtClearDone t) s

/-- AGING_SWEEP (R144). -/
def execAgingSweep (t : Nat) (s : State) : Host.Outcome State Fault Refusal := act (agingSweep t) s

/-- THK_TABLE_CLEAR_DONE (R152). -/
def execThkTableClearDone (t : Nat) (s : State) : Host.Outcome State Fault Refusal := act (thkClearDone t) s

/-- SHIFT_MOVE (R161): copy c of table t. -/
def execShiftMove (t c : Nat) (s : State) : Host.Outcome State Fault Refusal := act (shiftStep t c) s

/-- THICKET_SCRUB (R166); `bad` names the banks whose row holds an uncorrectable error. -/
def execThicketScrub (bad : List Nat) (s : State) : Host.Outcome State Fault Refusal := act (thkScrub bad) s

/-- THK_ROW_REPAIR (R168). -/
def execThkRowRepair (bank row : Nat) (s : State) : Host.Outcome State Fault Refusal := act (thkRepair bank row) s

/-- POLICER_REFRESH (R294) of policer i. -/
def execPolicerRefresh (i : Nat) (ecc : Bool) (s : State) : Host.Outcome State Fault Refusal := act (polRefresh i ecc) s

end Sys2Proof.Machine
end

