-- ==== Sys2Proof/WellFormed.lean ====
section
/-!
DEFINITION. What a command may carry: each operand within the range the manual gives it.
-/

namespace Sys2Proof

/-- The bytes of a frame or of an image: at most 2 MB (R368). -/
def bytesOk (b : Bytes) : Bool := b.length ≤ 0x200000

/-- A list of numbers below a bound. -/
def allBelow (n : Nat) (l : List Nat) : Bool := l.all (fun x => x < n)

/-- Whether a command is well formed. -/
def wellFormed : Instr → Bool
  | .registerWrite req a size v =>
    decide (req < 7) && decide (a < 0x4010000) && (size == 1 || size == 2 || size == 4 || size == 8) &&
    decide (v < 2 ^ 64)
  | .liveValueApply a => decide (a < 0x4010000)
  | .commit req page => decide (req < 7) && decide (page < 4096)
  | .shadowApply page => decide (page < 4096)
  | .discard req page => decide (req < 7) && decide (page < 4096)
  | .epochBind req page _ => decide (req < 7) && decide (page < 4096)
  | .snapshot req page => decide (req < 7) && decide (page < 4096)
  | .snapClear req page => decide (req < 7) && decide (page < 4096)
  | .snapshotComplete page => decide (page < 4096)
  | .softReset req page => decide (req < 7) && decide (page < 4096)
  | .softResetComplete page => decide (page < 4096)
  | .quiesce req page _ => decide (req < 7) && decide (page < 4096)
  | .quiesceComplete page => decide (page < 4096)
  | .enable req page _ => decide (req < 7) && decide (page < 4096)
  | .refusedClear req page => decide (req < 7) && decide (page < 4096)
  | .errStsClear req page mask => decide (req < 7) && decide (page < 4096) && decide (mask < 2 ^ 16)
  | .errInject req page src cls => decide (req < 7) && decide (page < 4096) && decide (src < 16) && decide (cls < 4)
  | .lowWordWrite req a _ => decide (req < 7) && decide (a < 0x4010000)
  | .highWordWrite req a _ => decide (req < 7) && decide (a < 0x4010000)
  | .lowWordRead req a =>
    decide (req < 7) && decide (a.addr < 0x4010000) && (a.size == 1 || a.size == 2 || a.size == 4 || a.size == 8)
  | .highWordRead req a => decide (req < 7) && decide (a < 0x4010000)
  | .rcLagRead req => decide (req < 7)
  | .taeHsqTail req v => decide (req < 7) && decide (v < 512)
  | .taeHcqHead req v => decide (req < 7) && decide (v < 512)
  | .insert q _ => decide (q < 2)
  | .delete q _ => decide (q < 2)
  | .modify q _ => decide (q < 2)
  | .search q _ => decide (q < 2)
  | .write q _ => decide (q < 2)
  | .read q _ => decide (q < 2)
  | .readClear q _ => decide (q < 2)
  | .setMemb q _ => decide (q < 2)
  | .fence q _ => decide (q < 2)
  | .macCfg req p _ => decide (req < 7) && decide (p < 256)
  | .autoNegotiation p types fec _ => decide (p < 256) && decide (types < 1024) && decide (fec < 16)
  | .linkTraining p _ => decide (p < 256)
  | .linkUp p snr => decide (p < 256) && decide (snr < 2 ^ 16)
  | .linkDown p => decide (p < 256)
  | .pllLossOfLock page k => decide (0x180 ≤ page) && decide (page < 0x1C0) && page % 2 == 0 && decide (k < 2)
  | .frameReceive p part _ => decide (p < 256) && bytesOk part.bytes
  | .pause p q => decide (p < 256) && decide (q < 2 ^ 16)
  | .pfc p en qs => decide (p < 256) && decide (en < 256) && allBelow (2 ^ 16) qs
  | .pauseTimerExpire p i => decide (p < 256) && decide (i < 9)
  | .pauseStorm p i => decide (p < 256) && decide (i < 9)
  | .ignoreExpire p i => decide (p < 256) && decide (i < 9)
  | .fcFrameSend p => decide (p < 256)
  | .fcRefresh p i => decide (p < 256) && decide (i < 9)
  | .lpiEnter p => decide (p < 256)
  | .lpiWake p => decide (p < 256)
  | .hello p _ => decide (p < 256)
  | .shedReq p _ target seq nonce =>
    decide (p < 256) && decide (target < 256) && decide (seq < 2 ^ 16) && decide (nonce < 2 ^ 32)
  | .shedAck p => decide (p < 256)
  | .shedNak p => decide (p < 256)
  | .wakeReq p _ seq nonce => decide (p < 256) && decide (seq < 2 ^ 16) && decide (nonce < 2 ^ 32)
  | .wakeAck p => decide (p < 256)
  | .utilisationWindow p => decide (p < 256)
  | .coppiceTimeout p nonce => decide (p < 256) && decide (nonce < 2 ^ 32)
  | .frameTransmit p _ => decide (p < 260)
  | .headEnqueue src => decide (src < 261)
  | .dispatchGrant => true
  | .parseWalk k => decide (k < 2 ^ 32)
  | .holdTimeout => true
  | .fragAged => true
  | .fragSeed req _ => decide (req < 7)
  | .pguNodeRead req bank node => decide (req < 7) && decide (bank < 2) && decide (node < 256)
  | .pguNodeWrite req bank node => decide (req < 7) && decide (bank < 2) && decide (node < 256)
  | .dispatchEntry t => decide (t < 4096)
  | .aluNop eng slot => decide (eng < 1024) && decide (slot < 2)
  | .aluMov eng slot => decide (eng < 1024) && decide (slot < 2)
  | .aluAdd eng slot => decide (eng < 1024) && decide (slot < 2)
  | .aluSub eng slot => decide (eng < 1024) && decide (slot < 2)
  | .aluAnd eng slot => decide (eng < 1024) && decide (slot < 2)
  | .aluOr eng slot => decide (eng < 1024) && decide (slot < 2)
  | .aluXor eng slot => decide (eng < 1024) && decide (slot < 2)
  | .aluAndn eng slot => decide (eng < 1024) && decide (slot < 2)
  | .aluShl eng slot => decide (eng < 1024) && decide (slot < 2)
  | .aluShr eng slot => decide (eng < 1024) && decide (slot < 2)
  | .aluRor eng slot => decide (eng < 1024) && decide (slot < 2)
  | .aluExt eng slot => decide (eng < 1024) && decide (slot < 2)
  | .aluIns eng slot => decide (eng < 1024) && decide (slot < 2)
  | .aluMin eng slot => decide (eng < 1024) && decide (slot < 2)
  | .aluMax eng slot => decide (eng < 1024) && decide (slot < 2)
  | .aluCmp eng slot => decide (eng < 1024) && decide (slot < 2)
  | .aluLdp eng slot => decide (eng < 1024) && decide (slot < 2)
  | .aluLdh eng slot => decide (eng < 1024) && decide (slot < 2)
  | .aluLdl eng slot => decide (eng < 1024) && decide (slot < 2)
  | .aluLdm eng slot => decide (eng < 1024) && decide (slot < 2)
  | .aluStm eng slot => decide (eng < 1024) && decide (slot < 2)
  | .aluHash eng slot => decide (eng < 1024) && decide (slot < 2)
  | .aluPopc eng slot => decide (eng < 1024) && decide (slot < 2)
  | .aluFfs eng slot => decide (eng < 1024) && decide (slot < 2)
  | .aluLdt eng slot => decide (eng < 1024) && decide (slot < 2)
  | .seqCont eng => decide (eng < 1024)
  | .seqTwoway eng => decide (eng < 1024)
  | .seqDisp4 eng => decide (eng < 1024)
  | .seqDisp16 eng => decide (eng < 1024)
  | .seqCall eng => decide (eng < 1024)
  | .seqReturn eng => decide (eng < 1024)
  | .seqWait eng => decide (eng < 1024)
  | .seqEnd eng => decide (eng < 1024)
  | .seqAbandon eng => decide (eng < 1024)
  | .restart => true
  | .lookupEmt eng _ kind i => decide (eng < 1024) && decide (kind < 4) && decide (i < 2 ^ 20)
  | .lookupThicket eng _ => decide (eng < 1024)
  | .lookupResult t grp => decide (t < 4096) && decide (grp < 2 ^ 16)
  | .hdrSet eng => decide (eng < 1024)
  | .hdrPush eng => decide (eng < 1024)
  | .hdrPop eng => decide (eng < 1024)
  | .hdrInc eng => decide (eng < 1024)
  | .hdrDec eng => decide (eng < 1024)
  | .hdrCsum4 eng => decide (eng < 1024)
  | .hdrUdp0 eng => decide (eng < 1024)
  | .memCnt eng => decide (eng < 1024)
  | .memPol eng _ => decide (eng < 1024)
  | .memCtxRd eng _ => decide (eng < 1024)
  | .memCtxWrt eng => decide (eng < 1024)
  | .memCtxWrl eng => decide (eng < 1024)
  | .memCtxAdd eng => decide (eng < 1024)
  | .memLearn eng => decide (eng < 1024)
  | .contextLockGrant i => decide (i < 2 ^ 20)
  | .dispFwd eng => decide (eng < 1024)
  | .dispClass eng => decide (eng < 1024)
  | .dispColour eng => decide (eng < 1024)
  | .dispMirror eng => decide (eng < 1024)
  | .dispOam eng => decide (eng < 1024)
  | .dispRestore eng => decide (eng < 1024)
  | .dispCommit eng => decide (eng < 1024)
  | .dispDrop eng => decide (eng < 1024)
  | .dispToHost eng => decide (eng < 1024)
  | .dispRecirc eng => decide (eng < 1024)
  | .commitAccept t _ x7 x8 => decide (t < 4096) && allBelow (2 ^ 20) x7 && allBelow (2 ^ 20) x8
  | .reorderRelease k => decide (k < 2 ^ 32)
  | .lqHead req v => decide (req < 7) && decide (v < 2 ^ 17)
  | .emtTblGeo req t _ => decide (req < 7) && decide (t < 64)
  | .tableClearDone t => decide (t < 64)
  | .agingSweep t => decide (t < 64)
  | .thkTblCfg req t _ => decide (req < 7) && decide (t < 64)
  | .thkTableClearDone t => decide (t < 64)
  | .shiftMove t c => decide (t < 64) && decide (c < 2)
  | .thicketScrub bad => allBelow (64) bad
  | .thkRowRepair bank row => decide (bank < 64) && decide (row < 0x4000)
  | .csScrub g q ecc => decide (g < 32) && decide (q < 8) && decide (ecc < 4)
  | .csRepair g q a => decide (g < 32) && decide (q < 8) && decide (a < 0x4010000)
  | .grvCsWr req g addr => decide (req < 7) && decide (g < 32) && decide (addr < 0x4000)
  | .grvCsRd req g copy addr => decide (req < 7) && decide (g < 32) && decide (copy < 8) && decide (addr < 2 ^ 16)
  | .grvCsCrc req g _ => decide (req < 7) && decide (g < 32)
  | .inService req g _ => decide (req < 7) && decide (g < 32)
  | .fenced req g _ => decide (req < 7) && decide (g < 32)
  | .drainTimeout g => decide (g < 32)
  | .epochCommit req e => decide (req < 7) && decide (e < 256)
  | .epochArm req e _ target => decide (req < 7) && decide (e < 256) && decide (target < 4096)
  | .epochDisarm req _ target => decide (req < 7) && decide (target < 4096)
  | .epochArmFire => true
  | .epochRetire => true
  | .cellPush b => decide (b < 32)
  | .residueVisit => true
  | .residueExpire => true
  | .wpAudit req => decide (req < 7)
  | .auditDone => true
  | .selection g => decide (g < 65)
  | .schRead req ty i => decide (req < 7) && decide (ty < 256) && decide (i < 2 ^ 20)
  | .schWrite req ty i => decide (req < 7) && decide (ty < 256) && decide (i < 2 ^ 20)
  | .flush req ty i => decide (req < 7) && decide (ty < 256) && decide (i < 2 ^ 20)
  | .wheelRelease => true
  | .policerRefresh i _ => decide (i < 2 ^ 18)
  | .gateRead req ty i => decide (req < 7) && decide (ty < 256) && decide (i < 2 ^ 20)
  | .gateWrite req ty i => decide (req < 7) && decide (ty < 256) && decide (i < 2 ^ 20)
  | .configurationChange req ty i => decide (req < 7) && decide (ty < 256) && decide (i < 2 ^ 20)
  | .configChangeTake p => decide (p < 256)
  | .gateEntryAdvance p => decide (p < 256)
  | .gateEn req m _ => decide (req < 7) && decide (m < 8)
  | .timeRead req => decide (req < 7)
  | .timeSet req => decide (req < 7)
  | .timeAdd req => decide (req < 7)
  | .timerefLoss => true
  | .timerefRelock _ => true
  | .tref25 req _ => decide (req < 7)
  | .ppsIn => true
  | .ppsOut => true
  | .squelched n => decide (n < 2)
  | .txts3 req => decide (req < 7)
  | .svcCfg req _ => decide (req < 7)
  | .timerFire i => decide (i < 2 ^ 17)
  | .timerInject => true
  | .tmrRead req i => decide (req < 7) && decide (i < 2 ^ 17)
  | .tmrWrite req i => decide (req < 7) && decide (i < 2 ^ 17)
  | .bfdTick t b => decide (t < 4096) && decide (b.n < 64)
  | .bfdReceive t off b => decide (t < 4096) && decide (off < 256) && decide (b.n < 64)
  | .ccmTick t _ _ _ => decide (t < 4096)
  | .cfmReceive t _ kind x _ _ _ _ => decide (t < 4096) && decide (kind < 4) && decide (x < 2 ^ 20)
  | .lmDmTick t _ _ => decide (t < 4096)
  | .firmwareLearn => true
  | .rootwayFrameReceive l => decide (l < 260)
  | .discover _ => true
  | .assignId => true
  | .regWrite => true
  | .regRead => true
  | .regResp => true
  | .tableOp => true
  | .event _ page => decide (page < 4096)
  | .epochArmMessage => true
  | .epochAck => true
  | .managerHeartbeat _ => true
  | .linkHeartbeat l _ => decide (l < 260)
  | .imageChunk => true
  | .rwRtx l => decide (l < 260)
  | .rootwayDown l => decide (l < 260)
  | .orphan => true
  | .rwTimeout => true
  | .rwTxrTail req v => decide (req < 7) && decide (v < 2 ^ 16)
  | .trSwitch req p _ maxlen => decide (req < 7) && decide (128 ≤ p) && decide (p < 256) && decide (maxlen < 0x4000)
  | .trSwitchComplete => true
  | .coldReset mode boot bpgen lngen =>
    decide (mode < 4) && decide (boot < 4) && decide (bpgen < 8) && decide (lngen < 4)
  | .rstN _ mode boot bpgen lngen => decide (mode < 4) && decide (boot < 4) && decide (bpgen < 8) && decide (lngen < 4)
  | .devRst req key _ => decide (req < 7) && decide (key < 2 ^ 16)
  | .boot _ _ => true
  | .status slot => decide (slot < 2)
  | .fetch slot => decide (slot < 2)
  | .verifyLoad slot => decide (slot < 2)
  | .activate slot => decide (slot < 2)
  | .restartCore slot => decide (slot < 2)
  | .lockCommand slot => decide (slot < 2)
  | .commitSvn slot => decide (slot < 2)
  | .flashWrite slot => decide (slot < 2)
  | .flashErase slot => decide (slot < 2)
  | .safeState slot => decide (slot < 2)
  | .swKick n _ => decide (n < 4)
  | .sapwoodWatchdog n => decide (n < 4)
  | .heartwoodWatchdog _ => true
  | .apiCmdTail req v => decide (req < 7) && decide (v < 2 ^ 16)
  | .counterRead tag page buf => decide (tag < 2 ^ 32) && decide (page < 4096) && decide (buf < 2 ^ 64)
  | .rootwaySend tag msg => decide (tag < 2 ^ 32) && bytesOk msg
  | .sessionAdd tag _ n i tm blk =>
    decide (tag < 2 ^ 32) && decide (n < 2 ^ 16) && decide (i < 2 ^ 17) && decide (tm.period < 2 ^ 32) &&
    decide (tm.det < 2 ^ 32) &&
    bytesOk blk
  | .sessionDel tag _ n => decide (tag < 2 ^ 32) && decide (n < 2 ^ 16)
  | .tableFlushPort tag port => decide (tag < 2 ^ 32) && decide (port < 512)
  | .fwInfo tag => decide (tag < 2 ^ 32)
  | .hostLinkReset _ => true
  | .ringTail _ i v => decide (i < 16) && decide (v < 8192)
  | .hostTxFetch ready lens flags data _ =>
    decide (ready < 2 ^ 16) && allBelow (0x4000) lens && allBelow (256) flags && bytesOk data
  | .hostRxDeliver bufs _ => allBelow (2 ^ 64) bufs
  | .exceptionDeliver bufs _ => allBelow (2 ^ 64) bufs
  | .hevAck req v => decide (req < 7) && decide (v < 64)
  | .smbusIdentity => true
  | .smbusStatus => true
  | .smbusTemperature => true
  | .smbusPower power => decide (power < 2 ^ 16)
  | .smbusLkoTop => true
  | .smbusAddress a => decide (a < 128)
  | .avsRetry _ => true
  | .agingMonitor ppm margin target => decide (ppm < 2 ^ 16) && decide (margin < 2 ^ 16) && decide (target < 4096)
  | .icSgi req q => decide (req < 7) && decide (q < 512)
  | .icTmr n => decide (n < 4)
  | .interruptEntry n rival => decide (n < 4) && decide (rival < 5)
  | .returnFromInterrupt n rival => decide (n < 4) && decide (rival < 5)
  | .icEoi req n q => decide (req < 7) && decide (n < 4) && decide (q < 512)
  | .errorReport page src index _ => decide (page < 4096) && decide (src < 16) && decide (index < 2 ^ 20)
  | .reportDecide => true
  | .errWindowClose page src => decide (page < 4096) && decide (src < 16)
  | .echoWindowEnd page => decide (page < 4096)
  | .remap res => decide (res < 2 ^ 24)
  | .otpRepairWrite => true
  | .aliveToggle => true
  | .collectorFault => true
  | .railOutOfTolerance => true
  | .junctionOverLimit sensor temp => decide (sensor < 16) && decide (temp < 2 ^ 16)
  | .thermTripN => true
  | .clockLoss i => decide (i < 5)
  | .clockReturn r => decide (r.i < 5)
  | .firstVerdict present _ => decide (present < 32)
  | .bypass => true
  | .idcode => true
  | .samplePreload => true
  | .extest => true
  | .clamp => true
  | .highz => true
  | .pllLock page k => decide (0x180 ≤ page) && decide (page < 0x1C0) && page % 2 == 0 && decide (k < 2)
  | .pcieLinkTraining => true
  | .rxLpi p _ => decide (p < 256)
  | .upstreamChange => true
  | .vddKeepFall => true
  | .keepclkLoss => true
  | .testEn _ => true
  | .itrUsExpiry r => decide (r < 32)
  | .hmbDone slot _ _ data => decide (slot < 2) && bytesOk data

end Sys2Proof
end

