-- ==== Sys2Proof/Machine/Dispatch.lean ====
section
/-!
DEFINITION. Which meaning runs for which command.
-/

namespace Sys2Proof.Machine
open Sys2Proof

/-- The effect of one command on everything but the queue. -/
def exec (i : Instr) (s : State) : Host.Outcome State Fault Refusal :=
  match i with
  | .registerWrite req a size v => Sys2Proof.Machine.execRegisterWrite req a size v s
  | .liveValueApply a => Sys2Proof.Machine.execLiveValueApply a s
  | .commit req page => Sys2Proof.Machine.execCommit req page s
  | .shadowApply page => Sys2Proof.Machine.execShadowApply page s
  | .discard req page => Sys2Proof.Machine.execDiscard req page s
  | .epochBind req page b => Sys2Proof.Machine.execEpochBind req page b s
  | .snapshot req page => Sys2Proof.Machine.execSnapshot req page s
  | .snapClear req page => Sys2Proof.Machine.execSnapClear req page s
  | .snapshotComplete page => Sys2Proof.Machine.execSnapshotComplete page s
  | .softReset req page => Sys2Proof.Machine.execSoftReset req page s
  | .softResetComplete page => Sys2Proof.Machine.execSoftResetComplete page s
  | .quiesce req page b => Sys2Proof.Machine.execQuiesce req page b s
  | .quiesceComplete page => Sys2Proof.Machine.execQuiesceComplete page s
  | .enable req page b => Sys2Proof.Machine.execEnable req page b s
  | .refusedClear req page => Sys2Proof.Machine.execRefusedClear req page s
  | .errStsClear req page mask => Sys2Proof.Machine.execErrStsClear req page mask s
  | .errInject req page src cls => Sys2Proof.Machine.execErrInject req page src cls s
  | .lowWordWrite req a v => Sys2Proof.Machine.execLowWordWrite req a v s
  | .highWordWrite req a v => Sys2Proof.Machine.execHighWordWrite req a v s
  | .lowWordRead req a => Sys2Proof.Machine.execLowWordRead req a s
  | .highWordRead req a => Sys2Proof.Machine.execHighWordRead req a s
  | .rcLagRead req => Sys2Proof.Machine.execRcLagRead req s
  | .taeHsqTail req v => Sys2Proof.Machine.execTaeHsqTail req v s
  | .taeHcqHead req v => Sys2Proof.Machine.execTaeHcqHead req v s
  | .insert q ecc => Sys2Proof.Machine.execInsert q ecc s
  | .delete q ecc => Sys2Proof.Machine.execDelete q ecc s
  | .modify q ecc => Sys2Proof.Machine.execModify q ecc s
  | .search q ecc => Sys2Proof.Machine.execSearch q ecc s
  | .write q ecc => Sys2Proof.Machine.execWrite q ecc s
  | .read q ecc => Sys2Proof.Machine.execRead q ecc s
  | .readClear q ecc => Sys2Proof.Machine.execReadClear q ecc s
  | .setMemb q ecc => Sys2Proof.Machine.execSetMemb q ecc s
  | .fence q ecc => Sys2Proof.Machine.execFence q ecc s
  | .macCfg req p v => Sys2Proof.Machine.execMacCfg req p v s
  | .autoNegotiation p types fec eee => Sys2Proof.Machine.execAutoNegotiation p types fec eee s
  | .linkTraining p ok => Sys2Proof.Machine.execLinkTraining p ok s
  | .linkUp p snr => Sys2Proof.Machine.execLinkUp p snr s
  | .linkDown p => Sys2Proof.Machine.execLinkDown p s
  | .pllLossOfLock page k => Sys2Proof.Machine.execPllLossOfLock page k s
  | .frameReceive p part last => Sys2Proof.Machine.execFrameReceive p part last s
  | .pause p q => Sys2Proof.Machine.execPause p q s
  | .pfc p en qs => Sys2Proof.Machine.execPfc p en qs s
  | .pauseTimerExpire p x => Sys2Proof.Machine.execPauseTimerExpire p x s
  | .pauseStorm p x => Sys2Proof.Machine.execPauseStorm p x s
  | .ignoreExpire p x => Sys2Proof.Machine.execIgnoreExpire p x s
  | .fcFrameSend p => Sys2Proof.Machine.execFcFrameSend p s
  | .fcRefresh p x => Sys2Proof.Machine.execFcRefresh p x s
  | .lpiEnter p => Sys2Proof.Machine.execLpiEnter p s
  | .lpiWake p => Sys2Proof.Machine.execLpiWake p s
  | .hello p recv => Sys2Proof.Machine.execHello p recv s
  | .shedReq p recv target seq nonce => Sys2Proof.Machine.execShedReq p recv target seq nonce s
  | .shedAck p => Sys2Proof.Machine.execShedAck p s
  | .shedNak p => Sys2Proof.Machine.execShedNak p s
  | .wakeReq p recv seq nonce => Sys2Proof.Machine.execWakeReq p recv seq nonce s
  | .wakeAck p => Sys2Proof.Machine.execWakeAck p s
  | .utilisationWindow p => Sys2Proof.Machine.execUtilisationWindow p s
  | .coppiceTimeout p nonce => Sys2Proof.Machine.execCoppiceTimeout p nonce s
  | .frameTransmit p under => Sys2Proof.Machine.execFrameTransmit p under s
  | .headEnqueue src => Sys2Proof.Machine.execHeadEnqueue src s
  | .dispatchGrant => Sys2Proof.Machine.execDispatchGrant s
  | .parseWalk k => Sys2Proof.Machine.execParseWalk k s
  | .holdTimeout => Sys2Proof.Machine.execHoldTimeout s
  | .fragAged => Sys2Proof.Machine.execFragAged s
  | .fragSeed req v => Sys2Proof.Machine.execFragSeed req v s
  | .pguNodeRead req bank node => Sys2Proof.Machine.execPguNodeRead req bank node s
  | .pguNodeWrite req bank node => Sys2Proof.Machine.execPguNodeWrite req bank node s
  | .dispatchEntry t => Sys2Proof.Machine.execDispatchEntry t s
  | .aluNop eng slot => Sys2Proof.Machine.execAluNop eng slot s
  | .aluMov eng slot => Sys2Proof.Machine.execAluMov eng slot s
  | .aluAdd eng slot => Sys2Proof.Machine.execAluAdd eng slot s
  | .aluSub eng slot => Sys2Proof.Machine.execAluSub eng slot s
  | .aluAnd eng slot => Sys2Proof.Machine.execAluAnd eng slot s
  | .aluOr eng slot => Sys2Proof.Machine.execAluOr eng slot s
  | .aluXor eng slot => Sys2Proof.Machine.execAluXor eng slot s
  | .aluAndn eng slot => Sys2Proof.Machine.execAluAndn eng slot s
  | .aluShl eng slot => Sys2Proof.Machine.execAluShl eng slot s
  | .aluShr eng slot => Sys2Proof.Machine.execAluShr eng slot s
  | .aluRor eng slot => Sys2Proof.Machine.execAluRor eng slot s
  | .aluExt eng slot => Sys2Proof.Machine.execAluExt eng slot s
  | .aluIns eng slot => Sys2Proof.Machine.execAluIns eng slot s
  | .aluMin eng slot => Sys2Proof.Machine.execAluMin eng slot s
  | .aluMax eng slot => Sys2Proof.Machine.execAluMax eng slot s
  | .aluCmp eng slot => Sys2Proof.Machine.execAluCmp eng slot s
  | .aluLdp eng slot => Sys2Proof.Machine.execAluLdp eng slot s
  | .aluLdh eng slot => Sys2Proof.Machine.execAluLdh eng slot s
  | .aluLdl eng slot => Sys2Proof.Machine.execAluLdl eng slot s
  | .aluLdm eng slot => Sys2Proof.Machine.execAluLdm eng slot s
  | .aluStm eng slot => Sys2Proof.Machine.execAluStm eng slot s
  | .aluHash eng slot => Sys2Proof.Machine.execAluHash eng slot s
  | .aluPopc eng slot => Sys2Proof.Machine.execAluPopc eng slot s
  | .aluFfs eng slot => Sys2Proof.Machine.execAluFfs eng slot s
  | .aluLdt eng slot => Sys2Proof.Machine.execAluLdt eng slot s
  | .seqCont eng => Sys2Proof.Machine.execSeqCont eng s
  | .seqTwoway eng => Sys2Proof.Machine.execSeqTwoway eng s
  | .seqDisp4 eng => Sys2Proof.Machine.execSeqDisp4 eng s
  | .seqDisp16 eng => Sys2Proof.Machine.execSeqDisp16 eng s
  | .seqCall eng => Sys2Proof.Machine.execSeqCall eng s
  | .seqReturn eng => Sys2Proof.Machine.execSeqReturn eng s
  | .seqWait eng => Sys2Proof.Machine.execSeqWait eng s
  | .seqEnd eng => Sys2Proof.Machine.execSeqEnd eng s
  | .seqAbandon eng => Sys2Proof.Machine.execSeqAbandon eng s
  | .restart => Sys2Proof.Machine.execRestart s
  | .lookupEmt eng ecc kind x => Sys2Proof.Machine.execLookupEmt eng ecc kind x s
  | .lookupThicket eng ecc => Sys2Proof.Machine.execLookupThicket eng ecc s
  | .lookupResult t grp => Sys2Proof.Machine.execLookupResult t grp s
  | .hdrSet eng => Sys2Proof.Machine.execHdrSet eng s
  | .hdrPush eng => Sys2Proof.Machine.execHdrPush eng s
  | .hdrPop eng => Sys2Proof.Machine.execHdrPop eng s
  | .hdrInc eng => Sys2Proof.Machine.execHdrInc eng s
  | .hdrDec eng => Sys2Proof.Machine.execHdrDec eng s
  | .hdrCsum4 eng => Sys2Proof.Machine.execHdrCsum4 eng s
  | .hdrUdp0 eng => Sys2Proof.Machine.execHdrUdp0 eng s
  | .memCnt eng => Sys2Proof.Machine.execMemCnt eng s
  | .memPol eng ecc => Sys2Proof.Machine.execMemPol eng ecc s
  | .memCtxRd eng ecc => Sys2Proof.Machine.execMemCtxRd eng ecc s
  | .memCtxWrt eng => Sys2Proof.Machine.execMemCtxWrt eng s
  | .memCtxWrl eng => Sys2Proof.Machine.execMemCtxWrl eng s
  | .memCtxAdd eng => Sys2Proof.Machine.execMemCtxAdd eng s
  | .memLearn eng => Sys2Proof.Machine.execMemLearn eng s
  | .contextLockGrant x => Sys2Proof.Machine.execContextLockGrant x s
  | .dispFwd eng => Sys2Proof.Machine.execDispFwd eng s
  | .dispClass eng => Sys2Proof.Machine.execDispClass eng s
  | .dispColour eng => Sys2Proof.Machine.execDispColour eng s
  | .dispMirror eng => Sys2Proof.Machine.execDispMirror eng s
  | .dispOam eng => Sys2Proof.Machine.execDispOam eng s
  | .dispRestore eng => Sys2Proof.Machine.execDispRestore eng s
  | .dispCommit eng => Sys2Proof.Machine.execDispCommit eng s
  | .dispDrop eng => Sys2Proof.Machine.execDispDrop eng s
  | .dispToHost eng => Sys2Proof.Machine.execDispToHost eng s
  | .dispRecirc eng => Sys2Proof.Machine.execDispRecirc eng s
  | .commitAccept t x6 x7 x8 => Sys2Proof.Machine.execCommitAccept t x6 x7 x8 s
  | .reorderRelease k => Sys2Proof.Machine.execReorderRelease k s
  | .lqHead req v => Sys2Proof.Machine.execLqHead req v s
  | .emtTblGeo req t v => Sys2Proof.Machine.execEmtTblGeo req t v s
  | .tableClearDone t => Sys2Proof.Machine.execTableClearDone t s
  | .agingSweep t => Sys2Proof.Machine.execAgingSweep t s
  | .thkTblCfg req t v => Sys2Proof.Machine.execThkTblCfg req t v s
  | .thkTableClearDone t => Sys2Proof.Machine.execThkTableClearDone t s
  | .shiftMove t c => Sys2Proof.Machine.execShiftMove t c s
  | .thicketScrub bad => Sys2Proof.Machine.execThicketScrub bad s
  | .thkRowRepair bank row => Sys2Proof.Machine.execThkRowRepair bank row s
  | .csScrub g q ecc => Sys2Proof.Machine.execCsScrub g q ecc s
  | .csRepair g q a => Sys2Proof.Machine.execCsRepair g q a s
  | .grvCsWr req g addr => Sys2Proof.Machine.execGrvCsWr req g addr s
  | .grvCsRd req g copy addr => Sys2Proof.Machine.execGrvCsRd req g copy addr s
  | .grvCsCrc req g v => Sys2Proof.Machine.execGrvCsCrc req g v s
  | .inService req g v => Sys2Proof.Machine.execInService req g v s
  | .fenced req g v => Sys2Proof.Machine.execFenced req g v s
  | .drainTimeout g => Sys2Proof.Machine.execDrainTimeout g s
  | .epochCommit req e => Sys2Proof.Machine.execEpochCommit req e s
  | .epochArm req e chain target => Sys2Proof.Machine.execEpochArm req e chain target s
  | .epochDisarm req chain target => Sys2Proof.Machine.execEpochDisarm req chain target s
  | .epochArmFire => Sys2Proof.Machine.execEpochArmFire s
  | .epochRetire => Sys2Proof.Machine.execEpochRetire s
  | .cellPush b => Sys2Proof.Machine.execCellPush b s
  | .residueVisit => Sys2Proof.Machine.execResidueVisit s
  | .residueExpire => Sys2Proof.Machine.execResidueExpire s
  | .wpAudit req => Sys2Proof.Machine.execWpAudit req s
  | .auditDone => Sys2Proof.Machine.execAuditDone s
  | .selection g => Sys2Proof.Machine.execSelection g s
  | .schRead req ty x => Sys2Proof.Machine.execSchRead req ty x s
  | .schWrite req ty x => Sys2Proof.Machine.execSchWrite req ty x s
  | .flush req ty x => Sys2Proof.Machine.execFlush req ty x s
  | .wheelRelease => Sys2Proof.Machine.execWheelRelease s
  | .policerRefresh x ecc => Sys2Proof.Machine.execPolicerRefresh x ecc s
  | .gateRead req ty x => Sys2Proof.Machine.execGateRead req ty x s
  | .gateWrite req ty x => Sys2Proof.Machine.execGateWrite req ty x s
  | .configurationChange req ty x => Sys2Proof.Machine.execConfigurationChange req ty x s
  | .configChangeTake p => Sys2Proof.Machine.execConfigChangeTake p s
  | .gateEntryAdvance p => Sys2Proof.Machine.execGateEntryAdvance p s
  | .gateEn req m v => Sys2Proof.Machine.execGateEn req m v s
  | .timeRead req => Sys2Proof.Machine.execTimeRead req s
  | .timeSet req => Sys2Proof.Machine.execTimeSet req s
  | .timeAdd req => Sys2Proof.Machine.execTimeAdd req s
  | .timerefLoss => Sys2Proof.Machine.execTimerefLoss s
  | .timerefRelock mhz25 => Sys2Proof.Machine.execTimerefRelock mhz25 s
  | .tref25 req b => Sys2Proof.Machine.execTref25 req b s
  | .ppsIn => Sys2Proof.Machine.execPpsIn s
  | .ppsOut => Sys2Proof.Machine.execPpsOut s
  | .squelched n => Sys2Proof.Machine.execSquelched n s
  | .txts3 req => Sys2Proof.Machine.execTxts3 req s
  | .svcCfg req v => Sys2Proof.Machine.execSvcCfg req v s
  | .timerFire x => Sys2Proof.Machine.execTimerFire x s
  | .timerInject => Sys2Proof.Machine.execTimerInject s
  | .tmrRead req x => Sys2Proof.Machine.execTmrRead req x s
  | .tmrWrite req x => Sys2Proof.Machine.execTmrWrite req x s
  | .bfdTick t b => Sys2Proof.Machine.execBfdTick t b s
  | .bfdReceive t off b => Sys2Proof.Machine.execBfdReceive t off b s
  | .ccmTick t cfg own cnt => Sys2Proof.Machine.execCcmTick t cfg own cnt s
  | .cfmReceive t ecc kind x c0 c1 c2 c3 => Sys2Proof.Machine.execCfmReceive t ecc kind x c0 c1 c2 c3 s
  | .lmDmTick t cfg cnt => Sys2Proof.Machine.execLmDmTick t cfg cnt s
  | .firmwareLearn => Sys2Proof.Machine.execFirmwareLearn s
  | .rootwayFrameReceive l => Sys2Proof.Machine.execRootwayFrameReceive l s
  | .discover recv => Sys2Proof.Machine.execDiscover recv s
  | .assignId => Sys2Proof.Machine.execAssignId s
  | .regWrite => Sys2Proof.Machine.execRegWrite s
  | .regRead => Sys2Proof.Machine.execRegRead s
  | .regResp => Sys2Proof.Machine.execRegResp s
  | .tableOp => Sys2Proof.Machine.execTableOp s
  | .event recv page => Sys2Proof.Machine.execEvent recv page s
  | .epochArmMessage => Sys2Proof.Machine.execEpochArmMessage s
  | .epochAck => Sys2Proof.Machine.execEpochAck s
  | .managerHeartbeat recv => Sys2Proof.Machine.execManagerHeartbeat recv s
  | .linkHeartbeat l recv => Sys2Proof.Machine.execLinkHeartbeat l recv s
  | .imageChunk => Sys2Proof.Machine.execImageChunk s
  | .rwRtx l => Sys2Proof.Machine.execRwRtx l s
  | .rootwayDown l => Sys2Proof.Machine.execRootwayDown l s
  | .orphan => Sys2Proof.Machine.execOrphan s
  | .rwTimeout => Sys2Proof.Machine.execRwTimeout s
  | .rwTxrTail req v => Sys2Proof.Machine.execRwTxrTail req v s
  | .trSwitch req p trail maxlen => Sys2Proof.Machine.execTrSwitch req p trail maxlen s
  | .trSwitchComplete => Sys2Proof.Machine.execTrSwitchComplete s
  | .coldReset mode boot bpgen lngen => Sys2Proof.Machine.execColdReset mode boot bpgen lngen s
  | .rstN high mode boot bpgen lngen => Sys2Proof.Machine.execRstN high mode boot bpgen lngen s
  | .devRst req key warm => Sys2Proof.Machine.execDevRst req key warm s
  | .boot auth flashOk => Sys2Proof.Machine.execBoot auth flashOk s
  | .status slot => Sys2Proof.Machine.execStatus slot s
  | .fetch slot => Sys2Proof.Machine.execFetch slot s
  | .verifyLoad slot => Sys2Proof.Machine.execVerifyLoad slot s
  | .activate slot => Sys2Proof.Machine.execActivate slot s
  | .restartCore slot => Sys2Proof.Machine.execRestartCore slot s
  | .lockCommand slot => Sys2Proof.Machine.execLockCommand slot s
  | .commitSvn slot => Sys2Proof.Machine.execCommitSvn slot s
  | .flashWrite slot => Sys2Proof.Machine.execFlashWrite slot s
  | .flashErase slot => Sys2Proof.Machine.execFlashErase slot s
  | .safeState slot => Sys2Proof.Machine.execSafeState slot s
  | .swKick n v => Sys2Proof.Machine.execSwKick n v s
  | .sapwoodWatchdog n => Sys2Proof.Machine.execSapwoodWatchdog n s
  | .heartwoodWatchdog patchOk => Sys2Proof.Machine.execHeartwoodWatchdog patchOk s
  | .apiCmdTail req v => Sys2Proof.Machine.execApiCmdTail req v s
  | .counterRead tag page buf => Sys2Proof.Machine.execCounterRead tag page buf s
  | .rootwaySend tag msg => Sys2Proof.Machine.execRootwaySend tag msg s
  | .sessionAdd tag mep n x tm blk => Sys2Proof.Machine.execSessionAdd tag mep n x tm blk s
  | .sessionDel tag mep n => Sys2Proof.Machine.execSessionDel tag mep n s
  | .tableFlushPort tag port => Sys2Proof.Machine.execTableFlushPort tag port s
  | .fwInfo tag => Sys2Proof.Machine.execFwInfo tag s
  | .hostLinkReset perst => Sys2Proof.Machine.execHostLinkReset perst s
  | .ringTail recv x v => Sys2Proof.Machine.execRingTail recv x v s
  | .hostTxFetch ready lens flags data err => Sys2Proof.Machine.execHostTxFetch ready lens flags data err s
  | .hostRxDeliver bufs err => Sys2Proof.Machine.execHostRxDeliver bufs err s
  | .exceptionDeliver bufs err => Sys2Proof.Machine.execExceptionDeliver bufs err s
  | .hevAck req v => Sys2Proof.Machine.execHevAck req v s
  | .smbusIdentity => Sys2Proof.Machine.execSmbusIdentity s
  | .smbusStatus => Sys2Proof.Machine.execSmbusStatus s
  | .smbusTemperature => Sys2Proof.Machine.execSmbusTemperature s
  | .smbusPower power => Sys2Proof.Machine.execSmbusPower power s
  | .smbusLkoTop => Sys2Proof.Machine.execSmbusLkoTop s
  | .smbusAddress a => Sys2Proof.Machine.execSmbusAddress a s
  | .avsRetry ok => Sys2Proof.Machine.execAvsRetry ok s
  | .agingMonitor ppm margin target => Sys2Proof.Machine.execAgingMonitor ppm margin target s
  | .icSgi req q => Sys2Proof.Machine.execIcSgi req q s
  | .icTmr n => Sys2Proof.Machine.execIcTmr n s
  | .interruptEntry n rival => Sys2Proof.Machine.execInterruptEntry n rival s
  | .returnFromInterrupt n rival => Sys2Proof.Machine.execReturnFromInterrupt n rival s
  | .icEoi req n q => Sys2Proof.Machine.execIcEoi req n q s
  | .errorReport page src index partner => Sys2Proof.Machine.execErrorReport page src index partner s
  | .reportDecide => Sys2Proof.Machine.execReportDecide s
  | .errWindowClose page src => Sys2Proof.Machine.execErrWindowClose page src s
  | .echoWindowEnd page => Sys2Proof.Machine.execEchoWindowEnd page s
  | .remap res => Sys2Proof.Machine.execRemap res s
  | .otpRepairWrite => Sys2Proof.Machine.execOtpRepairWrite s
  | .aliveToggle => Sys2Proof.Machine.execAliveToggle s
  | .collectorFault => Sys2Proof.Machine.execCollectorFault s
  | .railOutOfTolerance => Sys2Proof.Machine.execRailOutOfTolerance s
  | .junctionOverLimit sensor temp => Sys2Proof.Machine.execJunctionOverLimit sensor temp s
  | .thermTripN => Sys2Proof.Machine.execThermTripN s
  | .clockLoss x => Sys2Proof.Machine.execClockLoss x s
  | .clockReturn r => Sys2Proof.Machine.execClockReturn r s
  | .firstVerdict present mhz25 => Sys2Proof.Machine.execFirstVerdict present mhz25 s
  | .bypass => Sys2Proof.Machine.execBypass s
  | .idcode => Sys2Proof.Machine.execIdcode s
  | .samplePreload => Sys2Proof.Machine.execSamplePreload s
  | .extest => Sys2Proof.Machine.execExtest s
  | .clamp => Sys2Proof.Machine.execClamp s
  | .highz => Sys2Proof.Machine.execHighz s
  | .pllLock page k => Sys2Proof.Machine.execPllLock page k s
  | .pcieLinkTraining => Sys2Proof.Machine.execPcieLinkTraining s
  | .rxLpi p on => Sys2Proof.Machine.execRxLpi p on s
  | .upstreamChange => Sys2Proof.Machine.execUpstreamChange s
  | .vddKeepFall => Sys2Proof.Machine.execVddKeepFall s
  | .keepclkLoss => Sys2Proof.Machine.execKeepclkLoss s
  | .testEn high => Sys2Proof.Machine.execTestEn high s
  | .itrUsExpiry r => Sys2Proof.Machine.execItrUsExpiry r s
  | .hmbDone slot ok auth data => Sys2Proof.Machine.execHmbDone slot ok auth data s

end Sys2Proof.Machine
end

