-- ==== Sys2Proof/Machine/Hic.lean ====
section
/-!
DEFINITION. Heartwood's private interrupt controller at work (R400): presentation, claim, entry and exit of its single core, one
KCLK cycle at a time (R388 to R395), and the moves of the VDD_CORE target (R384).
-/

namespace Sys2Proof.Machine
open Sys2Proof

/-! ### Presentation (R388, R389) -/

/-- The line of a level source: the safe state, a lost clock, an error of page 0x1C8, a request that waits in a slot (R400; log
entry 128, DESIGN CHOICE). -/
def hicLine (s : State) (q : Nat) : Bool :=
  let waits (slot : Nat) : Bool := match mfind s.hw.req slot with | some r => decide (r.1 < 256) | none => false
  match q with
  | 1 => safe s
  | 3 => s.pin.verdict && !s.pin.lost.isEmpty
  | 4 => reg s (pa pgPt offERR_STS) != 0
  | 5 => waits 0
  | 6 => waits 1
  | _ => false

/-- Whether a source is PENDING or ACTIVE_PENDING. -/
def hicPending (s : State) (q : Nat) : Bool :=
  if hicEdge q then s.hw.hic.latch.contains q else !s.hw.hic.active.contains q && hicLine s q

/-- Whether a source may be presented: pending, not ACTIVE, its priority more urgent than RP. -/
def hicMay (s : State) (q : Nat) : Bool :=
  hicPending s q && !s.hw.hic.active.contains q && decide (Config.hicPrio q % 16 < s.hw.hic.rp)

/-- The source presented to the core: of the assigned ones the lowest priority number, then the lowest source number. -/
def hicPresented (s : State) : Option Nat :=
  (sortBy (fun q => Config.hicPrio q % 16 * 64 + q) (((List.range 17).drop 1).filter (hicMay s))).head?

/-! ### Entry and exit (R390 to R394) -/

/-- Replaces the controller's state. -/
def setHic (h : HicSt) (s : State) : State := { s with hw := { s.hw with hic := h } }

/-- The claim: the source presented, or 0 where a level source has vanished; it becomes ACTIVE and RP is its priority. -/
def hicClaim (s : State) : Nat × HicSt :=
  let h := s.hw.hic
  match hicPresented s with
  | none => (0, h)
  | some q => (q, { h with latch := nsErase h.latch q, active := nsInsert h.active q, rp := Config.hicPrio q % 16 })

/-- The innermost handler begins; how long it takes is a free value (R400; log entry 128, DESIGN CHOICE). -/
def hicBegin (h : HicSt) (s : State) : State :=
  let frames := match h.frames with
    | [] => []
    | f :: fs => { f with fin := kNow s + freeNow s } :: fs
  freeNext (setHic { h with frames := frames, phase := .run } s)

/-- At an instruction boundary: a presented source is taken; otherwise a handler that is over completes its source and returns,
restoring RP. -/
def hicBoundary (s : State) : State :=
  let h := s.hw.hic
  if (hicPresented s).isSome then setHic { h with phase := .entry 0 } s
  else match h.frames with
    | [] => s
    | f :: _ =>
      if kNow s < f.fin then s
      else setHic { h with active := nsErase h.active f.src, rp := f.rp, phase := .exit 0 } s

/-- One KCLK of the core: of an entry the claim comes in cycle 9 and the handler at 12; of an exit the chain decision comes in
cycle 1, a chained claim in 2 and its handler at 5, the boundary without a chain at 10 (R391, R393). -/
def hicTick (s : State) : State :=
  let h := s.hw.hic
  if s.hw.downTill.isSome || !s.pin.keepClk then s
  else match h.phase with
    | .run => hicBoundary s
    | .entry c =>
      if c = 8 then
        let r := hicClaim s
        setHic { r.2 with frames := ⟨r.1, h.rp, 0⟩ :: h.frames, phase := .entry 9 } s
      else if c = 11 then hicBegin h s
      else setHic { h with phase := .entry (c + 1) } s
    | .exit c =>
      if c = 0 && (hicPresented s).isSome then setHic { h with phase := .chain 1 } s
      else if c = 9 then setHic { h with frames := h.frames.drop 1, phase := .run } s
      else setHic { h with phase := .exit (c + 1) } s
    | .chain c =>
      if c = 1 then
        let r := hicClaim s
        setHic { r.2 with frames := (match h.frames with | [] => [] | f :: fs => { f with src := r.1 } :: fs),
                          phase := .chain 2 } s
      else if c = 4 then hicBegin h s
      else setHic { h with phase := .chain (c + 1) } s

/-! ### AVS steps (R384, R451) -/

/-- TARGET_MV moves towards the target that Heartwood has set, by at most 5 mV in 10 µs. -/
def avsMove (s : State) : State :=
  let a := pa pgPt offPT_AVS
  let t := regF s a fPT_AVS_TARGET_MV
  if s.hw.avsGoal ≤ t || s.hw.downTill.isSome || !s.pin.keepClk || kNow s < s.hw.avsMoved + 10 * tUs then s
  else setRegF a fPT_AVS_TARGET_MV (Nat.min s.hw.avsGoal (t + 5)) { s with hw := { s.hw with avsMoved := kNow s } }

end Sys2Proof.Machine
end

