-- ==== Sys2Proof/Machine/Step.lean ====
section
/-!
DEFINITION. One step of the device: the command at the front of the queue, or one tick of its clocks when none waits.
-/

namespace Sys2Proof.Machine
open Sys2Proof

/-- What one KCLK period brings on KCLK and TCLK alone. -/
def idleK (s : State) : State := tick (hicTick (avsMove s))

/-- With no command waiting one KCLK period passes; a device held in reset does not run, and without SYSCLK only what KCLK and
TCLK drive goes on (R454; log entry 1, DESIGN CHOICE). -/
def idle (s : State) : State :=
  if held s then s
  else if clkStopped s then idleK s
  else txrSend (gatesSettle (pguSettle (idleK (transMendAll (eeeWatch s)))))

/-- The command at the front of the queue takes its effect with the rest of the queue waiting. -/
def step (s : State) : Host.Outcome State Fault Refusal :=
  match s.pending with
  | [] => .next (idle s)
  | c :: rest => exec c { s with pending := rest }

/-- The state with the command that a table word spells at the front of its queue; unchanged where it spells none. -/
def State.withFetchWord (s : State) (nbits w : Nat) : State :=
  match decodeTableWord nbits w with
  | some c => { s with pending := c :: s.pending }
  | none => s

end Sys2Proof.Machine
end

