-- ==== Sys2Proof/Safety.lean ====
section
/-!
DEFINITION. What counts as a safe run, and the properties that every step keeps.
-/

namespace Sys2Proof.Machine
open Sys2Proof

/-- `k` steps that all answer a next state. -/
def runs : Nat → State → Option State
  | 0, s => some s
  | k + 1, s => match step s with
    | .next t => runs k t
    | _ => none

/-- Every waiting command is well formed. -/
def queueOk (s : State) : Prop := ∀ c ∈ s.pending, wellFormed c = true

/-- What R430 says of a device reset: FAULT_N released, ALIVE low, PCIe not trained, every transmitter idle; and nothing of the
packet path is left. -/
def QuietNow (s : State) : Prop :=
  s.pin.fault = false ∧ s.pin.alive = false ∧ s.pin.pcieUp = false ∧ s.ports.port = [] ∧ s.disp.passes = [] ∧ s.clr.desc = []

/-- A device held in reset is as R430 says. -/
def resetQuiet (s : State) : Prop := held s = true → QuietNow s

/-! ### The words the statements are written in -/

/-- A command is answered with a next state of which `P` holds. -/
def Gives (c : Instr) (s : State) (P : State → Prop) : Prop := ∃ t, exec c s = .next t ∧ P t

/-- Nothing changed but register words, and of those only the ones in `l`. -/
def OnlyRegs (l : List Nat) (s t : State) : Prop :=
  t = { s with bus := { s.bus with regs := t.bus.regs } } ∧ ∀ a, a ∉ l → reg t a = reg s a

/-- Each counter listed went up by the number beside it, up to its top (R45); no other counter changed. -/
def Counts (l : List (Nat × Nat)) (s t : State) : Prop :=
  ∀ a, ctr t a = match mfind l a with
    | some n => Nat.min maxCtr (ctr s a + n)
    | none => ctr s a

/-- No register word changed. -/
def SameRegs (s t : State) : Prop := ∀ a, reg t a = reg s a

/-- No port but `p` changed. -/
def OtherPorts (p : Nat) (s t : State) : Prop := ∀ q, q ≠ p → port t q = port s q

/-- No timer of port `p` but `i` changed. -/
def OtherTimers (p i : Nat) (s t : State) : Prop := ∀ j, j ≠ i → fcTimer t p j = fcTimer s p j

/-- A 32-bit write reaches the device, and its page accepts it (R38, R39, R378). -/
def accepts (s : State) (req a : Nat) (v : Word) : Bool :=
  reaches s req && (match kindOf (pageOf a), rowAt a with
    | some k, some r => (refusal req k (pageOf a) [(a, r, v)] s).isNone
    | _, _ => false)

/-- A 32-bit write of the block register at offset `off` of a page is refused: nothing changes but the page's PAGE_STS.REFUSED and
WRITE_REFUSED, which hold the first refusal since they were cleared (R39). -/
def RefusedWith (req page off : Nat) (v : Word) (why : Nat) (s : State) : Prop :=
  Gives (.registerWrite req (pa page off) 4 v.toNat) s (fun t =>
    regB t (pa page offSts) fPAGE_STS_REFUSED = true ∧
    (regB s (pa page offSts) fPAGE_STS_REFUSED = false →
      fget (reg t (pa page offWRITE_REFUSED)) fWRITE_REFUSED_REASON = why ∧
      fget (reg t (pa page offWRITE_REFUSED)) fWRITE_REFUSED_OFFSET = off) ∧
    OnlyRegs [pa page offSts, pa page offWRITE_REFUSED] s t)

/-- After a write of `v` every RW field of the register at `a` holds what was written to it. -/
def Written (a : Nat) (v : Word) (t : State) : Prop :=
  ∃ r, rowAt a = some r ∧ ∀ f ∈ r.fields, f.acc = .rw → fget (reg t a) (frFld f) = fget v (frFld f)

/-! ### Routines: the word in progress -/

/-- A thread as a field of its word sees it: a word that begins is counted, with registers and flags kept as they stood
before it (R181, R183). -/
def wordThread (s : State) (t : Nat) : Thread :=
  let th := thread s t
  if th.done.isEmpty then
    { th with issued := th.issued + 1, oldW := th.w, oldZ := th.flagZ, oldN := th.flagN, oldC := th.flagC, oldV := th.flagV }
  else th

/-- The word of a thread does not end its attempt as it begins: its control-store word is readable, and it is not the 512th
without END (R172, R181). -/
def wordGoesOn (s : State) (t : Nat) : Bool :=
  let th := thread s t
  !th.done.isEmpty || (!s.grv.csBad.contains (csCopyKey (thGrove t) (thEng t / 4) th.pc) &&
    (decide (th.issued + 1 ≠ 512) || mwSeq (wordOf s t) == 7))

/-- Field k (ALU_A, ALU_B, LOOKUP, HEADER, MEM, DISPOSITION) of the word that an engine issues for thread t is of the form
asked for and acts next (R178, R183). -/
def FieldReady (s : State) (eng k t : Nat) (ok : Nat → Bool) : Prop :=
  issuing s eng = some t ∧ ok (wordOf s t) = true ∧ fieldDue (thread s t) (wordOf s t) k = true ∧ wordGoesOn s t = true

/-- The word that an engine issues for thread t has this sequencing, and its other fields have acted (R183, R185). -/
def SeqReady (s : State) (eng seq t : Nat) : Prop :=
  issuing s eng = some t ∧ mwSeq (wordOf s t) = seq ∧
  (∀ j, j < 6 → fieldNop (wordOf s t) j = true ∨ (thread s t).done.contains j = true) ∧ wordGoesOn s t = true

/-- The service counters (R334) lie apart from the pairs of drops and of admission, which software places (R274, R275, R285). -/
def svcPairsApart (s : State) : Prop :=
  (liveF s (pa pgClr offCLR_CNT_BASE) fCLR_CNT_BASE_BASE + 4160 ≤ 0x75FE0 ∨
    0x76000 ≤ liveF s (pa pgClr offCLR_CNT_BASE) fCLR_CNT_BASE_BASE) ∧
  (liveF s (pa pgSch offSCH_CNT_BASE) fSCH_CNT_BASE_BASE + 32768 ≤ 0x75FE0 ∨
    0x76000 ≤ liveF s (pa pgSch offSCH_CNT_BASE) fSCH_CNT_BASE_BASE)

/-- Nothing changed but thread t, the count of issues where a word began, and the round-robin place of its engine. -/
def OnlyThread (t : Nat) (s u : State) : Prop :=
  (∀ x, x ≠ t → thread u x = thread s x) ∧
  Counts (if (thread s t).done.isEmpty then [(pa (grvPage (thGrove t)) cGrv_ISSUES, 1)] else []) s u ∧
  u = { s with bus := { s.bus with ctr := u.bus.ctr }, grv := { s.grv with threads := u.grv.threads, last := u.grv.last } }

/-- An ALU of a slot wrote result `o` to register d of thread t: the flags follow for ALU_A and stay for ALU_B, and nothing
else of the thread changed (R183, R189, R190). -/
def AluDone (s : State) (t slot d : Nat) (o : AluOut) (u : State) : Prop :=
  let th := thread u t
  let b := wordThread s t
  wreg th d = o.r ∧ (∀ j, j % 32 ≠ d % 32 → wreg th j = wreg b j) ∧
  (slot = 0 → th.flagZ = o.z ∧ th.flagN = o.n ∧ th.flagC = o.c ∧ th.flagV = o.v) ∧
  (slot = 1 → th.flagZ = b.flagZ ∧ th.flagN = b.flagN ∧ th.flagC = b.flagC ∧ th.flagV = b.flagV) ∧
  th = { b with w := th.w, flagZ := th.flagZ, flagN := th.flagN, flagC := th.flagC, flagV := th.flagV,
                done := nsInsert b.done slot } ∧ OnlyThread t s u

/-- Nothing of thread t changed but its staged state, by field k of its word, whose condition is known from then on (R183). -/
def StagedDone (s : State) (t k : Nat) (st : Staged) (u : State) : Prop :=
  thread u t = { wordThread s t with staged := st, done := nsInsert (wordThread s t).done k,
                                     cval := some (condNow (wordThread s t) (wordOf s t)) } ∧ OnlyThread t s u

/-- The TAE completed the next command of queue q with this result (R51, R54, R58): the command left its queue, and its
completion is the next of the queue's completions. -/
def TaeDone (s : State) (q : Nat) (c : Bytes) (r : TaeRes) (t : State) : Prop :=
  (q = 0 → hsqHead t = (hsqHead s + 1) % 512 ∧ t.tae.hostDone = (s.tae.hostDone + 1) % 512 ∧
    (∀ i, i < 128 → mget (fun _ => 0) t.tae.comp (s.tae.hostDone % 256 * 128 + i) =
      byteAt (completion c r s.tae.hostDone) i) ∧
    (tcIrq c = true → (reg t (pa pgTae offIRQ_STS)).toNat.testBit 0 = true)) ∧
  (q = 1 → t.tae.sapQ = s.tae.sapQ.drop 1 ∧ t.tae.sapDone = (s.tae.sapDone + 1) % 512 ∧
    t.tae.sapC = s.tae.sapC ++ [completion c r s.tae.sapDone])

/-- Heartwood answered the request of a mailbox slot, whose words were `w` (R372): the status and the request's TAG are in the
response's first word, DONE is set and BUSY cleared, the slot's interrupt bit is set, and no request waits in the slot. -/
def Answered (slot status : Nat) (w : List Nat) (t : State) : Prop :=
  reg t (pa pgHmb (slotOff slot + 0x20)) = BitVec.ofNat 32 (status + w.headD 0 / 65536 % 65536 * 65536) ∧
  regB t (slotSts slot) fHMB_STS_BUSY = false ∧ regB t (slotSts slot) fHMB_STS_DONE = true ∧
  (reg t (pa pgHmb offIRQ_STS)).toNat.testBit slot = true ∧ mfind t.hw.req slot = none

/-- The firmware took a command of the API ring and answered it (R376): `bufs` is what it wrote into the host's buffers before
the response. -/
def Responded (s : State) (op tag : Nat) (ok : Bool) (bufs : List (Nat × Bytes)) (t : State) : Prop :=
  t.sap.apiHead = (s.sap.apiHead + 1) % 2 ^ (apiLog s + 1) ∧
  ∃ a res, t.host.dma = bufs ++ [(a, leBytes 2 op ++ leBytes 2 (Config.apiStatus ok) ++ leBytes 4 tag ++ res)] ∧
    res.length = 56

/-- The message at the front of those waiting at this device was taken into the receive ring (R352). -/
def InRing (s : State) (m : Bytes) (t : State) : Prop :=
  let pos := regF s (pa pgRw offRW_RXR_TAIL) fRW_RXR_TAIL_POS
  let a := ringSlot s offRW_RXR_CFG fRW_RXR_CFG_BASE fRW_RXR_CFG_LOG2 pos
  regF t (pa pgRw offRW_RXR_TAIL) fRW_RXR_TAIL_POS = (pos + 1) % 65536 ∧
  (∀ i, i < m.length → a + i < 6784 * 1024 → sapByte t (a + i) = byteAt m i) ∧
  (reg t (pa pgRw offIRQ_STS)).toNat.testBit 0 = true

/-- The pages of an area, as R404's table lists them. -/
def inArea (a page : Nat) : Bool :=
  let one (x y : Nat) : Bool := a == x && page == y
  let span (x lo hi : Nat) : Bool := a == x && decide (lo ≤ page) && decide (page ≤ hi)
  (decide (a ≤ 31) && page == 0x020 + a) || one 32 0x040 || one 33 0x041 || span 34 0x048 0x04F || one 35 0x010 ||
  one 36 0x050 || one 36 0x058 || one 37 0x051 || one 38 0x060 || one 38 0x061 || one 39 0x062 || one 40 0x068 ||
  (decide (41 ≤ a) && decide (a ≤ 44) && decide (0x180 + 8 * (a - 41) ≤ page) && decide (page ≤ 0x187 + 8 * (a - 41))) ||
  (decide (45 ≤ a) && decide (a ≤ 48) && decide (0x1A0 + 8 * (a - 45) ≤ page) && decide (page ≤ 0x1A7 + 8 * (a - 45))) ||
  span 49 0x080 0x0FF || span 50 0x100 0x17F || one 51 0x1C0 || span 52 0x004 0x007 || one 53 0x078 || one 54 0x070 ||
  one 55 0x1D0 || one 56 0x1C8 || one 57 0x000 || one 58 0x002 || one 59 0x003 || one 60 0x001

/-- The commands that are events on pins: they act whether or not the device is held in reset (R422, R428, R442, R459). -/
def pinEvent : Instr → Bool
  | .coldReset _ _ _ _ | .rstN _ _ _ _ _ | .testEn _ | .vddKeepFall | .thermTripN | .keepclkLoss | .hostLinkReset _ => true
  | .bypass | .idcode | .samplePreload | .extest | .clamp | .highz => true
  | _ => false

/-- The commands of what runs on KCLK, TCLK or the PCIe reference: they act while SYSCLK is lost (R454; log entry 132,
DEDUCED). -/
def kclkCmd : Instr → Bool
  | .agingMonitor _ _ _ | .aliveToggle | .avsRetry _ | .clockLoss _ | .clockReturn _ | .collectorFault | .commitSvn _
  | .echoWindowEnd _ | .errWindowClose _ _ | .fetch _ | .firstVerdict _ _ | .flashErase _ | .flashWrite _
  | .heartwoodWatchdog _ | .junctionOverLimit _ _ | .lockCommand _ | .otpRepairWrite | .pcieLinkTraining | .ppsIn
  | .ppsOut | .railOutOfTolerance | .reportDecide | .safeState _ | .smbusAddress _ | .smbusIdentity | .smbusLkoTop
  | .smbusPower _ | .smbusStatus | .smbusTemperature | .squelched _ | .status _ | .timerefLoss | .timerefRelock _
  | .verifyLoad _ => true
  | _ => false

end Sys2Proof.Machine
end

