-- ==== Sys2Proof/Certificates/Slice0/Obligations.lean ====
section
/-!
DEFINITION. The statements about the model, from the numbered rules of the spec: `Gives c s P` says that command c at state s is
answered with a next state of which P holds, and what P does not mention of a command's frame is said by OnlyRegs, Counts and
the record equations.
-/

open Sys2Proof Sys2Proof.Machine

/-! ### The queue, the tick and reset -/

/-- The command at the front of the queue is the one a step runs, with the queue's rest waiting (log entry 1, DESIGN CHOICE). -/
def Obligations.StepTakesFrontCommand : Prop :=
  ∀ (c : Instr) (rest : List Instr) (s : State),
    step { s with pending := c :: rest } = exec c { s with pending := rest }

/-- With no command waiting a device in reset stands still; else one KCLK period of 2 ns passes: the local counts of KCLK and
CCLK go on by 6 thirds of a nanosecond (log entry 1, DESIGN CHOICE), the time counter by two TCLK of 1 ns + FREQ × 2^-44 ns unless
it stands (R306, R313). With it go Heartwood's private controller (R400) and the moves of the VDD_CORE target (R384). Without
SYSCLK that is all, and the count of CCLK stands (R454; log entry 132, DEDUCED). With it, what waits for nothing but time goes on as
well: transition entries are rewritten (R100), ports with a frame to send count as busy (R83), a node access completes (R120),
gates reach the entries due (R298), the transmit ring sends (R352). -/
def Obligations.EmptyQueuePassesOneTick : Prop :=
  ∀ s : State, s.pending = [] →
    (held s = true → step s = .next s) ∧
    (held s = false → ∃ u,
      step s = .next (if clkStopped s then u else txrSend (gatesSettle (pguSettle u))) ∧
      u = { hicTick (avsMove (if clkStopped s then s else transMendAll (eeeWatch s))) with
            time := { s.time with kclk := if s.pin.keepClk then s.time.kclk + 6 else s.time.kclk,
                                  cclk := if clkStopped s then s.time.cclk else s.time.cclk + 6, now := u.time.now } } ∧
      ((s.pin.verdict = false ∨ regB s (pa pgPtp offTIME_STS) fTIME_STS_STOPPED = true) → u.time.now = s.time.now) ∧
      (s.pin.verdict = true → regB s (pa pgPtp offTIME_STS) fTIME_STS_STOPPED = false →
        let sum := fracOfTc s.time.now + 2 * (2 ^ 44 + signed 32 (live s (pa pgPtp offTIME_FREQ)).toNat)
        0 ≤ sum → sum < 2 ^ 48 * 1000000000 * 2 ^ 44 →
          fracOfTc u.time.now = sum ∧ u.time.now.ns < 1000000000 ∧ u.time.now.frac < 2 ^ 44)) ∧
    (held s = false → clkStopped s = true → ∃ t, step s = .next t ∧ t.time.cclk = s.time.cclk ∧
      t = { s with time := t.time, hw := t.hw, freeCtr := t.freeCtr, bus := { s.bus with regs := t.bus.regs } } ∧
      ∀ a, a ≠ pa pgPt offPT_AVS → reg t a = reg s a)

/-- What reset leaves, for the values the manual gives: the queue empty; counters 0; MAC pages disabled; every shadow equal
to both active values; the time counter 0; epoch 0 with FRESH 1; no Heartwood lock, no safe state, FAULT_N released, ALIVE
low; SMBus address 0x5C; THERM_TRIP_N not driven. -/
def Obligations.ResetLeavesTheseValues : Prop :=
  let s := State.reset
  s.pending = [] ∧ (∀ a, ctr s a = 0) ∧ (∀ p, p < 256 → enabled s (macPage p) = false) ∧
  (∀ a, shadowS s a = activeS s 0 a ∧ shadowS s a = activeS s 1 a) ∧
  s.time.now = ⟨0, 0, 0⟩ ∧ curEpoch s = 0 ∧ regB s (pa dev offEPOCH_STS) fEPOCH_STS_FRESH = true ∧
  s.hw.locks = 0 ∧ safe s = false ∧ s.pin.fault = false ∧ s.pin.alive = false ∧ s.hw.smbAddr = 0x5C ∧ s.pin.trip = false

/-- The state after reset and the state that each device reset leaves (RST_N low, VDD_KEEP low or rising, TEST_EN high, DEV_RST)
are as R430 says: FAULT_N released, ALIVE low, PCIe not trained, every transmitter idle; no packet is left in them. -/
def Obligations.ResetStateIsQuiet : Prop :=
  QuietNow State.reset ∧
  (∀ (s : State) (mode boot bpgen lngen : Nat),
    Gives (.coldReset mode boot bpgen lngen) s QuietNow ∧ Gives .vddKeepFall s QuietNow ∧
    (s.pin.keep = true → Gives (.rstN false mode boot bpgen lngen) s (fun t => held t = true ∧ QuietNow t)) ∧
    (s.pin.keep = true → s.pin.testEn = false → Gives (.testEn true) s (fun t => held t = true ∧ QuietNow t))) ∧
  (∀ (s : State) (req : Nat), stopped s = false → reaches s req = true → inReset s dev = false →
    Gives (.devRst req 0xB007 true) s QuietNow)

/-- Every step keeps a device held in reset quiet: FAULT_N released, ALIVE low, PCIe not trained, every transmitter idle, no
packet left (R429, R430). -/
def Obligations.EveryStepKeepsResetQuiet : Prop :=
  ∀ s t : State, resetQuiet s → step s = .next t → resetQuiet t

/-- A device held in reset does nothing on any command but an event on a pin (R426, R428, R430, R459); while SYSCLK is lost it
does nothing on any command but those of KCLK, TCLK and the pins (R454; log entry 132, DEDUCED). -/
def Obligations.HeldDeviceIgnoresCommands : Prop :=
  ∀ (c : Instr) (s : State), pinEvent c = false →
    (held s = true → exec c s = .next s) ∧ (kclkCmd c = false → clkStopped s = true → exec c s = .next s)

/-- No command changes the queue; no command of a block changes a pin that the board or the VDD_KEEP island drives;
THERM_TRIP_N, once driven, is held until a cold reset (R442). -/
def Obligations.CommandsKeepQueueAndBoardPins : Prop :=
  ∀ (c : Instr) (s t : State), exec c s = .next t →
    t.pending = s.pending ∧
    (pinEvent c = false → t.pin.keep = s.pin.keep ∧ t.pin.rstN = s.pin.rstN ∧ t.pin.perstN = s.pin.perstN ∧
      t.pin.testEn = s.pin.testEn ∧ t.pin.keepClk = s.pin.keepClk ∧ t.pin.trip = s.pin.trip ∧
      t.pin.straps = s.pin.straps ∧ t.pin.jtag = s.pin.jtag ∧ t.pin.dr = s.pin.dr) ∧
    (s.pin.trip = true → (∀ m b p l, c ≠ .coldReset m b p l) → c ≠ .vddKeepFall → t.pin.trip = true)

/-! ### The page header (R37 to R44, R47) -/

/-- The commands that go through PAGE_CTL and its shadows, bindings and snapshots, on every page that has the capability:
what each leaves in PAGE_CTL, PAGE_STS, the shadows, the active values and the counters, and that it changes nothing else
(R37, R41, R42, R47). -/
def Obligations.PageShadowsAndSnapshots : Prop :=
  ∀ (s : State) (req page : Nat), stopped s = false → reaches s req = true → hasHeader page = true →
    (capStaged page = true → epochPaced s page = false →
      Gives (.commit req page) s (fun t => commitPending t page = true ∧
        OnlyRegs [pa page offCtl, pa page offSts] s t)) ∧
    (commitPending s page = true → epochPaced s page = false →
      Gives (.shadowApply page) s (fun t => commitPending t page = false ∧
        (∀ a ∈ stagedWords page, activeS t 0 a = shadowS s a ∧ activeS t 1 a = shadowS s a) ∧
        (∀ a, a ∉ stagedWords page → activeS t 0 a = activeS s 0 a ∧ activeS t 1 a = activeS s 1 a) ∧
        (∀ a, a ≠ pa page offSts → reg t a = reg s a) ∧
        t = { s with bus := { s.bus with regs := t.bus.regs, even := t.bus.even, odd := t.bus.odd } })) ∧
    (capStaged page = true → (commitPending s page = false ∨ epochPaced s page = true) →
      Gives (.discard req page) s (fun t => commitPending t page = false ∧
        (∀ a ∈ stagedWords page, shadowS t a = activeS s (curEpoch s) a) ∧
        (∀ a, a ∉ stagedWords page → shadowS t a = shadowS s a) ∧
        (∀ a, a ≠ pa page offCtl → a ≠ pa page offSts → reg t a = reg s a) ∧
        t = { s with bus := { s.bus with regs := t.bus.regs, shadow := t.bus.shadow } })) ∧
    (∀ b, capEpoch page = true → (b = bindReq s page ∨ commitPending s page = false) →
      Gives (.epochBind req page b) s (fun t => bindReq t page = b ∧ enabled t page = enabled s page ∧
        quiesceReq t page = quiesceReq s page ∧ OnlyRegs [pa page offCtl] s t)) ∧
    (capSnap page = true → regB s (pa page offSts) fPAGE_STS_SNAP_BUSY = false →
      -- a MAC page counts its running LPI and shed times up to now first (R75)
      let u := match macPort page with | some p => countUs p s | none => s
      Gives (.snapshot req page) s (fun t => regB t (pa page offSts) fPAGE_STS_SNAP_BUSY = true ∧
        mfind t.bus.taking page = some (pageCounters u page) ∧ (∀ a, ctr t a = ctr u a) ∧
        (∀ a, a ≠ pa page offCtl → a ≠ pa page offSts → reg t a = reg s a) ∧
        t = { u with bus := { u.bus with regs := t.bus.regs, taking := t.bus.taking } }) ∧
      Gives (.snapClear req page) s (fun t => regB t (pa page offSts) fPAGE_STS_SNAP_BUSY = true ∧
        mfind t.bus.taking page = some (pageCounters u page) ∧
        (∀ a, ctr t a = if pageOf a = page then 0 else ctr s a) ∧
        (∀ a, a ≠ pa page offCtl → a ≠ pa page offSts → reg t a = reg s a) ∧
        t = { u with bus := { u.bus with regs := t.bus.regs, taking := t.bus.taking, ctr := t.bus.ctr } })) ∧
    (∀ m, mfind s.bus.taking page = some m →
      Gives (.snapshotComplete page) s (fun t => regB t (pa page offSts) fPAGE_STS_SNAP_BUSY = false ∧
        regB t (pa page offSts) fPAGE_STS_SNAP_VALID = true ∧ mfind t.bus.snap page = some m ∧
        (∀ a, a ≠ pa page offSts → reg t a = reg s a) ∧
        t = { s with bus := { s.bus with regs := t.bus.regs, taking := t.bus.taking, snap := t.bus.snap } }))

/-- ENABLE, QUIESCE and SOFT_RESET on every page that has them, and the events that end them (R37, R43, R44). A soft reset
returns every block register to its reset value, but for what the block's own chapter keeps (R59, R204), and shadows and active
values with them (no page has both at BL1); it clears COMMIT_PENDING and discards a snapshot and a waiting EPOCH_BIND; every
other header field stays, where the end of a link or of held fragments raises no interrupt of the page. -/
def Obligations.EnableQuiesceAndSoftReset : Prop :=
  ∀ (s : State) (req page : Nat), stopped s = false → reaches s req = true → hasHeader page = true →
    (∀ b, Gives (.enable req page b) s (fun t => enabled t page = b ∧ quiesceReq t page = quiesceReq s page)) ∧
    (∀ b, capQuiesce page = true →
      Gives (.quiesce req page b) s (fun t => quiesceReq t page = b ∧ enabled t page = enabled s page)) ∧
    (capQuiesce page = true → quiesceReq s page = true → blockIdle s page = true →
      Gives (.quiesceComplete page) s (fun t => quiesced t page = true ∧ OnlyRegs [pa page offSts] s t)) ∧
    (capReset page = true → inReset s page = false →
      Gives (.softReset req page) s (fun t => inReset t page = true ∧ enabled t page = enabled s page ∧
        quiesceReq t page = quiesceReq s page ∧ quiesced t page = quiesced s page ∧
        bindReq t page = isBound s page ∧ commitPending t page = false ∧
        regB t (pa page offSts) fPAGE_STS_SNAP_VALID = false ∧ regB t (pa page offSts) fPAGE_STS_SNAP_BUSY = false ∧
        (∀ a, resetDrops page a = true → reg t a = regReset s.straps a ∧ live t a = regReset s.straps a) ∧
        (∀ a ∈ stagedWords page, shadowS t a = regReset s.straps a ∧ activeS t 0 a = regReset s.straps a ∧
          activeS t 1 a = regReset s.straps a) ∧
        (∀ off, off < 0x40 → off ≠ offCtl → off ≠ offSts → (off ≠ offIRQ_STS ∨ macPort page = none ∧ page ≠ pgPgu) →
          reg t (pa page off) = reg s (pa page off)))) ∧
    (regB s (pa page offSts) fPAGE_STS_IN_RESET = true →
      Gives (.softResetComplete page) s (fun t => regB t (pa page offSts) fPAGE_STS_IN_RESET = false))

/-- PAGE_STS.REFUSED cleared by writing 1 clears OFFSET, REASON and MORE as well (R39). ERR_STS bits written as 1 clear with
their sources' classes (R38). ERR_INJECT with GO is captured like a real error, also while the block is in reset (R38). -/
def Obligations.HeaderClearsAndInjection : Prop :=
  ∀ (s : State) (req page : Nat), stopped s = false → reaches s req = true → hasHeader page = true →
    Gives (.refusedClear req page) s (fun t => regB t (pa page offSts) fPAGE_STS_REFUSED = false ∧
      reg t (pa page offWRITE_REFUSED) = 0 ∧ OnlyRegs [pa page offSts, pa page offWRITE_REFUSED] s t) ∧
    (∀ mask, mask < 65536 → Gives (.errStsClear req page mask) s (fun t =>
      (∀ i, i < 16 → (reg t (pa page offERR_STS)).toNat.testBit i =
        ((reg s (pa page offERR_STS)).toNat.testBit i && !mask.testBit i)) ∧
      (∀ i, i < 16 → fget (reg t (pa page offERR_CLASS)) ⟨2 * i + 1, 2 * i⟩ =
        if mask.testBit i then 0 else fget (reg s (pa page offERR_CLASS)) ⟨2 * i + 1, 2 * i⟩) ∧
      OnlyRegs [pa page offERR_STS, pa page offERR_CLASS] s t)) ∧
    (∀ src cls, src < 16 → 1 ≤ cls → cls ≤ 3 → capInject page = true →
      Gives (.errInject req page src cls) s (fun t =>
        t.lko.cap = s.lko.cap ++ [⟨page, src, cls, false, 0, kNow s⟩] ∧ t = { s with lko := t.lko }))

/-- A write of one 32-bit register word of the Clearing page, whose registers have no effect of their own: accepted, it
leaves the word its fields' access types give and the block goes on seeing class L fields as before (R9, R40); refused, it
changes no register but WRITE_REFUSED and PAGE_STS.REFUSED of the page (R39); of 1 or 2 bytes it is refused with reason SIZE
(R34). LIVE_VALUE_APPLY gives the block the value a read sees (R40).

On every page a write of a block register is refused with IN_RESET while the page is in reset (R44), with LOCKED where Heartwood
has locked the Lookout's reactions (R363), with ENCODING where a field takes a reserved value (R7), with QUIET where a class Q field
changes while the block is enabled and not quiesced (R43), with COMMIT_BUSY where a class S field is written while a commit waits
(R41); where several hold, the first of these is recorded (log entry 24, DEDUCED). An accepted write of a class S register
reaches its shadow alone, and a page paced by epochs then has COMMIT_PENDING (R41, R42). A register whose VALID bit is written as
1 clears whole, other bits written as 1 clear alone, in PV_STS as in IRQ_STS (R38). -/
def Obligations.RegisterWritesAndLiveValues : Prop :=
  ∀ (s : State) (req off : Nat) (r : RegRow) (v : Word), stopped s = false → reaches s req = true →
    off % 4 = 0 → 0x40 ≤ off → off < 0x1000 → rowAt (pa pgClr off) = some r → r.half = .single →
    (refusal req .clr pgClr [(pa pgClr off, r, v)] s = none →
      Gives (.registerWrite req (pa pgClr off) 4 v.toNat) s (fun t =>
        reg t (pa pgClr off) = rowMerge r (reg s (pa pgClr off)) v ∧
        (∀ a, a ≠ pa pgClr off → reg t a = reg s a ∧ live t a = live s a) ∧
        (∀ f ∈ r.fields, f.cls = .live → f.acc = .rw → f.lo ≤ f.hi →
          fget (live t (pa pgClr off)) (frFld f) = fget (live s (pa pgClr off)) (frFld f)) ∧
        t = { s with bus := { s.bus with regs := t.bus.regs, old := t.bus.old, oldAt := t.bus.oldAt } })) ∧
    (∀ why, refusal req .clr pgClr [(pa pgClr off, r, v)] s = some why →
      Gives (.registerWrite req (pa pgClr off) 4 v.toNat) s (fun t =>
        regB t (pa pgClr offSts) fPAGE_STS_REFUSED = true ∧
        (regB s (pa pgClr offSts) fPAGE_STS_REFUSED = false →
          fget (reg t (pa pgClr offWRITE_REFUSED)) fWRITE_REFUSED_REASON = why ∧
          fget (reg t (pa pgClr offWRITE_REFUSED)) fWRITE_REFUSED_OFFSET = off) ∧
        OnlyRegs [pa pgClr offSts, pa pgClr offWRITE_REFUSED] s t)) ∧
    (∀ size n, size = 1 ∨ size = 2 → regB s (pa pgClr offSts) fPAGE_STS_REFUSED = false →
      Gives (.registerWrite req (pa pgClr off) size n) s (fun t =>
        fget (reg t (pa pgClr offWRITE_REFUSED)) fWRITE_REFUSED_REASON = reasonSize ∧
        fget (reg t (pa pgClr offWRITE_REFUSED)) fWRITE_REFUSED_OFFSET = off ∧
        OnlyRegs [pa pgClr offSts, pa pgClr offWRITE_REFUSED] s t)) ∧
    (∀ a w, mfind s.bus.old a = some w → liveReady s a = true →
      Gives (.liveValueApply a) s (fun t => live t a = reg s a)) ∧
    (∀ page k, kindOf page = some k → hasHeader page = true → off < 0x1000 → (capStaged page = true → off < 0x840) →
      ∀ q, rowAt (pa page off) = some q → q.half = .single →
        let a := pa page off
        let locked := page = pgLko ∧ (off = offLKO_CFG ∨ 0x100 ≤ off ∧ off < 0x200) ∧ s.hw.locks.testBit 0 = true ∧ req ≠ 5
        (inReset s page = true → RefusedWith req page off v reasonInReset s) ∧
        (inReset s page = false → locked → RefusedWith req page off v reasonLocked s) ∧
        (inReset s page = false → ¬locked → ownJudge k off = false →
          ((∃ f ∈ q.fields, (f.acc = .rw ∨ f.acc = .wo) ∧ legalVal f.legal (fget v (frFld f)) = false) →
            RefusedWith req page off v reasonEncoding s) ∧
          (rowLegal q v = true → crossLegal s k page off v = true →
            ((∃ f ∈ q.fields, f.cls = .quiet ∧ f.acc = .rw ∧ fget v (frFld f) ≠ fget (reg s a) (frFld f)) →
              rowStaged q = false → k ≠ .sdql → k ≠ .sdqb → enabled s page = true → quiesced s page = false →
              RefusedWith req page off v reasonQuiet s) ∧
            (rowStaged q = true → (∀ f ∈ q.fields, f.cls ≠ .quiet) → commitPending s page = true →
              epochPaced s page = false → RefusedWith req page off v reasonCommitBusy s)))) ∧
    (∀ page q, page = pgMc ∨ page = pgPol → pa page off ∈ stagedWords page → rowAt (pa page off) = some q →
      accepts s req (pa page off) v = true →
      Gives (.registerWrite req (pa page off) 4 v.toNat) s (fun t =>
        shadowS t (pa page off) = rowMerge q (shadowS s (pa page off)) v ∧
        (∀ b, b ≠ pa page off → shadowS t b = shadowS s b) ∧ (∀ e b, activeS t e b = activeS s e b) ∧
        commitPending t page = (commitPending s page || epochPaced s page) ∧
        (∀ b, b ≠ pa page offSts → reg t b = reg s b) ∧
        t = { s with bus := { s.bus with regs := t.bus.regs, shadow := t.bus.shadow } })) ∧
    (∀ a ∈ [pa dev offEPOCH_CHAIN_BAD, pa pgLko offLKO_REPAIR_LAST, pa pgTae offTAE_ABORT, pa pgThk offTHK_LOST,
        pa pgPol offPOL_LOST] ++ (List.range 32).map (fun g => pa (grvPage g) offGRV_ERR_ENG),
      accepts s req a v = true →
      Gives (.registerWrite req a 4 v.toNat) s (fun t =>
        reg t a = (if v.toNat.testBit 31 then 0 else reg s a) ∧ ∀ b, b ≠ a → reg t b = reg s b)) ∧
    (∀ a, (∃ page, hasHeader page = true ∧ a = pa page offIRQ_STS) ∨
        (∃ p, p < 256 ∧ a = pa (macPage p) offPV_STS ∧ accepts s req a v = true) →
      Gives (.registerWrite req a 4 v.toNat) s (fun t => (∀ b, b ≠ a → reg t b = reg s b) ∧
        ∀ i, (reg t a).toNat.testBit i = ((reg s a).toNat.testBit i &&
          !(v.toNat.testBit i && (a % 4096 == offIRQ_STS || (decide (1 ≤ i) && decide (i ≤ 8)))))))

/-- 64-bit registers and counters (R34, R46, R47): a write of the low word only fills the requester's holding word; a write of the
high word empties it, and for EPOCH_TIME applies both halves when it held the low word, the high half alone when it did not.
A read of the low word returns it and latches the high one, the read of the high word returns the latched word; a read of 8 or 16
bits returns the addressed bytes, one of 64 bits both words (R34). Two reads have an
effect: RC_LAG returns the greatest lag and clears (R290), TXTS_3 returns the seconds of the head entry of the timestamp FIFO and
removes it (R312). -/
def Obligations.SixtyFourBitAccessAndReadEffects : Prop :=
  ∀ (s : State) (req : Nat) (v : Word), stopped s = false → reaches s req = true →
    (∀ a r, isRegAddr a = true → a % 4 = 0 → 0x40 ≤ offOf a → capStaged (pageOf a) = false → rowAt a = some r →
      r.half = .low →
      Gives (.lowWordWrite req a v) s (fun t => mfind t.bus.hold req = some ⟨a, true, v⟩ ∧
        (∀ q, q ≠ req → mfind t.bus.hold q = mfind s.bus.hold q) ∧
        t = { s with bus := { s.bus with hold := t.bus.hold } })) ∧
    (let a := pa dev offEPOCH_TIME
     inReset s dev = false →
      (∀ w, mfind s.bus.hold req = some ⟨a, true, w⟩ → w.toNat ≤ 999999999 →
        Gives (.highWordWrite req a v) s (fun t => reg t a = w ∧ fget (reg t (a + 4)) ⟨31, 0⟩ = fget v ⟨31, 0⟩ ∧
          mfind t.bus.hold req = none ∧ ∀ b, b ≠ a → b ≠ a + 4 → reg t b = reg s b)) ∧
      (heldWord s req a true = none →
        Gives (.highWordWrite req a v) s (fun t => fget (reg t (a + 4)) ⟨31, 0⟩ = fget v ⟨31, 0⟩ ∧
          mfind t.bus.hold req = none ∧ ∀ b, b ≠ a + 4 → reg t b = reg s b))) ∧
    (∀ a, a < aSub → 0x40 ≤ offOf a → offOf a < 0x840 → pageOf a ≠ pgHmb → isCounter a = true →
      Gives (.lowWordRead req ⟨a, 4⟩) s (fun t => t.bus.rdata = BitVec.ofNat 32 (ctrRead s a) ∧
        mfind t.bus.hold req = some ⟨a, false, BitVec.ofNat 32 (ctrRead s a / 2 ^ 32)⟩ ∧
        t = { s with bus := { s.bus with hold := t.bus.hold, rdata := t.bus.rdata, rdataHi := 0 } }) ∧
      (∀ k n, k < 4 → n = 1 ∨ n = 2 → k + n ≤ 4 → Gives (.lowWordRead req ⟨a + k, n⟩) s (fun t =>
        t.bus.rdata.toNat = ctrRead s a % 2 ^ 32 / 2 ^ (8 * k) % 2 ^ (8 * n))) ∧
      Gives (.lowWordRead req ⟨a, 8⟩) s (fun t => t.bus.rdata = BitVec.ofNat 32 (ctrRead s a) ∧
        t.bus.rdataHi = BitVec.ofNat 32 (ctrRead s a / 2 ^ 32) ∧ mfind t.bus.hold req = none) ∧
      Gives (.highWordRead req a) s (fun t =>
        t.bus.rdata = (heldWord s req a false).getD (BitVec.ofNat 32 (ctrRead s a / 2 ^ 32)) ∧
        mfind t.bus.hold req = none ∧
        t = { s with bus := { s.bus with hold := t.bus.hold, rdata := t.bus.rdata, rdataHi := 0 } })) ∧
    Gives (.rcLagRead req) s (fun t => t.bus.rdata = reg s (pa pgRc offRC_LAG) ∧ reg t (pa pgRc offRC_LAG) = 0 ∧
      (∀ a, a ≠ pa pgRc offRC_LAG → reg t a = reg s a) ∧
      t = { s with bus := { s.bus with regs := t.bus.regs, rdata := t.bus.rdata, rdataHi := 0 } }) ∧
    (∀ e rest, s.time.fifo = e :: rest →
      Gives (.txts3 req) s (fun t => t.bus.rdata = BitVec.ofNat 32 e.ts.sec ∧ t.time.fifo = rest ∧
        t = { s with bus := { s.bus with rdata := t.bus.rdata, rdataHi := 0 }, time := { s.time with fifo := t.time.fifo } }))

/-- The registers by which a requester moves a pointer: TAE_HSQ_TAIL (advanced past a free slot is counted instead, R54),
TAE_HCQ_HEAD (R54), LQ_HEAD, which releases the entries passed (R143), RW_TXR_TAIL (R352), the tails of the DMA rings (R379,
R380) and API_CMD_TAIL (R376). -/
def Obligations.PointerRegisterWrites : Prop :=
  ∀ (s : State) (req v : Nat), stopped s = false →
    (v < 512 → accepts s req (pa pgTae offTAE_HSQ_TAIL) (BitVec.ofNat 32 v) = true → hsqWriter s req = true →
      ((v + 512 - hsqTail s) % 512 ≤ 256 - hsqFill s →
        Gives (.taeHsqTail req v) s (fun t => hsqTail t = v ∧
          (∀ a, a ≠ pa pgTae offTAE_HSQ_TAIL → reg t a = reg s a) ∧
          t = { s with bus := { s.bus with regs := t.bus.regs }, tae := { s.tae with hostAt := t.tae.hostAt } })) ∧
      (256 - hsqFill s < (v + 512 - hsqTail s) % 512 →
        Gives (.taeHsqTail req v) s (fun t => hsqTail t = hsqTail s ∧
          (reg t (pa pgTae offIRQ_STS)).toNat.testBit 1 = true))) ∧
    (accepts s req (pa pgTae offTAE_HCQ_HEAD) (BitVec.ofNat 32 v) = true →
      Gives (.taeHcqHead req v) s (fun t => Written (pa pgTae offTAE_HCQ_HEAD) (BitVec.ofNat 32 v) t ∧
        (∀ a, a ≠ pa pgTae offTAE_HCQ_HEAD → reg t a = reg s a) ∧
        t = { s with bus := { s.bus with regs := t.bus.regs, old := t.bus.old, oldAt := t.bus.oldAt } })) ∧
    (accepts s req (pa pgEmt offLQ_HEAD) (BitVec.ofNat 32 v) = true → v < 131072 → lqOwner s req = true →
      (reg s (pa pgEmt offLQ_HEAD)).toNat < 131072 →
      (v + 131072 - (reg s (pa pgEmt offLQ_HEAD)).toNat) % 131072 ≤ s.emt.lq.length →
      Gives (.lqHead req v) s (fun t => (reg t (pa pgEmt offLQ_HEAD)).toNat = v ∧
        t.emt.lq = s.emt.lq.drop ((v + 131072 - (reg s (pa pgEmt offLQ_HEAD)).toNat) % 131072) ∧
        (∀ a, a ≠ pa pgEmt offLQ_HEAD → reg t a = reg s a) ∧
        t = { s with bus := { s.bus with regs := t.bus.regs }, emt := { s.emt with lq := t.emt.lq } })) ∧
    (accepts s req (pa pgRw offRW_TXR_TAIL) (BitVec.ofNat 32 v) = true → v < 65536 →
      Gives (.rwTxrTail req v) s (fun t => regF t (pa pgRw offRW_TXR_TAIL) fRW_TXR_TAIL_POS = v)) ∧
    (∀ recv i, i < 16 → reaches s 0 = true → v < 2 ^ 32 →
      let pg := if recv then pgRxr else pgTxr
      Gives (.ringTail recv i v) s (fun t =>
        (reg t (pa pg (offTXR_TAIL i))).toNat = v % 2 ^ (regF s (pa pg (offTXR_CFG i)) fTXR_CFG_LOG2 + 1) ∧
        (∀ a, a ≠ pa pg (offTXR_TAIL i) → reg t a = reg s a) ∧
        t = { s with bus := { s.bus with regs := t.bus.regs, old := t.bus.old, oldAt := t.bus.oldAt } })) ∧
    (accepts s req (pa pgSap offAPI_CMD_TAIL) (BitVec.ofNat 32 v) = true →
      Gives (.apiCmdTail req v) s (fun t => Written (pa pgSap offAPI_CMD_TAIL) (BitVec.ofNat 32 v) t ∧
        (∀ a, a ≠ pa pgSap offAPI_CMD_TAIL → reg t a = reg s a) ∧
        t = { s with bus := { s.bus with regs := t.bus.regs, old := t.bus.old, oldAt := t.bus.oldAt } }))

/-- Configuration registers with an effect beyond their fields: MAC_CFG (R43, R62, R69), FRAG_SEED, which empties the
fragment table (R115, R119), the parse-graph node access, which reads BUSY until it completes and ignores writes meanwhile (R120;
how long it takes is free: log entry 100, DESIGN CHOICE), EMT_TBL_GEO (R128, R129) and THK_TBL_CFG (R151, R152), whose
ENABLE rising starts the clear of the table; ENABLE falling ends an INSERT that shifts entries with BAD_FORMAT. -/
def Obligations.ConfigurationWritesTakeEffect : Prop :=
  ∀ (s : State) (req : Nat) (v : Word), stopped s = false →
    (∀ p, p < 256 → accepts s req (pa (macPage p) offMAC_CFG) v = true →
      Gives (.macCfg req p v) s (fun t => Written (pa (macPage p) offMAC_CFG) v t ∧
        ((∀ r, rowAt (pa (macPage p) offMAC_CFG) = some r →
            rowQuiet r (reg s (pa (macPage p) offMAC_CFG)) v = false) →
          (∀ a, a ≠ pa (macPage p) offMAC_CFG → reg t a = reg s a) ∧
          t = { s with bus := { s.bus with regs := t.bus.regs, old := t.bus.old, oldAt := t.bus.oldAt } }))) ∧
    (accepts s req (pa pgPgu offFRAG_SEED) v = true →
      Gives (.fragSeed req v) s (fun t => reg t (pa pgPgu offFRAG_SEED) = v ∧ t.pgu.frag = [])) ∧
    (let cmd := pa pgPgu offPGU_NODE_CMD
     let d0 := pa pgPgu (offPGU_NODE_D 0)
     let started := fun (key : Nat) (w : Option Nat) (t : State) =>
       regB t cmd fPGU_NODE_CMD_BUSY = true ∧ t.pgu.cmd = some (key, w, now s + 1 + freeNow s % 16) ∧
       (∀ a, a ≠ cmd → reg t a = reg s a) ∧
       t = { s with bus := { s.bus with regs := t.bus.regs }, freeCtr := s.freeCtr + 1, pgu := { s.pgu with cmd := t.pgu.cmd } }
     (∀ bank node, bank < 2 → node < 256 → accepts s req cmd (nodeCmd 0 bank node) = true →
       (s.pgu.cmd = none → Gives (.pguNodeRead req bank node) s (started (bank * 256 + node) none)) ∧
       (s.pgu.cmd ≠ none → Gives (.pguNodeRead req bank node) s (fun t => t = s))) ∧
     (∀ bank node, bank < 2 → node < 256 → accepts s req cmd (nodeCmd 1 bank node) = true →
       let x := dRegs s d0 4 % 2 ^ 95
       (s.pgu.cmd = none → nodeIllegal x = false →
         Gives (.pguNodeWrite req bank node) s (started (bank * 256 + node) (some x))) ∧
       (s.pgu.cmd = none → nodeIllegal x = true → Gives (.pguNodeWrite req bank node) s (fun t =>
         regB t (pa pgPgu offSts) fPAGE_STS_REFUSED = true ∧ OnlyRegs [pa pgPgu offSts, pa pgPgu offWRITE_REFUSED] s t)) ∧
       (s.pgu.cmd ≠ none → Gives (.pguNodeWrite req bank node) s (fun t => t = s))) ∧
     (∀ n, n < 4 → s.pgu.cmd ≠ none → accepts s req (pa pgPgu (offPGU_NODE_D n)) v = true →
       Gives (.registerWrite req (pa pgPgu (offPGU_NODE_D n)) 4 v.toNat) s (fun t => t = s)) ∧
     (∀ key w at_, s.pgu.cmd = some (key, w, at_) → at_ ≤ now s →
       let t := pguSettle s
       regB t cmd fPGU_NODE_CMD_BUSY = false ∧ t.pgu.cmd = none ∧ (∀ k, k ≠ key → pguNode t k = pguNode s k) ∧
       (∀ x, w = some x → pguNode t key = x ∧ ∀ a, a ≠ cmd → reg t a = reg s a) ∧
       (w = none → dRegs t d0 4 = pguNode s key % 2 ^ 128 ∧ pguNode t key = pguNode s key ∧
         ∀ a, a ∉ cmd :: (List.range 4).map (fun n => pa pgPgu (offPGU_NODE_D n)) → reg t a = reg s a))) ∧
    (∀ n, n < 64 → accepts s req (pa pgEmt (offEMT_TBL_GEO n)) v = true → natField v.toNat 19 17 = 0 →
      emtGeoIllegal v = false → emtOn s n = false → emtEnableRefused s n v = false →
      Gives (.emtTblGeo req n v) s (fun t => emtGeo t n = v ∧
        (fbit v fEMT_TBL_GEO_ENABLE = true → regB t (pa pgEmt (offEMT_TBL_STS n)) fEMT_TBL_STS_CLEARING = true) ∧
        OnlyRegs [pa pgEmt (offEMT_TBL_GEO n), pa pgEmt (offEMT_TBL_STS n)] s t)) ∧
    (∀ n, n < 64 → accepts s req (pa pgThk (offTHK_TBL_CFG n)) v = true → natField v.toNat 28 23 = 0 →
      natField v.toNat 15 15 = 0 → natField v.toNat 7 6 = 0 → thkCfgIllegal v = false → thkOn s n = false →
      thkEnableRefused s n v = false →
      thkShifting s n = false →
      Gives (.thkTblCfg req n v) s (fun t => thkCfg t n = v ∧
        (fbit v fTHK_TBL_CFG_ENABLE = true → regB t (pa pgThk (offTHK_TBL_STS n)) fTHK_TBL_STS_CLEARING = true) ∧
        OnlyRegs [pa pgThk (offTHK_TBL_CFG n), pa pgThk (offTHK_TBL_STS n)] s t)) ∧
    (∀ n q c, n < 64 → accepts s req (pa pgThk (offTHK_TBL_CFG n)) v = true → natField v.toNat 28 23 = 0 →
      natField v.toNat 15 15 = 0 → natField v.toNat 7 6 = 0 → thkCfgIllegal v = false → thkOn s n = true →
      fbit v fTHK_TBL_CFG_ENABLE = false → natField v.toNat 30 0 = natField (thkCfg s n).toNat 30 0 → thkShifting s n = true →
      s.tae.exec.find? (fun e => tcSpace e.2.bytes == 2 && tcTable e.2.bytes == n) = some (q, c) →
      Gives (.thkTblCfg req n v) s (fun t => thkOn t n = false ∧ thkShifting t n = false ∧ mfind t.tae.exec q = none ∧
        (q ≠ 0 → t.tae.sapC = s.tae.sapC ++ [completion c.bytes (resPlain tsBadFormat 0) s.tae.sapDone]) ∧
        (q = 0 → ∀ i, i < 128 → mget (fun _ => 0) t.tae.comp (s.tae.hostDone % 256 * 128 + i) =
          byteAt (completion c.bytes (resPlain tsBadFormat 0) s.tae.hostDone) i)))

/-- The epoch commands (R231, R237 to R239): a commit of the next epoch switches to it, a bad one is refused with BAD_EPOCH; an
arm for an instant far enough ahead waits for it and fires there; a disarm clears it; the previous epoch retires when nothing
of it is in flight and both grace times are over. -/
def Obligations.EpochCommandsSwitchArmAndRetire : Prop :=
  ∀ (s : State) (req e : Nat), stopped s = false → reaches s req = true → inReset s dev = false → e < 256 →
    (badEpoch s e = false → epSts s fEPOCH_STS_PREV_LIVE = 0 →
      Gives (.epochCommit req e) s (fun t => curEpoch t = e ∧ epSts t fEPOCH_STS_PREVIOUS = curEpoch s ∧
        epSts t fEPOCH_STS_PREV_LIVE = 1 ∧ epSts t fEPOCH_STS_FRESH = 0 ∧ epSts t fEPOCH_STS_ARMED = 0 ∧
        epSts t fEPOCH_STS_RESULT = erDone ∧ (reg t (pa dev offIRQ_STS)).toNat.testBit 8 = true ∧
        (∀ page, page = pgMc ∨ page = pgPol → isBound t page = bindReq s page ∧
          (bindReq s page = true → commitPending t page = false ∧
            ∀ a ∈ stagedWords page, activeS t e a = shadowS s a)))) ∧
    (badEpoch s e = true →
      Gives (.epochCommit req e) s (fun t => curEpoch t = curEpoch s ∧ epSts t fEPOCH_STS_RESULT = erBadEpoch ∧
        (reg t (pa dev offIRQ_STS)).toNat.testBit 10 = true)) ∧
    (∀ chain target, target < 4096 →
      epCheck s e (some (placeInstant s (reg s (pa dev (offEPOCH_TIME + 4))).toNat (reg s (pa dev offEPOCH_TIME)).toNat)) =
        erArmed →
      Gives (.epochArm req e chain target) s (fun t => epSts t fEPOCH_STS_ARMED = 1 ∧ epSts t fEPOCH_STS_ARM_EPOCH = e ∧
        epSts t fEPOCH_STS_RESULT = erArmed ∧ curEpoch t = curEpoch s ∧ (t.ep.armAt : Int) =
          placeInstant s (reg s (pa dev (offEPOCH_TIME + 4))).toNat (reg s (pa dev offEPOCH_TIME)).toNat)) ∧
    (∀ chain target, target < 4096 →
      Gives (.epochDisarm req chain target) s (fun t => epSts t fEPOCH_STS_ARMED = 0 ∧
        epSts t fEPOCH_STS_RESULT = erDisarmed ∧ curEpoch t = curEpoch s)) ∧
    (epSts s fEPOCH_STS_ARMED = 1 → s.ep.armAt ≤ nowNs s →
      Gives .epochArmFire s (fun t => curEpoch t = epSts s fEPOCH_STS_ARM_EPOCH ∧ epSts t fEPOCH_STS_ARMED = 0 ∧
        epSts t fEPOCH_STS_PREVIOUS = curEpoch s ∧ epSts t fEPOCH_STS_PREV_LIVE = 1)) ∧
    (epSts s fEPOCH_STS_PREV_LIVE = 1 → inflight s (epSts s fEPOCH_STS_PREVIOUS) = 0 →
      s.ep.switchAt + liveF s (pa dev offEPOCH_CFG) fEPOCH_CFG_GRACE_US * tUs ≤ now s →
      s.ep.trailAt + liveF s (pa dev offEPOCH_CFG) fEPOCH_CFG_GRACE_US * tUs ≤ now s →
      Gives .epochRetire s (fun t => epSts t fEPOCH_STS_PREV_LIVE = 0 ∧ curEpoch t = curEpoch s ∧
        (reg t (pa dev offIRQ_STS)).toNat.testBit 9 = true))

/-- The control store of a Grove (R170 to R172, R191, R204, R205): an accepted write reaches every copy and the CRC goes on, an
illegal word is refused; a read waits for its scrub slot and returns the word; a write of GRV_CS_CRC restarts the stream; the
scrub goes on to the next word and reports what it meets; a bad word is repaired from a good copy. -/
def Obligations.ControlStoreCommands : Prop :=
  ∀ (s : State) (req g addr : Nat), stopped s = false → g < 32 → addr < 4096 →
    let pg := grvPage g
    (accepts s req (pa pg offGRV_CS_WR) (mkWord [(fGRV_CS_WR_ADDR, addr)]) = true → quiet s pg = true →
      (microLegal (csData s g) = true →
        Gives (.grvCsWr req g addr) s (fun t => csWord t g addr = csData s g ∧
          (∀ x a, a < 4096 → (x ≠ g ∨ a ≠ addr) → csWord t x a = csWord s x a) ∧
          (reg t (pa pg offGRV_CS_CRC)).toNat = csCrc (reg s (pa pg offGRV_CS_CRC)).toNat addr (csData s g) % 2 ^ 32 ∧
          (∀ a, a ≠ pa pg offGRV_CS_CRC → reg t a = reg s a) ∧
          t = { s with bus := { s.bus with regs := t.bus.regs }, grv := { s.grv with cs := t.grv.cs, csBad := t.grv.csBad } })) ∧
      (microLegal (csData s g) = false →
        Gives (.grvCsWr req g addr) s (fun t => regB t (pa pg offSts) fPAGE_STS_REFUSED = true ∧
          OnlyRegs [pa pg offSts, pa pg offWRITE_REFUSED] s t))) ∧
    (∀ q, q < 8 → accepts s req (pa pg offGRV_CS_RD) (mkWord [(fGRV_CS_RD_COPY, q), (fGRV_CS_RD_ADDR, addr)]) = true →
      Gives (.grvCsRd req g q addr) s (fun t => regB t (pa pg offGRV_CS_RD) fGRV_CS_RD_BUSY = true ∧
        mfind t.grv.csRead g = some (q * 4096 + addr))) ∧
    (∀ v, accepts s req (pa pg offGRV_CS_CRC) v = true →
      Gives (.grvCsCrc req g v) s (fun t => reg t (pa pg offGRV_CS_CRC) = 0 ∧ OnlyRegs [pa pg offGRV_CS_CRC] s t)) ∧
    (∀ q, q < 8 → mfind s.grv.csRead g = some (q * 4096 + addr) → s.grv.csBad.contains (csCopyKey g q addr) = false →
      Gives (.csScrub g q 0) s (fun t => dRegs t (pa pg (offGRV_CS_D 0)) 5 = csWord s g addr % 2 ^ 160 ∧
        regB t (pa pg offGRV_CS_RD) fGRV_CS_RD_BUSY = false ∧ mfind t.grv.csRead g = none)) ∧
    (∀ q, q < 8 → mfind s.grv.csRead g = none → mget (fun _ => 0) s.grv.scrub (g * 8 + q) = addr →
      s.grv.csBad.contains (csCopyKey g q addr) = false →
      Gives (.csScrub g q 0) s (fun t => mget (fun _ => 0) t.grv.scrub (g * 8 + q) = (addr + 1) % 4096 ∧
        t = { s with grv := { s.grv with scrub := t.grv.scrub } }) ∧
      Gives (.csScrub g q 2) s (fun t => t.grv.csBad.contains (csCopyKey g q addr) = true ∧
        t.lko.cap = s.lko.cap ++ [⟨pg, 1, clsUC, false, resId 5 (32768 * g + 4096 * q + addr), kNow s⟩])) ∧
    (∀ q c, q < 8 → c < 8 → c ≠ q → s.grv.csBad.contains (csCopyKey g q addr) = true →
      s.grv.csBad.contains (csCopyKey g c addr) = false →
      Gives (.csRepair g q addr) s (fun t => t.grv.csBad.contains (csCopyKey g q addr) = false ∧
        ctr t (pa pg cGrv_CS_REPAIRS) = Nat.min maxCtr (ctr s (pa pg cGrv_CS_REPAIRS) + 1) ∧
        t = { s with bus := { s.bus with ctr := t.bus.ctr }, grv := { s.grv with csBad := t.grv.csBad } }))

/-- Engines in service and fenced, with what a fence does to a pass that runs on the engine and which fallow engine takes its
place (R199, R200), and the drain of a quiesced Grove (R201). It rests on log entry 30 (DEDUCED). -/
def Obligations.EngineServiceFencesAndDrain : Prop :=
  ∀ (s : State) (req g : Nat) (v : Word), stopped s = false → g < 32 →
    (accepts s req (pa (grvPage g) offGRV_ENG_SVC) v = true →
      Gives (.inService req g v) s (fun t =>
        (∀ e, e < 32 → engBit t offGRV_ENG_SVC g e = (v.toNat.testBit e &&
          (!engBit s offGRV_ENG_FENCE g e || engBit s offGRV_ENG_SVC g e))) ∧
        (∀ e, e < 32 → engBit t offGRV_ENG_LOAN g e = (v.toNat.testBit e && engBit s offGRV_ENG_LOAN g e)) ∧
        OnlyRegs [pa (grvPage g) offGRV_ENG_SVC, pa (grvPage g) offGRV_ENG_LOAN] s t)) ∧
    (accepts s req (pa (grvPage g) offGRV_ENG_FENCE) v = true →
      Gives (.fenced req g v) s (fun t =>
        ∀ e, e < 32 → engBit t offGRV_ENG_FENCE g e =
          (v.toNat.testBit e || (engBit s offGRV_ENG_FENCE g e && engBit s offGRV_ENG_PERM g e)))) ∧
    -- one engine fenced: its one busy thread's pass is abandoned and restarts, and a fallow engine takes its place
    (∀ e x k p, e < 32 → accepts s req (pa (grvPage g) offGRV_ENG_FENCE) v = true → engBit s offGRV_ENG_FENCE g e = false →
      (∀ f, f < 32 → v.toNat.testBit f = (f == e || engBit s offGRV_ENG_FENCE g f)) →
      x ∈ engThreads g e → (∀ y ∈ engThreads g e, y ≠ x → (thread s y).st = .free) → attempting (thread s x) = true →
      (thread s x).pass = k → pass? s k = some p → p.headLost = false →
      p.counted ≤ liveF s (pa dev offACT_CFG) fACT_CFG_RESTART_MAX →
      Gives (.fenced req g v) s (fun t => (∀ y ∈ engThreads g e, (thread t y).st = .free) ∧
        pass? t k = some { p with lastTid := x, tid := noThread, cause := causeFence, faultPc := 0, phase := .restart, redo := true } ∧
        k ∈ t.disp.restarts ∧ ctr t (pa (grvPage g) cGrv_ABANDONS) = Nat.min maxCtr (ctr s (pa (grvPage g) cGrv_ABANDONS) + 1) ∧
        engBit t offGRV_ENG_FENCE g e = true ∧ engBit t offGRV_ENG_SVC g e = false ∧ engBit t offGRV_ENG_LOAN g e = false ∧
        (reg t (pa (grvPage g) offIRQ_STS)).toNat.testBit 0 = true ∧
        (engBit s offGRV_ENG_SVC g e = true → liveB s (pa (grvPage g) offGRV_CFG) fGRV_CFG_AUTO_SPARE = true →
          (∀ f, spareFor s g = some f → engBit t offGRV_ENG_SVC (f / 32) (f % 32) = true) ∧
          (spareFor s g = none → (reg t (pa (grvPage g) offIRQ_STS)).toNat.testBit 1 = true)))) ∧
    (∀ t0, mfind s.grv.drainAt g = some t0 → quiesceReq s (grvPage g) = true →
      t0 + liveF s (pa (grvPage g) offGRV_CFG) fGRV_CFG_DRAIN_US * tUs ≤ now s →
      Gives (.drainTimeout g) s (fun t => ∀ x ∈ groveThreads g, (thread t x).st = .free))

/-- SCH_CMD (R281, R291, R292): READ brings a pool entry, or a queue's status, into SCH_D; WRITE puts SCH_D into a pool entry;
FLUSH empties a queue, and takes its copies out of X9. Each answers in STATUS; an index beyond the pool answers BAD_INDEX and changes nothing else. -/
def Obligations.SchedulerTableAccess : Prop :=
  ∀ (s : State) (req ty i : Nat), stopped s = false → i < 32768 →
    let regsD := (List.range 4).map (fun n => pa pgSch (offSCH_D n))
    (accepts s req (pa pgSch offSCH_CMD) (schWord 0 ty i) = true → ty ≤ 4 →
      (i < poolSize (if ty = 4 then 0 else ty) →
        Gives (.schRead req ty i) s (fun t =>
          dRegs t (pa pgSch (offSCH_D 0)) 4 = (if ty = 4 then queueStatus s i else node s (nodeKey ty i)) % 2 ^ 128 ∧
          regF t (pa pgSch offSCH_CMD) fSCH_CMD_STATUS = stOk ∧ OnlyRegs (pa pgSch offSCH_CMD :: regsD) s t)) ∧
      (poolSize (if ty = 4 then 0 else ty) ≤ i →
        Gives (.schRead req ty i) s (fun t => regF t (pa pgSch offSCH_CMD) fSCH_CMD_STATUS = stBadIndex ∧
          OnlyRegs [pa pgSch offSCH_CMD] s t))) ∧
    (let e := entryMask ty (dRegs s (pa pgSch (offSCH_D 0)) 4)
     accepts s req (pa pgSch offSCH_CMD) (schWord 1 ty i) = true → ty < 4 → i < poolSize ty →
      entryIllegal ty e = false → nEn (node s (nodeKey ty i)) = false → (nEn e = true → enableRefused s ty i e = false) →
      entryQuiet ty e = entryQuiet ty (node s (nodeKey ty i)) →
      Gives (.schWrite req ty i) s (fun t => node t (nodeKey ty i) = e ∧
        (∀ k, k ≠ nodeKey ty i → node t k = node s k) ∧ regF t (pa pgSch offSCH_CMD) fSCH_CMD_STATUS = stOk ∧
        (∀ a, a ≠ pa pgSch offSCH_CMD → reg t a = reg s a) ∧
        t = { s with bus := { s.bus with regs := t.bus.regs }, sch := { s.sch with node := t.sch.node } })) ∧
    (accepts s req (pa pgSch offSCH_CMD) (schWord 2 0 i) = true →
      (∀ id ∈ queueList s i, ∃ d, mfind s.clr.desc id = some d ∧ d.queue = i) →
      Gives (.flush req 0 i) s (fun t => queueList t i = [] ∧
        (∀ p, ∀ x ∈ (port t p).next, x.id ∉ waitingCopies s i) ∧
        regF t (pa pgSch offSCH_CMD) fSCH_CMD_STATUS = stOk))

/-- GATE_CMD (R291, R299, R303): READ of the four kinds of entry, WRITE of a port's administrative entry and of a pool entry not
in use, CONFIGURATION_CHANGE, which holds the entry with its change time; and GATE_EN, whose fall clears the port's gates
(R297). -/
def Obligations.GateTableAccess : Prop :=
  ∀ (s : State) (req i : Nat), stopped s = false → i < 65536 →
    let d0 := pa pgGate (offGATE_D 0)
    let regsD := (List.range 8).map (fun n => pa pgGate (offGATE_D n))
    (∀ ty, ty = 0 ∨ ty = 3 → accepts s req (pa pgGate offGATE_CMD) (gateWord 0 ty i) = true → (ty = 0 → i < 256) →
      Gives (.gateRead req ty i) s (fun t =>
        dRegs t d0 8 = (if ty = 0 then gateAdmin s i else poolEntry s i) % 2 ^ 256 ∧
        regF t (pa pgGate offGATE_CMD) fGATE_CMD_STATUS = stOk ∧ OnlyRegs (pa pgGate offGATE_CMD :: regsD) s t)) ∧
    (∀ ty, ty = 1 ∨ ty = 2 → accepts s req (pa pgGate offGATE_CMD) (gateWord 0 ty i) = true → i < 256 →
      (gatePort s i).run = none → (gatePort s i).pend = none →
      Gives (.gateRead req ty i) s (fun t =>
        dRegs t d0 8 = (if ty = 1 then 0 else (gatePort s i).gates * 2 ^ 16) % 2 ^ 256 ∧
        regF t (pa pgGate offGATE_CMD) fGATE_CMD_STATUS = stOk ∧ OnlyRegs (pa pgGate offGATE_CMD :: regsD) s t)) ∧
    (accepts s req (pa pgGate offGATE_CMD) (gateWord 1 0 i) = true → i < 256 →
      natField (dRegs s d0 8) 159 128 ≤ 999999999 →
      Gives (.gateWrite req 0 i) s (fun t =>
        (∀ b, b < 224 → b ≠ 27 → ¬(36 ≤ b ∧ b ≤ 63) → (gateAdmin t i).testBit b = (dRegs s d0 8).testBit b) ∧
        (∀ j, j ≠ i → gateAdmin t j = gateAdmin s j) ∧ regF t (pa pgGate offGATE_CMD) fGATE_CMD_STATUS = stOk)) ∧
    (accepts s req (pa pgGate offGATE_CMD) (gateWord 1 3 i) = true → poolInUse s i = false →
      dRegs s d0 8 % 2 ^ 32 / 256 ≠ 0 →
      Gives (.gateWrite req 3 i) s (fun t => poolEntry t i = dRegs s d0 8 % 2 ^ 32 ∧
        (∀ j, j ≠ i → poolEntry t j = poolEntry s j) ∧ regF t (pa pgGate offGATE_CMD) fGATE_CMD_STATUS = stOk)) ∧
    (let e := gateAdmin s i
     accepts s req (pa pgGate offGATE_CMD) (gateWord 2 0 i) = true → i < 256 → gateEn s i = true → 1 ≤ gListLen e →
      gListLen e ≤ 1024 → gListBase e + gListLen e ≤ 65536 → 100 ≤ gCycle e → gCycle e ≤ 4000000000 → gCte e ≤ gCycle e →
      Gives (.configurationChange req 0 i) s (fun t => (gatePort t i).pend = some (e, changeTime e (nowNs s)) ∧
        (gatePort t i).run = (gatePort s i).run ∧ regF t (pa pgGate offGATE_CMD) fGATE_CMD_STATUS = stOk ∧
        (∀ a, a ≠ pa pgGate offGATE_CMD → reg t a = reg s a))) ∧
    (∀ m v, m < 8 → accepts s req (pa pgGate (offGATE_EN m)) v = true →
      Gives (.gateEn req m v) s (fun t => reg t (pa pgGate (offGATE_EN m)) = v ∧
        (∀ b, b < 32 → v.toNat.testBit b = false → gateEn s (32 * m + b) = true →
          gatePort t (32 * m + b) = gatePortReset (32 * m + b)) ∧
        (∀ b, b < 32 → v.toNat.testBit b = true → gateEn s (32 * m + b) = false → txClass s (32 * m + b) = none →
          (gatePort t (32 * m + b)).gates = gAdminGates (gateAdmin s (32 * m + b))) ∧
        (∀ b, b < 32 → v.toNat.testBit b = gateEn s (32 * m + b) →
          gatePort t (32 * m + b) = gatePort s (32 * m + b))))

/-- The gate events: a pending configuration is taken at its change time (R300), and the gates follow the list (R298). A
selection (R282, R283) serves the head of an eligible queue of the port it picks: the frame leaves the queue and is in
transmission on the port, or waits in X9 behind the frame in transmission and those before it. The timing wheel releases an
entry whose slot has come (R289, R290). It rests on log entry 11 (DEDUCED), log entry 115 (DESIGN CHOICE). -/
def Obligations.GateEventsAndSelections : Prop :=
  ∀ s : State, stopped s = false →
    (∀ p, p < 256 →
    (∀ cfg tc, (gatePort s p).pend = some (cfg, tc) → tc ≤ nowNs s → txClass s p = none →
      Gives (.configChangeTake p) s (fun t => (gatePort t p).run = some ⟨cfg, tc, tc, 0⟩ ∧ (gatePort t p).pend = none ∧
        (gatePort t p).gates = cfgGates s cfg 0 ∧
        ctr t (pa pgGate cGate_CONFIG_CHANGES) = Nat.min maxCtr (ctr s (pa pgGate cGate_CONFIG_CHANGES) + 1) ∧
        (reg t (pa pgGate offIRQ_STS)).toNat.testBit 0 = true ∧ ∀ q, q ≠ p → gatePort t q = gatePort s q)) ∧
    (∀ r, (gatePort s p).run = some r → (gatePort s p).pend = none → (gatePort s p).stepped = false →
      listPos s r none (nowNs s) ≠ (r.cyc, r.entry) → txClass s p = none →
      Gives (.gateEntryAdvance p) s (fun t =>
        (gatePort t p).run = some { r with cyc := (listPos s r none (nowNs s)).1, entry := (listPos s r none (nowNs s)).2 } ∧
        (gatePort t p).gates = cfgGates s r.cfg (listPos s r none (nowNs s)).2 ∧
        ∀ q, q ≠ p → gatePort t q = gatePort s q))) ∧
    (∀ g p, safe s = false → selectPort s g = some p →
      Gives (.selection g) s (fun t => ∃ q id d rest, q ∈ eligQueues s p ∧ queueList s q = id :: rest ∧
        mfind s.clr.desc id = some d ∧ queueList t q = rest ∧
        ((port s p).tx = none → (port s p).next = [] → (port t p).tx = some id ∧ (port t p).next = []) ∧
        (((port s p).tx ≠ none ∨ (port s p).next ≠ []) → (port t p).tx = (port s p).tx ∧
          (port t p).next = (port s p).next ++ [⟨id, maxLen s p, d.len⟩]) ∧
        (∀ r, r ≠ q → queueList t r = queueList s r) ∧
        ctr t (pa pgSch cSch_SELECTIONS) = Nat.min maxCtr (ctr s (pa pgSch cSch_SELECTIONS) + 1) ∧
        t = { s with bus := { s.bus with ctr := t.bus.ctr }, sch := t.sch, ports := t.ports })) ∧
    (∀ e, wheelDue s false = [e] → wheelDue s true = [] → e.coarse = false →
      Gives .wheelRelease s (fun t => inWheel t e.key = false ∧
        (∀ k, k ≠ e.key → inWheel t k = inWheel s k) ∧
        Nat.min 0xFFFF ((now s - e.slot * 3) / 2) ≤ regF t (pa pgRc offRC_LAG) fRC_LAG_LAG ∧
        (∀ a, a ≠ pa pgRc offRC_LAG → reg t a = reg s a) ∧
        t = { s with bus := { s.bus with regs := t.bus.regs }, sch := { s.sch with wheel := t.sch.wheel } }))

/-- The time counter (R306, R307, R313 to R315): TIME_READ copies it, TIME_SET and TIME_ADD step it and set STEPPED, a write
of TREF_25 enters holdover, whatever value it gives, a PPS_IN edge is stamped, PPS_OUT rises at its point, a SYNCE output is
squelched as its lane says, and the loss and the return of TIMEREF. It rests on log entry 70 (DEDUCED), log entry 127
(DEDUCED). -/
def Obligations.TimeCounterCommands : Prop :=
  ∀ (s : State) (req : Nat), held s = false →
    let sts := pa pgPtp offTIME_STS
    let d := fun k => pa pgPtp (offTIME_D k)
    let ctl := fun v => !clkStopped s && accepts s req (pa pgPtp offTIME_CTL) (mkWord [(fTIME_CTL_OP, v)])
    (ctl 1 = true → Gives (.timeRead req) s (fun t =>
      (reg t (d 0)).toNat = frac16 s.time.now % 2 ^ 32 ∧ (reg t (d 1)).toNat = s.time.now.ns % 2 ^ 32 ∧
      (reg t (d 2)).toNat + 2 ^ 32 * (reg t (d 3)).toNat = s.time.now.sec % 2 ^ 64 ∧
      OnlyRegs [d 0, d 1, d 2, d 3] s t)) ∧
    (ctl 2 = true → (reg s (d 1)).toNat < 1000000000 → Gives (.timeSet req) s (fun t =>
      t.time.now = ⟨(reg s (d 2)).toNat + (reg s (d 3)).toNat % 65536 * 2 ^ 32, (reg s (d 1)).toNat,
        (reg s (d 0)).toNat % 65536 * 2 ^ 28⟩ ∧ t.time.cclk = s.time.cclk ∧ regB t sts fTIME_STS_STEPPED = true ∧
      (∀ a, a ≠ pa pgGate cGate_CLOSE_DEFERRED → ctr t a = ctr s a) ∧
      ((∀ p, (port s p).tx = none) → OnlyRegs [sts] { s with time := t.time, gate := t.gate } t))) ∧
    (ctl 3 = true → Gives (.timeAdd req) s (fun t =>
      t.time.now = tcOfFrac (fracOfTc s.time.now + signed 32 (reg s (d 1)).toNat * 2 ^ 44) ∧
      t.time.cclk = s.time.cclk ∧ regB t sts fTIME_STS_STEPPED = true ∧
      (∀ a, a ≠ pa pgGate cGate_CLOSE_DEFERRED → ctr t a = ctr s a) ∧
      ((∀ p, (port s p).tx = none) → OnlyRegs [sts] { s with time := t.time, gate := t.gate } t))) ∧
    (∀ b, clkStopped s = false → accepts s req (pa pgPtp offPTP_CFG)
        (fset (reg s (pa pgPtp offPTP_CFG)) fPTP_CFG_TREF_25 (if b then 1 else 0)) = true →
      Gives (.tref25 req b) s (fun t => regB t (pa pgPtp offPTP_CFG) fPTP_CFG_TREF_25 = b ∧
        regB t sts fTIME_STS_TREF_LOCK = false ∧ regB t sts fTIME_STS_HOLDOVER = true ∧ t.time.now = s.time.now)) ∧
    (Gives .ppsIn s (fun t => (reg t (pa pgPtp offPPS_IN_SEC)).toNat = s.time.now.sec % 2 ^ 32 ∧
      (reg t (pa pgPtp offPPS_IN_NS)).toNat = s.time.now.ns % 2 ^ 32 ∧
      (reg t (pa pgPtp offIRQ_STS)).toNat.testBit 0 = true ∧ t.time = s.time)) ∧
    (fbit (live s (pa pgPtp offPPS_OUT)) fPPS_OUT_EN = true → s.time.ppsLast < ppsPoint s → s.time.ppsEnd = none →
      Gives .ppsOut s (fun t => t.time.ppsLast = ppsPoint s ∧
        t.time.ppsEnd = some (now s + fget (live s (pa pgPtp offPPS_OUT)) fPPS_OUT_WIDTH_US * tUs) ∧
        t = { s with time := { s.time with ppsEnd := t.time.ppsEnd, ppsLast := t.time.ppsLast } })) ∧
    (∀ n, n < 2 → Gives (.squelched n) s (fun t => regB t (pa pgPtp (offSYNCE n)) fSYNCE_SQUELCHED = syncEOff s n ∧
      OnlyRegs [pa pgPtp (offSYNCE n)] s t)) ∧
    (s.pin.verdict = true → s.pin.lost.contains 1 = false → Gives .timerefLoss s (fun t => t.pin.lost.contains 1 = true ∧
      regB t sts fTIME_STS_TREF_LOCK = false ∧ regB t sts fTIME_STS_HOLDOVER = true ∧
      regB t (pa pgClk offCLK_STS) fCLK_STS_TIMEREF_OK = false ∧
      (s.pin.lost.contains 0 = true → regB t sts fTIME_STS_STOPPED = true) ∧
      t.lko.cap = s.lko.cap ++ [⟨pgClk, 1, clsCE, false, 0, kNow s⟩] ∧ t.time.now = s.time.now)) ∧
    (∀ t0, s.time.trefSince = some t0 → t0 + 10 * tMs ≤ kNow s → regB s sts fTIME_STS_TREF_LOCK = false →
      Gives (.timerefRelock (regB s (pa pgPtp offPTP_CFG) fPTP_CFG_TREF_25)) s (fun t => regB t sts fTIME_STS_TREF_LOCK = true ∧
        regB t sts fTIME_STS_HOLDOVER = false ∧ regB t sts fTIME_STS_STOPPED = false ∧ t.time.now = s.time.now))

/-- The service timers (R317 to R322): SVC_CFG.PROFILE 0 stops every timer, 1 starts every enabled entry within one period;
TMR_READ and TMR_WRITE; a timer that is due enters the FIFO with its count and takes its next time from this one, and is
skipped where the FIFO is full or its last head is outstanding; TIMER_INJECT makes the oldest a packet of port 256's class
that waits for dispatch. It rests on log entry 50 (DEDUCED). -/
def Obligations.ServiceTimerCommands : Prop :=
  ∀ (s : State) (req i : Nat) (v : Word), stopped s = false → i < 131072 →
    let cmd := fun op => mkWord [(fTMR_CMD_OP, op), (fTMR_CMD_INDEX, i)]
    let d := pa pgRc (offTMR_D 0)
    (accepts s req (pa dev offSVC_CFG) v = true →
      Gives (.svcCfg req v) s (fun t => regF t (pa dev offSVC_CFG) fSVC_CFG_PROFILE = v.toNat % 2 ∧
        (v.toNat % 2 = 0 → t.svc.next = []) ∧
        (v.toNat % 2 = 1 → tEn (timerEntry s i) = true → inWheel t (timerKey i) = true ∧
          ∃ k, k < 256 ∧ mfind t.svc.next i = some (now s + tPeriod (timerEntry s i) * tUs * k / 256)) ∧
        t.svc.entry = s.svc.entry)) ∧
    (accepts s req (pa pgRc offTMR_CMD) (cmd 0) = true →
      Gives (.tmrRead req i) s (fun t => dRegs t d 2 = timerEntry s i % 2 ^ 64 ∧
        regF t (pa pgRc offTMR_CMD) fTMR_CMD_STATUS = stOk ∧
        regB t (pa pgRc offTMR_CMD) fTMR_CMD_OUT = s.svc.outstanding.contains i ∧
        OnlyRegs [pa pgRc offTMR_CMD, d, pa pgRc (offTMR_D 1)] s t)) ∧
    (accepts s req (pa pgRc offTMR_CMD) (cmd 1) = true →
      (timerIllegal (dRegs s d 2) = false →
        Gives (.tmrWrite req i) s (fun t => timerEntry t i = natSetBit (dRegs s d 2) 31 false ∧ (∀ j, j ≠ i → timerEntry t j = timerEntry s j) ∧
          regF t (pa pgRc offTMR_CMD) fTMR_CMD_STATUS = stOk)) ∧
      (timerIllegal (dRegs s d 2) = true →
        Gives (.tmrWrite req i) s (fun t => t.svc = s.svc ∧
          regF t (pa pgRc offTMR_CMD) fTMR_CMD_STATUS = stEncoding))) ∧
    (∀ at_, mfind s.svc.next i = some at_ → svcOn s = true → tEn (timerEntry s i) = true → at_ ≤ now s →
      inWheel s (timerKey i) = false →
      let n := (mget (fun _ => 0) s.svc.fired i + 1) % 65536
      (s.svc.fifo.length < 4096 → s.svc.outstanding.contains i = false →
        Gives (.timerFire i) s (fun t => t.svc.fifo = s.svc.fifo ++ [(i, timerEntry s i, n)] ∧
          mget (fun _ => 0) t.svc.fired i = n ∧ inWheel t (timerKey i) = true ∧
          (∃ k, k < 256 ∧ mfind t.svc.next i = some (at_ + timerInterval (timerEntry s i) k)) ∧
          t = { s with svc := t.svc, sch := { s.sch with wheel := t.sch.wheel } })) ∧
      (s.svc.outstanding.contains i = true ∨ 4096 ≤ s.svc.fifo.length →
        Gives (.timerFire i) s (fun t => t.svc.fifo = s.svc.fifo ∧
          (∃ k, k < 256 ∧ mfind t.svc.next i = some (at_ + timerInterval (timerEntry s i) k)) ∧
          ctr t (pa pgRc cTmr_TMR_SKIPPED) = Nat.min maxCtr (ctr s (pa pgRc cTmr_TMR_SKIPPED) + 1) ∧
          (reg t (pa pgRc offIRQ_STS)).toNat.testBit 1 = true))) ∧
    (∀ e n rest, svcOn s = true → s.svc.fifo = (i, e, n) :: rest → (dispQ s 36).length < 256 → s.svc.lastAt + 64 ≤ now s →
      Gives .timerInject s (fun t => t.svc.fifo = rest ∧ t.svc.outstanding.contains i = true ∧
        dispQ t 36 = dispQ s 36 ++ [s.disp.nextPass] ∧
        (∃ p, pass? t s.disp.nextPass = some p ∧ p.src = 260 ∧ p.phase = .queued ∧ p.epoch = curEpoch s ∧
          p.prv = timerPrv s i e n) ∧
        inflight t (curEpoch s) = inflight s (curEpoch s) + 1 ∧
        ctr t (pa pgRc cTmr_TMR_INJECTED) = Nat.min maxCtr (ctr s (pa pgRc cTmr_TMR_INJECTED) + 1)))

/-- The images of the service offload (R324 to R328, R334): what each leaves in the session's block or MEP, what it counts,
and that it ends its thread and touches no other session. A tick or a packet advances or resets MISS and runs the state
machine; a CCM is held against the MEP's level, MEG ID, MEP ID and period; a CFM frame for no MEP goes on in the user's
routine. The conditions are those of a pass of the image's profile that holds its block's locks at once (R218); a read of the
block that is UNCORRECTABLE abandons the pass. A CALL of svc_arp or svc_nd answers a request whose target its table holds, and
else returns 0 in w29 with nothing staged but ND_BAD (R330). The firmware takes the oldest Learn Queue entry when it has no
answer to take and nothing to flush, and posts the INSERT of a LEARN notice (R331). It rests on log entry 15 (DESIGN CHOICE),
log entry 21 (DESIGN CHOICE), log entry 29 (DEDUCED), log entry 48 (DEDUCED), log entry 49 (DESIGN CHOICE), log entry 112
(DEDUCED), log entry 120 (DESIGN CHOICE), log entry 121 (PRESUMED), log entry 139 (DESIGN CHOICE). -/
def Obligations.ServiceImagesUpdateTheirSession : Prop :=
  ∀ (s : State) (x k : Nat) (p : Pass), stopped s = false → x < noThread → svcPairsApart s →
    let up := fun (t : State) (i : Nat) (more : Bool) =>
      (pair t (0x75FE0 + i)).1 = if more then Nat.min maxCtr ((pair s (0x75FE0 + i)).1 + 1) else (pair s (0x75FE0 + i)).1
    (svcPass s x 0xF0 = some (k, p) → blockFree s (leAt p.prv 28 4 % 2 ^ 20) = true → ∀ n,
      let c := leAt p.prv 28 4 % 2 ^ 20
      let b := block s c
      let miss := (leAt b 20 2 + 1) % 65536
      let down := (bfdState b == 2 || bfdState b == 3) && decide (leAt b 18 2 ≤ miss)
      let st := if down then 1 else bfdState b
      let cnt := (leAt b 16 2 + 1) % 65536
      let sends := decide ((if st = 3 then leAt b 12 2 else leAt b 14 2) ≤ cnt)
      Gives (.bfdTick x ⟨n, false⟩) s (fun t => leAt (block t c) 20 2 = miss ∧ bfdState (block t c) = st ∧
        (down = true → bfdDiag (block t c) = 1) ∧ leAt (block t c) 16 2 = (if sends then 0 else cnt) ∧
        up t 14 true ∧ up t 13 down ∧ up t 0 sends ∧
        (∀ i, (i < c ∨ c + 4 ≤ i) → context t i = context s i) ∧ (thread t x).st = .free)) ∧
    (svcPass s x 0xF1 = some (k, p) → ∀ off n,
      let pkt := p.head.drop off
      let c := 0xC0000 + 4 * (beAt pkt 8 4 % 65536)
      blockFree s c = true →
      (bfdValid (block s c) pkt = true →
        Gives (.bfdReceive x off ⟨n, false⟩) s (fun t =>
          bfdState (block t c) = (bfdNext (bfdState (block s c)) (bfdDiag (block s c)) ((byteAt pkt 1).toNat / 64)).1 ∧
          leAt (block t c) 20 2 = 0 ∧ leAt (block t c) 4 4 = beAt pkt 4 4 ∧
          bfdPoll (block t c) = (bfdPoll (block s c) && !(byteAt pkt 1).toNat.testBit 4) ∧
          up t 1 true ∧ up t 0 ((byteAt pkt 1).toNat.testBit 5) ∧
          (∀ i, (i < c ∨ c + 4 ≤ i) → context t i = context s i) ∧ (thread t x).st = .free)) ∧
      (bfdValid (block s c) pkt = false →
        Gives (.bfdReceive x off ⟨n, false⟩) s (fun t => up t 2 true ∧ (∀ i, context t i = context s i) ∧ (thread t x).st = .free))) ∧
    (svcPass s x 0xF2 = some (k, p) → let m := mepOf p
      let v := mepNow s m
      let miss := Nat.min 65535 (v.miss + 1)
      blockFree s (mepCtx m) = true →
      Gives (.ccmTick x false false false) s (fun t =>
        mget mepReset t.svc.mep m = { v with miss := miss, loc := v.loc || decide (4 ≤ miss), last := mepBytes m t } ∧
        (∀ q, q ≠ m → mget mepReset t.svc.mep q = mget mepReset s.svc.mep q) ∧
        up t 3 true ∧ up t 14 true ∧ up t 13 (decide (4 ≤ miss) && !v.loc) ∧ (thread t x).st = .free)) ∧
    (svcPass s x 0xF3 = some (k, p) → ∀ kd row,
      (∀ o e, cfmAt p.head = some o → cfmFind s p o = some e →
        let m := Config.mepEntry (emtImage s 62 e) % 16384
        let pdu := p.head.drop o
        let op := (byteAt pdu 1).toNat
        let v := mepNow s m
        blockFree s (mepCtx m) = true →
        (op = 1 → ccmCause v.base pdu = 0 →
          Gives (.cfmReceive x false kd row false false false false) s (fun t => let w := mget mepReset t.svc.mep m
            w.miss = 0 ∧ w.loc = false ∧ w.rdi = (byteAt pdu 2).toNat.testBit 7 ∧ w.unexp = false ∧ w.base = v.base ∧
            up t 4 true ∧ (∀ q, q ≠ m → mget mepReset t.svc.mep q = mget mepReset s.svc.mep q) ∧ (thread t x).st = .free)) ∧
        (op = 1 → ccmCause v.base pdu ≠ 0 →
          Gives (.cfmReceive x false kd row false false false false) s (fun t => mget mepReset t.svc.mep m = { v with unexp := true, last := mepBytes m t } ∧
            up t 5 true ∧ up t 13 true ∧ (thread t x).st = .free)) ∧
        (op = 42 → Gives (.cfmReceive x false kd row false false false false) s (fun t => let cnt : LossCounts := ⟨beAt pdu 4 4, beAt pdu 8 4, beAt pdu 12 4, mepRx s m⟩
            mget mepReset t.svc.mep m = { v with last := mepBytes m t, lmr := some cnt } ∧
          up t 13 v.lmr.isSome ∧ (thread t x).st = .free)) ∧
        (op = 3 ∨ op = 5 ∨ op = 43 ∨ op = 46 ∨ op = 47 → Gives (.cfmReceive x false kd row false false false false) s (fun t => t.svc.mep = s.svc.mep ∧
          (∀ i, context t i = context s i) ∧ up t 6 (op == 3) ∧ up t 8 (op == 43) ∧ up t 9 (op == 47) ∧
          up t 7 (op == 5 && slice pdu 15 6 == mepMac v.base) ∧ up t 13 (op == 46) ∧ (thread t x).st = .free))) ∧
      ((∀ o, cfmAt p.head = some o → cfmFind s p o = none ∨ cfmServed (byteAt p.head (o + 1)).toNat = false) →
        Gives (.cfmReceive x false kd row false false false false) s (fun t => t = s))) ∧
    (svcPass s x 0xF6 = some (k, p) → blockFree s (mepCtx (mepOf p)) = true →
      Gives (.lmDmTick x false false) s (fun t => t.svc.mep = s.svc.mep ∧ (∀ i, context t i = context s i) ∧ up t 14 true ∧ up t 15 true ∧
        (thread t x).st = .free)) ∧
    (∀ n a b d c, (a || b || d) = true →
      (c = .bfdTick x ⟨n, true⟩ ∧ svcPass s x 0xF0 = some (k, p) ∧ blockFree s (leAt p.prv 28 4 % 2 ^ 20) = true ∨
        c = .ccmTick x a b d ∧ svcPass s x 0xF2 = some (k, p) ∧ blockFree s (mepCtx (mepOf p)) = true ∨
        c = .lmDmTick x true d ∧ svcPass s x 0xF6 = some (k, p) ∧ blockFree s (mepCtx (mepOf p)) = true) →
      Gives c s (fun t => t = boardKeeps s (abandon x causeLookup 0 0 s))) ∧
    (∀ n rest, sapRunning s = true → s.tae.sapC = [] → s.sap.flush = [] → s.emt.lq = n :: rest →
      liveB s (pa pgEmt offLQ_CFG) fLQ_CFG_OWNER = false → s.tae.sapQ.length < 256 →
      (reg s (pa pgEmt offLQ_HEAD)).toNat < 131072 →
      Gives .firmwareLearn s (fun t => t.emt.lq = rest ∧
        (reg t (pa pgEmt offLQ_HEAD)).toNat = ((reg s (pa pgEmt offLQ_HEAD)).toNat + 1) % 131072 ∧
        (∀ off, n % 16 = 1 → let tbl := natField n 13 8
          learnOff s tbl = some off → emtOn s tbl = true → emtKeyLen s tbl ≤ 12 →
          t.tae.sapQ = (learnPost opInsert tbl (learnImage s n tbl off) s).tae.sapQ))) ∧
    (∀ eng q, SeqReady s eng 4 x → svcOn s = true → passOf s x = some q → (wordThread s x).issued + 96 < 512 →
      (wordThread s x).staged.edits < 16 → (wordThread s x).staged.cnts.length < 8 →
      let w := wordOf s x
      let st := (wordThread s x).staged
      let e := etherTypeAt st.copy 4 12
      let call := fun (answer : Word) (copy : Bytes) (cnts : List (Nat × Nat)) =>
        Gives (.seqCall eng) s (fun t => wreg (thread t x) 29 = answer ∧ (thread t x).pc = mwImm w % 4096 ∧
          (thread t x).staged.copy = copy ∧ (thread t x).staged.cnts = cnts ∧
          (answer = 0 → (thread t x).staged.dispo = st.dispo) ∧
          (answer = 1 → dAction (thread t x).staged.dispo = 1 ∧ dClass (thread t x).staged.dispo = 7 ∧
            dDest (thread t x).staged.dispo = leAt q.prv 4 2 % 512 ∧ dQueue (thread t x).staged.dispo = 7) ∧
          (∀ y, y ≠ x → thread t y = thread s y))
      (nextC (wordThread s x) w = svcArpEntry →
        (e.1 ≠ 0x0806 ∨ arpAsks st.copy e.2 = false → call 0 st.copy st.cnts) ∧
        (e.1 = 0x0806 → arpAsks st.copy e.2 = true →
          let found := emtFind s 60 (padTo (emtKeyLen s 60) (arpKey q st.copy e.2)) q.epoch
          (found = none → call 0 st.copy st.cnts) ∧
          (∀ i, found = some i →
            call 1 (arpReply st.copy e.2 (slice (emtImage s 60 i) 8 6)) (st.cnts ++ [(0x75FEA, passLen q)])))) ∧
      (nextC (wordThread s x) w = svcNdEntry →
        (e.1 ≠ 0x86DD ∨ ndAsks st.copy e.2 = false → call 0 st.copy st.cnts) ∧
        (e.1 = 0x86DD → ndAsks st.copy e.2 = true →
          (byteAt st.copy (e.2 + 7) ≠ 255 → call 0 st.copy (st.cnts ++ [(0x75FEC, passLen q)])) ∧
          (byteAt st.copy (e.2 + 7) = 255 →
            let found := emtFind s 61 (padTo (emtKeyLen s 61) (ndKey q st.copy e.2)) q.epoch
            (found = none → call 0 st.copy st.cnts) ∧
            (∀ i d o, found = some i → ndResize q st e.2 = .ok d o →
              call 1 (ndReply st.copy d e.2 (slice (emtImage s 61 i) 20 6)
                ((byteAt (emtImage s 61 i) 26).toNat.testBit 0)) (st.cnts ++ [(0x75FEB, passLen q)]))))))

/-- The interrupt controller (R387, R388, R390 to R394, R398): a software interrupt latches its edge when enabled; IC_EOI
retires an active source and counts a bad one; a core's timer expires. An entry pushes the core's eight words below its stack
pointer, claims the source presented and goes to its vector; of two cores that claim one source in the same MCLK the one the
pointer comes to first has it and the other receives source 0, as does a core whose source has vanished; no second spurious
frame is pushed (log entry 129, DEDUCED). A return with nothing presented restores the frame; with a source presented under the
restored priority it chains to that source in the same frame. HEV_ACK puts a vector with no asserted source back to IDLE. -/
def Obligations.InterruptControllerCommands : Prop :=
  ∀ (s : State) (req n q : Nat), stopped s = false → n < 4 → q < 512 →
    let c := Machine.core s n
    let others := fun t : State => ∀ m, m ≠ n → Machine.core t m = Machine.core s m
    -- a frame pushed for source x
    let pushed := fun (x : Nat) (t : State) =>
      let d := Machine.core t n
      d.pc = vector s n x ∧ d.sp = (c.sp + 2 ^ 32 - 32) % 2 ^ 32 ∧ d.frames = x :: c.frames ∧ d.status = c.status ∧
      frameWord d 0 = BitVec.ofNat 32 c.pc ∧ frameWord d 1 = c.status ∧
      frameWord d 2 = BitVec.ofNat 32 (x + icRp s n * 65536) ∧
      (∀ i, i < 5 → frameWord d (3 + i) = coreReg c i ∧ coreReg d i = coreReg c i) ∧ others t
    let taken := fun t : State => icActiveOn t q n = true ∧ q ∉ t.ic.latch ∧ icRp t n = srcPrio s q
    let lost := fun t : State => t.ic.active = s.ic.active ∧ icRp t n = icRp s n ∧
      ctr t (pa pgIc (cIc_SPURIOUS n)) = Nat.min maxCtr (ctr s (pa pgIc (cIc_SPURIOUS n)) + 1)
    (accepts s req (pa pgIc offIC_SGI) (BitVec.ofNat 32 q) = true → 1 ≤ q → q ≤ 15 →
      Gives (.icSgi req q) s (fun t => (srcEn s q = true → q ∈ t.ic.latch) ∧ (srcEn s q = false → t = s) ∧
        t = { s with ic := { s.ic with latch := t.ic.latch } })) ∧
    (reaches s req = true → q = 0 ∨ 15 < q →
      Gives (.icSgi req q) s (fun t => regB t (pa pgIc offSts) fPAGE_STS_REFUSED = true ∧
        OnlyRegs [pa pgIc offSts, pa pgIc offWRITE_REFUSED] s t)) ∧
    (accepts s req (pa pgIc (offIC_EOI n)) (BitVec.ofNat 32 q) = true →
      (q = 0 → Gives (.icEoi req n q) s (fun t => t = s)) ∧
      (q ≠ 0 → icActiveOn s q n = true →
        Gives (.icEoi req n q) s (fun t => icActiveOn t q n = false ∧
          (∀ x m, (x ≠ q ∨ m % 4 ≠ n) → m < 4 → icActiveOn t x m = icActiveOn s x m) ∧
          t = { s with ic := { s.ic with active := t.ic.active, cfg := t.ic.cfg } })) ∧
      (q ≠ 0 → icActiveOn s q n = false →
        Gives (.icEoi req n q) s (fun t => (reg t (pa pgIc offIRQ_STS)).toNat.testBit 0 = true ∧ t.ic.active = s.ic.active ∧
          ctr t (pa pgIc cIc_BAD_EOI) = Nat.min maxCtr (ctr s (pa pgIc cIc_BAD_EOI) + 1)))) ∧
    (∀ fin, mfind s.ic.timer n = some fin → fin ≤ now s →
      (regB s (pa pgIc (offIC_TMR n)) fIC_TMR_PERIODIC = false →
        Gives (.icTmr n) s (fun t => mfind t.ic.timer n = none ∧ regB t (pa pgIc (offIC_TMR n)) fIC_TMR_EN = false ∧
          (srcEn s (16 + n) = true → 16 + n ∈ t.ic.latch) ∧ OnlyRegs [pa pgIc (offIC_TMR n)] { s with ic := t.ic } t)) ∧
      (regB s (pa pgIc (offIC_TMR n)) fIC_TMR_PERIODIC = true →
        Gives (.icTmr n) s (fun t =>
          mfind t.ic.timer n = some (fin + regF s (pa pgIc (offIC_TMR n)) fIC_TMR_INTERVAL_US * tUs) ∧
          (srcEn s (16 + n) = true → 16 + n ∈ t.ic.latch) ∧ t = { s with ic := t.ic }))) ∧
    (∀ rival, c.halted = false → icWon s n = none →
      (1 ≤ q → presented s n = some q → (contests s n rival q = false ∨ losesTo s n rival = false) →
        Gives (.interruptEntry n rival) s (fun t => pushed q t ∧ taken t)) ∧
      (presented s n = some q → contests s n rival q = true → losesTo s n rival = true → c.frames.contains 0 = false →
        Gives (.interruptEntry n rival) s (fun t => pushed 0 t ∧ lost t ∧ icWon t rival = some q)) ∧
      (presented s n = none → c.frames.contains 0 = false →
        Gives (.interruptEntry n rival) s (fun t => pushed 0 t ∧ lost t)) ∧
      (presented s n = none → c.frames.contains 0 = true → Gives (.interruptEntry n rival) s (fun t => t = s))) ∧
    (∀ rival f rest, c.halted = false → c.frames = f :: rest → icWon s n = none →
      let w2 := (frameWord c 2).toNat
      let u := setRegF (pa pgIc (offIC_RP n)) fIC_RP_RP (natField w2 20 16) s
      (presented u n = none →
        Gives (.returnFromInterrupt n rival) s (fun t => let d := Machine.core t n
          d.pc = (frameWord c 0).toNat ∧ d.status = frameWord c 1 ∧ (∀ i, i < 5 → coreReg d i = frameWord c (3 + i)) ∧
          d.sp = (c.sp + 32) % 2 ^ 32 ∧ d.frames = rest ∧ icRp t n = natField w2 20 16 ∧ others t)) ∧
      (1 ≤ q → presented u n = some q → (contests u n rival q = false ∨ losesTo u n rival = false) →
        Gives (.returnFromInterrupt n rival) s (fun t => let d := Machine.core t n
          d.pc = vector s n q ∧ d.sp = c.sp ∧ d.frames = q :: rest ∧ d.status = c.status ∧
          frameWord d 2 = BitVec.ofNat 32 (w2 - w2 % 512 + q) ∧ (∀ i, i < 8 → i ≠ 2 → frameWord d i = frameWord c i) ∧
          (∀ i, i < 5 → coreReg d i = coreReg c i) ∧ taken t ∧ others t))) ∧
    (∀ v, v < 64 → accepts s req (pa pgPcie offHEV_ACK) (BitVec.ofNat 32 v) = true →
      (∀ page ∈ hevPages s v, irqLine s page = false) →
      Gives (.hevAck req v) s (fun t => hevSent t v = false ∧ (∀ w, w < 64 → w ≠ v → hevSent t w = hevSent s w) ∧
        OnlyRegs [pa pgPcie (offHEV_SENT + 4 * (v / 32))] s t))

/-- The Sapwood cores (R373): a write of SW_KICK restarts a core's watchdog time; a running core that has not kicked within the
time of HW_SWD is restarted from the active bank, with its number in register a0, and IRQ_STS bit 2 of page
0x003 is set; ALIVE does not depend on it. -/
def Obligations.SapwoodKickAndWatchdog : Prop :=
  ∀ (s : State) (n : Nat) (v : Word), stopped s = false → n < 4 →
    (accepts s (n + 1) (pa (0x004 + n) offSW_KICK) v = true → s.sap.started ≠ some n →
      Gives (.swKick n v) s (fun t => Machine.core t n = { Machine.core s n with kickAt := kNow s, kicked := true } ∧
        t = { s with sap := { s.sap with core := t.sap.core } })) ∧
    ((Machine.core s n).halted = false → (Machine.core s n).kickAt + swdTimeout s ≤ kNow s → s.hw.downTill = none → s.pin.keepClk = true →
      s.sap.started ≠ some n → liveB s (pa pgHmb offHW_SWD) fHW_SWD_EN = true → s.sap.restart.contains n = false →
      Gives (.sapwoodWatchdog n) s (fun t => (Machine.core t n).halted = false ∧
        (Machine.core t n).pc = bankBase (activeBank s) + mget (fun _ => 0) s.hw.entry (activeBank s) ∧
        coreReg (Machine.core t n) 0 = BitVec.ofNat 32 n ∧ (Machine.core t n).kickAt = kNow s ∧ (Machine.core t n).frames = [] ∧
        (reg t (pa pgHmb offIRQ_STS)).toNat.testBit 2 = true ∧ t.pin.alive = s.pin.alive ∧
        ∀ m, m ≠ n → Machine.core t m = Machine.core s m))

/-- The links of the ports (R63 to R71): negotiation resolves a type and its FEC, or records a partner violation; training
leads to alignment and to taps whose magnitudes sum to at most 32 (R457), or records a violation; an aligned link with its PLL
locked comes up with all its lanes; a link falls; a PLL locks, and one that loses lock is reported. It follows R63, R64, R66
to R70 and R71. It rests on log entry 37 (DEDUCED), log entry 119 (PRESUMED), log entry 136 (DESIGN CHOICE). -/
def Obligations.PortLinkEvents : Prop :=
  ∀ (s : State) (p : Nat), stopped s = false → p < 256 →
    (macSts s p fMAC_STS_LSTATE = lsNeg → portEnabled s p = true → ∀ types fec eee,
      (∀ ty, ty ∈ advertised s p → types.testBit (ty - 0x10) = true →
        (∀ u ∈ advertised s p, types.testBit (u - 0x10) = true → u ≤ ty) → fecMode s p = 0 →
        (pllFor s (quadPage p) (modeFamily ty)).isSome = true →
        Gives (.autoNegotiation p types fec eee) s (fun t => macSts t p fMAC_STS_RESOLVED = ty ∧
          macSts t p fMAC_STS_FEC = resolvedFec s p ty fec ∧ macSts t p fMAC_STS_CFG_ERR = 0 ∧
          macSts t p fMAC_STS_LSTATE = tryState s p ∧ (port t p).partnerEee = eee ∧ OtherPorts p s t)) ∧
      ((∀ ty ∈ advertised s p, types.testBit (ty - 0x10) = false) →
        Gives (.autoNegotiation p types fec eee) s (fun t =>
          (reg t (pa (macPage p) offPV_STS)).toNat.testBit 5 = true ∧
          (reg t (pa (macPage p) offIRQ_STS)).toNat.testBit 2 = true ∧ t.ports = s.ports))) ∧
    (macSts s p fMAC_STS_LSTATE = lsTrain → portLocked s p = true →
      Gives (.linkTraining p true) s (fun t => macSts t p fMAC_STS_LSTATE = lsAlign ∧
        (128 ≤ p → ∀ l ∈ lanesOf p (modeLanes (phyType s p)), txeqLegal (reg t (pa (quadPage p) (offSDQ_TXEQ l))) = true)) ∧
      (portMode s p ≠ 0x1F → Gives (.linkTraining p false) s (fun t =>
        (reg t (pa (macPage p) offPV_STS)).toNat.testBit 6 = true))) ∧
    (macSts s p fMAC_STS_LSTATE = lsAlign → portLocked s p = true → portEnabled s p = true → ∀ snr,
      Gives (.linkUp p snr) s (fun t => macSts t p fMAC_STS_LINK = 1 ∧
        macSts t p fMAC_STS_ACTIVE_LANES = modeLanes (phyType s p) ∧
        macSts t p fMAC_STS_LSTATE =
          (if liveF s (pa (macPage p) offMAC_CFG) fMAC_CFG_LOOPBACK = 0 then lsUp else lsLoop) ∧
        (reg t (pa (macPage p) offIRQ_STS)).toNat.testBit 0 = true)) ∧
    (macSts s p fMAC_STS_LINK = 1 →
      Gives (.linkDown p) s (fun t => macSts t p fMAC_STS_LINK = 0 ∧ macSts t p fMAC_STS_ACTIVE_LANES = 0 ∧
        (reg t (pa (macPage p) offIRQ_STS)).toNat.testBit 1 = true)) ∧
    (∀ k, k < 2 → pllFam s (quadPage p) k ≠ 0 → pllLocked s (quadPage p) k = true →
      Gives (.pllLossOfLock (quadPage p) k) s (fun t => pllLocked t (quadPage p) k = false ∧
        ∃ l, t.lko.cap = l ++ [⟨quadPage p, k, clsUC, false, 0, kNow s⟩])) ∧
    (∀ k, k < 2 → pllFam s (quadPage p) k ≠ 0 → s.pin.lost.contains (if p < 128 then 2 else 3) = false →
      Gives (.pllLock (quadPage p) k) s (fun t => pllLocked t (quadPage p) k = true ∧
        OnlyRegs [pa (quadPage p) offSDQ_PLL] s t))

/-- EEE (R83) and the partner's LPI (R70, R82): a port idle for LPI_IDLE_US enters LPI and leaves it when a frame waits; RX_LPI is
shown where EEE is active and is a partner violation where it is not. -/
def Obligations.EnergyEfficientEthernet : Prop :=
  ∀ (s : State) (p : Nat), stopped s = false → p < 256 →
    (macSts s p fMAC_STS_EEE_ACTIVE = 1 → macSts s p fMAC_STS_TX_LPI = 0 → gateEn s p = false →
      (port s p).tx = none → txWants s p = false →
      (port s p).idleSince + liveF s (pa (macPage p) offEEE_CFG) fEEE_CFG_LPI_IDLE_US * tUs ≤ now s →
      Gives (.lpiEnter p) s (fun t => macSts t p fMAC_STS_TX_LPI = 1 ∧ (port t p).lpiSince = now s ∧
        (∀ q, q ≠ p → port t q = port s q) ∧
        OnlyRegs [pa (macPage p) offMAC_STS] { s with ports := t.ports } t)) ∧
    (macSts s p fMAC_STS_TX_LPI = 1 → txWants s p = true →
      Gives (.lpiWake p) s (fun t => macSts t p fMAC_STS_TX_LPI = 0 ∧
        ctr t (pa (macPage p) cMac_LPI_TX_US) =
          Nat.min maxCtr (ctr s (pa (macPage p) cMac_LPI_TX_US) + ((port s p).lpiRem + (now s - (port s p).lpiSince)) / tUs) ∧
        (∀ a, a ≠ pa (macPage p) offMAC_STS → reg t a = reg s a))) ∧
    (∀ on, macSts s p fMAC_STS_LINK = 1 →
      (macSts s p fMAC_STS_EEE_ACTIVE = 1 →
        Gives (.rxLpi p on) s (fun t => macSts t p fMAC_STS_RX_LPI = (if on then 1 else 0) ∧
          OnlyRegs [pa (macPage p) offMAC_STS] s t)) ∧
      (macSts s p fMAC_STS_EEE_ACTIVE = 0 →
        Gives (.rxLpi p true) s (fun t => (reg t (pa (macPage p) offPV_STS)).toNat.testBit 7 = true ∧
          macSts t p fMAC_STS_RX_LPI = macSts s p fMAC_STS_RX_LPI) ∧
        Gives (.rxLpi p false) s (fun t => t = s)))

/-- Coppice (R84 to R88) on a port with its partner's frames open to it: HELLO makes a partner known and is sent every 100 ms,
to the port's own receiver under LOOPBACK (R69); a SHED_REQ is sent after HOLD_MS of low utilisation and answered by the
port's own window, or settled by nonces when two cross; ACK, NAK, WAKE_REQ and WAKE_ACK switch the lanes as R86 and R87 say; a
window ends; a change that takes longer than 20 µs is a partner violation. It rests on log entry 42 (DEDUCED), log entry 98
(DESIGN CHOICE), log entry 133 (DESIGN CHOICE). -/
def Obligations.CoppiceCommands : Prop :=
  ∀ (s : State) (p : Nat), stopped s = false → 128 ≤ p → p < 256 → copOn s p = true →
    let frame := [(pa (macPage p) cMac_RX_FRAMES, 1), (pa (macPage p) cMac_RX_BYTES, 64)]
    let own := macSts s p fMAC_STS_LSTATE = lsLoop
    (copOpen s p = true → (port s p).copSent = none →
      (¬ own → Gives (.hello p false) s (fun t => (port t p).copSent = some (now s) ∧
        (port t p).lastTx = withFcs false (copFrame p 1 0 (port s p).copSeq 0) ∧
        (port t p).copSeq = ((port s p).copSeq + 1) % 256 ∧ OtherPorts p s t)) ∧
      (own → rxAccepts s p = true →
        Gives (.hello p false) s (fun t => macSts t p fMAC_STS_COPPICE_ACTIVE = 1 ∧ (port t p).copHello = now s))) ∧
    (copOpen s p = true → copActive s p = true → ¬ own → ∀ target seq nonce,
      (∀ since, copPending s p = none → (port s p).copLowSince = some since → since + copHold s p ≤ now s →
        (port s p).copNakUntil ≤ now s → 2 ≤ activeLanes s p →
        Gives (.shedReq p false target seq nonce) s (fun t =>
          (port t p).copReq = some ⟨false, activeLanes s p / 2, nonce % 65536, now s, false⟩ ∧
          (port t p).lastTx = withFcs false (copFrame p 2 (activeLanes s p / 2) (port s p).copSeq (nonce % 65536)))) ∧
      (activeLanes s p < fullLanes s p → wakeWanted s p = true →
        Gives (.wakeReq p false seq nonce) s (fun t =>
          (port t p).copReq = some ⟨true, fullLanes s p, nonce % 65536, now s, false⟩ ∧
          (port t p).lastTx = withFcs false (copFrame p 5 (fullLanes s p) (port s p).copSeq (nonce % 65536))))) ∧
    (rxAccepts s p = true →
      Gives (.hello p true) s (fun t => macSts t p fMAC_STS_COPPICE_ACTIVE = 1 ∧ (port t p).copHello = now s ∧
        OtherPorts p s t ∧ Counts frame s t) ∧
      (∀ seq nonce, Gives (.wakeReq p true seq nonce) s (fun t => activeLanes t p = fullLanes s p ∧
        (port t p).lastTx = withFcs false (copFrame p 6 (fullLanes s p) seq nonce) ∧
        (port t p).copReq = some ⟨true, fullLanes s p, nonce, now s, true⟩)) ∧
      (∀ q, (port s p).copReq = some q → q.wake = true → q.acked = false →
        Gives (.wakeAck p) s (fun t => activeLanes t p = fullLanes s p ∧
          (port t p).copReq = some { q with acked := true })) ∧
      (copActive s p = true →
        (∀ target seq nonce, copPending s p = none →
          (shedLow s p target = false ∨ 2 * target ≠ activeLanes s p →
            Gives (.shedReq p true target seq nonce) s (fun t =>
              (port t p).lastTx = withFcs false (copFrame p 4 target seq nonce) ∧ (port t p).copReq = none ∧
              activeLanes t p = activeLanes s p)) ∧
          (shedLow s p target = true → 2 * target = activeLanes s p →
            Gives (.shedReq p true target seq nonce) s (fun t =>
              (port t p).lastTx = withFcs false (copFrame p 3 target seq nonce) ∧ activeLanes t p = target))) ∧
        (∀ q target seq nonce, copPending s p = some q → q.acked = false →
          (q.wake = true ∨ nonce < q.nonce → Gives (.shedReq p true target seq nonce) s (fun t =>
            t.ports = s.ports ∧ Counts frame s t)) ∧
          (q.wake = false → nonce = q.nonce → Gives (.shedReq p true target seq nonce) s (fun t =>
            (port t p).copReq = none ∧ OtherPorts p s t ∧ Counts frame s t))) ∧
        (∀ q, (port s p).copReq = some q → q.wake = false → q.acked = false →
          (q.target ≤ 4 → Gives (.shedAck p) s (fun t => activeLanes t p = q.target)) ∧
          Gives (.shedNak p) s (fun t => (port t p).copReq = none ∧ (port t p).copNakUntil = now s + copHold s p ∧
            OtherPorts p s t ∧ Counts frame s t ∧
            t = { s with ports := t.ports, bus := { s.bus with ctr := t.bus.ctr } })))) ∧
    (copActive s p = true → (port s p).winStart + 100 * tUs ≤ now s →
      Gives (.utilisationWindow p) s (fun t => (port t p).winLast = (port s p).winBytes ∧ (port t p).winBytes = 0 ∧
        (port t p).winStart = now s ∧ OtherPorts p s t ∧ t = { s with ports := t.ports })) ∧
    (∀ q nonce, (port s p).copReq = some q → q.t0 + 20 * tUs ≤ now s →
      (q.wake = true ∨ (q.acked = true ∧ copActive s p = true)) →
      Gives (.coppiceTimeout p nonce) s (fun t => (reg t (pa (macPage p) offPV_STS)).toNat.testBit 8 = true))

/-! ### Frames on receive and transmit, and flow control (R72 to R82, R308, R356) -/

/-- FRAME_RECEIVE (R72, R73, R257, R308, R75): bytes of a frame open a reception with its timestamp or go on with the one
open; FEC codewords are counted where the link has FEC. A port that does not accept the frame lets it go by. A frame that ends
is checked for length and FCS in R73's order, each failure with its counter; a good frame becomes a head of its port, the
newest in the port's order, with the bytes beyond the head in the cells granted for them, and its bytes are counted; one that
needs a body cell beyond RX_LIMIT is counted and discarded; a Rootway frame goes to its link. On a port with cut-through the
head goes ahead once more than 256 bytes are there, and the frame's end completes it or marks it bad. It rests on log entry 14
(DEDUCED), log entry 99 (DEDUCED). -/
def Obligations.ReceivedFramesAreCheckedInOrder : Prop :=
  ∀ (s : State) (p corr uncorr : Nat) (f : Bytes) (r : RxFrame), stopped s = false → p < 256 →
    ((port s p).rx = some r ∨ ((port s p).rx = none ∧ r =
      { bytes := [], cells := [], ignore := !rxAccepts s p, discard := false, why := 0, owed := [], cls := 8, broken := false, cut := none,
        ts := rxStamp s p, pass := none })) →
    let part := Instr.frameReceive p ⟨f, corr, uncorr⟩ false
    let whole := Instr.frameReceive p ⟨f, corr, uncorr⟩ true
    let u := fecCount p corr uncorr s
    let g := r.bytes ++ f
    let n := g.length
    let body := rxBody s p g
    let got := bodyCells (p / 8) false p r.cls ((body.length + 255) / 256) [] u
    let fcs := leAt g (n - 4) 4 = crc32 (g.take (n - 4))
    let closed := { port s p with rx := none }
    (macSts s p fMAC_STS_LINK = 1 → 2 ≤ macSts s p fMAC_STS_FEC →
      Counts [(pa (macPage p) cMac_FEC_CORR_CW, corr), (pa (macPage p) cMac_FEC_UNCORR_CW, uncorr)] s u) ∧
    (r.ignore = true → r.pass = none → r.cells = [] → r.why = 0 → r.owed = [] →
      Gives whole s (fun t => port t p = closed ∧ OtherPorts p s t ∧ t = { u with ports := t.ports }) ∧
      Gives part s (fun t => (port t p).rx = some { r with bytes := g } ∧ OtherPorts p s t ∧ t = { u with ports := t.ports })) ∧
    (safe s = false → r.ignore = false → r.discard = false → r.pass = none → r.cells = [] → r.why = 0 → r.owed = [] → r.cut = none →
      (n ≤ 256 → Gives part s (fun t =>
        (∃ q, (port t p).rx = some q ∧ q.bytes = g ∧ q.cells = [] ∧ q.ts = r.ts ∧ q.ignore = false ∧ q.discard = false) ∧
        OtherPorts p s t ∧ t = { u with ports := t.ports })) ∧
      (n < 64 → Gives whole s (fun t => Counts [(pa (macPage p) cMac_RX_RUNT, 1)] u t ∧ port t p = closed ∧ OtherPorts p s t ∧
        t = { u with bus := { u.bus with ctr := t.bus.ctr }, ports := t.ports })) ∧
      (64 ≤ n → maxLen s p < n → consumed s p g = true ∨ got.2.2 = 0 →
        Gives whole s (fun t => Counts [(pa (macPage p) cMac_RX_OVERSIZE, 1)] u t ∧ (port t p).rx = none ∧ t.disp = s.disp ∧
          SameRegs s t)) ∧
      (64 ≤ n → n ≤ maxLen s p → ¬ fcs → consumed s p g = true ∨ got.2.2 = 0 →
        Gives whole s (fun t => Counts [(pa (macPage p) cMac_RX_FCS_ERR, 1)] u t ∧ (port t p).rx = none ∧ t.disp = s.disp ∧
          SameRegs s t)) ∧
      (64 ≤ n → n ≤ maxLen s p → fcs → consumed s p g = false → got.2.2 = 0 →
        Gives whole s (fun t => Counts [(pa (macPage p) cMac_RX_FRAMES, 1), (pa (macPage p) cMac_RX_BYTES, n)] u t ∧
          (port t p).rx = none ∧
          (∃ q, pass? t s.disp.nextPass = some q ∧ q.phase = .arrived ∧ q.raw = (g.take (n - 4)).take 256 ∧ q.rxPort = p ∧
            q.flen = n ∧ q.rxTime = r.ts ∧ q.segs = bodySegs got.1 body.length ∧ q.complete = true ∧
            (got.1.Nodup → segBytes t q.segs = body)) ∧
          mget (fun _ => []) t.disp.order p = mget (fun _ => []) s.disp.order p ++ [s.disp.nextPass] ∧
          (∀ k, k ≠ s.disp.nextPass → pass? t k = pass? s k) ∧ SameRegs s t)) ∧
      (260 < n → n ≤ maxLen s p → consumed s p g = false → limit s p 9 ≤ rxc s p →
        Gives whole s (fun t =>
          ctr t (pa pgClr cClr_RX_LIMIT_DROP) = Nat.min maxCtr (ctr s (pa pgClr cClr_RX_LIMIT_DROP) + 1) ∧
          (port t p).rx = none ∧ t.disp = s.disp ∧ rxc t p = rxc s p)) ∧
      (64 ≤ n → n ≤ maxLen s p → fcs → isMacCtl g = false → isCoppice s p g = false → isRootway s p g = true →
        Gives whole s (fun t => Counts [(pa (macPage p) cMac_RX_FRAMES, 1), (pa (macPage p) cMac_RX_BYTES, n)] u t ∧
          (rwLink t p).inbox = (rwLink s p).inbox ++ [g.take (n - 4)] ∧ t.disp = s.disp ∧ t.clr = s.clr)) ∧
      (256 < n → consumed s p g = false → got.2.2 = 0 →
        (live s (pa pgClr (offCLR_CT_RX (p / 32)))).toNat.testBit (p % 32) = true →
        Gives part s (fun t => (∃ q, (port t p).rx = some q ∧ q.bytes = g ∧ q.pass = some s.disp.nextPass) ∧
          (∃ q, pass? t s.disp.nextPass = some q ∧ q.phase = .arrived ∧ q.raw = g.take 256 ∧ q.rxPort = p ∧ q.rxTime = r.ts ∧
            q.complete = false) ∧
          mget (fun _ => []) t.disp.order p = mget (fun _ => []) s.disp.order p ++ [s.disp.nextPass] ∧
          (∀ a, ctr t a = ctr u a) ∧ SameRegs s t))) ∧
    (∀ k q, safe s = false → r.ignore = false → r.discard = false → r.pass = some k → r.cells = [] → r.why = 0 → r.owed = [] → rxCopies s k = [] →
      pass? s k = some q → 64 ≤ n → n ≤ 260 → n ≤ maxLen s p → consumed s p g = false →
      (fcs → Gives whole s (fun t => Counts [(pa (macPage p) cMac_RX_FRAMES, 1), (pa (macPage p) cMac_RX_BYTES, n)] u t ∧
        (port t p).rx = none ∧ ∃ v, pass? t k = some v ∧ v.complete = true ∧ v.flen = n ∧ v.bad = q.bad ∧
          v.raw = q.raw.take (q.raw.length - (260 - n)))) ∧
      (¬ fcs → Gives whole s (fun t => Counts [(pa (macPage p) cMac_RX_FCS_ERR, 1)] u t ∧ (port t p).rx = none ∧
        ∃ v, pass? t k = some v ∧ v.complete = true ∧ v.bad = true)))

/-- PAUSE and PFC received (R77, R78, R81, R82): each is counted with its 64 bytes; enabled, it loads its timers unless they are
ignored, and quanta of 0 end the pause; a PAUSE on a port with PFC only, or the other way round, is a partner violation. A timer
that has run out stands at 0; a hold longer than HOLD_MS is a pause storm, which ends it, records the violation and ignores the
timer for IGNORE_MS; after that the timer works again. Flow-control frames (R79): the first one owed leaves, is counted, and in
loopback comes back to its receiver (R69); while a condition stands, its frame is owed again half its quanta after the last. -/
def Obligations.FlowControlReceivedAndSent : Prop :=
  ∀ (s : State) (p : Nat), stopped s = false → p < 256 →
    (rxAccepts s p = true →
      let l := [(pa (macPage p) cMac_RX_FRAMES, 1), (pa (macPage p) cMac_RX_BYTES, 64)]
      (∀ q, q < 65536 → pauseRxEn s p = true → (fcTimer s p 8).ignEnd ≤ now s →
        Gives (.pause p q) s (fun t => Counts ((pa (macPage p) cMac_RX_PAUSE, 1) :: l) s t ∧
          (fcTimer t p 8).fin = (if q = 0 then 0 else now s + quantaUnits s p q) ∧
          (fcTimer t p 8).ignEnd = (fcTimer s p 8).ignEnd ∧ OtherTimers p 8 s t ∧ OtherPorts p s t ∧
          t = { s with bus := { s.bus with ctr := t.bus.ctr }, ports := t.ports })) ∧
      (∀ q, pauseRxEn s p = false → pfcRxEn s p = true →
        Gives (.pause p q) s (fun t => (reg t (pa (macPage p) offPV_STS)).toNat.testBit 3 = true ∧
          (∀ i, fcTimer t p i = fcTimer s p i))) ∧
      (∀ q, pauseRxEn s p = false → pfcRxEn s p = false →
        Gives (.pause p q) s (fun t => Counts ((pa (macPage p) cMac_RX_PAUSE, 1) :: l) s t ∧
          t = { s with bus := { s.bus with ctr := t.bus.ctr } })) ∧
      (∀ en qs, pfcRxEn s p = true → (∀ i, i < 8 → (fcTimer s p i).ignEnd ≤ now s) →
        Gives (.pfc p en qs) s (fun t => Counts ((pa (macPage p) cMac_RX_PFC, 1) :: l) s t ∧
          (∀ i, i < 8 → (fcTimer t p i).fin = if en.testBit i then
            (if qs.getD i 0 % 65536 = 0 then 0 else now s + quantaUnits s p (qs.getD i 0 % 65536))
            else (fcTimer s p i).fin) ∧ fcTimer t p 8 = fcTimer s p 8 ∧ OtherPorts p s t ∧
          t = { s with bus := { s.bus with ctr := t.bus.ctr }, ports := t.ports })) ∧
      (∀ en qs, pfcRxEn s p = false → pauseRxEn s p = true →
        Gives (.pfc p en qs) s (fun t => (reg t (pa (macPage p) offPV_STS)).toNat.testBit 3 = true ∧
          (∀ i, fcTimer t p i = fcTimer s p i)))) ∧
    (∀ i, i < 9 → (fcTimer s p i).fin ≤ now s →
      Gives (.pauseTimerExpire p i) s (fun t => (fcTimer t p i).fin = 0 ∧
        (fcTimer t p i).ignEnd = (fcTimer s p i).ignEnd ∧ OtherTimers p i s t ∧ OtherPorts p s t ∧
        t = { s with ports := t.ports })) ∧
    (let w := live s (pa (macPage p) offPAUSE_WD)
     ∀ i, i < 9 → fget w fPAUSE_WD_HOLD_MS ≠ 0 → now s < (fcTimer s p i).fin →
      (fcTimer s p i).holdStart + fget w fPAUSE_WD_HOLD_MS * tMs < now s →
      Gives (.pauseStorm p i) s (fun t => fcTimer t p i = ⟨0, 0, now s + fget w fPAUSE_WD_IGNORE_MS * tMs⟩ ∧
        (reg t (pa (macPage p) offPV_STS)).toNat.testBit 4 = true ∧
        (reg t (pa (macPage p) offIRQ_STS)).toNat.testBit 3 = true ∧ OtherTimers p i s t ∧ OtherPorts p s t)) ∧
    (∀ i, i < 9 → (fcTimer s p i).ignEnd ≤ now s →
      Gives (.ignoreExpire p i) s (fun t => (fcTimer t p i).ignEnd = 0 ∧ (fcTimer t p i).fin = (fcTimer s p i).fin ∧
        OtherTimers p i s t ∧ OtherPorts p s t ∧ t = { s with ports := t.ports })) ∧
    (∀ i on rest, (port s p).fcOwed = (i, on) :: rest → ownOpen s p = true → fcGateOk s p = true →
      let f := withFcs false (fcFrame s p i on)
      Gives (.fcFrameSend p) s (fun t => ∃ u, (port u p).fcOwed = rest ∧ (port u p).lastTx = f ∧
        mget (fun _ => 0) (port u p).fcLast i = now s ∧ OtherPorts p s u ∧
        Counts [(pa (macPage p) (if i = 8 then cMac_TX_PAUSE else cMac_TX_PFC), 1), (pa (macPage p) cMac_TX_FRAMES, 1),
          (pa (macPage p) cMac_TX_BYTES, f.length)] s u ∧
        u = { s with bus := { s.bus with ctr := u.bus.ctr }, ports := u.ports } ∧
        (macSts s p fMAC_STS_LSTATE ≠ lsLoop → t = startNext p u) ∧
        (macSts s p fMAC_STS_LSTATE = lsLoop → t = boardKeeps s (startNext p (frameReceive p f true u))))) ∧
    (∀ i, (port s p).cond.contains i = true → (port s p).fcOwed.any (fun e => e.1 == i) = false →
      mget (fun _ => 0) (port s p).fcLast i +
        quantaUnits s p (liveF s (pa (macPage p) offFC_CFG) fFC_CFG_QUANTA) / 2 ≤ now s →
      Gives (.fcRefresh p i) s (fun t => (port t p).fcOwed = (port s p).fcOwed ++ [(i, true)] ∧
        (port t p).cond = (port s p).cond ∧ OtherPorts p s t ∧ t = { s with ports := t.ports }))


/-- FRAME_TRANSMIT (R74, R253, R273, R356): the copy in transmission leaves its port; a copy of no PTP event leaves as stored,
padded and with its FCS, inverted where it was stomped; longer than MAXLEN at its selection, it is counted and not sent; on a
Trail port the Trail header follows the addresses; on a recirculation port the frame becomes a head again, with its epoch and
receive time, unless 32 heads of the port wait already (R17); on port 259 it arrives at its virtual link. It rests on log
entry 15 (DESIGN CHOICE), log entry 32 (DEDUCED). -/
def Obligations.FramesTransmittedLeaveTheirPort : Prop :=
  ∀ (s : State) (p id : Nat) (d : Desc), stopped s = false → safe s = false → (port s p).tx = some id →
    mfind s.clr.desc id = some d → d.rxPass = none →
    (p < 256 → trailEn s p = false → hEvent (pktHeader s d.headCells) = false →
      (Nat.max d.len 60 + 4 ≤ (port s p).txMax → macSts s p fMAC_STS_LSTATE ≠ lsLoop → ∀ under,
        Gives (.frameTransmit p under) s (fun t => ((port s p).next = [] → (port t p).tx = none) ∧ mfind t.clr.desc id = none ∧
          (port t p).lastTx = withFcs ((port s p).txStomp || d.broken) (copyBytesOf s d) ∧
          ctr t (pa (macPage p) cMac_TX_FRAMES) = Nat.min maxCtr (ctr s (pa (macPage p) cMac_TX_FRAMES) + 1) ∧
          ctr t (pa (macPage p) cMac_TX_STOMPED) =
            (if (port s p).txStomp || d.broken then Nat.min maxCtr (ctr s (pa (macPage p) cMac_TX_STOMPED) + 1)
             else ctr s (pa (macPage p) cMac_TX_STOMPED)))) ∧
      ((port s p).txMax < Nat.max d.len 60 + 4 → ∀ under,
        Gives (.frameTransmit p under) s (fun t => ((port s p).next = [] → (port t p).tx = none) ∧ mfind t.clr.desc id = none ∧
          (port t p).lastTx = (port s p).lastTx ∧
          ctr t (pa (macPage p) cMac_TX_OVERSIZE) = Nat.min maxCtr (ctr s (pa (macPage p) cMac_TX_OVERSIZE) + 1)))) ∧
    (p < 256 → trailEn s p = true → d.rootway = false → d.mirror = none → hEvent (pktHeader s d.headCells) = false →
      hTrail (pktHeader s d.headCells) = false → Nat.max (d.len + 16) 60 + 4 ≤ (port s p).txMax →
      macSts s p fMAC_STS_LSTATE ≠ lsLoop → ∀ under,
        Gives (.frameTransmit p under) s (fun t => ((port s p).next = [] → (port t p).tx = none) ∧
          (port t p).lastTx = withFcs ((port s p).txStomp || d.broken) ((copyBytesOf s d).take 12 ++
            trailHeader s d (pktHeader s d.headCells) false ++ (copyBytesOf s d).drop 12))) ∧
    (p = 259 → d.broken = false → headsWaiting s p < 32 → ∀ under,
      Gives (.frameTransmit p under) s (fun t => mfind t.clr.desc id = none ∧ t.disp = s.disp ∧
        (rwLink t 259).inbox = (rwLink s 259).inbox ++ [copyBytesOf s d])) ∧
    ((p = 257 ∨ p = 258) → 32 ≤ headsWaiting s p → ∀ under, Gives (.frameTransmit p under) s (fun t => t = s)) ∧
    ((p = 257 ∨ p = 258) → d.broken = false → headsWaiting s p < 32 → ∀ under,
      Gives (.frameTransmit p under) s (fun t => ((port s p).next = [] → (port t p).tx = none) ∧ mfind t.clr.desc id = none ∧
        (∃ q, pass? t s.disp.nextPass = some q ∧ q.recirc = true ∧ q.rxPort = p ∧
          q.raw = (copyBytesOf s d).take 256 ∧ q.epoch = copyEpoch s d ∧ q.rxTime = hRxTime (pktHeader s d.headCells)) ∧
        mget (fun _ => []) t.disp.order p = mget (fun _ => []) s.disp.order p ++ [s.disp.nextPass]))

/-! ### Heads, dispatch, walks and fragments (R15, R16, R90 to R118, R174 to R176, R226) -/

/-- HEAD_ENQUEUE (R16): the oldest arrived head of a source enters its dispatch queue; at a full queue a head of a port is
dropped and counted, and an internal source keeps its head. DISPATCH_GRANT (R174) reserves a thread for the head of the queue
that has one, and its walk can begin; a timer head needs no walk (R93). RESTART (R226) reserves a waiting pass a thread again.
DISPATCH_ENTRY (R176) starts the thread at the entry of the pass's profile and parity; an invalid entry drops the packet.
The routine of the default bridge runs to its END (R435): reserved addresses and VID 0xFFF are dropped, a hit goes to its port
or is dropped on the entry port, any other frame goes to the group of its VID, and a source not found is learned. It rests on
log entry 31 (DEDUCED), log entry 140 (DESIGN CHOICE). -/
def Obligations.HeadsAreQueuedGrantedAndStarted : Prop :=
  ∀ s : State, stopped s = false →
    (∀ src k, src < 261 → firstOf s src .arrived = some k →
      -- a frame that waits for room in front of port 259's queue becomes a head of it then (R17)
      let then_ := fun (u t : State) => (s.rw.vwait = [] → t = u) ∧ (∀ f fs, s.rw.vwait = f :: fs →
        t = if headsWaiting u 259 < 32 then boardKeeps s (rwHead f { u with rw := { u.rw with vwait := fs } }) else u)
      ((dispQ s (queueOf src)).length < 256 →
        Gives (.headEnqueue src) s (fun t => ∃ u, then_ u t ∧ dispQ u (queueOf src) = dispQ s (queueOf src) ++ [k] ∧
          (∀ q, q ≠ queueOf src → dispQ u q = dispQ s q) ∧
          (∀ p, pass? s k = some p → pass? u k = some { p with phase := .queued }) ∧
          u = { s with disp := { s.disp with queue := u.disp.queue, passes := u.disp.passes } })) ∧
      (256 ≤ (dispQ s (queueOf src)).length → src < 256 →
        Gives (.headEnqueue src) s (fun t => ∃ u, then_ u t ∧ pass? u k = none ∧
          ctr u (pa (macPage src) cMac_DISPATCH_OVERRUN) =
            Nat.min maxCtr (ctr s (pa (macPage src) cMac_DISPATCH_OVERRUN) + 1) ∧ (∀ q, dispQ u q = dispQ s q))) ∧
      (256 ≤ (dispQ s (queueOf src)).length → 256 ≤ src → Gives (.headEnqueue src) s (fun t => then_ s t))) ∧
    (∀ q k rest p x t, dispatchOpen s = true → strayRestarts s = [] → q < 37 → dispQ s q = k :: rest →
      (∀ r, r < 37 → r ≠ q → dispQ s r = []) → (q ≠ 36 → running s pgPgu = true) → pass? s k = some p →
      pickGrove s (groveTakes ⟨0, [], s⟩) = some x → pickThread s x = some t →
      Gives .dispatchGrant s (fun u => dispQ u q = rest ∧
        thread u t = { threadReset t with st := .reserved, pass := k } ∧ (∀ y, y ≠ t → thread u y = thread s y) ∧
        (let ph := if q = 36 then Phase.ready else .walking
         pass? u k = some { p with grove := x, tid := t, phase := ph, unit := (freeUnit s x).getD 0 }) ∧
        (∀ j, j ≠ k → pass? u j = pass? s j) ∧ SameRegs s u)) ∧
    (∀ k p g t, dispatchOpen s = true → s.disp.restarts = [k] → pass? s k = some p → restartGrove s p = some g →
      pickRestart s p g = some t →
      Gives .restart s (fun u => thread u t = { threadReset t with st := .reserved, pass := k } ∧
        pass? u k = some { p with grove := g, tid := t, phase := .ready, redo := false } ∧ u.disp.restarts = [] ∧
        Counts (if p.redo then [(pa dev cAct_RESTARTS, 1)] else []) s u ∧ SameRegs s u ∧
        (∀ y, y ≠ t → thread u y = thread s y))) ∧
    (∀ t p, (thread s t).st = .reserved → pass? s (thread s t).pass = some p → p.phase = .ready → p.tid = t → t < 4096 →
      let e := dispEntry s (256 * (p.epoch % 2) + (byteAt p.prv 2).toNat)
      (romBridge s t p = true →
        let vid := bridgeVid p.head
        let key := fun i => padTo (emtKeyLen s 0) (leBytes 2 vid ++ slice p.head i 6)
        let sa := emtFind s 0 (key 6) p.epoch
        let da := emtFind (emtTouch 0 sa s) 0 (key 0) p.epoch
        let port := leAt p.prv 4 2 % 512
        let dest := fun x => natField (emtWord (emtTouch 0 da (emtTouch 0 sa s)) 0 x 0) 127 96
        Gives (.dispatchEntry t) s (fun u => (thread u t).st = .committing ∧ (thread u t).issued = 40 ∧
          (pass? u (thread s t).pass).isSome = true ∧ SameRegs s u ∧
          let d := (thread u t).staged.dispo
          (bridgeDrops p.head = true → dAction d = 4 ∧ (thread u t).staged.notices = []) ∧
          (bridgeDrops p.head = false →
            (da = none ∨ (byteAt p.head 0).toNat.testBit 0 = true →
              dAction d = 2 ∧ dDest d = vid ∧ dClass d = bridgeClass p.head ∧ natField d 35 24 = bridgeClass p.head) ∧
            (∀ x, da = some x → (byteAt p.head 0).toNat.testBit 0 = false → (dest x).testBit 15 = false →
              (natField (dest x) 13 0 = port → dAction d = 4) ∧
              (natField (dest x) 13 0 ≠ port → dAction d = 1 ∧ dDest d = natField (dest x) 13 0 ∧
                dClass d = bridgeClass p.head ∧ natField d 35 24 = bridgeClass p.head)) ∧
            (256 ≤ port → (thread u t).staged.notices = []) ∧
            (sa = none → port < 256 → (byteAt p.head 6).toNat.testBit 0 = false →
              (thread u t).staged.notices = [notice 1 0 1 port (leNat (leBytes 2 vid ++ slice p.head 6 6) + port * 2 ^ 64)])))) ∧
      (romBridge s t p = false → e.testBit 12 = true →
        Gives (.dispatchEntry t) s (fun u => thread u t = entryThread s (thread s t).pass p (e % 4096) ∧
          pass? u (thread s t).pass = some { p with phase := .running, attempts := p.attempts + 1 } ∧
          (∀ y, y ≠ t → thread u y = thread s y) ∧
          u = { s with disp := { s.disp with passes := u.disp.passes }, grv := { s.grv with threads := u.grv.threads } })) ∧
      (romBridge s t p = false → e.testBit 12 = false →
        Gives (.dispatchEntry t) s (fun u => (thread u t).st = .free ∧ pass? u (thread s t).pass = none ∧
          ctr u (pa (grvPage (thGrove t)) cGrv_NO_ROUTINE) =
            Nat.min maxCtr (ctr s (pa (grvPage (thGrove t)) cGrv_NO_ROUTINE) + 1))))

/-- PARSE_WALK (R90, R92, R100, R101, R105) of a pass on a port without Trail: a walk that ends OK with no fragment gives the
pass its PRV, its head, its epoch and its place in that epoch's in-flight count, and its routine can start; a malformed walk
is counted, and dropped with its thread where PGU_ACT.MALF says so. A walk of the ROM graph ends OK (R435). HOLD_TIMEOUT (R113) makes every fragment held too long an
orphan; FRAG_AGED (R115) removes every record at its age. It rests on log entry 34 (DEDUCED), log entry 100 (DESIGN CHOICE),
log entry 116 (DESIGN CHOICE), log entry 137 (DESIGN CHOICE), log entry 140
(DESIGN CHOICE). -/
def Obligations.WalksHoldsAndFragmentAge : Prop :=
  ∀ s : State, stopped s = false →
    (∀ k p, pass? s k = some p → p.phase = .walking → trailEn s p.src = false → p.tid ≠ noThread → p.tid < 4096 →
      let e := if p.recirc then p.epoch else curEpoch s
      let s1 := enterFlight k e (if p.known then s else freeNext s)
      let env : WalkEnv := ⟨p.raw, 256, if p.known then some (p.flen - 4) else none,
        liveB s (pa pgPgu offPGU_CFG) fPGU_CFG_FRAG_EN && !p.recirc, e % 2, p.grove⟩
      let r := graphWalk s1 env (liveF s (pa pgPgu (offPGU_PORT p.src)) fPGU_PORT_START)
        (walkStart (liveF s (pa pgPgu (offPGU_PORT p.src)) fPGU_PORT_PROFILE))
      let fl := if p.known then p.flen else freeNow s % 16384
      let w := { r.2 with unchecked := !p.known }
      let dom := if liveB s (pa pgPgu (offPGU_PORT p.src)) fPGU_PORT_DOMSEL then
        mget (fun _ => 0) w.xs (liveF s (pa pgPgu offPGU_CFG) fPGU_CFG_DOM_SLOT) % 4096 else 0
      (r.1 = (0, 0) → r.2.frag = none → r.2.overlong = false →
        Gives (.parseWalk k) s (fun t => pass? t k = some { p with
            head := p.raw, epoch := e, inflight := true, phase := .ready,
            prv := buildPrv w (0, 0) e p.src fl dom p.rxTime.ns false false none } ∧
          (p.inflight = false → inflight t e = inflight s e + 1) ∧ (p.inflight = true → inflight t e = inflight s e) ∧
          (∀ j, j ≠ k → pass? t j = pass? s j) ∧ SameRegs s t ∧ ∀ a, ctr t a = ctr s a)) ∧
      (r.1.1 = 2 → r.2.frag = none → liveF s (pa pgPgu offPGU_ACT) fPGU_ACT_MALF = 2 →
        Gives (.parseWalk k) s (fun t => pass? t k = none ∧ (thread t p.tid).st = .free ∧
          ctr t (pa pgPgu cPgu_MALFORMED) = Nat.min maxCtr (ctr s (pa pgPgu cPgu_MALFORMED) + 1)))) ∧
    (let old := fun k => match pass? s k with
       | some p => decide (p.holdSince + liveF s (pa pgPgu offFRAG_CFG) fFRAG_CFG_HOLD_US * tUs ≤ now s)
       | none => false
     s.pgu.held.filter old ≠ [] →
      Gives .holdTimeout s (fun t => (∀ k ∈ s.pgu.held, old k = true → k ∉ t.pgu.held) ∧
        ctr t (pa pgPgu cPgu_ORPHAN) =
          Nat.min maxCtr (ctr s (pa pgPgu cPgu_ORPHAN) + (s.pgu.held.filter old).length))) ∧
    (let old := s.pgu.fragAt.filter (fun e =>
       decide (e.2 + liveF s (pa pgPgu offFRAG_CFG) fFRAG_CFG_AGE_MS * tMs ≤ now s))
     old ≠ [] →
      Gives .fragAged s (fun t => (∀ e ∈ old, mfind t.pgu.frag e.1 = none) ∧
        ctr t (pa pgPgu cPgu_FRAG_AGED) = Nat.min maxCtr (ctr s (pa pgPgu cPgu_FRAG_AGED) + old.length)))

/-! ### Engines: ALU and sequencing (R178 to R190, R224 to R226) -/

/-- The ALU operations on two operands (R189, R190): each writes its destination register of the thread whose word is in progress,
reading its operands as they stood before the word, with the flags for ALU_A alone. -/
def Obligations.AluOperationsOnTwoOperands : Prop :=
  ∀ (s : State) (eng slot t : Nat), stopped s = false → slot < 2 →
    let w := wordOf s t
    let f := mwAlu w slot
    let a := opA (wordThread s t) f
    let b := opB (wordThread s t) w f
    let n := b.toNat % 32
    let run := fun (op : Nat) (c : Instr) (o : AluOut) =>
      FieldReady s eng slot t (aluIs slot op) → Gives c s (AluDone s t slot (aluDest f) o)
    run 0x01 (.aluMov eng slot) (outLogic b) ∧
    run 0x02 (.aluAdd eng slot) (outAdd a b) ∧
    run 0x03 (.aluSub eng slot) (outSub a b) ∧
    run 0x04 (.aluAnd eng slot) (outLogic (a &&& b)) ∧
    run 0x05 (.aluOr eng slot) (outLogic (a ||| b)) ∧
    run 0x06 (.aluXor eng slot) (outLogic (a ^^^ b)) ∧
    run 0x07 (.aluAndn eng slot) (outLogic (a &&& ~~~b)) ∧
    run 0x08 (.aluShl eng slot) (outLogic (a <<< n)) ∧
    run 0x09 (.aluShr eng slot) (outLogic (a >>> n)) ∧
    run 0x0A (.aluRor eng slot) (outLogic (a.rotateRight n)) ∧
    run 0x0D (.aluMin eng slot) (outLogic (if a.toNat ≤ b.toNat then a else b)) ∧
    run 0x0E (.aluMax eng slot) (outLogic (if a.toNat ≤ b.toNat then b else a)) ∧
    run 0x16 (.aluPopc eng slot) (outLogic (BitVec.ofNat 32 (popWord b))) ∧
    run 0x17 (.aluFfs eng slot) (outLogic (BitVec.ofNat 32 (ffsWord b))) ∧
    run 0x15 (.aluHash eng slot)
      (outLogic (hashWord a (opB0 (wordThread s t) w f) ((aluAux f).testBit 0)))

/-- The ALU operations that do nothing, compare, extract, insert and load (R189, R190): NOP changes no register; CMP changes flags
alone; EXT, INS, LDP, LDH, LDL, LDM and LDT write their destination; STM writes one scratch word of the thread and no register. -/
def Obligations.AluLoadsComparesAndStores : Prop :=
  ∀ (s : State) (eng slot t : Nat), stopped s = false → slot < 2 →
    let w := wordOf s t
    let f := mwAlu w slot
    let th := wordThread s t
    let a := opA th f
    let is := fun (op : Nat) (w : Nat) => aluOp (mwAlu w slot) == op
    (FieldReady s eng slot t (is 0) →
      Gives (.aluNop eng slot) s (fun u => thread u t = { th with done := nsInsert th.done slot } ∧ OnlyThread t s u)) ∧
    (FieldReady s eng slot t (aluIs slot 0x0F) →
      let o := outSub a (opB th w f)
      Gives (.aluCmp eng slot) s (fun u => thread u t = (if slot = 0 then
          { th with flagZ := o.z, flagN := o.n, flagC := o.c, flagV := o.v, done := nsInsert th.done slot }
          else { th with done := nsInsert th.done slot }) ∧ OnlyThread t s u)) ∧
    (∀ p, passOf s t = some p →
      let run := fun (op : Nat) (c : Instr) (v : Word) =>
        FieldReady s eng slot t (is op) → Gives c s (AluDone s t slot (aluDest f) (outLogic v))
      run 0x0B (.aluExt eng slot)
        (BitVec.ofNat 32 (a.toNat / 2 ^ (aluAux f % 32) % 2 ^ (aluSrcB f + 1))) ∧
      run 0x0C (.aluIns eng slot) (insBits (oldReg th (aluDest f)) a (aluAux f % 32) (aluSrcB f + 1)) ∧
      run 0x10 (.aluLdp eng slot) (ldpWord p f) ∧
      run 0x11 (.aluLdh eng slot)
        (BitVec.ofNat 32 (beNat (slice th.staged.copy (a.toNat % 512 + aluAux f) (aluSrcB f + 1)))) ∧
      run 0x12 (.aluLdl eng slot) (BitVec.ofNat 32 (lrWord th (aluSrcB f % 8) (aluAux f % 4))) ∧
      run 0x13 (.aluLdm eng slot) (mget scratchReset s.grv.scratch (scratchKey t (ldmAddr th f))) ∧
      run 0x18 (.aluLdt eng slot) (BitVec.ofNat 32 s.time.now.ns)) ∧
    (FieldReady s eng slot t (aluIs slot 0x14) →
      Gives (.aluStm eng slot) s (fun u => thread u t = { th with done := nsInsert th.done slot } ∧
        mget scratchReset u.grv.scratch (scratchKey t (ldmAddr th f)) = opB0 th w f ∧
        (∀ k, k ≠ scratchKey t (ldmAddr th f) → mget scratchReset u.grv.scratch k = mget scratchReset s.grv.scratch k) ∧
        OnlyThread t s { u with grv := { u.grv with scratch := s.grv.scratch } }))

/-- The flags of ADD, SUB and CMP (R190): Z and N are of the result; C of ADD is the carry out and of SUB says that A is not below B;
V is the signed overflow. -/
def Obligations.AddAndSubtractFlags : Prop :=
  ∀ a b : Word,
    let add := outAdd a b
    let sub := outSub a b
    add.r = a + b ∧ sub.r = a - b ∧ (add.z = true ↔ a + b = 0) ∧ (sub.z = true ↔ a = b) ∧
    (add.n = true ↔ (a + b).toInt < 0) ∧ (sub.n = true ↔ (a - b).toInt < 0) ∧
    (add.c = true ↔ (a + b).toNat ≠ a.toNat + b.toNat) ∧ (sub.c = true ↔ b.toNat ≤ a.toNat) ∧
    (add.v = true ↔ (a + b).toInt ≠ a.toInt + b.toInt) ∧ (sub.v = true ↔ (a - b).toInt ≠ a.toInt - b.toInt)

/-- The sequencing of a word (R185, R186), which acts when the word's other fields have: CONT, TWOWAY, DISP4, DISP16, CALL and RETURN
choose the next word; WAIT sleeps while an awaited result is pending and else goes on; END offers the commit; ABANDON ends the
attempt with cause MICROCODE (R224, R225), and the pass restarts while the count allows (R226). A CALL of svc_arp or svc_nd in the
SVC profile runs the subroutine and returns (R318, R330; log entry 29, DEDUCED). -/
def Obligations.SequencingChoosesTheNextWord : Prop :=
  ∀ (s : State) (eng t : Nat), stopped s = false →
    let w := wordOf s t
    let th := wordThread s t
    let goes := fun (seq : Nat) (c : Instr) (x : Thread) =>
      SeqReady s eng seq t → Gives c s (fun u => thread u t = x ∧ OnlyThread t s u)
    goes 0 (.seqCont eng) { th with done := [], cval := none, pc := mwNext w } ∧
    goes 1 (.seqTwoway eng) { th with done := [], cval := none, pc := nextC th w } ∧
    goes 2 (.seqDisp4 eng) { th with done := [], cval := none, pc := mwNext w ||| dispField th w 2 } ∧
    goes 3 (.seqDisp16 eng) { th with done := [], cval := none, pc := mwNext w ||| dispField th w 4 } ∧
    ((svcOn s = true → nextC th w ≠ svcArpEntry ∧ nextC th w ≠ svcNdEntry) →
      goes 4 (.seqCall eng) { th with done := [], cval := none, ret := mwImm w % 4096, pc := nextC th w }) ∧
    goes 5 (.seqReturn eng) { th with done := [], cval := none, pc := th.ret % 4096 } ∧
    ((waitMask w).any (pendingReg th) = true →
      goes 6 (.seqWait eng) { th with done := [], cval := none, st := .waiting, await := waitMask w }) ∧
    ((waitMask w).any (pendingReg th) = false →
      goes 6 (.seqWait eng) { th with done := [], cval := none, await := [], pc := nextC { th with cval := none } w }) ∧
    goes 7 (.seqEnd eng) { th with done := [], cval := none, st := .committing } ∧
    (∀ p, passOf s t = some p → SeqReady s eng 8 t →
      Gives (.seqAbandon eng) s (fun u => (thread u t).st = .free ∧
        ctr u (pa dev cAct_ABANDON_MICROCODE) = Nat.min maxCtr (ctr s (pa dev cAct_ABANDON_MICROCODE) + 1) ∧
        (∀ e ∈ u.ctx.lock, e.2 ≠ th.pass) ∧
        (p.headLost = false → p.counted + 1 ≤ liveF s (pa dev offACT_CFG) fACT_CFG_RESTART_MAX →
          u.disp.restarts = s.disp.restarts ++ [th.pass] ∧
          ∃ q, pass? u th.pass = some q ∧ q.phase = .restart ∧ q.counted = p.counted + 1 ∧ q.cause = causeMicrocode ∧
            q.tid = noThread)))

/-! ### Lookups, edits, memory operations and disposition (R131, R153, R192 to R221) -/

/-- Lookups (R131, R153, R192, R196): LOOKUP_EMT and LOOKUP_THICKET put the result of their table, for the key of their template,
before the thread and make its result registers PENDING; one whose predicate fails asks nothing; LOOKUP_RESULT lands every
result of one request in its register, HIT or MISS, once the word that asked is done (R183). The result is that of the table as it
stands when the lookup is issued (log entry 17, DEDUCED). -/
def Obligations.LookupsReachResultRegisters : Prop :=
  ∀ (s : State) (eng t : Nat) (p : Pass), stopped s = false → passOf s t = some p →
    let w := wordOf s t
    let th := wordThread s t
    let tbl := mwTable w
    (FieldReady s eng 2 t (fun w => mwSpace w == 1) → (mwPred w = true → condNow th w = true) →
      let key := padTo (emtKeyLen s tbl) (templateBytes s p th (mwImm w) (mwTemplate w))
      let found := emtFind s tbl key p.epoch
      ∀ kind i, Gives (.lookupEmt eng false kind i) s (fun u =>
        (∀ r ∈ lookupRegs s w, pendingReg (thread u t) r = true) ∧
        (thread u t).pend = th.pend ++ (lookupRegs s w).mapIdx (fun j r =>
          { rreg := r, hit := found.isSome, uncorr := false, apply := false, waitCtx := none, grp := reqNo th 0, chan := 0,
            val := match found with | some x => emtWord s tbl x j | none => 0 }) ∧
        (∀ x, x ≠ t → thread u x = thread s x) ∧ (thread u t).w = th.w)) ∧
    (FieldReady s eng 2 t (fun w => mwSpace w == 1) → mwPred w = true → condNow th w = false → ∀ ecc kind i,
      Gives (.lookupEmt eng ecc kind i) s (fun u => (thread u t).pend = th.pend ∧ (thread u t).w = th.w ∧ OnlyThread t s u)) ∧
    (FieldReady s eng 2 t (fun w => mwSpace w == 2) → (mwPred w = true → condNow th w = true) →
      let key := beNat (padTo (if thkWide (thkCfg s tbl) = 1 then 40 else 20)
        (templateBytes s p th (mwImm w) (mwTemplate w)))
      let r := (thkSearch tbl key p.epoch false (x5CopyFull s tbl) s).1
      Gives (.lookupThicket eng false) s (fun u => pendingReg (thread u t) (mwRreg w) = true ∧
        (∃ x, (thread u t).pend = th.pend ++ [⟨mwRreg w % 8, r.1, r.2.1, r.2.2, false, none, reqNo th 0, x⟩]) ∧
        (∀ x, x ≠ t → thread u x = thread s x))) ∧
    (∀ grp, let l := (thread s t).pend.filter (fun x => x.grp == grp)
      l ≠ [] → ((thread s t).done = [] ∨ grp / 2 ≠ (thread s t).issued) → (∀ x ∈ l, x.waitCtx = none ∧ x.uncorr = false ∧ x.apply = false) → (l.map (fun x => x.rreg % 8)).Nodup →
      Gives (.lookupResult t grp) s (fun u =>
        (∀ x ∈ l, lreg (thread u t) x.rreg = x.val ∧
          lrStatus (thread u t) x.rreg = (if x.hit then .hit else .miss)) ∧
        (thread u t).pend = (thread s t).pend.filter (fun x => x.grp != grp) ∧
        (∀ j, (∀ x ∈ l, x.rreg % 8 ≠ j % 8) → lreg (thread u t) j = lreg (thread s t) j) ∧
        ((thread s t).st = .waiting → (thread s t).await.any (pendingReg (thread u t)) = false →
          (thread u t).st = .ready) ∧
        (∀ x, x ≠ t → thread u x = thread s x) ∧ u = { s with grv := { s.grv with threads := u.grv.threads } }))

/-- Header edits (R207, R210 to R213): SET, PUSH, POP, INC, DEC, CSUM4 and UDP0 edit the thread's copy at the offset that layer and
displacement give; an edit beyond the 16th is an edit fault, which ends the attempt. -/
def Obligations.HeaderEditsChangeTheCopy : Prop :=
  ∀ (s : State) (eng t : Nat) (p : Pass), stopped s = false → passOf s t = some p →
    let w := wordOf s t
    let th := wordThread s t
    let st := th.staged
    let o := prvLayer p.prv (mwHdrLayer w) + mwHdrDisp w
    let n := mwHdrLen w
    let ready := fun (op : Nat) => FieldReady s eng 3 t (fun w => mwHdrOp w == op) ∧ st.edits < 16 ∧
      prvLayerOk p.prv (mwHdrLayer w) = true
    let edits := fun (c : Instr) (copy : Bytes) (orig : List (Option Nat)) =>
      Gives c s (StagedDone s t 3 { st with copy := copy, orig := orig, edits := st.edits + 1 })
    (∀ bs, ready 1 → setBytes s p th w n (mwHdrSrc w) = some bs → o + bs.length ≤ st.copy.length →
      edits (.hdrSet eng) (st.copy.take o ++ bs ++ st.copy.drop (o + bs.length)) st.orig) ∧
    (let bs := (encap s (mwImm w % 4096)).take n
     ready 2 → o < st.copy.length → st.copy.length + bs.length ≤ p.head.length + 128 →
      st.copy.length + bs.length ≤ 384 →
      edits (.hdrPush eng) (st.copy.take o ++ bs ++ st.copy.drop o)
        (st.orig.take o ++ List.replicate bs.length none ++ st.orig.drop o)) ∧
    (ready 3 → o + n ≤ st.copy.length → p.head.length ≤ st.copy.length - n + 128 →
      edits (.hdrPop eng) (st.copy.take o ++ st.copy.drop (o + n)) (st.orig.take o ++ st.orig.drop (o + n))) ∧
    (ready 4 → o + n ≤ st.copy.length →
      edits (.hdrInc eng) (st.copy.take o ++ beBytes n ((beAt st.copy o n + 1) % 2 ^ (8 * n)) ++ st.copy.drop (o + n))
        st.orig) ∧
    (ready 5 → o + n ≤ st.copy.length →
      edits (.hdrDec eng)
        (st.copy.take o ++ beBytes n ((beAt st.copy o n + 2 ^ (8 * n) - 1) % 2 ^ (8 * n)) ++ st.copy.drop (o + n))
        st.orig) ∧
    (let ihl := (byteAt st.copy (o - 10)).toNat % 16
     ready 6 → 10 ≤ o → 5 ≤ ihl → o - 10 + 4 * ihl ≤ st.copy.length →
      edits (.hdrCsum4 eng)
        (st.copy.take o ++ beBytes 2 (csum4 p st (o - 10) (4 * ihl) o) ++ st.copy.drop (o + 2)) st.orig) ∧
    (ready 7 → o + 2 ≤ st.copy.length →
      edits (.hdrUdp0 eng) (st.copy.take o ++ [0, 0] ++ st.copy.drop (o + 2)) st.orig) ∧
    (FieldReady s eng 3 t (fun w => mwHdrOp w == 7) → 16 ≤ st.edits →
      Gives (.hdrUdp0 eng) s (fun u => (thread u t).st = .free ∧
        ctr u (pa dev cAct_EDIT_FAULT) = Nat.min maxCtr (ctr s (pa dev cAct_EDIT_FAULT) + 1)))

/-- Memory operations (R214 to R219): CNT stages a packet and its bytes; POL meters the packet and keeps the reservation; CTX_RD reads a
context whose lock is free, with the lock; WRT, WRL and ADD stage context operations under the lock; LEARN stages a notice. The
free lock of a context goes to its oldest waiter (R218). -/
def Obligations.MemoryOperationsStageOrRead : Prop :=
  ∀ (s : State) (eng t : Nat) (p : Pass), stopped s = false → passOf s t = some p →
    let w := wordOf s t
    let th := wordThread s t
    let st := th.staged
    let m := mwMem w
    let ready := fun (op : Nat) => FieldReady s eng 4 t (fun w => memOp (mwMem w) == op)
    let i := ctxIndex th m
    let unlocked := mfind s.ctx.lock i = none ∧ mget (fun _ => []) s.ctx.wait i = [] ∧ (touched s th.pass).length < 8
    let takes := fun (u : State) (ops : List CtxOp) => holdsLock u th.pass i = true ∧
      (∀ j, j ≠ i → mfind u.ctx.lock j = mfind s.ctx.lock j) ∧ (thread u t).staged = { st with ctxs := st.ctxs ++ ops } ∧
      (∀ j, context u j = context s j) ∧ (∀ x, x ≠ t → thread u x = thread s x)
    (ready 1 → st.cnts.length < 8 →
      Gives (.memCnt eng) s (StagedDone s t 4 { st with cnts := st.cnts ++ [(cntIndex th w,
        if m.testBit 4 then ((passLen p : Int) + netSize p th).toNat else passLen p)] })) ∧
    (ready 2 → st.pols.length < 4 →
      let r := (polMeter ((wreg th (natField m 11 7)).toNat % 2 ^ 18) (passLen p) p.rxPort (dColour st.dispo) s).1
      Gives (.memPol eng false) s (fun u => (thread u t).staged = { st with pols := st.pols ++ [r.2] } ∧
        (thread u t).pend = th.pend ++ [⟨natField m 6 4, true, false, r.1, m.testBit 3, none, reqNo th 1, 0⟩] ∧
        (∀ x, x ≠ t → thread u x = thread s x))) ∧
    (ready 3 → natField m 2 0 = 0 → unlocked → st.ctxs = [] →
      Gives (.memCtxRd eng false) s (fun u => takes u [] ∧ (thread u t).pend = th.pend ++
        [⟨natField m 5 3 % 8, true, false, context s i, false, none, reqNo th 1, 0⟩])) ∧
    (let bs := templateBytes s p th (mwImm w) (natField m 5 0)
     ready 4 → 0 < bs.length → bs.length ≤ 16 → unlocked →
      Gives (.memCtxWrt eng) s (fun u => takes u [⟨i, some (leAt bs 0 16), 0, 0⟩])) ∧
    (ready 5 → unlocked →
      Gives (.memCtxWrl eng) s (fun u => takes u [⟨i, some (lreg th (natField m 5 3)), 0, 0⟩])) ∧
    (ready 6 → unlocked →
      Gives (.memCtxAdd eng) s (fun u => takes u [⟨i, none, natField m 5 4, twos 32 (signed 16 (mwImm w))⟩])) ∧
    (ready 7 → st.notices.length < 2 →
      let v := (wreg th (natField m 8 4)).toNat
      let hi := if m.testBit 3 then
        (fget th.ctxh fACT_CTXH_BASE + v % 2 ^ fget th.ctxh fACT_CTXH_LOG2) % 2 ^ 20 + v % 4096 * 2 ^ 20 else v
      Gives (.memLearn eng) s (StagedDone s t 4 { st with notices := st.notices ++
        [notice (if m.testBit 2 then 2 else 1) (mwImm w % 64) (2 ^ (p.epoch % 2)) (leAt p.prv 4 2 % 512)
          (lreg th (natField m 11 9) % 2 ^ 64 + hi * 2 ^ 64)] })) ∧
    (∀ c k, mfind s.ctx.lock c = none → oldestWaiter s (mget (fun _ => []) s.ctx.wait c) = some k →
      Gives (.contextLockGrant c) s (fun u => holdsLock u k c = true ∧
        mget (fun _ => []) u.ctx.wait c = (mget (fun _ => []) s.ctx.wait c).filter (fun x => x != k) ∧
        (∀ d, d ≠ c → mfind u.ctx.lock d = mfind s.ctx.lock d) ∧
        u = { s with ctx := u.ctx, grv := { s.grv with threads := u.grv.threads } }))

/-- The disposition operations (R220, R221, R355): what each leaves in the record's action, destination, queue, class, colour, mirror,
OAM mark and reason; and that nothing else of the thread changes but, for FWD, the Trail word. -/
def Obligations.DispositionOperationsSetTheRecord : Prop :=
  ∀ (s : State) (eng t : Nat) (p : Pass), stopped s = false → passOf s t = some p →
    let w := wordOf s t
    let th := wordThread s t
    let d0 := th.staged.dispo
    let k := mwDispArg w
    let gives := fun (op : Nat) (c : Instr) (P : Nat → Prop) =>
      FieldReady s eng 5 t (fun w => mwDispOp w == op) →
        Gives c s (fun u => ∃ d, StagedDone s t 5 { th.staged with dispo := d } u ∧ P d)
    let same := fun (l : List Nat) (d : Nat) => ∀ b, b ∉ l → d.testBit b = d0.testBit b
    let bits := fun (hi lo : Nat) => (List.range (hi + 1 - lo)).map (fun i => lo + i)
    (FieldReady s eng 5 t (fun w => mwDispOp w == 1) →
      let v := fwdWord th k
      Gives (.dispFwd eng) s (fun u => ∃ d,
        StagedDone s t 5 { th.staged with dispo := d, trail := fwdTrail th k } u ∧
        dAction d = (if fwMc v then 2 else 1) ∧ dDest d = fwDest v ∧ dQueue d = fwQueue v ∧
        dClass d = (if fwClsEn v then fwClass v else dClass d0) ∧
        same (bits 5 0 ++ bits 21 8 ++ bits 35 24) d)) ∧
    gives 2 (.dispClass eng) (fun d => dClass d = k % 8 ∧ same (bits 5 3) d) ∧
    gives 3 (.dispColour eng) (fun d => dColour d = k % 4 ∧ same (bits 7 6) d) ∧
    gives 4 (.dispMirror eng) (fun d => dMirrorEn d = true ∧ dMirror d = k ∧ same (bits 40 36) d) ∧
    gives 5 (.dispOam eng) (fun d => dOam d = true ∧ same [41] d) ∧
    gives 6 (.dispRestore eng) (fun d => d = leAt p.prv 40 8) ∧
    gives 0xC (.dispCommit eng) (fun d => d = d0) ∧
    gives 0xD (.dispDrop eng) (fun d => dAction d = 4 ∧ dDest d = 511 ∧ same (bits 2 0 ++ bits 21 8) d) ∧
    gives 0xE (.dispToHost eng) (fun d => dAction d = 3 ∧ dDest d = 256 ∧ dReason d = mwImm w % 128 ∧
      same (bits 2 0 ++ bits 21 8 ++ bits 50 43) d) ∧
    gives 0xF (.dispRecirc eng) (fun d => dAction d = 5 ∧ dDest d = 257 + k % 2 ∧ same (bits 2 0 ++ bits 21 8) d)

/-- COMMIT_ACCEPT (R180, R222, R223): a commit for which X6, X7 or X8 has no room stalls (R17). One for which they have frees
its thread, which stays out of dispatch for the hand-off; the pass is counted, its locks are released, its counters and
context writes take effect (R215), and what its policers took stays taken (R216); the packet, unless it is dropped, enters the
reorder stage with its disposition and its notices, marked where one is a LEARN notice (R141, R221). A frame of less than 14
bytes is an edit fault (R213). REORDER_RELEASE (R15): a packet behind an earlier one of its port stays; the first one leaves,
and its place is free. Its notice enters the Learn Queue unless the filter holds it (R141, R142). Its copy, forwarded or of
each member of a valid group (R265), is admitted (R261), takes a descriptor of its cells and goes to the end of its queue; one
not admitted is counted (R252, R261). It rests on log entry 15 (DESIGN CHOICE), log entry 33 (DEDUCED), log entry 36
(DEDUCED). -/
def Obligations.CommitAndReorderRelease : Prop :=
  ∀ (s : State) (t : Nat) (p : Pass), stopped s = false → safe s = false → t < 4096 →
    (passOf s t = some p → (thread s t).st = .committing →
      let th := thread s t
      let st := th.staged
      let frame := st.copy.length + (p.segs.map (fun g => g.len)).sum
      let room := commitRoom s (thGrove t) (headCellsFor st.copy.length)
        (st.cnts.length + st.pols.length + st.ctxs.length) st.notices.length
      (room = false → ∀ x6 x7 x8, Gives (.commitAccept t x6 x7 x8) s (fun u => u = s)) ∧
      (14 ≤ frame → room = true →
        (∀ k ∈ s.pgu.held, k ≠ th.pass ∧ ∀ q, pass? s k = some q → q.tid ≠ t) →
        Gives (.commitAccept t false [] []) s (fun u => (thread u t).st = .free ∧ (thread u t).freeAt = now s + 4 ∧
          mget (fun _ => 0) u.grv.handoff (t / 4) = now s + 4 ∧
          ctr u (pa (grvPage (thGrove t)) cGrv_PASSES) =
            Nat.min maxCtr (ctr s (pa (grvPage (thGrove t)) cGrv_PASSES) + 1) ∧
          (∀ e ∈ u.ctx.lock, e.2 ≠ th.pass) ∧
          (∀ c v, st.ctxs = [⟨c, some v, 0, 0⟩] → context u c = v ∧ ∀ d, d ≠ c → context u d = context s d) ∧
          (∀ i n, st.cnts = [(i, n)] → liveB s (pa pgClr offCLR_CFG) fCLR_CFG_CNT_EN = false →
            pair u i = (Nat.min maxCtr ((pair s i).1 + 1), Nat.min maxCtr ((pair s i).2 + n)) ∧
            ∀ j, j ≠ i → pair u j = pair s j) ∧
          (∀ i, policer u i = policer s i) ∧
          (st.notices = [] → (pass? u th.pass = none ∨ ∃ q c, pass? u th.pass = some q ∧ q.phase = .reorder ∧
              q.com = some c ∧ c.dispo = st.dispo ∧ c.headLen = st.copy.length ∧ q.tid = noThread) ∧
            (dAction st.dispo = 4 → pass? u th.pass = none)) ∧
          (∀ n, st.notices = [n] → ∃ q c, pass? u th.pass = some q ∧ q.phase = .reorder ∧ q.com = some c ∧
            c.notices = [n] ∧ q.tid = noThread ∧
            (c.headCells ≠ [] → dAction c.dispo = dAction st.dispo ∧
              c.dispo.testBit 42 = (st.dispo.testBit 42 || n % 16 == 1))))) ∧
      (frame < 14 → room = true → ∀ x6 x7 x8, Gives (.commitAccept t x6 x7 x8) s (fun u => (thread u t).st = .free ∧
        ctr u (pa dev cAct_EDIT_FAULT) = Nat.min maxCtr (ctr s (pa dev cAct_EDIT_FAULT) + 1)))) ∧
    (∀ k c, pass? s k = some p → p.phase = .reorder → p.com = some c →
      let order := mget (fun _ => []) s.disp.order p.src
      (order.contains k = true → order.head? ≠ some k → Gives (.reorderRelease k) s (fun u => u = s)) ∧
      ((order.contains k = false ∨ order.head? = some k) → c.notices = [] →
        Gives (.reorderRelease k) s (fun u => pass? u k = none ∧
          mget (fun _ => []) u.disp.order p.src = order.filter (fun x => x != k) ∧
          (dAction c.dispo = 4 → ∀ id, mfind u.clr.desc id = mfind s.clr.desc id))) ∧
      ((order.contains k = false ∨ order.head? = some k) → (∀ n, c.notices = [n] → s.emt.lq.length < 65536 →
        Gives (.reorderRelease k) s (fun u =>
          u.emt.lq = if n % 16 = 1 ∧ filtered s n = true then s.emt.lq else s.emt.lq ++ [n])) ∧
        let n := c.headCells.length + (segCells p.segs).length
        let q := dQueue c.dispo
        let copy := fun (dp : Nat) (u : State) => ∃ id d, mfind u.clr.desc id = some d ∧
          d.headCells = c.headCells ∧ d.segs = p.segs ∧ d.cells = n ∧ d.port = dp ∧ d.cls = dClass c.dispo ∧
          d.queue = globalQueue s dp q ∧ d.held = false ∧ d.pkt = k ∧
          queueList u d.queue = queueList s d.queue ++ [id]
        (c.notices = [] → p.bad = false → p.complete = true →
          (∀ dp, (dAction c.dispo = 3 ∧ dp = 256 ∨ (dAction c.dispo = 1 ∨ dAction c.dispo = 5) ∧ dp = dDest c.dispo) → dp < 260 →
            (∀ j, j < 16 → mirMatch s p.epoch j 1 dp = false) →
            Gives (.reorderRelease k) s (fun u =>
              (admitTest s dp (dClass c.dispo) q n = .ok → copy dp u) ∧
              (admitTest s dp (dClass c.dispo) q n ≠ .ok → u.clr.desc = s.clr.desc) ∧
              (admitTest s dp (dClass c.dispo) q n = .noDesc →
                ctr u (pa pgClr cClr_DESC_EMPTY) = Nat.min maxCtr (ctr s (pa pgClr cClr_DESC_EMPTY) + 1)) ∧
              (admitTest s dp (dClass c.dispo) q n = .limit ∨ admitTest s dp (dClass c.dispo) q n = .queue →
                ctr u (pa pgClr cClr_ADMIT_DROP) = Nat.min maxCtr (ctr s (pa pgClr cClr_ADMIT_DROP) + 1)))) ∧
          (let g := mcGroup s (dDest c.dispo)
           let m := mcMembers g p.src
           dAction c.dispo = 2 → s.store.mcgBad.contains (dDest c.dispo) = false →
            Gives (.reorderRelease k) s (fun u =>
              (g.testBit 261 = false ∨ m = [] → u.clr.desc = s.clr.desc ∧
                ctr u (pa pgMc cMc_MC_INVALID) = Nat.min maxCtr (ctr s (pa pgMc cMc_MC_INVALID) + 1)) ∧
              (g.testBit 261 = true → m ≠ [] →
                ctr u (pa pgMc cMc_MC_PACKETS) = Nat.min maxCtr (ctr s (pa pgMc cMc_MC_PACKETS) + 1) ∧
                ((∀ dp ∈ m, admitTest s dp (dClass c.dispo) q n = .ok ∧ ∀ j, j < 16 → mirMatch s p.epoch j 1 dp = false) →
                  (m.map (fun dp => globalQueue s dp q)).Nodup → s.clr.desc.length + m.length ≤ 1048576 →
                  ctr u (pa pgMc cMc_MC_COPIES) = Nat.min maxCtr (ctr s (pa pgMc cMc_MC_COPIES) + m.length) ∧
                  (∀ dp, m = [dp] → copy dp u) ∧
                  ∀ dp ∈ m, ∃ id, queueList u (globalQueue s dp q) = queueList s (globalQueue s dp q) ++ [id])))))))

/-! ### The Table Access Engine (R49 to R58, R135 to R138, R152, R158 to R163) -/

/-- The TAE on exact-match tables (R135 to R138): INSERT of a key that is not there writes the entry in the place the table gives it,
DELETE removes it, MODIFY replaces its action, SEARCH returns it, SET_MEMB changes its members, WRITE and READ act at an INDEX;
each completes its queue's next command; a SEARCH that finds nothing does so with INDEX 0 (log entry 55, DEDUCED). -/
def Obligations.TableEngineOnExactMatchTables : Prop :=
  ∀ (s : State) (q : Nat) (c : TaeCmd), stopped s = false → q < 2 → taeNext s q = some c → taeFormatOk c.bytes = true →
    tcSpace c.bytes = 1 → emtOn s (tcTable c.bytes) = true → emtClearing s (tcTable c.bytes) = false →
    let b := c.bytes
    let tbl := tcTable b
    let data := tcData b
    let sel := emtSelected s tbl (tcMemb b) (emtKeyOf s tbl data)
    let ok := fun x => ({ resPlain tsOk x with overflow := emtIsOvf s tbl x } : TaeRes)
    let image := data.take (16 * emtN s tbl)
    (tcLen b = 65 → emtPadOk s tbl data = true →
      (tcOp b = opInsert → tcMemb b ≠ 0 →
        (emtHolders s tbl (emtKeyOf s tbl data)).filter (fun x => (tagMemb (emtTag s tbl x) &&& tcMemb b) != 0) = [] →
        ∀ x, emtPlace s tbl (emtKeyOf s tbl data) = .free x →
        Gives (.insert q false) s (fun t => TaeDone s q b (ok x) t ∧ emtImage t tbl x = image ∧
          emtTag t tbl x = mkTag (tcMemb b) false ((byteAt data 64).toNat.testBit 0) 0)) ∧
      (∀ x, sel = [x] →
        (tcOp b = opDelete → Gives (.delete q false) s (fun t => TaeDone s q b (ok x) t ∧
          tagUsed (emtTag t tbl x) = false ∧ emtImage t tbl x = emtImage s tbl x)) ∧
        (tcOp b = opModify → Gives (.modify q false) s (fun t => TaeDone s q b (ok x) t ∧ emtImage t tbl x = image ∧
          tagMemb (emtTag t tbl x) = tagMemb (emtTag s tbl x) ∧
          tagStatic (emtTag t tbl x) = (byteAt data 64).toNat.testBit 0)) ∧
        (tcOp b = opSetMemb → tcMemb b ≠ 0 → Gives (.setMemb q false) s (fun t => TaeDone s q b (ok x) t ∧
          tagMemb (emtTag t tbl x) = tcMemb b ∧ emtImage t tbl x = emtImage s tbl x))) ∧
      (tcOp b = opSearch → Gives (.search q false) s (fun t =>
        TaeDone s q b (if sel = [] then resPlain tsNotFound 0 else emtReturn s tbl (emtFirst s tbl sel) false) t ∧
        t.emt = s.emt)) ∧
      (tcOp b = opWrite → emtIndexOk s tbl (tcIndex b) = true → Gives (.write q false) s (fun t =>
        TaeDone s q b (ok (tcIndex b)) t ∧ emtImage t tbl (tcIndex b) = image ∧
        emtTag t tbl (tcIndex b) = metaTag (tcMemb b) (byteAt data 64).toNat))) ∧
    (tcOp b = opRead → tcLen b = 0 → emtPadOk s tbl data = true → emtIndexOk s tbl (tcIndex b) = true → Gives (.read q false) s (fun t =>
      TaeDone s q b (emtReturn s tbl (tcIndex b) false) t ∧ t.emt = s.emt))

/-- The TAE on Thicket tables (R152, R158, R159, R162, R163): INSERT where a place is free of moves writes every copy at once; where
rows must move it starts the moves; DELETE, MODIFY, SEARCH, SET_MEMB, WRITE and READ as for exact match. A SEARCH that finds nothing
completes with INDEX 0 (log entry 55, DEDUCED). -/
def Obligations.TableEngineOnThicketTables : Prop :=
  ∀ (s : State) (q : Nat) (c : TaeCmd), stopped s = false → q < 2 → taeNext s q = some c → taeFormatOk c.bytes = true →
    tcSpace c.bytes = 2 → thkOn s (tcTable c.bytes) = true → thkClearing s (tcTable c.bytes) = false →
    thkShifting s (tcTable c.bytes) = false → thkRepairing s (tcTable c.bytes) = false →
    let b := c.bytes
    let tbl := tcTable b
    let data := tcData b
    let n := thkCopies s tbl
    let sel := thkSelected s tbl (tcMemb b) (tcRank b) data
    let tag := mkThkTag (tcMemb b) (if thkRanked s tbl then tcRank b else 0) (popcount (thkMaskOf data) 320)
    (tcLen b = 88 → thkPadOk s tbl data = true →
      (tcOp b = opInsert → tcMemb b ≠ 0 →
        (thkHolders s tbl (tcRank b) data).filter (fun x => (tagMemb (thkEntry s tbl 0 x).tag &&& tcMemb b) != 0) = [] →
        ∀ plan, thkPlan s tbl (thkPrio s tbl tag) = some plan →
        (plan.moves = [] → Gives (.insert q false) s (fun t => TaeDone s q b (resPlain tsOk plan.pos) t ∧
          ∀ k, k < n → (thkEntry t tbl k plan.pos).tag = tag ∧ (thkEntry t tbl k plan.pos).result = leAt data 80 8)) ∧
        (plan.moves ≠ [] → Gives (.insert q false) s (fun t => mfind t.tae.exec q = some c ∧
          t.thk.rows = s.thk.rows ∧ ∃ h, t.thk.shifts = s.thk.shifts ++ [h] ∧ h.table = tbl ∧ h.pos = plan.pos ∧
            h.tag = tag ∧ h.plan = plan.moves ∧ h.copies.length = n ∧ ∀ y ∈ h.copies, y.moves = plan.moves ∧ y.writes = 0))) ∧
      (∀ x, sel = [x] →
        (tcOp b = opDelete → Gives (.delete q false) s (fun t => TaeDone s q b (resPlain tsOk x) t ∧
          ∀ k, k < n → tagUsed (thkEntry t tbl k x).tag = false)) ∧
        (tcOp b = opModify → Gives (.modify q false) s (fun t => TaeDone s q b (resPlain tsOk x) t ∧
          ∀ k, k < n → (thkEntry t tbl k x).result = leAt data 80 8 ∧
            (thkEntry t tbl k x).tag = (thkEntry s tbl 0 x).tag)) ∧
        (tcOp b = opSetMemb → tcMemb b ≠ 0 → Gives (.setMemb q false) s (fun t => TaeDone s q b (resPlain tsOk x) t ∧
          ∀ k, k < n → tagMemb (thkEntry t tbl k x).tag = tcMemb b))) ∧
      (tcOp b = opSearch → Gives (.search q false) s (fun t =>
        TaeDone s q b (match sel with | [] => resPlain tsNotFound 0 | x :: _ => thkReturn s tbl x) t ∧
        t.thk = { s.thk with slots := t.thk.slots })) ∧
      (tcOp b = opWrite → tcIndex b < thkSize s tbl → Gives (.write q false) s (fun t =>
        TaeDone s q b (resPlain tsOk (tcIndex b)) t ∧
        ∀ k, k < n → (thkEntry t tbl k (tcIndex b)).tag = tag ∧ (thkEntry t tbl k (tcIndex b)).result = leAt data 80 8))) ∧
    (tcOp b = opRead → tcLen b = 0 → thkPadOk s tbl data = true → tcIndex b < thkSize s tbl → Gives (.read q false) s (fun t =>
      TaeDone s q b (thkReturn s tbl (tcIndex b)) t ∧ t.thk = s.thk))

/-- The TAE on the indexed spaces (R50, R53, R56, R57): WRITE stores an entry of exactly its length; READ returns it; READ_CLEAR
returns a counter pair and sets it to 0; an index beyond the space, a wrong length and an uncorrectable entry are answered so;
a WRITE of a locked context waits (R218). FENCE completes once the other queue has nothing earlier. That an INDEX beyond the space is
BAD_INDEX whatever LEN is rests on log entry 103 (DESIGN CHOICE), INDEX 0 of refused commands on log entry 55 (DEDUCED), and which of
two FENCEs of one BCLK is the earlier on log entry 19 (DESIGN CHOICE). -/
def Obligations.TableEngineOnIndexedSpaces : Prop :=
  ∀ (s : State) (q : Nat) (c : TaeCmd), stopped s = false → q < 2 → taeNext s q = some c → taeFormatOk c.bytes = true →
    let b := c.bytes
    let sp := tcSpace b
    let i := tcIndex b
    let v := leAt (tcData b) 0 (spaceLen sp i)
    (3 ≤ sp →
      (spaceSize sp ≤ i → (tcOp b = opWrite → Gives (.write q false) s (TaeDone s q b (resPlain tsBadIndex 0))) ∧
        (tcOp b = opRead → Gives (.read q false) s (TaeDone s q b (resPlain tsBadIndex 0)))) ∧
      (i < spaceSize sp → tcOp b = opWrite → tcLen b = spaceLen sp i → spaceIllegal sp i v = false →
        (sp ≠ 4 → (sp = 5 → mfind s.ctx.lock i = none) → Gives (.write q false) s (fun t =>
          TaeDone s q b (resPlain tsOk i) t ∧ spaceRead t sp i = v ∧
          ∀ j, j < spaceSize sp → j ≠ i → spaceRead t sp j = spaceRead s sp j)) ∧
        (sp = 4 → Gives (.write q false) s (fun t => TaeDone s q b (resPlain tsOk i) t ∧
          pConfig (policer t i) = pConfig v ∧ pLast (policer t i) = polNow s ∧ ∀ j, j ≠ i → policer t j = policer s j)) ∧
        (sp = 5 → mfind s.ctx.lock i ≠ none → Gives (.write q false) s (fun t => t = s))) ∧
      (i < spaceSize sp → tcOp b = opWrite → tcLen b ≠ spaceLen sp i →
        Gives (.write q false) s (TaeDone s q b (resPlain tsBadFormat 0))) ∧
      (i < spaceSize sp → tcOp b = opRead → tcLen b = 0 → (sp = 6 → s.store.mcgBad.contains i = false) →
        (sp = 8 → s.pgu.transBad.contains i = false) → Gives (.read q false) s (fun t =>
          TaeDone s q b ⟨tsOk, i, false, false, 0, spaceLen sp i, leBytes (spaceLen sp i) (spaceRead s sp i)⟩ t ∧
          t.store = s.store ∧ t.ctx = s.ctx)) ∧
      (i < spaceSize sp → tcOp b = opRead → tcLen b = 0 → Gives (.read q true) s (TaeDone s q b (resPlain tsUncorrectable i))) ∧
      (i < spaceSize sp → tcOp b = opReadClear → tcLen b = 0 → Gives (.readClear q false) s (fun t =>
        TaeDone s q b ⟨tsOk, i, false, false, 0, 16, leBytes 16 (mget (fun _ => 0) s.store.pairs i)⟩ t ∧
        pair t i = (0, 0) ∧ ∀ j, j ≠ i → pair t j = pair s j))) ∧
    (tcOp b = opFence → (fenceWaits s q c.t0 = false → Gives (.fence q false) s (TaeDone s q b (resPlain tsOk 0))) ∧
      (fenceWaits s q c.t0 = true → Gives (.fence q false) s (fun t => t = s)))

/-! ### Upkeep of tables, policers and cells (R129, R144, R152, R161, R166, R168, R256, R267, R276, R294, R305) -/

/-- The clears of a table that is enabled end with no entry in use and VALID 0 in every row of its banks (R129, R152); the aging sweep
visits an entry (R144): a hit clears, an age grows, an entry at its limit is reported, or removed where its tag shows the limit itself
(R145). -/
def Obligations.TableClearAndAging : Prop :=
  ∀ (s : State) (tbl : Nat), stopped s = false → tbl < 64 →
    (emtClearing s tbl = true →
      Gives (.tableClearDone tbl) s (fun t => emtClearing t tbl = false ∧ emtUsed t tbl = [] ∧
        (reg t (pa pgEmt offIRQ_STS)).toNat.testBit 3 = true)) ∧
    (thkClearing s tbl = true →
      Gives (.thkTableClearDone tbl) s (fun t => thkClearing t tbl = false ∧
        (∀ k, thkFirstBank s tbl 0 ≤ k / 2048 → k / 2048 < thkFirstBank s tbl (thkCopies s tbl) →
          (thkRow t k).tag.testBit 0 = false) ∧ (reg t (pa pgThk offIRQ_STS)).toNat.testBit 1 = true)) ∧
    (let cfg := live s (pa pgEmt (offEMT_TBL_AGE tbl))
     emtOn s tbl = true → emtClearing s tbl = false → fbit cfg fEMT_TBL_AGE_AGE_EN = true →
      mget (fun _ => 0) s.emt.sweepAt tbl ≤ now s → liveB s (pa pgEmt offLQ_CFG) fLQ_CFG_OVF_RET = false →
      ∀ x, emtUsed s tbl = [x] → let g := emtTag s tbl x
        Gives (.agingSweep tbl) s (fun t =>
          mget (fun _ => 0) t.emt.sweepAt tbl = now s + fget cfg fEMT_TBL_AGE_TICK_MS * tMs ∧
          (tagStatic g = true → emtTag t tbl x = g) ∧
          (tagStatic g = false → tagHit g = true → emtTag t tbl x = mkTag (tagMemb g) false false 0) ∧
          (tagStatic g = false → tagHit g = false → tagAge g < fget cfg fEMT_TBL_AGE_AGE_LIMIT →
            emtTag t tbl x = mkTag (tagMemb g) false false (tagAge g + 1)) ∧
          (tagStatic g = false → tagHit g = false → fget cfg fEMT_TBL_AGE_AGE_LIMIT ≤ tagAge g →
            (fbit cfg fEMT_TBL_AGE_AGE_MODE = true → fget cfg fEMT_TBL_AGE_AGE_LIMIT < tagAge g → emtTag t tbl x = g) ∧
            (fbit cfg fEMT_TBL_AGE_AGE_MODE = true → tagAge g = fget cfg fEMT_TBL_AGE_AGE_LIMIT →
              tagUsed (emtTag t tbl x) = false ∧
              ctr t (pa pgEmt cEmt_AGED_REMOVED) = Nat.min maxCtr (ctr s (pa pgEmt cEmt_AGED_REMOVED) + 1)) ∧
            (fbit cfg fEMT_TBL_AGE_AGE_MODE = false → emtTag t tbl x = g ∧
              ctr t (pa pgEmt cEmt_AGED_NOTIFY) = Nat.min maxCtr (ctr s (pa pgEmt cEmt_AGED_NOTIFY) + 1)))))

/-- SHIFT_MOVE (R161, R162): the next move of a copy takes an entry to its new row; then the entry's row is freed and written with VALID
0; the last write of the last copy commits the entry in every copy and completes the command that began it; while a repair of the
table is in progress it waits (R168), and where its table's ENABLE is 0 the command completes with BAD_FORMAT (R152). The scrub goes on to the next row, and each row it cannot read loses its VALID bit and is reported
(R166); a row to be repaired takes the entry from the next copy, wherever that copy's moves have taken it, and where no copy has it the entry is lost and counted (R168). -/
def Obligations.ThicketMovesScrubAndRepair : Prop :=
  ∀ (s : State), stopped s = false →
    (∀ tbl c h x, s.thk.shifts.find? (fun h => h.table == tbl) = some h → (shiftersHeld s).contains (tbl, c) = true →
      h.copies.find? (fun x => x.copy == c) = some x →
      (thkOn s tbl = false → Gives (.shiftMove tbl c) s (fun t => thkShifting t tbl = false ∧ t.thk.rows = s.thk.rows ∧
        ∀ cmd, s.tae.exec.find? (fun e => tcSpace e.2.bytes == 2 && tcTable e.2.bytes == tbl) = some (1, cmd) →
          t.tae.sapC = s.tae.sapC ++ [completion cmd.bytes (resPlain tsBadFormat 0) s.tae.sapDone])) ∧
      (thkOn s tbl = true → thkRepairing s tbl = true → Gives (.shiftMove tbl c) s (fun t => t = s)) ∧
      (thkOn s tbl = true → thkRepairing s tbl = false →
        (∀ a b ms, x.moves = (a, b) :: ms → x.writes = 0 →
          Gives (.shiftMove tbl c) s (fun t => (thkEntry t tbl c b).tag = (thkEntry s tbl c a).tag ∧
            (thkEntry t tbl c b).result = (thkEntry s tbl c a).result ∧
            (thkEntry t tbl c b).value % 2 ^ 160 = (thkEntry s tbl c a).value % 2 ^ 160 ∧
            ctr t (pa pgThk cThk_MOVES) = Nat.min maxCtr (ctr s (pa pgThk cThk_MOVES) + 1) ∧ t.tae = s.tae)) ∧
        (x.moves = [] → x.writes = 0 → Gives (.shiftMove tbl c) s (fun t =>
          (thkEntry t tbl c h.pos).tag = natSetBit (thkEntry s tbl c h.pos).tag 0 false ∧ t.tae = s.tae)) ∧
        (x.moves = [] → x.writes = 1 → (∃ y ∈ h.copies, y.copy ≠ c ∧ y.writes ≠ 2) → Gives (.shiftMove tbl c) s (fun t =>
          (thkEntry t tbl c h.pos).tag = natSetBit h.tag 0 false ∧ (thkEntry t tbl c h.pos).result = h.result ∧ t.tae = s.tae)) ∧
        (∀ q cmd, x.moves = [] → x.writes = 1 → (∀ y ∈ h.copies, y.copy ≠ c → y.writes = 2) → q < 2 →
          s.tae.exec.find? (fun e => tcSpace e.2.bytes == 2 && tcTable e.2.bytes == tbl) = some (q, cmd) →
          Gives (.shiftMove tbl c) s (fun t => thkShifting t tbl = false ∧ mfind t.tae.exec q = none ∧
            (q = 0 → t.tae.hostDone = (s.tae.hostDone + 1) % 512 ∧
              ∀ i, i < 128 → mget (fun _ => 0) t.tae.comp (s.tae.hostDone % 256 * 128 + i) =
                byteAt (completion cmd.bytes (resPlain tsOk h.pos) s.tae.hostDone) i) ∧
            (q = 1 → t.tae.sapC = s.tae.sapC ++ [completion cmd.bytes (resPlain tsOk h.pos) s.tae.sapDone]) ∧
            ∀ k, k < thkCopies s tbl → (thkEntry t tbl k h.pos).tag = h.tag)))) ∧
    (∀ bad, (∀ b ∈ bad, b < 64) →
      Gives (.thicketScrub bad) s (fun t => t.thk.scrub = (s.thk.scrub + 1) % 2048 ∧ (bad = [] → t.thk.rows = s.thk.rows) ∧
        (∀ b ∈ bad, (thkRow t (b * 2048 + s.thk.scrub)).tag.testBit 0 = false) ∧
        (∀ k, k % 2048 ≠ s.thk.scrub % 2048 → thkRow t k = thkRow s k) ∧
        t.lko.cap = s.lko.cap ++
          bad.map (fun b => ⟨pgThk + b / 8, 2 * (b % 8) + 1, clsUC, false, resId 3 (2048 * b + s.thk.scrub), kNow s⟩))) ∧
    (∀ bank row, bank < 64 → row < 2048 →
      (s.thk.repair.contains (bank * 2048 + row) = false → Gives (.thkRowRepair bank row) s (fun t => t = s)) ∧
      (s.thk.repair.contains (bank * 2048 + row) = true →
        (thkPlaceOf s bank row = none → Gives (.thkRowRepair bank row) s (fun t =>
          t = { s with thk := { s.thk with repair := nsErase s.thk.repair (bank * 2048 + row) } })) ∧
        (∀ tbl c x, thkPlaceOf s bank row = some (tbl, c, x) →
          let found := (((List.range (thkCopies s tbl - 1)).map (fun i => (c + 1 + i) % thkCopies s tbl)).flatMap
            (fun d => (rowNow s tbl d (rowBefore s tbl c x)).map (fun y => (d, y)))).find?
            (fun e => !thkPending s tbl e.1 e.2)
          (∀ d y, found = some (d, y) → Gives (.thkRowRepair bank row) s (fun t =>
            (thkEntry t tbl c x).tag = (thkEntry s tbl d y).tag ∧ (thkEntry t tbl c x).result = (thkEntry s tbl d y).result ∧
            t.thk.repair.contains (bank * 2048 + row) = false ∧
            ctr t (pa pgThk cThk_REPAIRS) = Nat.min maxCtr (ctr s (pa pgThk cThk_REPAIRS) + 1))) ∧
          (found = none → Gives (.thkRowRepair bank row) s (fun t => t.thk.rows = s.thk.rows ∧
            t.thk.repair.contains (bank * 2048 + row) = false ∧ regB t (pa pgThk offTHK_LOST) fTHK_LOST_VALID = true ∧
            ctr t (pa pgThk cThk_LOST_ENTRIES) = Nat.min maxCtr (ctr s (pa pgThk cThk_LOST_ENTRIES) + 1))))))

/-- POLICER_REFRESH (R294, R305): the sweep brings a policer's buckets to the present, or rewrites one it cannot read as PASS and
records it. CELL_PUSH (R256) takes a released cell to the back of its bank's free list (log entry 8, DESIGN CHOICE), one in a BCLK and none while
the lists are filled (R254). The audit (R276) returns every cell that was
allocated when it began, was not granted since and that nothing reaches to those released. Held residue copies are tried again in the order of their
entries' creation and expire (R267). -/
def Obligations.PolicersCellsAuditAndResidue : Prop :=
  ∀ s : State, stopped s = false →
    (∀ i, i < 262144 →
      Gives (.policerRefresh i false) s (fun t => policer t i = polRefill (policer s i) (polNow s) ∧
        (∀ j, j ≠ i → policer t j = policer s j) ∧ t = { s with store := { s.store with pol := t.store.pol } }) ∧
      Gives (.policerRefresh i true) s (fun t => policer t i = pPack 0 0 0 (polNow s) ∧
        (∀ j, j ≠ i → policer t j = policer s j) ∧ regB t (pa pgPol offPOL_LOST) fPOL_LOST_VALID = true ∧
        ctr t (pa pgPol cPol_POLICERS_LOST) = Nat.min maxCtr (ctr s (pa pgPol cPol_POLICERS_LOST) + 1))) ∧
    (∀ b c, s.clr.release.find? (fun c => c % 32 == b) = some c →
      (fillOver s = false ∨ mfind s.clr.pushed b = some (bclk s) → Gives (.cellPush b) s (fun t => t = s)) ∧
      (fillOver s = true → mfind s.clr.pushed b ≠ some (bclk s) → Gives (.cellPush b) s (fun t => (freeList t b).back = (freeList s b).back ++ [c] ∧
        t.clr.release = s.clr.release.erase c ∧ (∀ d, d ≠ b → freeList t d = freeList s d) ∧
        mfind t.clr.pushed b = some (bclk s) ∧
        t = { s with clr := { s.clr with release := t.clr.release, free := t.clr.free, pushed := t.clr.pushed } }))) ∧
    (∀ req, accepts s req (pa pgWp offWP_AUDIT) (mkWord [(fWP_AUDIT_GO, 1)]) = true →
      regB s (pa pgWp offWP_AUDIT) fWP_AUDIT_BUSY = false →
      Gives (.wpAudit req) s (fun t => regB t (pa pgWp offWP_AUDIT) fWP_AUDIT_BUSY = true ∧
        regF t (pa pgWp offWP_AUDIT) fWP_AUDIT_RETURNED = regF s (pa pgWp offWP_AUDIT) fWP_AUDIT_RETURNED ∧
        OnlyRegs [pa pgWp offWP_AUDIT] { s with clr := { s.clr with audit := mkeys s.clr.info } } t)) ∧
    (regB s (pa pgWp offWP_AUDIT) fWP_AUDIT_BUSY = true →
      let lost := (mkeys s.clr.info).filter (fun c => s.clr.audit.contains c && !(reached s).contains c)
      lost.length < 2 ^ 20 →
      Gives .auditDone s (fun t => regB t (pa pgWp offWP_AUDIT) fWP_AUDIT_BUSY = false ∧
        regF t (pa pgWp offWP_AUDIT) fWP_AUDIT_RETURNED = lost.length ∧
        (∀ c ∈ lost, cellInfo t c = infoReset c ∧ (s.clr.retired.contains c = false → c ∈ t.clr.release)) ∧
        (∀ c, c ∉ lost → cellInfo t c = cellInfo s c) ∧
        (reg t (pa pgWp offIRQ_STS)).toNat.testBit 0 = true)) ∧
    (s.clr.residue = [] → Gives .residueVisit s (fun t => t = s)) ∧
    (∀ e, (∀ e ∈ s.clr.residue, residueExpired s e = false) → residueNext s = some e →
      (heldByPort s e = [] → Gives .residueVisit s (fun t => t = { s with clr := { s.clr with resNext := e.seq + 1 } })) ∧
      (∀ id d, heldByPort s e = [id] → mfind s.clr.desc id = some d → d.held = true →
        admitTest { s with clr := { s.clr with desc := mdel s.clr.desc id } } d.port d.cls
          (d.queue - nQbase (node s (nodeKey 3 d.port))) d.cells = .ok →
        Gives .residueVisit s (fun t => (∃ x, mfind t.clr.desc id = some x ∧ x.held = false) ∧
          ctr t (pa pgMc cMc_MC_FROM_HELD) = Nat.min maxCtr (ctr s (pa pgMc cMc_MC_FROM_HELD) + 1)))) ∧
    Gives .residueExpire s (fun t => ∀ e ∈ s.clr.residue, residueExpired s e = true →
      ∀ id ∈ e.copies, mfind t.clr.desc id = none)

/-! ### The Lookout (R38, R401 to R423) -/

/-- ERROR_REPORT (R401 to R403) puts the report, with its class and resource, before the Lookout. REPORT_DECIDE (R405 to R408, R411, R413)
takes it: FT enters the safe state with its cause; a report in an echo window is counted as echo; any other is latched in
ERR_STS and ERR_CLASS and counted in its source's window, and where it is not masked in its resource's; where the count reaches its
threshold the source is persistent, which IRQ_STS shows and which chooses the field of LKO_REACT: IRQ, RESET of the page, FENCE of the
engine or of the Grove, PORT_DOWN of the page's ports (log entry 76, DEDUCED), or SAFE. Windows close at their time (R405, R408). A remap completes on its unit's next spare (R416) and its
record goes into OTP (R418). ALIVE toggles every 0.5 ms (R421). A fault of the Lookout's own state is the safe state (R423). -/
def Obligations.LookoutReportsDecidesAndRepairs : Prop :=
  ∀ s : State, held s = false → s.pin.keepClk = true →
    (∀ page src index, stopped s = false → srcClass page src ≠ 0 →
      Gives (.errorReport page src index false) s (fun t => ∃ l, t.lko.cap =
        l ++ [⟨page, src, srcClass page src, false, srcResource page src index, kNow s⟩]) ∧
      (partnerSource page src = true → Gives (.errorReport page src index true) s (fun t =>
        t.lko.cap = s.lko.cap ++ [⟨page, src, srcClass page src, true, srcResource page src index, kNow s⟩] ∧
        t = { s with lko := t.lko }))) ∧
    (∀ r, dueReports s = [r] → hasHeader r.page = true → r.src < 16 →
      Gives .reportDecide s (fun t => r ∉ t.lko.cap) ∧
      (r.cls = clsFT → safe s = false → Gives .reportDecide s (fun t => safe t = true ∧ t.pin.fault = true ∧
        regF t (pa pgLko offLKO_SAFE) fLKO_SAFE_CAUSE = 1 ∧ regF t (pa pgLko offLKO_SAFE) fLKO_SAFE_SOURCE = r.src ∧
        regF t (pa pgLko offLKO_SAFE) fLKO_SAFE_PAGE = r.page)) ∧
      (r.cls ≠ clsFT → (inEcho s r.page || echoes s r) = true → Gives .reportDecide s (fun t =>
        (reg t (pa r.page offECHO_STS)).toNat.testBit r.src = true ∧
        Counts [(pa pgLko (cLko_LKO_ECHO_CNT (areaOf r.page)), 1)] s t ∧
        ∀ a, a ≠ pa r.page offECHO_STS → reg t a = reg s a)) ∧
      (r.cls ≠ clsFT → r.cls < 4 → (inEcho s r.page || echoes s r) = false →
        (∀ b, reactField s (areaOf r.page) r.cls b ≤ 1) → Gives .reportDecide s (fun t =>
          (reg t (pa r.page offERR_STS)).toNat.testBit r.src = true ∧
          r.cls ≤ fget (reg t (pa r.page offERR_CLASS)) ⟨2 * r.src + 1, 2 * r.src⟩)) ∧
      let key := r.page * 16 + r.src
      let masked := (live s (pa r.page offERR_MASK)).toNat.testBit r.src
      let ms := liveF s (pa r.page offERR_WINDOW) fERR_WINDOW_MS
      let counted := fun (old new : Option ErrWin) => ∃ w, new = some w ∧
        (∀ w0, old = some w0 → kNow s < w0.fin → w.fin = w0.fin ∧ w.ceTh = w0.ceTh ∧ w.ucTh = w0.ucTh ∧
          (r.cls = clsUC → w.uc = Nat.min 255 (w0.uc + 1) ∧ w.ce = w0.ce) ∧
          (r.cls ≠ clsUC → w.ce = Nat.min 255 (w0.ce + 1) ∧ w.uc = w0.uc)) ∧
        ((∀ w0, old = some w0 → w0.fin ≤ kNow s) → w.fin = kNow s + ms * tMs ∧
          w.ceTh = liveF s (pa r.page offERR_THRESH) fERR_THRESH_CE ∧
          w.ucTh = liveF s (pa r.page offERR_THRESH) fERR_THRESH_UC ∧
          w.uc = (if r.cls = clsUC then 1 else 0) ∧ w.ce = (if r.cls = clsUC then 0 else 1))
      let open_ := s.lko.track.filter (fun e => kNow s < e.2.fin)
      let w := windowAdd s r.page r.cls (mfind s.lko.win key)
      let reached := if r.cls = clsUC then w.ucTh ≤ w.uc else w.ceTh ≤ w.ce
      (r.cls ≠ clsFT → r.cls < 4 → (inEcho s r.page || echoes s r) = false →
        (masked = true → Gives .reportDecide s (fun t => counted (mfind s.lko.win key) (mfind t.lko.win key) ∧
          t.lko.track = s.lko.track ∧ safe t = safe s ∧ t.grv = s.grv)) ∧
        (masked = false → (∀ b, reactField s (areaOf r.page) r.cls b ≤ 1) → Gives .reportDecide s (fun t =>
          counted (mfind s.lko.win key) (mfind t.lko.win key) ∧
          (1 ≤ r.res / 2 ^ 20 → r.res / 2 ^ 20 ≤ 6 → ((mfind open_ r.res).isSome = true ∨ open_.length < 1024) →
            counted (mfind open_ r.res) (mfind t.lko.track r.res)) ∧
          (1 ≤ r.res / 2 ^ 20 → r.res / 2 ^ 20 ≤ 6 → (mfind open_ r.res).isNone = true → 1024 ≤ open_.length →
            t.lko.track = s.lko.track ∧
            ctr t (pa pgLko cLko_TRACK_FULL) = Nat.min maxCtr (ctr s (pa pgLko cLko_TRACK_FULL) + 1)) ∧
          (safe s = false → reached → (if r.cls = clsUC then w.ucSaid else w.ceSaid) = false →
            (reg t (pa pgLko offIRQ_STS)).toNat.testBit 1 = true))) ∧
        (∀ f, masked = false → safe s = false → f = reactField s (areaOf r.page) r.cls (decide reached) →
          (f = 5 → Gives .reportDecide s (fun t => safe t = true ∧ t.pin.fault = true ∧
            (reg t (pa pgLko offIRQ_STS)).toNat.testBit 0 = true ∧
            regF t (pa pgLko offLKO_SAFE) fLKO_SAFE_CAUSE = 2 ∧ regF t (pa pgLko offLKO_SAFE) fLKO_SAFE_SOURCE = r.src ∧
            regF t (pa pgLko offLKO_SAFE) fLKO_SAFE_PAGE = r.page)) ∧
          (f = 3 → r.res / 2 ^ 20 = 1 → let e := r.res % 2 ^ 20
            Gives .reportDecide s (fun t => (reg t (pa pgLko offIRQ_STS)).toNat.testBit 0 = true ∧
              engBit t offGRV_ENG_FENCE (e / 32 % 32) (e % 32) = true ∧
              (reached → engBit t offGRV_ENG_PERM (e / 32 % 32) (e % 32) = true))) ∧
          (1 ≤ f → f ≤ 4 → r.res / 2 ^ 20 = 0 → r.page ≠ pgLko → Gives .reportDecide s (fun t =>
            (reg t (pa pgLko offIRQ_STS)).toNat.testBit 0 = true ∧
            (f = 2 → capReset r.page = true → inReset t r.page = true) ∧
            (f = 3 → enabled t r.page = false) ∧
            (f = 4 → ∀ p, (macPort r.page = some p ∨ macPort r.page = none ∧ p ∈ quadPorts r.page ∧ portMode s p ≠ 0 ∧
              laneBusy s p = false) → enabled t (macPage p) = false)))))) ∧
    (∀ page src w, mfind s.lko.win (page * 16 + src) = some w → w.fin ≤ kNow s →
      Gives (.errWindowClose page src) s (fun t => mfind t.lko.win (page * 16 + src) = none ∧
        (∀ k, k ≠ page * 16 + src → mfind t.lko.win k = mfind s.lko.win k) ∧
        t = { s with lko := { s.lko with win := t.lko.win } })) ∧
    (∀ page, mget (fun _ => 0) s.lko.echoEnd page ≤ kNow s →
      Gives (.echoWindowEnd page) s (fun t => mfind t.lko.echoEnd page = none ∧
        t = { s with lko := { s.lko with echoEnd := t.lko.echoEnd } })) ∧
    (∀ res u, stopped s = false → unitOf res = some u → s.lko.remapQ.find? (fun r => unitOf r == unitOf res) = some res → res < 2 ^ 23 →
      mget (fun _ => 0) s.lko.spares u < 16 →
      Gives (.remap res) s (fun t => t.lko.remapQ = s.lko.remapQ.erase res ∧
        mget (fun _ => 0) t.lko.spares u = mget (fun _ => 0) s.lko.spares u + 1 ∧
        t.lko.island = s.lko.island ++ [⟨res, mget (fun _ => 0) s.lko.spares u⟩] ∧
        regB t (pa pgLko offLKO_REPAIR_LAST) fLKO_REPAIR_LAST_VALID = true ∧
        regF t (pa pgLko offLKO_REPAIR_LAST) fLKO_REPAIR_LAST_SPARE = mget (fun _ => 0) s.lko.spares u ∧
        regF t (pa pgLko offLKO_REPAIR_LAST) fLKO_REPAIR_LAST_RESOURCE = res ∧
        ctr t (pa pgLko cLko_REPAIRS) = Nat.min maxCtr (ctr s (pa pgLko cLko_REPAIRS) + 1) ∧
        (reg t (pa pgLko offIRQ_STS)).toNat.testBit 2 = true)) ∧
    (∀ r rest, s.lko.otpWait = r :: rest →
      Gives .otpRepairWrite s (fun t => t = { s with lko := { s.lko with otpWait := rest, otp := s.lko.otp ++ [r] } })) ∧
    (safe s = false → s.hw.downTill = none → s.pin.aliveAt + 1500000 ≤ kNow s →
      Gives .aliveToggle s (fun t => t.pin.alive = !s.pin.alive ∧ t.pin.aliveAt = s.pin.aliveAt + 1500000 ∧
        t = { s with pin := t.pin, hw := { s.hw with hic := t.hw.hic } })) ∧
    (safe s = false → Gives .collectorFault s (fun t => safe t = true ∧ t.pin.fault = true ∧
      regF t (pa pgLko offLKO_SAFE) fLKO_SAFE_CAUSE = 3))

/-! ### Heartwood (R363 to R375, R383 to R385, R441) -/

/-- The steps of the boot (R365, R366): repairs; once the PLLs have locked, the start of the units (R432), with the SRAM clear, the
free lists filling from cell 0 of their bank up (R254; log entry 8, DESIGN CHOICE) and the ROM bridge (R435; log entry 77, DEDUCED), which ends
after the last unit's 640 µs and the clock monitors' verdict; the patch, or none; the Sapwood image, from ROM, from flash, or awaited, with
ROM in place of one that does not verify or is of another kind; the images of the directory to its end, or a stop that leaves every port
disabled; and the last step, after which the four cores run, BOOT_DONE is set, and the ports with a PORT_MODE that no CONFIG image named
are enabled (R61, R65, R464; log entry 62, DEDUCED). -/
def Obligations.BootGoesThroughItsSteps : Prop :=
  ∀ (s : State) (locked flashOk : Bool), stopped s = false → bootDone s = false → s.hw.waiting = false → s.hw.downTill = none →
    s.pin.keepClk = true →
    let dir := if flashOk then directory s else none
    (bootStep s = 0 ∨ bootStep s = 1 → Gives (.boot locked flashOk) s (fun t => bootStep t = 2)) ∧
    (bootStep s = 2 → s.hw.startAt = none → locked = true →
      Gives (.boot locked flashOk) s (fun t => bootStep t = 2 ∧ t.hw.startAt = some (kNow s) ∧ t.grv.rom = true ∧ t.pgu.rom = true ∧
        t.store.mcg = romGroups ∧ (∀ b, b < 32 → freeList t b = ⟨0, 16384, []⟩) ∧ t.clr.fillAt = some (now s) ∧
        emtOn t 0 = true)) ∧
    (bootStep s = 2 → s.hw.startAt = none → locked = false → Gives (.boot locked flashOk) s (fun t => t = s)) ∧
    (bootStep s = 2 → ∀ t0, s.hw.startAt = some t0 →
      (s.pin.verdict = true → t0 + 640 * tUs ≤ kNow s →
        Gives (.boot locked flashOk) s (fun t => bootStep t = 3 ∧ OnlyRegs [pa pgHmb offHW_BOOT_STS] s t)) ∧
      (s.pin.verdict = false ∨ kNow s < t0 + 640 * tUs → Gives (.boot locked flashOk) s (fun t => t = s))) ∧
    (bootStep s = 3 → ∀ d, dir = some d → dirFind d imPatch = none →
      Gives (.boot locked flashOk) s (fun t => bootStep t = 4 ∧ OnlyRegs [pa pgHmb offHW_BOOT_STS] s t)) ∧
    (bootStep s = 3 → ∀ d i, dir = some d → dirFind d imPatch = some i →
      Gives (.boot locked flashOk) s (fun t => bootStep t = 4 ∧
        (imKind (dirImage s d i) = imPatch → imVerify s (dirImage s d i) = hsOk →
          bootF t fHW_BOOT_STS_PATCHED = 1 ∧ hwPatch t = imPayload (dirImage s d i)) ∧
        (imKind (dirImage s d i) ≠ imPatch ∨ imVerify s (dirImage s d i) ≠ hsOk →
          bootF t fHW_BOOT_STS_PATCHED = bootF s fHW_BOOT_STS_PATCHED ∧ hwPatch t = hwPatch s))) ∧
    (bootStep s = 3 → dir = none → bootSource s = 0 →
      Gives (.boot locked flashOk) s (fun t => bootStep t = 4 ∧ bootF t fHW_BOOT_STS_ROM_FALLBACK = 1 ∧
        OnlyRegs [pa pgHmb offHW_BOOT_STS] s t)) ∧
    (bootStep s = 4 → bootSource s = 3 ∨ bootF s fHW_BOOT_STS_ROM_FALLBACK = 1 →
      Gives (.boot locked flashOk) s (fun t => bootStep t = 6 ∧ mget (fun _ => 0) t.hw.entry 0 = Config.romEntry)) ∧
    (bootStep s = 4 → bootSource s = 1 ∨ bootSource s = 2 → bootF s fHW_BOOT_STS_ROM_FALLBACK = 0 →
      Gives (.boot locked flashOk) s (fun t => t.hw.waiting = true ∧ bootStep t = 4)) ∧
    (bootStep s = 4 → bootSource s = 0 → bootF s fHW_BOOT_STS_ROM_FALLBACK = 0 → ∀ d i, dir = some d →
      dirFind d imSapwood = some i →
      Gives (.boot locked flashOk) s (fun t =>
        (imKind (dirImage s d i) = imSapwood → imVerify s (dirImage s d i) = hsOk → bootStep t = 5 ∧
          mget (fun _ => 0) t.hw.entry 0 = imEntry (dirImage s d i) ∧ mget (fun _ => 0) t.hw.svn 0 = imSvn (dirImage s d i)) ∧
        (imKind (dirImage s d i) ≠ imSapwood ∨ imVerify s (dirImage s d i) ≠ hsOk → bootStep t = 6 ∧ bootF t fHW_BOOT_STS_ROM_FALLBACK = 1 ∧
          mget (fun _ => 0) t.hw.entry 0 = Config.romEntry))) ∧
    (bootStep s = 5 → ∀ d, dir = some d → dirKind d s.hw.bootEnt = 0 →
      Gives (.boot locked flashOk) s (fun t => bootStep t = 6 ∧ OnlyRegs [pa pgHmb offHW_BOOT_STS] s t)) ∧
    (bootStep s = 5 → dir = none → Gives (.boot locked flashOk) s (fun t => t.hw.waiting = true ∧ bootDone t = false ∧
      bootF t fHW_BOOT_STS_ERROR = 6 ∧ ∀ p, p < 256 → enabled t (macPage p) = false)) ∧
    (bootStep s = 6 → Gives (.boot locked flashOk) s (fun t => bootDone t = true ∧
      (reg t (pa pgHmb offIRQ_STS)).toNat.testBit 4 = true ∧
      (∀ n, n < 4 → (Machine.core t n).halted = false ∧ (Machine.core t n).pc = mget (fun _ => 0) s.hw.entry 0 ∧
        coreReg (Machine.core t n) 0 = BitVec.ofNat 32 n) ∧
      (∀ p, p < 256 → s.hw.noPorts = false → s.hw.cfgPages.contains (macPage p) = false → portMode s p ≠ 0 →
        enabled t (macPage p) = true) ∧
      (∀ p, p < 256 → s.hw.noPorts = true ∨ s.hw.cfgPages.contains (macPage p) = true ∨ portMode s p = 0 →
        enabled t (macPage p) = enabled s (macPage p))))

/-- The mailbox (R363, R368, R369, R372, R374, R437, R419): what each request leaves, the requests that are answered at once
with their answer, those that take time until HMB_DONE ends them. A signature with r or s 0 does not verify. It rests on log entry 27 (PRESUMED), log entry 52 (DESIGN
CHOICE), log entry 78 (DEDUCED), log entry 109 (DESIGN CHOICE). -/
def Obligations.MailboxRequestsAreAnswered : Prop :=
  ∀ (s : State) (slot : Nat) (w : List Nat), held s = false → slot < 2 →
    (∀ i, imKind i = imSapwood ∨ imKind i = imPatch → leAt i 80 48 = 0 ∨ leAt i 128 48 = 0 → imVerify s i ≠ hsOk) ∧
    (hmbReq s slot 1 = some w → Gives (.status slot) s (fun t => Answered slot hsOk w t ∧
      reg t (pa pgHmb (slotOff slot + 0x24)) = BitVec.ofNat 32 (Config.serial % 2 ^ 32))) ∧
    (hmbReq s slot 2 = some w → slot = 0 → w.getD 3 0 ≤ 0x200000 → s.hw.hold = none →
      Gives (.fetch slot) s (fun t => t.hw.hold = some slot ∧ mfind t.hw.req slot = some (258, w) ∧
        t = { s with hw := t.hw })) ∧
    (hmbReq s slot 2 = some w → slot = 1 → Gives (.fetch slot) s (Answered slot hsBadCmd w)) ∧
    (hmbReq s slot 3 = some w → s.hw.hold = none → bootDone s = true ∨ s.hw.waiting = true →
      Gives (.verifyLoad slot) s (fun t => t.hw.hold = some slot ∧ mfind t.hw.req slot = some (259, w) ∧
        t.hw.loaded = false ∧ t = { s with hw := t.hw })) ∧
    (stopped s = false → hmbReq s slot 4 = some w → s.hw.loaded = true → bootDone s = true →
      Gives (.activate slot) s (fun t => Answered slot hsOk w t ∧ activeBank t = 1 - activeBank s ∧ t.hw.loaded = false ∧
        ((w.getD 1 0).testBit 0 = true → ∀ n, n < 4 → (Machine.core t n).halted = false ∧
          (Machine.core t n).pc = bankBase (1 - activeBank s) + mget (fun _ => 0) s.hw.entry (1 - activeBank s)))) ∧
    (stopped s = false → hmbReq s slot 5 = some w → bootDone s = true → s.sap.started = none → s.sap.restart = [] →
      ∀ n, n < 4 → w.getD 1 0 = 2 ^ n → Gives (.restartCore slot) s (fun t => Answered slot hsOk w t ∧
        t.sap.started = some n ∧ (Machine.core t n).halted = false ∧
        (Machine.core t n).pc = bankBase (activeBank s) + mget (fun _ => 0) s.hw.entry (activeBank s))) ∧
    (hmbReq s slot 6 = some w → slot = 0 → Gives (.lockCommand slot) s (fun t =>
      Answered slot (lockWord (w.getD 1 0) s).1 w t ∧
      (w.getD 1 0 = 1 → s.hw.locks.testBit 0 = false →
        (lockWord (w.getD 1 0) s).1 = hsOk ∧ t.hw.locks = s.hw.locks ||| 1) ∧
      (w.getD 1 0 = 1 → s.hw.locks.testBit 0 = true →
        (lockWord (w.getD 1 0) s).1 = hsLocked ∧ t.hw.locks = s.hw.locks))) ∧
    (hmbReq s slot 7 = some w → slot = 0 → w.getD 1 0 = imSapwood →
      let floor := fun (t : State) => mget (fun _ => 0) t.hw.floor imSapwood
      let steps := fun (t : State) => mget (fun _ => 0) t.hw.steps imSapwood
      let v := mget (fun _ => 0) s.hw.svn (activeBank s)
      (v ≤ floor s ∨ steps s < 64 → Gives (.commitSvn slot) s (fun t => Answered slot hsOk w t ∧
        floor t = Nat.max (floor s) v ∧ steps t = (if floor s < v then steps s + 1 else steps s))) ∧
      (floor s < v → 64 ≤ steps s → Gives (.commitSvn slot) s (fun t => (∃ st, Answered slot st w t) ∧
        floor t = floor s ∧ steps t = steps s))) ∧
    (hmbReq s slot 8 = some w → slot = 0 → w.getD 2 0 ≤ 0x200000 → s.hw.hold = none →
      Gives (.flashWrite slot) s (fun t => t.hw.hold = some slot ∧ mfind t.hw.req slot = some (264, w) ∧
        t = { s with hw := t.hw })) ∧
    (hmbReq s slot 9 = some w → slot = 0 → w.getD 1 0 % 0x10000 = 0 → w.getD 2 0 % 0x10000 = 0 →
      Gives (.flashErase slot) s (fun t => mfind t.hw.req slot = some (265, w) ∧ t = { s with hw := t.hw })) ∧
    (hmbReq s slot 0x0A = some w → slot = 0 → safe s = false → Gives (.safeState slot) s (fun t =>
      Answered slot hsOk w t ∧ safe t = true ∧ t.pin.fault = true ∧
      regF t (pa pgLko offLKO_SAFE) fLKO_SAFE_CAUSE = 4)) ∧
    (stopped s = false → s.hw.downTill = none → s.pin.keepClk = true → mfind s.hw.req slot = some (258, w) → w.getD 3 0 ≤ 0x200000 → ∀ auth data,
      Gives (.hmbDone slot true auth data) s (fun t => Answered slot hsOk w t ∧
        ∀ i, i < w.getD 3 0 → sapByte t (staging + i) = byteAt data i) ∧
      Gives (.hmbDone slot false auth data) s (fun t => Answered slot hsPcie w t ∧ t.sap = s.sap)) ∧
    (stopped s = false → s.hw.downTill = none → s.pin.keepClk = true → mfind s.hw.req slot = some (259, w) → ∀ auth ok data,
      Gives (.hmbDone slot ok auth data) s (fun t =>
        (imVerify s (stagedImage s) ≠ hsOk →
          Answered slot (imVerify s (stagedImage s)) w t ∧ t.hw.loaded = s.hw.loaded) ∧
        (imVerify s (stagedImage s) = hsOk → imKind (stagedImage s) = imSapwood → bootDone s = true →
          Answered slot hsOk w t ∧ t.hw.loaded = true ∧
          mget (fun _ => 0) t.hw.entry (1 - activeBank s) = imEntry (stagedImage s)) ∧
        (imVerify s (stagedImage s) = hsOk → imKind (stagedImage s) = imPatch → bootDone s = false →
          Answered slot hsOk w t ∧ bootF t fHW_BOOT_STS_PATCHED = 1 ∧
          hwPatch t = imPayload (stagedImage s) ∧ t.hw.digest = imDigest (stagedImage s)))) ∧
    (stopped s = false → s.hw.downTill = none → s.pin.keepClk = true → mfind s.hw.req slot = some (264, w) → ∀ auth data,
      Gives (.hmbDone slot true auth data) s (fun t => Answered slot hsOk w t ∧
        (∀ i, i < w.getD 2 0 → flashByte t (w.getD 1 0 + i) = sapByte s (staging + i) &&& flashByte s (w.getD 1 0 + i)) ∧
        (∀ a, a < w.getD 1 0 ∨ w.getD 1 0 + w.getD 2 0 ≤ a → flashByte t a = flashByte s a))) ∧
    (stopped s = false → s.hw.downTill = none → s.pin.keepClk = true → mfind s.hw.req slot = some (265, w) → ∀ auth data,
      Gives (.hmbDone slot true auth data) s (fun t => Answered slot hsOk w t ∧
        ∀ a, flashByte t a = if w.getD 1 0 ≤ a ∧ a < w.getD 1 0 + w.getD 2 0 then 0xFF else flashByte s a))

/-- A missed kick of Heartwood ends its requests with RESTARTED and takes it down; its restart brings it back (R375). The
SMBus commands answer what R383 lists and change nothing but the address; an AVS transaction that failed is reported and
repeated (R384); the aging monitors raise what PT_AGE shows and never lower it, and the goal to which TARGET_MV moves (R441).
PATCHED is cleared where the patch is not restored (log entry 79, DEDUCED); the digest is SHA-384 (log entry 122, PRESUMED),
and the lock bit of the SMBus address is that of log entry 51 (DEDUCED). It rests on log entry 128 (DESIGN CHOICE). -/
def Obligations.HeartwoodRestartSmbusAndAging : Prop :=
  ∀ s : State, held s = false → s.pin.keepClk = true →
    (∀ ok, s.hw.downTill = none → Gives (.heartwoodWatchdog ok) s (fun t => t.hw.downTill = some (kNow s + 5 * tMs) ∧
      mfind t.hw.req 0 = none ∧ mfind t.hw.req 1 = none ∧ t.hw.hold = none ∧
      (reg t (pa pgHmb offIRQ_STS)).toNat.testBit 3 = true)) ∧
    (∀ ok, s.hw.downTill ≠ none → Gives (.heartwoodWatchdog ok) s (fun t => t.hw.downTill = none ∧
      t.pin.aliveAt = kNow s ∧ (ok = false ∨ leNat (sha384 (hwPatch s)) ≠ s.hw.digest → bootF t fHW_BOOT_STS_PATCHED = 0) ∧
      (ok = true → leNat (sha384 (hwPatch s)) = s.hw.digest → bootF t fHW_BOOT_STS_PATCHED = bootF s fHW_BOOT_STS_PATCHED))) ∧
    (s.hw.downTill = none →
      let out := fun (c : Instr) (b : Bytes) => Gives c s (fun t => t = { s with hw := { s.hw with smbOut := b, hic := t.hw.hic } })
      let bit := fun (x : Bool) (i : Nat) => if x then 2 ^ i else 0
      out .smbusIdentity (leBytes 8 Config.serial ++ leBytes 1 (regF s (pa dev offDEV_BL) fDEV_BL_HIGHEST) ++
        leBytes 1 (regF s (pa dev offDEV_BL) fDEV_BL_LOCKED) ++ leBytes 1 (bootStep s) ++
        leBytes 1 (bootF s fHW_BOOT_STS_ERROR)) ∧
      out .smbusStatus (leBytes 2 (bit (bootDone s) 0 + bit (safe s) 1 + bit (!safe s) 2 + bit s.pin.fault 3 +
        bit (bootF s fHW_BOOT_STS_PATCHED == 1) 4)) ∧
      out .smbusTemperature (leBytes 2 (regF s (pa pgPt offPT_TEMP) fPT_TEMP_TEMP)) ∧
      (∀ p, out (.smbusPower p) (leBytes 2 p)) ∧
      out .smbusLkoTop (leBytes 8 (lkoTop s)) ∧
      (∀ a, s.hw.locks.testBit 2 = false → 8 ≤ a → a ≤ 0x77 → Gives (.smbusAddress a) s (fun t =>
        t = { s with hw := { s.hw with smbAddr := a, smbOut := [], hic := t.hw.hic } })) ∧
      (∀ a, s.hw.locks.testBit 2 = true ∨ a < 8 ∨ 0x77 < a → out (.smbusAddress a) []) ∧
      (s.hw.avsAt = none ∨ (∃ t0, s.hw.avsAt = some t0 ∧ t0 + tMs ≤ kNow s) →
        Gives (.avsRetry true) s (fun t => t = { s with hw := { s.hw with avsAt := none, hic := t.hw.hic } }) ∧
        Gives (.avsRetry false) s (fun t => t.hw.avsAt = some (kNow s) ∧
          t.lko.cap = s.lko.cap ++ [⟨pgPt, 1, clsUC, false, 0, kNow s⟩])) ∧
      (∀ ppm margin target, ppm < 65536 → margin < 256 → 700 ≤ target → target ≤ 820 →
        Gives (.agingMonitor ppm margin target) s (fun t =>
          regF t (pa pgPt offPT_AGE) fPT_AGE_SLOW_PPM = Nat.max (regF s (pa pgPt offPT_AGE) fPT_AGE_SLOW_PPM) ppm ∧
          regF t (pa pgPt offPT_AGE) fPT_AGE_MARGIN_MV = margin ∧
          regF t (pa pgPt offPT_AVS) fPT_AVS_TARGET_MV = regF s (pa pgPt offPT_AVS) fPT_AVS_TARGET_MV ∧
          t.hw.avsGoal = Nat.max s.hw.avsGoal target ∧
          (margin < 10 → s.hw.ageSaid = false →
            t.lko.cap = s.lko.cap ++ [⟨pgPt, 2, clsUC, false, 0, kNow s⟩]))))

/-! ### The host link (R376 to R382) -/

/-- The host API (R376): a running core takes the oldest command and answers it, with the command's effect; the host-link
reset (R378) takes the link down and disables its rings and the API; a message held back goes at its time (R382); a posted
frame enters port 256's dispatch queue (R379); a frame in transmission to the host, and a packet of the exception queue, are
delivered at the ring's HEAD (R380, R381), an exception packet that can go first. The block of a BFD session takes TXDIV_SLOW
and DETECT from its period and detection time (R325). It rests on log entry 28 (DESIGN CHOICE), log entry 80 (DESIGN CHOICE),
log entry 81 (DEDUCED), log entry 111 (DESIGN CHOICE). -/
def Obligations.HostApiRingsAndLinkReset : Prop :=
  ∀ s : State, stopped s = false →
    (apiOn s = true → sapRunning s = true → 0 < apiPosted s → apiRoom s = true → ∀ tag,
      (∀ page buf, capSnap page = true → Gives (.counterRead tag page buf) s (fun t =>
        Responded s 1 tag true [(buf, counterImage s page)] t ∧ mfind t.bus.snap page = some (pageCounters s page))) ∧
      (∀ msg, isCanopy s = true → txrFill s < 2 ^ liveF s (pa pgRw offRW_TXR_CFG) fRW_TXR_CFG_LOG2 →
        (∀ i, i < Nat.min 2048 msg.length → coreMay s (ringSlot s offRW_TXR_CFG fRW_TXR_CFG_BASE fRW_TXR_CFG_LOG2
          (regF s (pa pgRw offRW_TXR_TAIL) fRW_TXR_TAIL_POS) + i) = true) →
        Gives (.rootwaySend tag msg) s (fun t => Responded s 2 tag true [] t ∧
          regF t (pa pgRw offRW_TXR_TAIL) fRW_TXR_TAIL_POS =
            (regF s (pa pgRw offRW_TXR_TAIL) fRW_TXR_TAIL_POS + 1) % 65536)) ∧
      (∀ msg, isCanopy s = false → Gives (.rootwaySend tag msg) s (Responded s 2 tag false [])) ∧
      (∀ mep n i period det blk, n < (if mep then 16384 else 65536) → i < 131072 →
        timerIllegal (sessionTimer mep n period blk) = false → blockFree s (sessionCtx mep n) = true →
        Gives (.sessionAdd tag mep n i ⟨period, det⟩ blk) s (fun t => Responded s 3 tag true [] t ∧
          timerEntry t i = sessionTimer mep n period blk ∧ sessionKey mep n ∈ t.sap.sessions ∧
          ∀ k, k < 4 → context t (sessionCtx mep n + k) = leAt (sessionBlock mep period det blk) (16 * k) 16)) ∧
      (∀ mep n, s.sap.sessions.contains (sessionKey mep n) = true → blockFree s (sessionCtx mep n) = true →
        Gives (.sessionDel tag mep n) s (fun t => Responded s 4 tag true [] t ∧ sessionKey mep n ∉ t.sap.sessions ∧
          (∀ i, tCtx (timerEntry s i) = sessionCtx mep n → tEn (timerEntry t i) = false) ∧
          ∀ k, k < 4 → context t (sessionCtx mep n + k) = 0)) ∧
      (∀ p, liveB s (pa pgEmt offLQ_CFG) fLQ_CFG_OWNER = false → Gives (.tableFlushPort tag p) s (fun t =>
        Responded s 5 tag true [] t ∧ p ∈ t.sap.flush)) ∧
      Gives (.fwInfo tag) s (Responded s 6 tag true [])) ∧
    (∀ b, Gives (.hostLinkReset (some b)) s (fun t => t.pin.perstN = b)) ∧
    (∀ e, e = none ∨ e = some false → Gives (.hostLinkReset e) s (fun t => t.pin.pcieUp = false ∧
      liveB t (pa pgSap offAPI_CFG) fAPI_CFG_EN = false ∧ t.host.msgHeld = [] ∧
      (∀ a, pageOf a = pgTxr ∨ pageOf a = pgRxr ∨ pageOf a = pgMsix → reg t a = regReset s.straps a))) ∧
    (∀ r t0, s.host.msgHeld.contains r = true → mfind s.host.msgAt r = some t0 →
      t0 + liveF s (ringCfg r) fTXR_CFG_ITR_US * tUs ≤ now s →
      Gives (.itrUsExpiry r) s (fun t => t.host.msgHeld.contains r = false ∧ mfind t.host.msgAt r = some (now s))) ∧
    (∀ ready i data n, hostUp s = true → (dispQ s 32).length < 256 → txNext s ready = some i → 1 ≤ n → n ≤ 256 →
      addr64 s (pa pgTxr (offTXR_WB i)) / 4 * 4 = 0 →
      Gives (.hostTxFetch ready [n] [3] data false) s (fun t => dispQ t 32 = dispQ s 32 ++ [s.disp.nextPass] ∧
        (∃ p, pass? t s.disp.nextPass = some p ∧ p.src = 256 ∧ p.phase = .queued ∧
          p.raw = padTo (Nat.max 60 n) (padTo n data)) ∧
        reg t (pa pgTxr (offTXR_HEAD i)) = BitVec.ofNat 32 ((regF s (pa pgTxr (offTXR_HEAD i)) fTXR_HEAD_POS + 1) %
          2 ^ (liveF s (pa pgTxr (offTXR_CFG i)) fTXR_CFG_LOG2 + 1)) ∧
        Counts [(pa pgPcie cHst_HOST_TX_FRAMES, 1)] s t) ∧
      Gives (.hostTxFetch ready [n] [3] data true) s (fun t =>
        regB t (pa pgTxr (offTXR_CFG i)) fTXR_CFG_ERR = true ∧ Counts [(pa pgPcie cHst_HOST_TX_BAD, 1)] s t ∧
        dispQ t 32 = dispQ s 32)) ∧
    (∀ id d, (port s 256).tx = some id → mfind s.clr.desc id = some d → d.rxPass = none → d.broken = false →
      hostUp s = true → safe s = false → excReady s = false → let k := d.queue - nQbase (node s (nodeKey 3 256))
      ringRoom s k d.len = true → ∀ bufs,
      Gives (.hostRxDeliver bufs false) s (fun t => ((port s 256).next = [] → (port t 256).tx = none) ∧ mfind t.clr.desc id = none ∧
        reg t (pa pgRxr (offRXR_HEAD k)) = BitVec.ofNat 32 ((regF s (pa pgRxr (offRXR_HEAD k)) fRXR_HEAD_POS +
          ringNeed s k (copyBytesOf s d).length) % 2 ^ (liveF s (pa pgRxr (offRXR_CFG k)) fRXR_CFG_LOG2 + 1)) ∧
        ctr t (pa pgPcie cHst_HOST_RX_FRAMES) = Nat.min maxCtr (ctr s (pa pgPcie cHst_HOST_RX_FRAMES) + 1))) ∧
    (∀ k rest p, s.disp.excQ = k :: rest → pass? s k = some p → p.bad = false → p.broken = false → p.complete = true → hostUp s = true →
      safe s = false → let r := liveF s (pa dev offACT_CFG) fACT_CFG_EXC_RING
      let heads := match p.com with | some c => c.headCells | none => []
      let n := (p.prv ++ padTo 16 p.exc ++ (headBytes s heads p.head.length ++ segBytes s p.segs)).length
      ringRoom s r n = true →
      ∀ bufs, Gives (.exceptionDeliver bufs false) s (fun t => pass? t k = none ∧ k ∉ t.disp.excQ ∧
        reg t (pa pgRxr (offRXR_HEAD r)) = BitVec.ofNat 32 ((regF s (pa pgRxr (offRXR_HEAD r)) fRXR_HEAD_POS +
          ringNeed s r n) % 2 ^ (liveF s (pa pgRxr (offRXR_CFG r)) fRXR_CFG_LOG2 + 1)) ∧
        ctr t (pa pgPcie cHst_HOST_RX_FRAMES) = Nat.min maxCtr (ctr s (pa pgPcie cHst_HOST_RX_FRAMES) + 1)))
/-! ### Rootway messages (R338, R341, R343 to R352) -/

/-- A Rootway message at the device it is for, by type: what it does there and what is answered, to its originator with its
TAG (R242, R247, R341, R343, R345, R347 to R352, R357; R338). It rests on log entry 47 (DEDUCED), log entry 58 (DEDUCED), log entry 83 (DEDUCED), log entry 84 (DEDUCED). -/
def Obligations.RootwayMessagesActAndAreAnswered : Prop :=
  ∀ (s : State) (l : Nat) (m : Bytes) (rest : List (Nat × Bytes)), stopped s = false → s.rw.todo = (l, m) :: rest →
    let p := mPay m
    let s0 := { s with rw := { s.rw with todo := rest } }
    let answer := fun (pay : Bytes) (u : State) => boardKeeps s (rwAnswer mtRegResp (mSrc m) (mTag m) pay u)
    -- ASSIGN_ID (R345)
    (mType m = mtAssignId →
      (isUnder s = true → beAt p 0 8 = Config.serial % 2 ^ 64 → 2 ≤ beAt p 8 2 % 4096 → beAt p 8 2 % 4096 ≤ 4094 →
        Gives .assignId s (fun t => ownId t = beAt p 8 2 % 4096 ∧ (reg t (pa pgRw offIRQ_STS)).toNat.testBit 5 = true ∧
          t.rw.discDue = true ∧ t.rw.todo = rest)) ∧
      ((isUnder s = false ∨ beAt p 0 8 ≠ Config.serial % 2 ^ 64 ∨ beAt p 8 2 % 4096 < 2 ∨ 4094 < beAt p 8 2 % 4096) →
        Gives .assignId s (fun t => t = s0))) ∧
    -- REG_WRITE and REG_READ (R348)
    (mType m = mtRegWrite → let page := beAt p 0 2 % 4096
      let off := beAt p 2 2 % 4096
      let n := (byteAt p 4).toNat % 32 + 1
      (regMsgOk off n (mLen m) (8 + 4 * n) = false →
        Gives .regWrite s (fun t => t = answer (regResp 2 0 0 0 mtRegWrite []) s0)) ∧
      (regMsgOk off n (mLen m) (8 + 4 * n) = true → let r := relayWrites page off none (wordsOf n (p.drop 8)) s0
        (r.1 = none → Gives .regWrite s (fun t => t = answer (regResp 0 0 0 n mtRegWrite []) r.2)) ∧
        (∀ why o, r.1 = some (why, o) →
          Gives .regWrite s (fun t => t = answer (regResp 1 why o n mtRegWrite []) r.2)))) ∧
    (mType m = mtRegRead → let page := beAt p 0 2 % 4096
      let off := beAt p 2 2 % 4096
      let n := (byteAt p 4).toNat % 64 + 1
      (regMsgOk off n (mLen m) 8 = false → Gives .regRead s (fun t => t = answer (regResp 2 0 0 0 mtRegRead []) s0)) ∧
      (regMsgOk off n (mLen m) 8 = true → let r := relayReads page n off [] s0
        Gives .regRead s (fun t => t = answer (regResp 0 0 0 n mtRegRead r.1) r.2) ∧ r.1.length = 4 * n)) ∧
    -- REG_RESP releases its TAG; one that comes after its TIMEOUT is discarded (R352)
    (mType m = mtRegResp → rxrFull s = false →
      (s.rw.tags.any (fun t => t.tag == mTag m && t.dst == mSrc m) = true → txrFill s = 0 →
        Gives .regResp s (fun t => InRing s m t ∧ t.rw.todo = rest ∧
          t.rw.tags = s.rw.tags.eraseP (fun t => t.tag == mTag m && t.dst == mSrc m))) ∧
      (s.rw.tags.any (fun t => t.tag == mTag m && t.dst == mSrc m) = false → s.rw.late.contains (mTag m, mSrc m) = true →
        Gives .regResp s (fun t => t = { s with rw := { s.rw with todo := rest,
                                                                   late := s.rw.late.erase (mTag m, mSrc m) } }))) ∧
    -- TABLE_OP goes into the next slot of the TAE host queue (R349)
    (mType m = mtTableOp → hsqFill s < 256 →
      (mLen m = 128 → Gives .tableOp s (fun t => hsqTail t = (hsqTail s + 1) % 512 ∧
        (∀ i, i < 128 → byteAt (hostSlot t (hsqTail s)) i = byteAt p i) ∧
        t.rw.tables = s.rw.tables ++ [⟨hsqTail s, mSrc m, mTag m⟩] ∧ t.rw.todo = rest)) ∧
      (mLen m ≠ 128 → Gives .tableOp s (fun t => t = answer (regResp 2 0 0 0 mtTableOp []) s0))) ∧
    -- DISCOVER and EVENT go into the receive ring (R345, R350)
    (rxrFull s = false →
      (mType m = mtDiscover → Gives (.discover true) s (fun t => InRing s m t ∧ t.rw.todo = rest)) ∧
      (mType m = mtEvent → ∀ page, Gives (.event true page) s (fun t => InRing s m t ∧ t.rw.todo = rest))) ∧
    -- EPOCH_ARM: a repeated one is answered with the same result and changes nothing (R247)
    (mType m = mtEpochArm → let e := beAt p 0 1
      let sec := beAt p 4 4
      let ns := beAt p 8 4
      let ack := fun (r : Nat) (u : State) => boardKeeps s (rwAnswer mtEpochAck (mSrc m) (mTag m)
        (beBytes 1 e ++ beBytes 1 r ++ [0, 0]) { u with ep := { u.ep with lastArm := some (e, sec, ns, r) } })
      (∀ r, s.ep.lastArm = some (e, sec, ns, r) → Gives .epochArmMessage s (fun t => t = ack r s0)) ∧
      ((∀ r, s.ep.lastArm ≠ some (e, sec, ns, r)) → sec = 0 → ns = 0 →
        Gives .epochArmMessage s (fun t => t = ack erDisarmed (epochDisarm s0))) ∧
      ((∀ r, s.ep.lastArm ≠ some (e, sec, ns, r)) → sec ≠ 0 ∨ ns ≠ 0 → let r := epochArm e (placeInstant s sec ns) s0
        Gives .epochArmMessage s (fun t => t = ack r.1 r.2))) ∧
    -- EPOCH_ACK counts on the Canopy device (R242)
    (mType m = mtEpochAck → rxrFull s = false → Gives .epochAck s (fun t => InRing s m t ∧ t.rw.todo = rest ∧
      (isCanopy s = true → beAt p 1 1 % 16 = erArmed ∨ beAt p 1 1 % 16 = erDisarmed →
        regF t (pa dev offEPOCH_CHAIN_STS) fEPOCH_CHAIN_STS_ACK_OK =
          Nat.min 4095 (regF s (pa dev offEPOCH_CHAIN_STS) fEPOCH_CHAIN_STS_ACK_OK + 1)))) ∧
    -- a manager HEARTBEAT's first copy is relayed, and without an upstream its link becomes the upstream (R343, R345)
    (isManagerHb m = true → isUnder s = true → l ≠ 0 → mHops m < 4094 →
      let seq := beAt p 4 4
      let s1 := managerSeen (beAt p 0 4) s0
      (regF s (pa pgRw offRW_GEN) fRW_GEN_GEN ≠ beAt p 0 4 →
        let s2 := rwFlood (rwLinks s1) (some l) (withHops (mHops m + 1) m) { s1 with rw := { s1.rw with hbSeq := seq } }
        rwUpstream s2 = none → Gives (.managerHeartbeat true) s (fun t => t = boardKeeps s (setUpstream l (mHops m) s2) ∧
          (l < 512 → rwUpstream t = some l ∧ regF t (pa pgRw offRW_UP) fRW_UP_HOPS = mHops m)))) ∧
    -- a link HEARTBEAT shows the partner in RW_LINK_STS (R341, R357)
    (mType m = mtHeartbeat → mHopLocal m = true → 128 ≤ l → l < 256 → ∀ x,
      Gives (.linkHeartbeat x true) s (fun t => regB t (linkSts l) fRW_LINK_STS_PARTNER = true ∧
        (rwLink t l).partnerAt = some (now s) ∧ regB t (linkSts l) fRW_LINK_STS_RW_UP = true ∧
        regB t (linkSts l) fRW_LINK_STS_PEER_UP = (byteAt p 0).toNat.testBit 0 ∧
        regB t (linkSts l) fRW_LINK_STS_PEER_TRAIL = (byteAt p 0).toNat.testBit 1 ∧
        regF t (linkSts l) fRW_LINK_STS_PEER_BL = (byteAt p 0).toNat / 16 ∧
        regF t (linkSts l) fRW_LINK_STS_PEER_ID = beAt p 4 2 % 4096 ∧
        regB t (linkSts l) fRW_LINK_STS_MISMATCH = ((byteAt p 0).toNat.testBit 1 != trailEn s l ||
          beAt p 2 2 != liveF s (pa pgRw offTR_CFG) fTR_CFG_ETYPE) ∧ t.rw.todo = rest)) ∧
    -- IMAGE_CHUNK (R351)
    (mType m = mtImageChunk → s.pin.keepClk = true → let off := beAt p 0 4
      let data := p.drop 16
      (1 ≤ data.length → data.length ≤ 1024 → off + data.length ≤ 0x200000 → off + data.length ≤ beAt p 4 4 →
        (s.hw.hold = none → s.hw.downTill = none → Gives .imageChunk s (fun t =>
          t = answer (regResp 0 0 0 0 mtImageChunk []) (hicRaise 14 (sapWrite (staging + off) data s0)))) ∧
        (s.hw.hold.isSome = true → Gives .imageChunk s (fun t => t = answer (regResp 4 0 0 0 mtImageChunk []) (hicRaise 14 s0)))) ∧
      (data.length = 0 ∨ 1024 < data.length ∨ 0x200000 < off + data.length ∨ beAt p 4 4 < off + data.length →
        Gives .imageChunk s (fun t => t = answer (regResp 2 0 0 0 mtImageChunk []) (hicRaise 14 s0))))
/-! ### Rootway links and the tree (R335, R340 to R346, R350, R352, R357, R358) -/

/-- What a Rootway device sends and times by itself: frames in sequence are accepted and routed, others only acknowledged
(R340), a bad link HEARTBEAT only counted (R339); frames are resent after RTX_US (R340), a silent link goes down (R340, R343),
an unheard manager makes an orphan (R346), a request without an answer times out (R352), a newer sequence elsewhere changes
the upstream (R343); DISCOVER, EVENT and both HEARTBEATs leave when they are due (R341, R343, R345, R350); TR_SWITCH quiesces
a B-port, sets its trail and length, and ends the quiesce (R358). It rests on log entry 54 (DEDUCED), log entry 83 (DEDUCED). -/
def Obligations.RootwayLinksAndTheTree : Prop :=
  ∀ s : State, stopped s = false →
    (∀ l f rest, (rwLink s l).inbox = f :: rest → let m := f.drop 14
      let k := rwLink s l
      let s2 := setRwLink l { k with inbox := rest, heardAt := some (now s) } (setRwLink l { k with inbox := rest } s)
      (rwIsLink s l = false → Gives (.rootwayFrameReceive l) s (fun t =>
        t = boardKeeps s (setRwLink l { k with inbox := rest } s))) ∧
      (rwIsLink s l = true → mType m = mtHeartbeat → mHopLocal m = true → mAckv m = false → rwBad m = false →
        k.up = false → Gives (.rootwayFrameReceive l) s (fun t => t.rw.todo = (l, m) :: s.rw.todo ∧
          rwLink t l = { k with inbox := rest, heardAt := some (now s), up := true, txSeq := 0, rxSeq := 0,
                                unacked := [], retries := 0, ackDue := false } ∧
          (1 ≤ mSrc m → mSrc m ≤ 4094 → rwUpstream s ≠ some l → mfind t.rw.route (mSrc m) = some l) ∧
          (∀ x, x ≠ l → rwLink t x = rwLink s x) ∧ t = { s with rw := t.rw })) ∧
      (rwIsLink s l = true → mType m = mtHeartbeat → mHopLocal m = true → mAckv m = false → rwBad m = true →
        Gives (.rootwayFrameReceive l) s (fun t => t.rw.todo = s.rw.todo ∧
          rwLink t l = { k with inbox := rest, heardAt := some (now s) } ∧ Counts [(pa pgRw cRw_RW_BAD, 1)] s t)) ∧
      (rwIsLink s l = true → k.up = true → rwFull s = true → mAckv m = false → mType m ≠ mtHeartbeat →
        (mSeq m ≠ (k.rxSeq + 1) % 65536 → Gives (.rootwayFrameReceive l) s (fun t => t.rw.todo = s.rw.todo ∧
          rwLink t l = { k with inbox := rest, heardAt := some (now s), ackDue := true } ∧
          (∀ x, x ≠ l → rwLink t x = rwLink s x) ∧ t = { s with rw := t.rw })) ∧
        (mSeq m = (k.rxSeq + 1) % 65536 → rwBad m = false → rwNoBuffer s2 l m = false → rwMine s l m = true →
          mDst m ≠ 4095 → mHopLocal m = false → Gives (.rootwayFrameReceive l) s (fun t =>
            t.rw.todo = s.rw.todo ++ [(l, m.take (16 + mLen m))] ∧
            rwLink t l = { k with inbox := rest, heardAt := some (now s), rxSeq := mSeq m, ackDue := true } ∧
            (∀ x, x ≠ l → rwLink t x = rwLink s x) ∧ Counts [(pa pgRw cRw_RW_RX, 1)] s t)))) ∧
    (∀ l, (rwLink s l).up = true → rwIsLink s l = true → rtxDue s l = true → rtxSpent s l = false →
      let k := rwLink s l
      let fs := k.unacked.map (fun (f : RwFrame) => { f with sentAt := now s })
      Gives (.rwRtx l) s (fun t => t = boardKeeps s (forAll (fun (f : RwFrame) u =>
        rwXmit l (withSeq f.seq (rwLink u l).rxSeq f.msg) (count pgRw cRw_RW_RTX u)) fs
        (setRwLink l { k with unacked := fs, retries := k.retries + 1, ackDue := false } s)))) ∧
    (∀ l, downDue s l = true → Gives (.rootwayDown l) s (fun t =>
      (let k := rwLink s l
       rwLink t l = { rwLinkReset l with inbox := k.inbox, peerEtype := k.peerEtype, partnerAt := k.partnerAt }) ∧
      (128 ≤ l → l < 256 → regB t (linkSts l) fRW_LINK_STS_RW_UP = false ∧
        regB t (linkSts l) fRW_LINK_STS_PARTNER = rwPartner s l) ∧ (∀ x, x ≠ l → rwLink t x = rwLink s x) ∧
      (∀ x ∈ t.rw.route, x.2 ≠ l) ∧
      (rwUpstream s = some l → s.rw.alt = [] → rwUpstream t = none) ∧
      (reg t (pa pgRw offIRQ_STS)).toNat.testBit 4 = true ∧
      Counts [(pa pgRw cRw_RW_LOST, (rwLink s l).unacked.length + (rwLink s l).backlog.length)] s t)) ∧
    (isUnder s = true → rwOrphan s = false →
      s.rw.hbAt + liveF s (pa pgRw offRW_HB) fRW_HB_HB_MISS * liveF s (pa pgRw offRW_HB) fRW_HB_HB_MS * tMs ≤ now s →
      Gives .orphan s (fun t => rwOrphan t = true ∧ (reg t (pa pgRw offIRQ_STS)).toNat.testBit 1 = true ∧
        ownId t = ownId s)) ∧
    (∀ x rest, s.rw.tags = x :: rest → x.sentAt + liveF s (pa pgRw offRW_HB) fRW_HB_E2E_MS * tMs ≤ now s →
      rxrFull s = false → txrFill s = 0 → Gives .rwTimeout s (fun t => t.rw.tags = rest ∧ (x.tag, x.dst) ∈ t.rw.late ∧
        InRing s (mkMsg mtRegResp (ownId s) x.dst x.tag 0 (regResp 3 0 0 0 x.ty [])) t ∧
        Counts [(pa pgRw cRw_RW_TIMEOUT, 1)] s t)) ∧
    (∀ seq l h t0, s.rw.alt.find? (fun e => altDue s e && (rwLink s e.2.1).up) = some (seq, l, h, t0) →
      (rwUpstream s).isSome = true → l < 512 → h < 4096 →
      Gives .upstreamChange s (fun t => rwUpstream t = some l ∧ regF t (pa pgRw offRW_UP) fRW_UP_HOPS = h ∧
        t.rw.alt = [] ∧ t.rw.discDue = true ∧ (∀ x ∈ t.rw.route, x.2 ≠ l) ∧
        (∀ a, a ≠ pa pgRw offRW_UP → reg t a = reg s a))) ∧
    ((rwUpstream s).isSome = true →
      (s.rw.discDue = true ∨ s.rw.discAt + (if ownId s = 0 then 1000 * tMs else 100 * tMs) ≤ now s) →
      Gives (.discover false) s (fun t => t = boardKeeps s (rwOriginate (mkMsg mtDiscover 1 (ownId s) 0 0 (discoverPay s))
        { s with rw := { s.rw with discAt := now s, discDue := false } }))) ∧
    (∀ page, isUnder s = true → s.rw.evtPend.contains page = true → mfind s.rw.evtAt page = none →
      Gives (.event false page) s (fun t => t = boardKeeps s (rwOriginate (mkMsg mtEvent 1 (ownId s) 0 0
        (beBytes 2 page ++ [0, 0] ++ leBytes 4 (reg s (pa page offIRQ_STS)).toNat ++
          leBytes 8 (lkoTop s)))
        { s with rw := { s.rw with evtPend := nsErase s.rw.evtPend page, evtAt := mput s.rw.evtAt page (now s) } }))) ∧
    (isCanopy s = true → s.rw.hbAt + liveF s (pa pgRw offRW_HB) fRW_HB_HB_MS * tMs ≤ now s →
      regF s (pa pgRw offRW_GEN) fRW_GEN_GEN ≠ 0 → let seq := (s.rw.hbSeq + 1) % 2 ^ 32
      Gives (.managerHeartbeat false) s (fun t => t = boardKeeps s (rwFlood (rwLinks s) none (mkMsg mtHeartbeat 4095 1 0 0
        (beBytes 4 (regF s (pa pgRw offRW_GEN) fRW_GEN_GEN) ++ beBytes 4 seq))
        { s with rw := { s.rw with hbSeq := seq, hbAt := now s } }))) ∧
    (∀ l, rwIsLink s l = true → ((rwLink s l).ackDue = true ∨ (rwLink s l).hbAt = none) →
      let bit := fun (x : Bool) (v : Nat) => if x then v else 0
      Gives (.linkHeartbeat l false) s (fun t => t = boardKeeps s (rwXmit l (withSeq 0 (rwLink s l).rxSeq
        (hopLocal (mkMsg mtHeartbeat 0 (ownId s) 0 0 (beBytes 1 (bit (rwUpstream s == some l) 1 + bit (trailEn s l) 2 +
          lockedLevel s * 16) ++ [0] ++ beBytes 2 (liveF s (pa pgRw offTR_CFG) fTR_CFG_ETYPE) ++ beBytes 2 (ownId s) ++ [0, 0]))))
        (setRwLink l { rwLink s l with ackDue := false, hbAt := some (now s) } s)))) ∧
    (∀ req p trail maxlen, 128 ≤ p → p < 256 → maxlen < 16384 → regB s (pa pgRw offTR_SWITCH) fTR_SWITCH_BUSY = false →
      accepts s req (pa pgRw offTR_SWITCH) (mkWord [(fTR_SWITCH_PORT, p), (fTR_SWITCH_TRAIL_EN, if trail then 1 else 0),
        (fTR_SWITCH_MAXLEN, maxlen)]) = true →
      Gives (.trSwitch req p trail maxlen) s (fun t => regB t (pa pgRw offTR_SWITCH) fTR_SWITCH_BUSY = true ∧
        t.rw.trSwitch = some (p, trail, maxlen) ∧ quiesceReq t (macPage p) = true)) ∧
    (∀ p trail maxlen, s.rw.trSwitch = some (p, trail, maxlen) → 128 ≤ p → p < 256 → maxlen < 16384 →
      quiesced s (macPage p) = true → Gives .trSwitchComplete s (fun t => trailEn t p = trail ∧ maxLen t p = maxlen ∧
        quiesceReq t (macPage p) = false ∧ t.rw.trSwitch = none ∧
        regB t (pa pgRw offTR_SWITCH) fTR_SWITCH_BUSY = false))
/-! ### Resets, pins, clocks and JTAG (R313, R422, R426 to R431, R442, R454, R459, R463) -/

/-- The device resets (R428, R429), the supplies and the temperature (R427, R442), the reference clocks (R313, R422, R454,
R463), PCIe training (R430) and the JTAG instructions, of which those that test the board need TEST_EN (R459), what the device
drives on its balls, and while RST_N is low (R447). The rate and width to which PCIe trains are a free value (R377). It rests
on log entry 64 (DEDUCED), log entry 86 (PRESUMED), log entry 87 (DEDUCED), log entry 125 (DESIGN CHOICE), log entry 128
(DESIGN CHOICE), log entry 132 (DEDUCED). -/
def Obligations.ResetsPinsClocksAndJtag : Prop :=
  ∀ s : State,
    let afterReset := fun (cause : Nat) (t : State) =>
      regF t (pa dev offDEV_RST_STS) fDEV_RST_STS_LAST_CAUSE = cause ∧ (∀ a, ctr t a = 0) ∧ t.ports = State.reset.ports ∧
      t.disp = State.reset.disp ∧ t.clr = State.reset.clr ∧ t.tae = State.reset.tae ∧ t.grv = State.reset.grv ∧
      t.hw.flash = s.hw.flash ∧ t.hw.floor = s.hw.floor ∧ t.hw.steps = s.hw.steps ∧ t.lko.otp = s.lko.otp ∧ safe t = false ∧
      t.pin.fault = false ∧ t.pin.alive = false ∧ t.pin.pcieUp = false ∧
      regF t (pa pgPt offPT_AGE) fPT_AGE_SLOW_PPM = regF s (pa pgPt offPT_AGE) fPT_AGE_SLOW_PPM
    (∀ mode boot bpgen lngen, Gives (.coldReset mode boot bpgen lngen) s (fun t => afterReset 1 t ∧
      t.pin.keep = true ∧ t.pin.trip = false ∧ t.straps = strapBalls mode boot bpgen lngen ∧ t.hw.smbAddr = 0x5C ∧
      t.lko.spares = lkoReset.spares)) ∧
    (∀ mode boot bpgen lngen, (s.pin.keep = true → Gives (.rstN false mode boot bpgen lngen) s (fun t => afterReset 2 t ∧
        held t = true ∧ t.pin.rstN = false ∧ t.straps = strapBalls mode boot bpgen lngen ∧ t.pin.trip = s.pin.trip ∧ t.hw.smbAddr = s.hw.smbAddr ∧
        t.lko.spares = s.lko.spares ∧ t.lko.island = s.lko.island)) ∧
      (s.pin.keep = true → s.pin.rstN = false → s.pin.testEn = false →
        Gives (.rstN true mode boot bpgen lngen) s (fun t => held t = false ∧
          t.straps = strapBalls mode boot bpgen lngen ∧ t.pin.aliveAt = kNow s ∧ t.pin.bothSince = kNow s))) ∧
    (s.pin.keep = true → s.pin.testEn = false → Gives (.testEn true) s (fun t => held t = true ∧ t.pin.testEn = true ∧
      t.pin.jtag = s.pin.jtag ∧ t.pin.dr = s.pin.dr ∧ QuietNow t)) ∧
    (s.pin.keep = true → s.pin.rstN = true → Gives (.testEn false) s (fun t => held t = false)) ∧
    Gives .vddKeepFall s (fun t => held t = true ∧ t.pin.keep = false ∧ afterReset 1 t) ∧
    (s.pin.keep = true → Gives .thermTripN s (fun t => t = { s with pin := { s.pin with trip := true } })) ∧
    Gives .keepclkLoss s (fun t => t = { s with pin := { s.pin with keepClk := false } }) ∧
    -- JTAG (R459)
    Gives .bypass s (fun t => t = { s with pin := { s.pin with jtag := .bypass, dr := some 0 } }) ∧
    Gives .idcode s (fun t => t.pin.jtag = .idcode ∧ t = { s with pin := { s.pin with jtag := .idcode, dr := t.pin.dr } } ∧
      ∃ w, t.pin.dr = some w ∧ w / 2 ^ 12 % 2 ^ 16 = 0x8800 ∧ w / 2 ^ 28 = Config.stepping % 16) ∧
    (∀ c j, (c, j) = (Instr.samplePreload, Jtag.samplePreload) ∨ (c, j) = (.extest, .extest) ∨ (c, j) = (.clamp, .clamp) ∨
        (c, j) = (.highz, .highz) →
      Gives c s (fun t => t.pin.jtag = (if s.pin.testEn then j else .bypass) ∧
        (s.pin.testEn = false ∨ j = .clamp ∨ j = .highz → t.pin.dr = some 0 ∧ t.freeCtr = s.freeCtr) ∧
        (s.pin.testEn = false ∨ j ≠ .samplePreload → t.pin.cells = s.pin.cells) ∧
        (s.pin.testEn = true → j = .samplePreload ∨ j = .extest → t.pin.dr = some (capturePins s (freeNow s)) ∧
          ∀ k, (∀ b ∈ balls, cellOf b ≠ k) → (capturePins s (freeNow s)).testBit k = (freeNow s).testBit k) ∧
        t = { s with pin := { s.pin with jtag := t.pin.jtag, dr := t.pin.dr, cells := t.pin.cells }, freeCtr := t.freeCtr })) ∧
    (∀ b serial, (s.pin.testEn = false ∨ inChain b = false → ballOut s b serial = ballDrive s b serial) ∧
      (s.pin.testEn = true → inChain b = true → (s.pin.jtag = .highz → ballOut s b serial = none) ∧
        (s.pin.jtag = .extest ∨ s.pin.jtag = .clamp → let v := s.pin.cells.testBit (cellOf b)
          ballOut s b serial = match pinKind b with
            | .input => none
            | .output => some v
            | .openDrain => if v then none else some false)) ∧
      (s.pin.rstN = false → ballDrive s b serial =
        if b = .faultN then (if s.pin.fault then some false else none) else if b = .alive then some s.pin.alive
        else if b = .thermTripN then (if s.pin.trip then some false else none) else if b = .ppsOut then some s.time.ppsEnd.isSome
        else if (∃ n, b = .syncEClk n) ∨ b = .flashClk ∨ b = .avsClk then some false
        else if b = .flashCsN ∨ b = .avsMdata then some true
        else if b = .tdo ∧ s.pin.testEn = true then serial else none)) ∧
    (held s = false →
      (∀ req, stopped s = false → accepts s req (pa dev offDEV_RST) (mkWord [(fDEV_RST_KEY, 0xB007), (fDEV_RST_WARM, 1)]) = true →
        Gives (.devRst req 0xB007 true) s (fun t => afterReset 3 t ∧ held t = false ∧
          t.straps = s.pin.straps ∧ t.hw.smbAddr = s.hw.smbAddr ∧ t.lko.spares = s.lko.spares)) ∧
      Gives .railOutOfTolerance s (fun t => t.lko.cap = s.lko.cap ++ [⟨pgPt, 3, clsFT, false, 0, kNow s⟩] ∧
        t = { s with lko := t.lko, hw := { s.hw with hic := t.hw.hic } }) ∧
      (∀ sensor temp, sensor < 16 → temp < 65536 → Gives (.junctionOverLimit sensor temp) s (fun t =>
        regF t (pa pgPt offPT_TEMP) fPT_TEMP_SENSOR = sensor ∧ regF t (pa pgPt offPT_TEMP) fPT_TEMP_TEMP = temp ∧
        (∀ a, a ≠ pa pgPt offPT_TEMP → reg t a = reg s a) ∧
        t.lko.cap = s.lko.cap ++ (if junctionLimit < signed 16 temp then [⟨pgPt, 0, clsCE, false, 0, kNow s⟩] else []))) ∧
      (s.pin.perstN = true → s.pin.lost.contains 4 = false → s.pin.bothSince + tMs ≤ kNow s →
        Gives .pcieLinkTraining s (fun t => 1 ≤ t.host.gen ∧ t.host.gen ≤ 5 ∧ t.host.width ∈ [4, 2, 1] ∧
          t = { s with pin := { s.pin with pcieUp := true }, freeCtr := t.freeCtr,
                       host := { s.host with gen := t.host.gen, width := t.host.width } })) ∧
      -- the clocks, while KEEPCLK runs (R422, R454)
      (s.pin.keepClk = true → s.pin.verdict = true →
        (∀ i, i = 0 ∨ i = 1 ∨ i = 4 → s.pin.lost.contains i = false → Gives (.clockLoss i) s (fun t =>
          t.pin.lost.contains i = true ∧ regB t (pa pgClk offCLK_STS) (clkOk i) = false ∧
          t.lko.cap = s.lko.cap ++
            [⟨pgClk, i, if i = 0 then clsFT else if i = 1 then clsCE else clsUC, false, 0, kNow s⟩] ∧
          (i = 4 → t.pin.pcieUp = false) ∧
          (i = 1 → regB t (pa pgPtp offTIME_STS) fTIME_STS_HOLDOVER = true))) ∧
        (∀ i, i = 2 ∨ i = 3 → s.pin.lost.contains i = false → Gives (.clockLoss i) s (fun t =>
          t = boardKeeps s (sideLoss (i == 3) (capture pgClk i clsUC false 0 (clkShow i false s))))) ∧
        (∀ i t0, i < 5 → i ≠ 1 → s.pin.lost.contains i = true → (mfind s.pin.back i = none →
          ∀ b, Gives (.clockReturn ⟨i, b⟩) s (fun t => mfind t.pin.back i = some (kNow s) ∧ t.pin.lost = s.pin.lost)) ∧
          (mfind s.pin.back i = some t0 → t0 + 10 * tMs ≤ kNow s → ∀ b, Gives (.clockReturn ⟨i, b⟩) s (fun t =>
            t.pin.lost.contains i = false ∧ regB t (pa pgClk offCLK_STS) (clkOk i) = true))) ∧
        (s.pin.lost.contains 1 = true → ∀ b, Gives (.clockReturn ⟨1, b⟩) s (fun t => t.pin.lost.contains 1 = false ∧
          (s.time.tref25Written = false → regB s (pa pgPtp offTIME_STS) fTIME_STS_TREF_LOCK = false →
            regB t (pa pgPtp offPTP_CFG) fPTP_CFG_TREF_25 = b) ∧
          regB t (pa pgPtp offTIME_STS) fTIME_STS_STOPPED = false ∧ t.time.trefSince = some (kNow s)))) ∧
      (s.pin.keepClk = true → s.pin.verdict = false → tMs ≤ kNow s → ∀ present mhz25,
        Gives (.firstVerdict present mhz25) s (fun t => t.pin.verdict = true ∧
          (∀ i, i < 5 → regB t (pa pgClk offCLK_STS) (clkOk i) = present.testBit i ∧
            t.pin.lost.contains i = !present.testBit i) ∧
          (present.testBit 1 = true → regB t (pa pgPtp offTIME_STS) fTIME_STS_TREF_LOCK = true) ∧
          (present.testBit 1 = false → regB t (pa pgPtp offTIME_STS) fTIME_STS_HOLDOVER = true))))

/-! ### Errors shown, a stopped KCLK, MEMB 0 and the Grove that dispatch takes (R14, R52, R404, R422) -/

/-- LKO_TOP and LKO_ECHO_TOP (R404): bit a is 1 exactly while a page of area a, as R404 lists them, has an ERR_STS bit that its mask
does not hide, or a nonzero ECHO_STS; a mask bit does not hide an error of class FT (R38; log entry 107, DEDUCED), and a page with INJECT 0 raises none (R464; log entry 130, DESIGN CHOICE); a read gives both words so derived, and LKO_DIR shows which pages of the selected area they are. -/
def Obligations.LkoTopShowsUnmaskedErrors : Prop :=
  ∀ s : State,
    let shown := fun (page : Nat) => ∃ i, i < 16 ∧ (reg s (pa page offERR_STS)).toNat.testBit i = true ∧
      ((live s (pa page offERR_MASK)).toNat.testBit i = false ∨
        fget (reg s (pa page offERR_CLASS)) ⟨2 * i + 1, 2 * i⟩ = clsFT)
    (∀ a, a < 64 → ((lkoTop s).testBit a = true ↔ ∃ page, inArea a page = true ∧ capInject page = true ∧ shown page)) ∧
    (∀ a, a < 64 → ((lkoEchoTop s).testBit a = true ↔ ∃ page, inArea a page = true ∧ reg s (pa page offECHO_STS) ≠ 0)) ∧
    (let a := liveF s (pa pgLko offLKO_DIR_SEL) fLKO_DIR_SEL_AREA
     ∀ i, i < 128 → ((lkoDir s).testBit i = true ↔ ∃ page, inArea a page = true ∧ shown page ∧
      (List.range page).countP (inArea a) = i)) ∧
    (stopped s = false → ∀ req, reaches s req = true →
      (∀ off top, (off, top) = (offLKO_TOP, lkoTop s) ∨ (off, top) = (offLKO_ECHO_TOP, lkoEchoTop s) →
        Gives (.lowWordRead req ⟨pa pgLko off, 4⟩) s (fun t => t.bus.rdata = BitVec.ofNat 32 top ∧
          mfind t.bus.hold req = some ⟨pa pgLko off, false, BitVec.ofNat 32 (top / 2 ^ 32)⟩)))

/-- INSERT and SET_MEMB with MEMB 0b00 (R52): INSERT completes with BAD_FORMAT and changes no table; SET_MEMB acts as DELETE: the
tables and the completion are those of a DELETE, and no entry of the key stays. INDEX 0 of the refused INSERT is log entry 55 (DEDUCED). -/
def Obligations.MembZeroInsertAndSetMemb : Prop :=
  ∀ (s : State) (q : Nat) (c : TaeCmd) (ecc : Bool), stopped s = false → q < 2 → taeNext s q = some c →
    taeFormatOk c.bytes = true → tcMemb c.bytes = 0 →
    let b := c.bytes
    let tbl := tcTable b
    let data := tcData b
    (tcSpace b = 1 → emtOn s tbl = true → emtClearing s tbl = false → tcLen b = 65 → emtPadOk s tbl data = true →
      (tcOp b = opInsert → Gives (.insert q ecc) s (fun t => TaeDone s q b (resPlain tsBadFormat 0) t ∧ t.emt = s.emt)) ∧
      (tcOp b = opSetMemb → Gives (.setMemb q ecc) s (fun t => TaeDone s q b (emtDelete tbl 0 data s).2 t ∧
        t.emt = (emtDelete tbl 0 data s).1.emt ∧
        ∀ x ∈ emtHolders s tbl (emtKeyOf s tbl data), tagUsed (emtTag t tbl x) = false))) ∧
    (tcSpace b = 2 → thkOn s tbl = true → thkClearing s tbl = false → thkShifting s tbl = false →
      thkRepairing s tbl = false → tcLen b = 88 → thkPadOk s tbl data = true →
      (tcOp b = opInsert → Gives (.insert q ecc) s (fun t => TaeDone s q b (resPlain tsBadFormat 0) t ∧ t.thk = s.thk)) ∧
      (tcOp b = opSetMemb → Gives (.setMemb q ecc) s (fun t => TaeDone s q b (thkDelete tbl 0 (tcRank b) data s).2 t ∧
        t.thk = { (thkDelete tbl 0 (tcRank b) data s).1.thk with slots := t.thk.slots } ∧
        ∀ x ∈ thkHolders s tbl (tcRank b) data, ∀ k, k < thkCopies s tbl → tagUsed (thkEntry t tbl k x).tag = false)))

/-- If KCLK stops (R422), every command of the Lookout, ALIVE's toggle among them, leaves the state as it is, and so do the
commands that assert FAULT_N; the loss itself changes neither pin. -/
def Obligations.KclkLossStopsTheLookout : Prop :=
  ∀ s : State,
    Gives .keepclkLoss s (fun t => t.pin.keepClk = false ∧ t.pin.fault = s.pin.fault ∧ t.pin.alive = s.pin.alive ∧
      t = { s with pin := { s.pin with keepClk := false } }) ∧
    (s.pin.keepClk = false →
      exec .aliveToggle s = .next s ∧ exec .reportDecide s = .next s ∧ exec .collectorFault s = .next s ∧
      exec .otpRepairWrite s = .next s ∧ (∀ slot, exec (.safeState slot) s = .next s) ∧
      (∀ page src i partner, exec (.errorReport page src i partner) s = .next s) ∧
      (∀ page src, exec (.errWindowClose page src) s = .next s) ∧ (∀ page, exec (.echoWindowEnd page) s = .next s) ∧
      (∀ res, exec (.remap res) s = .next s))

/-- The Grove that a dispatch takes (R14, R174): among the Groves that can take a head now, one with the most free threads on
engines that receive dispatch, and of equals the lowest; it is enabled and not quiesced, and an engine of it is in service and
not fenced. Where such a Grove has a free thread, one is picked. -/
def Obligations.DispatchTakesTheFreestGrove : Prop :=
  ∀ s : State, let takes := groveTakes ⟨0, [], s⟩
    (∀ g, pickGrove s takes = some g → g < 32 ∧ takes g = true ∧ 0 < freeThreads s g ∧
      enabled s (grvPage g) = true ∧ quiesceReq s (grvPage g) = false ∧ inReset s (grvPage g) = false ∧
      (∃ e, e < 32 ∧ engBit s offGRV_ENG_SVC g e = true ∧ engBit s offGRV_ENG_FENCE g e = false) ∧
      ∀ h, h < 32 → takes h = true →
        freeThreads s h < freeThreads s g ∨ (freeThreads s h = freeThreads s g ∧ g ≤ h)) ∧
    (∀ h, h < 32 → takes h = true → 0 < freeThreads s h → (pickGrove s takes).isSome = true)
end

