-- ==== Sys2Proof/Laws/Bits.lean ====
section
/-!
SUPPORT. Bit fields of a register word: a field reads what was written to it, and other fields keep their value.
-/

namespace Sys2Proof.Machine

/-- A number, split at a field of bits `lo` to `lo + k - 1`. -/
theorem split_field (n lo k : Nat) :
    n = n / 2 ^ (lo + k) * 2 ^ (lo + k) + n / 2 ^ lo % 2 ^ k * 2 ^ lo + n % 2 ^ lo := by
  have e1 : n = n / 2 ^ lo * 2 ^ lo + n % 2 ^ lo := by rw [Nat.mul_comm]; exact (Nat.div_add_mod n (2 ^ lo)).symm
  have e2 : n / 2 ^ lo = n / 2 ^ lo / 2 ^ k * 2 ^ k + n / 2 ^ lo % 2 ^ k := by
    rw [Nat.mul_comm]; exact (Nat.div_add_mod (n / 2 ^ lo) (2 ^ k)).symm
  conv_lhs => rw [e1, e2]
  rw [Nat.div_div_eq_div_mul, ← pow_add, Nat.add_mul, Nat.mul_assoc, ← pow_add, Nat.add_comm k lo]

/-- `fset` on the number: the parts above and below the field stay. -/
theorem fset_toNat (w : Word) (f : Fld) (v : Nat) (h : f.lo ≤ f.hi) (h32 : f.hi < 32) :
    (fset w f v).toNat = w.toNat / 2 ^ (f.hi + 1) * 2 ^ (f.hi + 1) + v % 2 ^ fldWidth f * 2 ^ f.lo + w.toNat % 2 ^ f.lo := by
  have hw := w.isLt
  obtain ⟨hi, lo⟩ := f
  simp only [fset, fldWidth, natField, Nat.shiftRight_eq_div_pow] at *
  have hk : lo + (hi + 1 - lo) = hi + 1 := by omega
  have e := split_field w.toNat lo (hi + 1 - lo)
  rw [hk] at e
  set A := w.toNat / 2 ^ (hi + 1) * 2 ^ (hi + 1) with hA
  set B := w.toNat / 2 ^ lo % 2 ^ (hi + 1 - lo) * 2 ^ lo with hB
  set C := w.toNat % 2 ^ lo with hC
  set V := v % 2 ^ (hi + 1 - lo) with hV
  have h1 : w.toNat - B = A + C := by omega
  rw [BitVec.toNat_ofNat, h1]
  have hp : 2 ^ lo * 2 ^ (hi + 1 - lo) = 2 ^ (hi + 1) := by rw [← pow_add, hk]
  have hv : V < 2 ^ (hi + 1 - lo) := Nat.mod_lt _ (by positivity)
  have hc : C < 2 ^ lo := Nat.mod_lt _ (by positivity)
  have h5 : C + V * 2 ^ lo < 2 ^ (hi + 1) := by
    have h6 : (V + 1) * 2 ^ lo ≤ 2 ^ (hi + 1 - lo) * 2 ^ lo := Nat.mul_le_mul_right _ hv
    rw [Nat.mul_comm (2 ^ (hi + 1 - lo)), hp, Nat.add_mul, Nat.one_mul] at h6
    omega
  have h3 : w.toNat / 2 ^ (hi + 1) < 2 ^ (31 - hi) := by
    rw [Nat.div_lt_iff_lt_mul (by positivity), ← pow_add]
    have : 31 - hi + (hi + 1) = 32 := by omega
    rw [this]; exact hw
  have h7 : (w.toNat / 2 ^ (hi + 1) + 1) * 2 ^ (hi + 1) ≤ 2 ^ 32 := by
    calc (w.toNat / 2 ^ (hi + 1) + 1) * 2 ^ (hi + 1) ≤ 2 ^ (31 - hi) * 2 ^ (hi + 1) := Nat.mul_le_mul_right _ h3
      _ = 2 ^ 32 := by rw [← pow_add]; congr 1; omega
  rw [Nat.add_mul, Nat.one_mul] at h7
  rw [Nat.mod_eq_of_lt (by omega)]
  omega

/-- The bits `[hi:lo]` of a number put together from a part above, the field and a part below. -/
theorem field_of_parts (A V C hi lo : Nat) (h : lo ≤ hi) (hv : V < 2 ^ (hi + 1 - lo)) (hc : C < 2 ^ lo) :
    natField (A * 2 ^ (hi + 1) + V * 2 ^ lo + C) hi lo = V := by
  have hp : 2 ^ (hi + 1) = 2 ^ lo * 2 ^ (hi + 1 - lo) := by rw [← pow_add]; congr 1; omega
  simp only [natField, Nat.shiftRight_eq_div_pow]
  have e : A * 2 ^ (hi + 1) + V * 2 ^ lo + C = C + 2 ^ lo * (V + 2 ^ (hi + 1 - lo) * A) := by rw [hp]; ring
  rw [e, Nat.add_mul_div_left _ _ (by positivity), Nat.div_eq_of_lt hc, Nat.zero_add, Nat.add_mul_mod_self_left,
    Nat.mod_eq_of_lt hv]

/-- A field reads what was written to it, modulo its width. -/
theorem fget_fset_same (w : Word) (f : Fld) (v : Nat) (h : f.lo ≤ f.hi) (h32 : f.hi < 32) :
    fget (fset w f v) f = v % 2 ^ fldWidth f := by
  rw [fget, fset_toNat w f v h h32]
  exact field_of_parts _ _ _ _ _ h (Nat.mod_lt _ (by positivity)) (Nat.mod_lt _ (by positivity))

/-- A field below or above the one written keeps its value. -/
theorem fget_fset_other (w : Word) (f g : Fld) (v : Nat) (h : f.lo ≤ f.hi) (h32 : f.hi < 32) (hg : g.lo ≤ g.hi)
    (hd : g.hi < f.lo ∨ f.hi < g.lo) : fget (fset w f v) g = fget w g := by
  rw [fget, fset_toNat w f v h h32, fget]
  have e := split_field w.toNat f.lo (fldWidth f)
  have hk : f.lo + fldWidth f = f.hi + 1 := by simp [fldWidth]; omega
  rw [hk] at e
  set A := w.toNat / 2 ^ (f.hi + 1) with hA
  set U := w.toNat / 2 ^ f.lo % 2 ^ fldWidth f with hU
  set C := w.toNat % 2 ^ f.lo with hC
  set V := v % 2 ^ fldWidth f with hV
  conv_rhs => rw [e]
  have hp : 2 ^ (f.hi + 1) = 2 ^ f.lo * 2 ^ fldWidth f := by rw [← pow_add, hk]
  rcases hd with hd | hd
  · -- below: both agree modulo 2 ^ f.lo
    have key : ∀ X : Nat, natField (A * 2 ^ (f.hi + 1) + X * 2 ^ f.lo + C) g.hi g.lo = natField C g.hi g.lo := by
      intro X
      have e2 : A * 2 ^ (f.hi + 1) + X * 2 ^ f.lo + C =
          C + 2 ^ (g.hi + 1) * ((A * 2 ^ fldWidth f + X) * 2 ^ (f.lo - (g.hi + 1))) := by
        have : 2 ^ f.lo = 2 ^ (g.hi + 1) * 2 ^ (f.lo - (g.hi + 1)) := by rw [← pow_add]; congr 1; omega
        rw [hp, this]; ring
      have hq : 2 ^ (g.hi + 1) = 2 ^ g.lo * 2 ^ (g.hi + 1 - g.lo) := by rw [← pow_add]; congr 1; omega
      simp only [natField, Nat.shiftRight_eq_div_pow]
      rw [e2, hq, Nat.mul_assoc, Nat.add_mul_div_left _ _ (by positivity), Nat.add_mul_mod_self_left]
    rw [key V, key U]
  · -- above: both agree after division by 2 ^ (f.hi + 1)
    have hc : C < 2 ^ f.lo := Nat.mod_lt _ (by positivity)
    have key : ∀ X : Nat, X < 2 ^ fldWidth f →
        natField (A * 2 ^ (f.hi + 1) + X * 2 ^ f.lo + C) g.hi g.lo = A / 2 ^ (g.lo - (f.hi + 1)) % 2 ^ (g.hi + 1 - g.lo) := by
      intro X hX
      have hlt : X * 2 ^ f.lo + C < 2 ^ (f.hi + 1) := by
        have h6 : (X + 1) * 2 ^ f.lo ≤ 2 ^ fldWidth f * 2 ^ f.lo := Nat.mul_le_mul_right _ hX
        rw [Nat.mul_comm (2 ^ fldWidth f), ← hp, Nat.add_mul, Nat.one_mul] at h6
        omega
      have hq : 2 ^ g.lo = 2 ^ (f.hi + 1) * 2 ^ (g.lo - (f.hi + 1)) := by rw [← pow_add]; congr 1; omega
      simp only [natField, Nat.shiftRight_eq_div_pow]
      rw [hq, ← Nat.div_div_eq_div_mul, Nat.add_assoc, Nat.add_comm, Nat.mul_comm A, Nat.add_mul_div_left _ _ (by positivity),
        Nat.div_eq_of_lt hlt, Nat.zero_add]
    rw [key V (Nat.mod_lt _ (by positivity)), key U (Nat.mod_lt _ (by positivity))]

/-- A one-bit field reads the flag written to it. -/
theorem fbit_fset_bit (w : Word) (i : Nat) (b : Bool) (h : i < 32) :
    fbit (fset w ⟨i, i⟩ (if b then 1 else 0)) ⟨i, i⟩ = b := by
  rw [fbit, fget_fset_same _ _ _ (Nat.le_refl _) h]
  cases b <;> simp [fldWidth]

end Sys2Proof.Machine
end

