-- ==== Sys2Proof/Laws/Maps.lean ====
section
/-!
SUPPORT. Sparse maps: what a key reads as after a write, and that every operation keeps the canonical form.
-/

namespace Sys2Proof.Machine

@[simp] theorem mfind_mput_same {α : Type} (m : NMap α) (q : Nat) (v : α) : mfind (mput m q v) q = some v := by
  induction m with
  | nil => simp [mput, mfind]
  | cons e m ih =>
    obtain ⟨k, u⟩ := e
    unfold mput
    split_ifs with h1 h2
    · simp [mfind]
    · simp [mfind]
    · simp [mfind, h1, ih]

theorem mfind_mput_other {α : Type} (m : NMap α) (q r : Nat) (v : α) (h : r ≠ q) :
    mfind (mput m q v) r = mfind m r := by
  induction m with
  | nil => simp [mput, mfind, h]
  | cons e m ih =>
    obtain ⟨k, u⟩ := e
    unfold mput
    split_ifs with h1 h2
    · subst h1; simp [mfind, h]
    · simp [mfind, h]
    · by_cases h3 : r = k <;> simp [mfind, h3, ih]

@[simp] theorem mfind_mdel_same {α : Type} (m : NMap α) (q : Nat) : mfind (mdel m q) q = none := by
  induction m with
  | nil => rfl
  | cons e m ih =>
    obtain ⟨k, u⟩ := e
    unfold mdel
    split_ifs with h1
    · exact ih
    · simp [mfind, h1, ih]

theorem mfind_mdel_other {α : Type} (m : NMap α) (q r : Nat) (h : r ≠ q) : mfind (mdel m q) r = mfind m r := by
  induction m with
  | nil => rfl
  | cons e m ih =>
    obtain ⟨k, u⟩ := e
    unfold mdel
    split_ifs with h1
    · subst h1; simp [mfind, h, ih]
    · by_cases h3 : r = k <;> simp [mfind, h3, ih]

/-- A key reads the value last written to it. -/
@[simp] theorem mget_mset_same {α : Type} [DecidableEq α] (d : Nat → α) (m : NMap α) (q : Nat) (v : α) :
    mget d (mset d m q v) q = v := by
  unfold mget mset
  split_ifs with h
  · simp [h]
  · simp

/-- A write leaves every other key alone. -/
theorem mget_mset_other {α : Type} [DecidableEq α] (d : Nat → α) (m : NMap α) (q r : Nat) (v : α) (h : r ≠ q) :
    mget d (mset d m q v) r = mget d m r := by
  unfold mget mset
  split_ifs with h1
  · rw [mfind_mdel_other m q r h]
  · rw [mfind_mput_other m q r v h]

theorem mget_mset {α : Type} [DecidableEq α] (d : Nat → α) (m : NMap α) (q r : Nat) (v : α) :
    mget d (mset d m q v) r = if r = q then v else mget d m r := by
  split_ifs with h
  · subst h; simp
  · exact mget_mset_other d m q r v h

theorem msorted_weaken {α : Type} (m : NMap α) (a b : Nat) (h : a ≤ b) (hm : msorted (some b) m = true) :
    msorted (some a) m = true := by
  cases m with
  | nil => rfl
  | cons e m =>
    simp only [msorted, Bool.and_eq_true, decide_eq_true_eq] at hm ⊢
    exact ⟨by omega, hm.2⟩

theorem msorted_mput_some {α : Type} (m : NMap α) (b q : Nat) (v : α) (hb : b < q) (hm : msorted (some b) m = true) :
    msorted (some b) (mput m q v) = true := by
  induction m generalizing b with
  | nil => simp [mput, msorted, hb]
  | cons e m ih =>
    obtain ⟨k, u⟩ := e
    simp only [msorted, Bool.and_eq_true, decide_eq_true_eq] at hm
    unfold mput
    split_ifs with h1 h2
    · subst h1; simp [msorted, hm.1, hm.2]
    · simp [msorted, hb, h2, hm.2]
    · simp only [msorted, Bool.and_eq_true, decide_eq_true_eq]
      exact ⟨hm.1, ih k (by omega) hm.2⟩

theorem msorted_mput {α : Type} (m : NMap α) (q : Nat) (v : α) (hm : msorted none m = true) :
    msorted none (mput m q v) = true := by
  cases m with
  | nil => simp [mput, msorted]
  | cons e m =>
    obtain ⟨k, u⟩ := e
    simp only [msorted, Bool.true_and] at hm
    unfold mput
    split_ifs with h1 h2
    · subst h1; simpa [msorted] using hm
    · simp [msorted, h2, hm]
    · simpa [msorted] using msorted_mput_some m k q v (by omega) hm

theorem msorted_mdel_some {α : Type} (m : NMap α) (b q : Nat) (hm : msorted (some b) m = true) :
    msorted (some b) (mdel m q) = true := by
  induction m generalizing b with
  | nil => rfl
  | cons e m ih =>
    obtain ⟨k, u⟩ := e
    simp only [msorted, Bool.and_eq_true, decide_eq_true_eq] at hm
    unfold mdel
    split_ifs with h1
    · exact ih b (msorted_weaken m b k (by omega) hm.2)
    · simp only [msorted, Bool.and_eq_true, decide_eq_true_eq]
      exact ⟨hm.1, ih k hm.2⟩

theorem msorted_mdel {α : Type} (m : NMap α) (q : Nat) (hm : msorted none m = true) :
    msorted none (mdel m q) = true := by
  induction m with
  | nil => rfl
  | cons e m ih =>
    obtain ⟨k, u⟩ := e
    simp only [msorted, Bool.true_and] at hm
    unfold mdel
    split_ifs with h1
    · refine ih ?_
      cases m with
      | nil => rfl
      | cons e' m' => simp only [msorted, Bool.and_eq_true, Bool.true_and] at hm ⊢; exact hm.2
    · simp only [msorted, Bool.true_and]; exact msorted_mdel_some m k q hm

theorem mlean_mput {α : Type} [DecidableEq α] (d : Nat → α) (m : NMap α) (q : Nat) (v : α) (hv : v ≠ d q)
    (hm : mlean d m = true) : mlean d (mput m q v) = true := by
  induction m with
  | nil => simp [mput, mlean, hv]
  | cons e m ih =>
    obtain ⟨k, u⟩ := e
    simp only [mlean, Bool.and_eq_true, decide_eq_true_eq] at hm
    unfold mput
    split_ifs with h1 h2
    · subst h1; simp [mlean, hv, hm.2]
    · simp [mlean, hv, hm.1, hm.2]
    · simp [mlean, hm.1, ih hm.2]

theorem mlean_mdel {α : Type} [DecidableEq α] (d : Nat → α) (m : NMap α) (q : Nat) (hm : mlean d m = true) :
    mlean d (mdel m q) = true := by
  induction m with
  | nil => rfl
  | cons e m ih =>
    obtain ⟨k, u⟩ := e
    simp only [mlean, Bool.and_eq_true, decide_eq_true_eq] at hm
    unfold mdel
    split_ifs with h1
    · exact ih hm.2
    · simp [mlean, hm.1, ih hm.2]

/-- Every write keeps the canonical form. -/
theorem mwf_mset {α : Type} [DecidableEq α] (d : Nat → α) (m : NMap α) (q : Nat) (v : α) (hm : mwf d m = true) :
    mwf d (mset d m q v) = true := by
  simp only [mwf, Bool.and_eq_true] at hm ⊢
  unfold mset
  split_ifs with h
  · exact ⟨msorted_mdel m q hm.1, mlean_mdel d m q hm.2⟩
  · exact ⟨msorted_mput m q v hm.1, mlean_mput d m q v h hm.2⟩

/-- Leaving keys out keeps the canonical form. -/
theorem msorted_mfilter_some {α : Type} (p : Nat → Bool) (m : NMap α) (b : Nat) (hm : msorted (some b) m = true) :
    msorted (some b) (mfilter p m) = true := by
  induction m generalizing b with
  | nil => rfl
  | cons e m ih =>
    simp only [msorted, Bool.and_eq_true, decide_eq_true_eq] at hm
    unfold mfilter at ih ⊢
    rw [List.filter_cons]
    split_ifs
    · simp only [msorted, Bool.and_eq_true, decide_eq_true_eq]; exact ⟨hm.1, ih _ hm.2⟩
    · exact ih b (msorted_weaken m b e.1 (by omega) hm.2)

theorem contains_nsInsert_same (m : NSet) (q : Nat) : (nsInsert m q).contains q = true := by
  induction m with
  | nil => simp [nsInsert]
  | cons k m ih =>
    unfold nsInsert
    split_ifs with h1 h2
    · simp [h1]
    · simp
    · simp only [List.contains_cons, Bool.or_eq_true]; exact Or.inr ih

theorem contains_nsErase_same (m : NSet) (q : Nat) : (nsErase m q).contains q = false := by
  induction m with
  | nil => rfl
  | cons k m ih =>
    unfold nsErase
    split_ifs with h1
    · exact ih
    · simp only [List.contains_cons, Bool.or_eq_false_iff]; exact ⟨by simpa using h1, ih⟩

theorem contains_nsErase_other (m : NSet) (q r : Nat) (h : r ≠ q) : (nsErase m q).contains r = m.contains r := by
  induction m with
  | nil => rfl
  | cons k m ih =>
    unfold nsErase
    split_ifs with h1
    · subst h1; simp only [List.contains_cons, ih]; simp [h]
    · simp only [List.contains_cons, ih]

end Sys2Proof.Machine
end

