-- ==== Sys2Proof/Laws/State.lean ====
section
/-!
SUPPORT. What the updates of one part of the state leave alone: one lemma per update and part.
-/

namespace Sys2Proof.Machine
open Sys2Proof

variable (s : State)

@[simp] theorem setReg_pending (a : Nat) (v : Word) : (setReg a v s).pending = s.pending := rfl
@[simp] theorem setReg_freeCtr (a : Nat) (v : Word) : (setReg a v s).freeCtr = s.freeCtr := rfl
@[simp] theorem setReg_straps (a : Nat) (v : Word) : (setReg a v s).straps = s.straps := rfl
@[simp] theorem setReg_time (a : Nat) (v : Word) : (setReg a v s).time = s.time := rfl
@[simp] theorem setReg_ports (a : Nat) (v : Word) : (setReg a v s).ports = s.ports := rfl
@[simp] theorem setReg_disp (a : Nat) (v : Word) : (setReg a v s).disp = s.disp := rfl
@[simp] theorem setReg_grv (a : Nat) (v : Word) : (setReg a v s).grv = s.grv := rfl
@[simp] theorem setReg_pgu (a : Nat) (v : Word) : (setReg a v s).pgu = s.pgu := rfl
@[simp] theorem setReg_ctx (a : Nat) (v : Word) : (setReg a v s).ctx = s.ctx := rfl
@[simp] theorem setReg_store (a : Nat) (v : Word) : (setReg a v s).store = s.store := rfl
@[simp] theorem setReg_clr (a : Nat) (v : Word) : (setReg a v s).clr = s.clr := rfl
@[simp] theorem setReg_sch (a : Nat) (v : Word) : (setReg a v s).sch = s.sch := rfl
@[simp] theorem setReg_gate (a : Nat) (v : Word) : (setReg a v s).gate = s.gate := rfl
@[simp] theorem setReg_ep (a : Nat) (v : Word) : (setReg a v s).ep = s.ep := rfl
@[simp] theorem setReg_emt (a : Nat) (v : Word) : (setReg a v s).emt = s.emt := rfl
@[simp] theorem setReg_thk (a : Nat) (v : Word) : (setReg a v s).thk = s.thk := rfl
@[simp] theorem setReg_tae (a : Nat) (v : Word) : (setReg a v s).tae = s.tae := rfl
@[simp] theorem setReg_lko (a : Nat) (v : Word) : (setReg a v s).lko = s.lko := rfl
@[simp] theorem setReg_svc (a : Nat) (v : Word) : (setReg a v s).svc = s.svc := rfl
@[simp] theorem setReg_rw (a : Nat) (v : Word) : (setReg a v s).rw = s.rw := rfl
@[simp] theorem setReg_hw (a : Nat) (v : Word) : (setReg a v s).hw = s.hw := rfl
@[simp] theorem setReg_sap (a : Nat) (v : Word) : (setReg a v s).sap = s.sap := rfl
@[simp] theorem setReg_host (a : Nat) (v : Word) : (setReg a v s).host = s.host := rfl
@[simp] theorem setReg_ic (a : Nat) (v : Word) : (setReg a v s).ic = s.ic := rfl
@[simp] theorem setReg_pin (a : Nat) (v : Word) : (setReg a v s).pin = s.pin := rfl

@[simp] theorem setRegF_pending (a : Nat) (f : Fld) (v : Nat) : (setRegF a f v s).pending = s.pending := rfl
@[simp] theorem setRegF_freeCtr (a : Nat) (f : Fld) (v : Nat) : (setRegF a f v s).freeCtr = s.freeCtr := rfl
@[simp] theorem setRegF_straps (a : Nat) (f : Fld) (v : Nat) : (setRegF a f v s).straps = s.straps := rfl
@[simp] theorem setRegF_time (a : Nat) (f : Fld) (v : Nat) : (setRegF a f v s).time = s.time := rfl
@[simp] theorem setRegF_ports (a : Nat) (f : Fld) (v : Nat) : (setRegF a f v s).ports = s.ports := rfl
@[simp] theorem setRegF_disp (a : Nat) (f : Fld) (v : Nat) : (setRegF a f v s).disp = s.disp := rfl
@[simp] theorem setRegF_grv (a : Nat) (f : Fld) (v : Nat) : (setRegF a f v s).grv = s.grv := rfl
@[simp] theorem setRegF_pgu (a : Nat) (f : Fld) (v : Nat) : (setRegF a f v s).pgu = s.pgu := rfl
@[simp] theorem setRegF_ctx (a : Nat) (f : Fld) (v : Nat) : (setRegF a f v s).ctx = s.ctx := rfl
@[simp] theorem setRegF_store (a : Nat) (f : Fld) (v : Nat) : (setRegF a f v s).store = s.store := rfl
@[simp] theorem setRegF_clr (a : Nat) (f : Fld) (v : Nat) : (setRegF a f v s).clr = s.clr := rfl
@[simp] theorem setRegF_sch (a : Nat) (f : Fld) (v : Nat) : (setRegF a f v s).sch = s.sch := rfl
@[simp] theorem setRegF_gate (a : Nat) (f : Fld) (v : Nat) : (setRegF a f v s).gate = s.gate := rfl
@[simp] theorem setRegF_ep (a : Nat) (f : Fld) (v : Nat) : (setRegF a f v s).ep = s.ep := rfl
@[simp] theorem setRegF_emt (a : Nat) (f : Fld) (v : Nat) : (setRegF a f v s).emt = s.emt := rfl
@[simp] theorem setRegF_thk (a : Nat) (f : Fld) (v : Nat) : (setRegF a f v s).thk = s.thk := rfl
@[simp] theorem setRegF_tae (a : Nat) (f : Fld) (v : Nat) : (setRegF a f v s).tae = s.tae := rfl
@[simp] theorem setRegF_lko (a : Nat) (f : Fld) (v : Nat) : (setRegF a f v s).lko = s.lko := rfl
@[simp] theorem setRegF_svc (a : Nat) (f : Fld) (v : Nat) : (setRegF a f v s).svc = s.svc := rfl
@[simp] theorem setRegF_rw (a : Nat) (f : Fld) (v : Nat) : (setRegF a f v s).rw = s.rw := rfl
@[simp] theorem setRegF_hw (a : Nat) (f : Fld) (v : Nat) : (setRegF a f v s).hw = s.hw := rfl
@[simp] theorem setRegF_sap (a : Nat) (f : Fld) (v : Nat) : (setRegF a f v s).sap = s.sap := rfl
@[simp] theorem setRegF_host (a : Nat) (f : Fld) (v : Nat) : (setRegF a f v s).host = s.host := rfl
@[simp] theorem setRegF_ic (a : Nat) (f : Fld) (v : Nat) : (setRegF a f v s).ic = s.ic := rfl
@[simp] theorem setRegF_pin (a : Nat) (f : Fld) (v : Nat) : (setRegF a f v s).pin = s.pin := rfl

@[simp] theorem setRegB_pending (a : Nat) (f : Fld) (b : Bool) : (setRegB a f b s).pending = s.pending := rfl
@[simp] theorem setRegB_freeCtr (a : Nat) (f : Fld) (b : Bool) : (setRegB a f b s).freeCtr = s.freeCtr := rfl
@[simp] theorem setRegB_straps (a : Nat) (f : Fld) (b : Bool) : (setRegB a f b s).straps = s.straps := rfl
@[simp] theorem setRegB_time (a : Nat) (f : Fld) (b : Bool) : (setRegB a f b s).time = s.time := rfl
@[simp] theorem setRegB_ports (a : Nat) (f : Fld) (b : Bool) : (setRegB a f b s).ports = s.ports := rfl
@[simp] theorem setRegB_disp (a : Nat) (f : Fld) (b : Bool) : (setRegB a f b s).disp = s.disp := rfl
@[simp] theorem setRegB_grv (a : Nat) (f : Fld) (b : Bool) : (setRegB a f b s).grv = s.grv := rfl
@[simp] theorem setRegB_pgu (a : Nat) (f : Fld) (b : Bool) : (setRegB a f b s).pgu = s.pgu := rfl
@[simp] theorem setRegB_ctx (a : Nat) (f : Fld) (b : Bool) : (setRegB a f b s).ctx = s.ctx := rfl
@[simp] theorem setRegB_store (a : Nat) (f : Fld) (b : Bool) : (setRegB a f b s).store = s.store := rfl
@[simp] theorem setRegB_clr (a : Nat) (f : Fld) (b : Bool) : (setRegB a f b s).clr = s.clr := rfl
@[simp] theorem setRegB_sch (a : Nat) (f : Fld) (b : Bool) : (setRegB a f b s).sch = s.sch := rfl
@[simp] theorem setRegB_gate (a : Nat) (f : Fld) (b : Bool) : (setRegB a f b s).gate = s.gate := rfl
@[simp] theorem setRegB_ep (a : Nat) (f : Fld) (b : Bool) : (setRegB a f b s).ep = s.ep := rfl
@[simp] theorem setRegB_emt (a : Nat) (f : Fld) (b : Bool) : (setRegB a f b s).emt = s.emt := rfl
@[simp] theorem setRegB_thk (a : Nat) (f : Fld) (b : Bool) : (setRegB a f b s).thk = s.thk := rfl
@[simp] theorem setRegB_tae (a : Nat) (f : Fld) (b : Bool) : (setRegB a f b s).tae = s.tae := rfl
@[simp] theorem setRegB_lko (a : Nat) (f : Fld) (b : Bool) : (setRegB a f b s).lko = s.lko := rfl
@[simp] theorem setRegB_svc (a : Nat) (f : Fld) (b : Bool) : (setRegB a f b s).svc = s.svc := rfl
@[simp] theorem setRegB_rw (a : Nat) (f : Fld) (b : Bool) : (setRegB a f b s).rw = s.rw := rfl
@[simp] theorem setRegB_hw (a : Nat) (f : Fld) (b : Bool) : (setRegB a f b s).hw = s.hw := rfl
@[simp] theorem setRegB_sap (a : Nat) (f : Fld) (b : Bool) : (setRegB a f b s).sap = s.sap := rfl
@[simp] theorem setRegB_host (a : Nat) (f : Fld) (b : Bool) : (setRegB a f b s).host = s.host := rfl
@[simp] theorem setRegB_ic (a : Nat) (f : Fld) (b : Bool) : (setRegB a f b s).ic = s.ic := rfl
@[simp] theorem setRegB_pin (a : Nat) (f : Fld) (b : Bool) : (setRegB a f b s).pin = s.pin := rfl

@[simp] theorem writeLive_pending (a : Nat) (v : Word) : (writeLive a v s).pending = s.pending := rfl
@[simp] theorem writeLive_freeCtr (a : Nat) (v : Word) : (writeLive a v s).freeCtr = s.freeCtr := rfl
@[simp] theorem writeLive_straps (a : Nat) (v : Word) : (writeLive a v s).straps = s.straps := rfl
@[simp] theorem writeLive_time (a : Nat) (v : Word) : (writeLive a v s).time = s.time := rfl
@[simp] theorem writeLive_ports (a : Nat) (v : Word) : (writeLive a v s).ports = s.ports := rfl
@[simp] theorem writeLive_disp (a : Nat) (v : Word) : (writeLive a v s).disp = s.disp := rfl
@[simp] theorem writeLive_grv (a : Nat) (v : Word) : (writeLive a v s).grv = s.grv := rfl
@[simp] theorem writeLive_pgu (a : Nat) (v : Word) : (writeLive a v s).pgu = s.pgu := rfl
@[simp] theorem writeLive_ctx (a : Nat) (v : Word) : (writeLive a v s).ctx = s.ctx := rfl
@[simp] theorem writeLive_store (a : Nat) (v : Word) : (writeLive a v s).store = s.store := rfl
@[simp] theorem writeLive_clr (a : Nat) (v : Word) : (writeLive a v s).clr = s.clr := rfl
@[simp] theorem writeLive_sch (a : Nat) (v : Word) : (writeLive a v s).sch = s.sch := rfl
@[simp] theorem writeLive_gate (a : Nat) (v : Word) : (writeLive a v s).gate = s.gate := rfl
@[simp] theorem writeLive_ep (a : Nat) (v : Word) : (writeLive a v s).ep = s.ep := rfl
@[simp] theorem writeLive_emt (a : Nat) (v : Word) : (writeLive a v s).emt = s.emt := rfl
@[simp] theorem writeLive_thk (a : Nat) (v : Word) : (writeLive a v s).thk = s.thk := rfl
@[simp] theorem writeLive_tae (a : Nat) (v : Word) : (writeLive a v s).tae = s.tae := rfl
@[simp] theorem writeLive_lko (a : Nat) (v : Word) : (writeLive a v s).lko = s.lko := rfl
@[simp] theorem writeLive_svc (a : Nat) (v : Word) : (writeLive a v s).svc = s.svc := rfl
@[simp] theorem writeLive_rw (a : Nat) (v : Word) : (writeLive a v s).rw = s.rw := rfl
@[simp] theorem writeLive_hw (a : Nat) (v : Word) : (writeLive a v s).hw = s.hw := rfl
@[simp] theorem writeLive_sap (a : Nat) (v : Word) : (writeLive a v s).sap = s.sap := rfl
@[simp] theorem writeLive_host (a : Nat) (v : Word) : (writeLive a v s).host = s.host := rfl
@[simp] theorem writeLive_ic (a : Nat) (v : Word) : (writeLive a v s).ic = s.ic := rfl
@[simp] theorem writeLive_pin (a : Nat) (v : Word) : (writeLive a v s).pin = s.pin := rfl

@[simp] theorem applyLive_pending (a : Nat) : (applyLive a s).pending = s.pending := rfl
@[simp] theorem applyLive_freeCtr (a : Nat) : (applyLive a s).freeCtr = s.freeCtr := rfl
@[simp] theorem applyLive_straps (a : Nat) : (applyLive a s).straps = s.straps := rfl
@[simp] theorem applyLive_time (a : Nat) : (applyLive a s).time = s.time := rfl
@[simp] theorem applyLive_ports (a : Nat) : (applyLive a s).ports = s.ports := rfl
@[simp] theorem applyLive_disp (a : Nat) : (applyLive a s).disp = s.disp := rfl
@[simp] theorem applyLive_grv (a : Nat) : (applyLive a s).grv = s.grv := rfl
@[simp] theorem applyLive_pgu (a : Nat) : (applyLive a s).pgu = s.pgu := rfl
@[simp] theorem applyLive_ctx (a : Nat) : (applyLive a s).ctx = s.ctx := rfl
@[simp] theorem applyLive_store (a : Nat) : (applyLive a s).store = s.store := rfl
@[simp] theorem applyLive_clr (a : Nat) : (applyLive a s).clr = s.clr := rfl
@[simp] theorem applyLive_sch (a : Nat) : (applyLive a s).sch = s.sch := rfl
@[simp] theorem applyLive_gate (a : Nat) : (applyLive a s).gate = s.gate := rfl
@[simp] theorem applyLive_ep (a : Nat) : (applyLive a s).ep = s.ep := rfl
@[simp] theorem applyLive_emt (a : Nat) : (applyLive a s).emt = s.emt := rfl
@[simp] theorem applyLive_thk (a : Nat) : (applyLive a s).thk = s.thk := rfl
@[simp] theorem applyLive_tae (a : Nat) : (applyLive a s).tae = s.tae := rfl
@[simp] theorem applyLive_lko (a : Nat) : (applyLive a s).lko = s.lko := rfl
@[simp] theorem applyLive_svc (a : Nat) : (applyLive a s).svc = s.svc := rfl
@[simp] theorem applyLive_rw (a : Nat) : (applyLive a s).rw = s.rw := rfl
@[simp] theorem applyLive_hw (a : Nat) : (applyLive a s).hw = s.hw := rfl
@[simp] theorem applyLive_sap (a : Nat) : (applyLive a s).sap = s.sap := rfl
@[simp] theorem applyLive_host (a : Nat) : (applyLive a s).host = s.host := rfl
@[simp] theorem applyLive_ic (a : Nat) : (applyLive a s).ic = s.ic := rfl
@[simp] theorem applyLive_pin (a : Nat) : (applyLive a s).pin = s.pin := rfl

@[simp] theorem setCtr_pending (a v : Nat) : (setCtr a v s).pending = s.pending := rfl
@[simp] theorem setCtr_freeCtr (a v : Nat) : (setCtr a v s).freeCtr = s.freeCtr := rfl
@[simp] theorem setCtr_straps (a v : Nat) : (setCtr a v s).straps = s.straps := rfl
@[simp] theorem setCtr_time (a v : Nat) : (setCtr a v s).time = s.time := rfl
@[simp] theorem setCtr_ports (a v : Nat) : (setCtr a v s).ports = s.ports := rfl
@[simp] theorem setCtr_disp (a v : Nat) : (setCtr a v s).disp = s.disp := rfl
@[simp] theorem setCtr_grv (a v : Nat) : (setCtr a v s).grv = s.grv := rfl
@[simp] theorem setCtr_pgu (a v : Nat) : (setCtr a v s).pgu = s.pgu := rfl
@[simp] theorem setCtr_ctx (a v : Nat) : (setCtr a v s).ctx = s.ctx := rfl
@[simp] theorem setCtr_store (a v : Nat) : (setCtr a v s).store = s.store := rfl
@[simp] theorem setCtr_clr (a v : Nat) : (setCtr a v s).clr = s.clr := rfl
@[simp] theorem setCtr_sch (a v : Nat) : (setCtr a v s).sch = s.sch := rfl
@[simp] theorem setCtr_gate (a v : Nat) : (setCtr a v s).gate = s.gate := rfl
@[simp] theorem setCtr_ep (a v : Nat) : (setCtr a v s).ep = s.ep := rfl
@[simp] theorem setCtr_emt (a v : Nat) : (setCtr a v s).emt = s.emt := rfl
@[simp] theorem setCtr_thk (a v : Nat) : (setCtr a v s).thk = s.thk := rfl
@[simp] theorem setCtr_tae (a v : Nat) : (setCtr a v s).tae = s.tae := rfl
@[simp] theorem setCtr_lko (a v : Nat) : (setCtr a v s).lko = s.lko := rfl
@[simp] theorem setCtr_svc (a v : Nat) : (setCtr a v s).svc = s.svc := rfl
@[simp] theorem setCtr_rw (a v : Nat) : (setCtr a v s).rw = s.rw := rfl
@[simp] theorem setCtr_hw (a v : Nat) : (setCtr a v s).hw = s.hw := rfl
@[simp] theorem setCtr_sap (a v : Nat) : (setCtr a v s).sap = s.sap := rfl
@[simp] theorem setCtr_host (a v : Nat) : (setCtr a v s).host = s.host := rfl
@[simp] theorem setCtr_ic (a v : Nat) : (setCtr a v s).ic = s.ic := rfl
@[simp] theorem setCtr_pin (a v : Nat) : (setCtr a v s).pin = s.pin := rfl

@[simp] theorem freeNext_pending : (freeNext s).pending = s.pending := rfl
@[simp] theorem freeNext_straps : (freeNext s).straps = s.straps := rfl
@[simp] theorem freeNext_bus : (freeNext s).bus = s.bus := rfl
@[simp] theorem freeNext_time : (freeNext s).time = s.time := rfl
@[simp] theorem freeNext_ports : (freeNext s).ports = s.ports := rfl
@[simp] theorem freeNext_disp : (freeNext s).disp = s.disp := rfl
@[simp] theorem freeNext_grv : (freeNext s).grv = s.grv := rfl
@[simp] theorem freeNext_pgu : (freeNext s).pgu = s.pgu := rfl
@[simp] theorem freeNext_ctx : (freeNext s).ctx = s.ctx := rfl
@[simp] theorem freeNext_store : (freeNext s).store = s.store := rfl
@[simp] theorem freeNext_clr : (freeNext s).clr = s.clr := rfl
@[simp] theorem freeNext_sch : (freeNext s).sch = s.sch := rfl
@[simp] theorem freeNext_gate : (freeNext s).gate = s.gate := rfl
@[simp] theorem freeNext_ep : (freeNext s).ep = s.ep := rfl
@[simp] theorem freeNext_emt : (freeNext s).emt = s.emt := rfl
@[simp] theorem freeNext_thk : (freeNext s).thk = s.thk := rfl
@[simp] theorem freeNext_tae : (freeNext s).tae = s.tae := rfl
@[simp] theorem freeNext_lko : (freeNext s).lko = s.lko := rfl
@[simp] theorem freeNext_svc : (freeNext s).svc = s.svc := rfl
@[simp] theorem freeNext_rw : (freeNext s).rw = s.rw := rfl
@[simp] theorem freeNext_hw : (freeNext s).hw = s.hw := rfl
@[simp] theorem freeNext_sap : (freeNext s).sap = s.sap := rfl
@[simp] theorem freeNext_host : (freeNext s).host = s.host := rfl
@[simp] theorem freeNext_ic : (freeNext s).ic = s.ic := rfl
@[simp] theorem freeNext_pin : (freeNext s).pin = s.pin := rfl

@[simp] theorem capture_pending (p q c : Nat) (b : Bool) (r : Nat) : (capture p q c b r s).pending = s.pending := rfl
@[simp] theorem capture_freeCtr (p q c : Nat) (b : Bool) (r : Nat) : (capture p q c b r s).freeCtr = s.freeCtr := rfl
@[simp] theorem capture_straps (p q c : Nat) (b : Bool) (r : Nat) : (capture p q c b r s).straps = s.straps := rfl
@[simp] theorem capture_bus (p q c : Nat) (b : Bool) (r : Nat) : (capture p q c b r s).bus = s.bus := rfl
@[simp] theorem capture_time (p q c : Nat) (b : Bool) (r : Nat) : (capture p q c b r s).time = s.time := rfl
@[simp] theorem capture_ports (p q c : Nat) (b : Bool) (r : Nat) : (capture p q c b r s).ports = s.ports := rfl
@[simp] theorem capture_disp (p q c : Nat) (b : Bool) (r : Nat) : (capture p q c b r s).disp = s.disp := rfl
@[simp] theorem capture_grv (p q c : Nat) (b : Bool) (r : Nat) : (capture p q c b r s).grv = s.grv := rfl
@[simp] theorem capture_pgu (p q c : Nat) (b : Bool) (r : Nat) : (capture p q c b r s).pgu = s.pgu := rfl
@[simp] theorem capture_ctx (p q c : Nat) (b : Bool) (r : Nat) : (capture p q c b r s).ctx = s.ctx := rfl
@[simp] theorem capture_store (p q c : Nat) (b : Bool) (r : Nat) : (capture p q c b r s).store = s.store := rfl
@[simp] theorem capture_clr (p q c : Nat) (b : Bool) (r : Nat) : (capture p q c b r s).clr = s.clr := rfl
@[simp] theorem capture_sch (p q c : Nat) (b : Bool) (r : Nat) : (capture p q c b r s).sch = s.sch := rfl
@[simp] theorem capture_gate (p q c : Nat) (b : Bool) (r : Nat) : (capture p q c b r s).gate = s.gate := rfl
@[simp] theorem capture_ep (p q c : Nat) (b : Bool) (r : Nat) : (capture p q c b r s).ep = s.ep := rfl
@[simp] theorem capture_emt (p q c : Nat) (b : Bool) (r : Nat) : (capture p q c b r s).emt = s.emt := rfl
@[simp] theorem capture_thk (p q c : Nat) (b : Bool) (r : Nat) : (capture p q c b r s).thk = s.thk := rfl
@[simp] theorem capture_tae (p q c : Nat) (b : Bool) (r : Nat) : (capture p q c b r s).tae = s.tae := rfl
@[simp] theorem capture_svc (p q c : Nat) (b : Bool) (r : Nat) : (capture p q c b r s).svc = s.svc := rfl
@[simp] theorem capture_rw (p q c : Nat) (b : Bool) (r : Nat) : (capture p q c b r s).rw = s.rw := rfl
@[simp] theorem capture_hw (p q c : Nat) (b : Bool) (r : Nat) : (capture p q c b r s).hw = s.hw := rfl
@[simp] theorem capture_sap (p q c : Nat) (b : Bool) (r : Nat) : (capture p q c b r s).sap = s.sap := rfl
@[simp] theorem capture_host (p q c : Nat) (b : Bool) (r : Nat) : (capture p q c b r s).host = s.host := rfl
@[simp] theorem capture_ic (p q c : Nat) (b : Bool) (r : Nat) : (capture p q c b r s).ic = s.ic := rfl
@[simp] theorem capture_pin (p q c : Nat) (b : Bool) (r : Nat) : (capture p q c b r s).pin = s.pin := rfl

@[simp] theorem setPort_pending (p : Nat) (v : PortSt) : (setPort p v s).pending = s.pending := rfl
@[simp] theorem setPort_freeCtr (p : Nat) (v : PortSt) : (setPort p v s).freeCtr = s.freeCtr := rfl
@[simp] theorem setPort_straps (p : Nat) (v : PortSt) : (setPort p v s).straps = s.straps := rfl
@[simp] theorem setPort_bus (p : Nat) (v : PortSt) : (setPort p v s).bus = s.bus := rfl
@[simp] theorem setPort_time (p : Nat) (v : PortSt) : (setPort p v s).time = s.time := rfl
@[simp] theorem setPort_disp (p : Nat) (v : PortSt) : (setPort p v s).disp = s.disp := rfl
@[simp] theorem setPort_grv (p : Nat) (v : PortSt) : (setPort p v s).grv = s.grv := rfl
@[simp] theorem setPort_pgu (p : Nat) (v : PortSt) : (setPort p v s).pgu = s.pgu := rfl
@[simp] theorem setPort_ctx (p : Nat) (v : PortSt) : (setPort p v s).ctx = s.ctx := rfl
@[simp] theorem setPort_store (p : Nat) (v : PortSt) : (setPort p v s).store = s.store := rfl
@[simp] theorem setPort_clr (p : Nat) (v : PortSt) : (setPort p v s).clr = s.clr := rfl
@[simp] theorem setPort_sch (p : Nat) (v : PortSt) : (setPort p v s).sch = s.sch := rfl
@[simp] theorem setPort_gate (p : Nat) (v : PortSt) : (setPort p v s).gate = s.gate := rfl
@[simp] theorem setPort_ep (p : Nat) (v : PortSt) : (setPort p v s).ep = s.ep := rfl
@[simp] theorem setPort_emt (p : Nat) (v : PortSt) : (setPort p v s).emt = s.emt := rfl
@[simp] theorem setPort_thk (p : Nat) (v : PortSt) : (setPort p v s).thk = s.thk := rfl
@[simp] theorem setPort_tae (p : Nat) (v : PortSt) : (setPort p v s).tae = s.tae := rfl
@[simp] theorem setPort_lko (p : Nat) (v : PortSt) : (setPort p v s).lko = s.lko := rfl
@[simp] theorem setPort_svc (p : Nat) (v : PortSt) : (setPort p v s).svc = s.svc := rfl
@[simp] theorem setPort_rw (p : Nat) (v : PortSt) : (setPort p v s).rw = s.rw := rfl
@[simp] theorem setPort_hw (p : Nat) (v : PortSt) : (setPort p v s).hw = s.hw := rfl
@[simp] theorem setPort_sap (p : Nat) (v : PortSt) : (setPort p v s).sap = s.sap := rfl
@[simp] theorem setPort_host (p : Nat) (v : PortSt) : (setPort p v s).host = s.host := rfl
@[simp] theorem setPort_ic (p : Nat) (v : PortSt) : (setPort p v s).ic = s.ic := rfl
@[simp] theorem setPort_pin (p : Nat) (v : PortSt) : (setPort p v s).pin = s.pin := rfl

@[simp] theorem setPass_pending (k : Nat) (p : Pass) : (setPass k p s).pending = s.pending := rfl
@[simp] theorem setPass_freeCtr (k : Nat) (p : Pass) : (setPass k p s).freeCtr = s.freeCtr := rfl
@[simp] theorem setPass_straps (k : Nat) (p : Pass) : (setPass k p s).straps = s.straps := rfl
@[simp] theorem setPass_bus (k : Nat) (p : Pass) : (setPass k p s).bus = s.bus := rfl
@[simp] theorem setPass_time (k : Nat) (p : Pass) : (setPass k p s).time = s.time := rfl
@[simp] theorem setPass_ports (k : Nat) (p : Pass) : (setPass k p s).ports = s.ports := rfl
@[simp] theorem setPass_grv (k : Nat) (p : Pass) : (setPass k p s).grv = s.grv := rfl
@[simp] theorem setPass_pgu (k : Nat) (p : Pass) : (setPass k p s).pgu = s.pgu := rfl
@[simp] theorem setPass_ctx (k : Nat) (p : Pass) : (setPass k p s).ctx = s.ctx := rfl
@[simp] theorem setPass_store (k : Nat) (p : Pass) : (setPass k p s).store = s.store := rfl
@[simp] theorem setPass_clr (k : Nat) (p : Pass) : (setPass k p s).clr = s.clr := rfl
@[simp] theorem setPass_sch (k : Nat) (p : Pass) : (setPass k p s).sch = s.sch := rfl
@[simp] theorem setPass_gate (k : Nat) (p : Pass) : (setPass k p s).gate = s.gate := rfl
@[simp] theorem setPass_ep (k : Nat) (p : Pass) : (setPass k p s).ep = s.ep := rfl
@[simp] theorem setPass_emt (k : Nat) (p : Pass) : (setPass k p s).emt = s.emt := rfl
@[simp] theorem setPass_thk (k : Nat) (p : Pass) : (setPass k p s).thk = s.thk := rfl
@[simp] theorem setPass_tae (k : Nat) (p : Pass) : (setPass k p s).tae = s.tae := rfl
@[simp] theorem setPass_lko (k : Nat) (p : Pass) : (setPass k p s).lko = s.lko := rfl
@[simp] theorem setPass_svc (k : Nat) (p : Pass) : (setPass k p s).svc = s.svc := rfl
@[simp] theorem setPass_rw (k : Nat) (p : Pass) : (setPass k p s).rw = s.rw := rfl
@[simp] theorem setPass_hw (k : Nat) (p : Pass) : (setPass k p s).hw = s.hw := rfl
@[simp] theorem setPass_sap (k : Nat) (p : Pass) : (setPass k p s).sap = s.sap := rfl
@[simp] theorem setPass_host (k : Nat) (p : Pass) : (setPass k p s).host = s.host := rfl
@[simp] theorem setPass_ic (k : Nat) (p : Pass) : (setPass k p s).ic = s.ic := rfl
@[simp] theorem setPass_pin (k : Nat) (p : Pass) : (setPass k p s).pin = s.pin := rfl

@[simp] theorem setDispQ_pending (q : Nat) (l : List Nat) : (setDispQ q l s).pending = s.pending := rfl
@[simp] theorem setDispQ_freeCtr (q : Nat) (l : List Nat) : (setDispQ q l s).freeCtr = s.freeCtr := rfl
@[simp] theorem setDispQ_straps (q : Nat) (l : List Nat) : (setDispQ q l s).straps = s.straps := rfl
@[simp] theorem setDispQ_bus (q : Nat) (l : List Nat) : (setDispQ q l s).bus = s.bus := rfl
@[simp] theorem setDispQ_time (q : Nat) (l : List Nat) : (setDispQ q l s).time = s.time := rfl
@[simp] theorem setDispQ_ports (q : Nat) (l : List Nat) : (setDispQ q l s).ports = s.ports := rfl
@[simp] theorem setDispQ_grv (q : Nat) (l : List Nat) : (setDispQ q l s).grv = s.grv := rfl
@[simp] theorem setDispQ_pgu (q : Nat) (l : List Nat) : (setDispQ q l s).pgu = s.pgu := rfl
@[simp] theorem setDispQ_ctx (q : Nat) (l : List Nat) : (setDispQ q l s).ctx = s.ctx := rfl
@[simp] theorem setDispQ_store (q : Nat) (l : List Nat) : (setDispQ q l s).store = s.store := rfl
@[simp] theorem setDispQ_clr (q : Nat) (l : List Nat) : (setDispQ q l s).clr = s.clr := rfl
@[simp] theorem setDispQ_sch (q : Nat) (l : List Nat) : (setDispQ q l s).sch = s.sch := rfl
@[simp] theorem setDispQ_gate (q : Nat) (l : List Nat) : (setDispQ q l s).gate = s.gate := rfl
@[simp] theorem setDispQ_ep (q : Nat) (l : List Nat) : (setDispQ q l s).ep = s.ep := rfl
@[simp] theorem setDispQ_emt (q : Nat) (l : List Nat) : (setDispQ q l s).emt = s.emt := rfl
@[simp] theorem setDispQ_thk (q : Nat) (l : List Nat) : (setDispQ q l s).thk = s.thk := rfl
@[simp] theorem setDispQ_tae (q : Nat) (l : List Nat) : (setDispQ q l s).tae = s.tae := rfl
@[simp] theorem setDispQ_lko (q : Nat) (l : List Nat) : (setDispQ q l s).lko = s.lko := rfl
@[simp] theorem setDispQ_svc (q : Nat) (l : List Nat) : (setDispQ q l s).svc = s.svc := rfl
@[simp] theorem setDispQ_rw (q : Nat) (l : List Nat) : (setDispQ q l s).rw = s.rw := rfl
@[simp] theorem setDispQ_hw (q : Nat) (l : List Nat) : (setDispQ q l s).hw = s.hw := rfl
@[simp] theorem setDispQ_sap (q : Nat) (l : List Nat) : (setDispQ q l s).sap = s.sap := rfl
@[simp] theorem setDispQ_host (q : Nat) (l : List Nat) : (setDispQ q l s).host = s.host := rfl
@[simp] theorem setDispQ_ic (q : Nat) (l : List Nat) : (setDispQ q l s).ic = s.ic := rfl
@[simp] theorem setDispQ_pin (q : Nat) (l : List Nat) : (setDispQ q l s).pin = s.pin := rfl

@[simp] theorem setThread_pending (t : Nat) (v : Thread) : (setThread t v s).pending = s.pending := rfl
@[simp] theorem setThread_freeCtr (t : Nat) (v : Thread) : (setThread t v s).freeCtr = s.freeCtr := rfl
@[simp] theorem setThread_straps (t : Nat) (v : Thread) : (setThread t v s).straps = s.straps := rfl
@[simp] theorem setThread_bus (t : Nat) (v : Thread) : (setThread t v s).bus = s.bus := rfl
@[simp] theorem setThread_time (t : Nat) (v : Thread) : (setThread t v s).time = s.time := rfl
@[simp] theorem setThread_ports (t : Nat) (v : Thread) : (setThread t v s).ports = s.ports := rfl
@[simp] theorem setThread_disp (t : Nat) (v : Thread) : (setThread t v s).disp = s.disp := rfl
@[simp] theorem setThread_pgu (t : Nat) (v : Thread) : (setThread t v s).pgu = s.pgu := rfl
@[simp] theorem setThread_ctx (t : Nat) (v : Thread) : (setThread t v s).ctx = s.ctx := rfl
@[simp] theorem setThread_store (t : Nat) (v : Thread) : (setThread t v s).store = s.store := rfl
@[simp] theorem setThread_clr (t : Nat) (v : Thread) : (setThread t v s).clr = s.clr := rfl
@[simp] theorem setThread_sch (t : Nat) (v : Thread) : (setThread t v s).sch = s.sch := rfl
@[simp] theorem setThread_gate (t : Nat) (v : Thread) : (setThread t v s).gate = s.gate := rfl
@[simp] theorem setThread_ep (t : Nat) (v : Thread) : (setThread t v s).ep = s.ep := rfl
@[simp] theorem setThread_emt (t : Nat) (v : Thread) : (setThread t v s).emt = s.emt := rfl
@[simp] theorem setThread_thk (t : Nat) (v : Thread) : (setThread t v s).thk = s.thk := rfl
@[simp] theorem setThread_tae (t : Nat) (v : Thread) : (setThread t v s).tae = s.tae := rfl
@[simp] theorem setThread_lko (t : Nat) (v : Thread) : (setThread t v s).lko = s.lko := rfl
@[simp] theorem setThread_svc (t : Nat) (v : Thread) : (setThread t v s).svc = s.svc := rfl
@[simp] theorem setThread_rw (t : Nat) (v : Thread) : (setThread t v s).rw = s.rw := rfl
@[simp] theorem setThread_hw (t : Nat) (v : Thread) : (setThread t v s).hw = s.hw := rfl
@[simp] theorem setThread_sap (t : Nat) (v : Thread) : (setThread t v s).sap = s.sap := rfl
@[simp] theorem setThread_host (t : Nat) (v : Thread) : (setThread t v s).host = s.host := rfl
@[simp] theorem setThread_ic (t : Nat) (v : Thread) : (setThread t v s).ic = s.ic := rfl
@[simp] theorem setThread_pin (t : Nat) (v : Thread) : (setThread t v s).pin = s.pin := rfl

@[simp] theorem setCell_pending (c : Nat) (d : Bytes) (l : Nat) : (setCell c d l s).pending = s.pending := rfl
@[simp] theorem setCell_freeCtr (c : Nat) (d : Bytes) (l : Nat) : (setCell c d l s).freeCtr = s.freeCtr := rfl
@[simp] theorem setCell_straps (c : Nat) (d : Bytes) (l : Nat) : (setCell c d l s).straps = s.straps := rfl
@[simp] theorem setCell_bus (c : Nat) (d : Bytes) (l : Nat) : (setCell c d l s).bus = s.bus := rfl
@[simp] theorem setCell_time (c : Nat) (d : Bytes) (l : Nat) : (setCell c d l s).time = s.time := rfl
@[simp] theorem setCell_ports (c : Nat) (d : Bytes) (l : Nat) : (setCell c d l s).ports = s.ports := rfl
@[simp] theorem setCell_disp (c : Nat) (d : Bytes) (l : Nat) : (setCell c d l s).disp = s.disp := rfl
@[simp] theorem setCell_grv (c : Nat) (d : Bytes) (l : Nat) : (setCell c d l s).grv = s.grv := rfl
@[simp] theorem setCell_pgu (c : Nat) (d : Bytes) (l : Nat) : (setCell c d l s).pgu = s.pgu := rfl
@[simp] theorem setCell_ctx (c : Nat) (d : Bytes) (l : Nat) : (setCell c d l s).ctx = s.ctx := rfl
@[simp] theorem setCell_store (c : Nat) (d : Bytes) (l : Nat) : (setCell c d l s).store = s.store := rfl
@[simp] theorem setCell_sch (c : Nat) (d : Bytes) (l : Nat) : (setCell c d l s).sch = s.sch := rfl
@[simp] theorem setCell_gate (c : Nat) (d : Bytes) (l : Nat) : (setCell c d l s).gate = s.gate := rfl
@[simp] theorem setCell_ep (c : Nat) (d : Bytes) (l : Nat) : (setCell c d l s).ep = s.ep := rfl
@[simp] theorem setCell_emt (c : Nat) (d : Bytes) (l : Nat) : (setCell c d l s).emt = s.emt := rfl
@[simp] theorem setCell_thk (c : Nat) (d : Bytes) (l : Nat) : (setCell c d l s).thk = s.thk := rfl
@[simp] theorem setCell_tae (c : Nat) (d : Bytes) (l : Nat) : (setCell c d l s).tae = s.tae := rfl
@[simp] theorem setCell_lko (c : Nat) (d : Bytes) (l : Nat) : (setCell c d l s).lko = s.lko := rfl
@[simp] theorem setCell_svc (c : Nat) (d : Bytes) (l : Nat) : (setCell c d l s).svc = s.svc := rfl
@[simp] theorem setCell_rw (c : Nat) (d : Bytes) (l : Nat) : (setCell c d l s).rw = s.rw := rfl
@[simp] theorem setCell_hw (c : Nat) (d : Bytes) (l : Nat) : (setCell c d l s).hw = s.hw := rfl
@[simp] theorem setCell_sap (c : Nat) (d : Bytes) (l : Nat) : (setCell c d l s).sap = s.sap := rfl
@[simp] theorem setCell_host (c : Nat) (d : Bytes) (l : Nat) : (setCell c d l s).host = s.host := rfl
@[simp] theorem setCell_ic (c : Nat) (d : Bytes) (l : Nat) : (setCell c d l s).ic = s.ic := rfl
@[simp] theorem setCell_pin (c : Nat) (d : Bytes) (l : Nat) : (setCell c d l s).pin = s.pin := rfl

@[simp] theorem setCellInfo_pending (c : Nat) (m : CellMeta) : (setCellInfo c m s).pending = s.pending := rfl
@[simp] theorem setCellInfo_freeCtr (c : Nat) (m : CellMeta) : (setCellInfo c m s).freeCtr = s.freeCtr := rfl
@[simp] theorem setCellInfo_straps (c : Nat) (m : CellMeta) : (setCellInfo c m s).straps = s.straps := rfl
@[simp] theorem setCellInfo_bus (c : Nat) (m : CellMeta) : (setCellInfo c m s).bus = s.bus := rfl
@[simp] theorem setCellInfo_time (c : Nat) (m : CellMeta) : (setCellInfo c m s).time = s.time := rfl
@[simp] theorem setCellInfo_ports (c : Nat) (m : CellMeta) : (setCellInfo c m s).ports = s.ports := rfl
@[simp] theorem setCellInfo_disp (c : Nat) (m : CellMeta) : (setCellInfo c m s).disp = s.disp := rfl
@[simp] theorem setCellInfo_grv (c : Nat) (m : CellMeta) : (setCellInfo c m s).grv = s.grv := rfl
@[simp] theorem setCellInfo_pgu (c : Nat) (m : CellMeta) : (setCellInfo c m s).pgu = s.pgu := rfl
@[simp] theorem setCellInfo_ctx (c : Nat) (m : CellMeta) : (setCellInfo c m s).ctx = s.ctx := rfl
@[simp] theorem setCellInfo_store (c : Nat) (m : CellMeta) : (setCellInfo c m s).store = s.store := rfl
@[simp] theorem setCellInfo_sch (c : Nat) (m : CellMeta) : (setCellInfo c m s).sch = s.sch := rfl
@[simp] theorem setCellInfo_gate (c : Nat) (m : CellMeta) : (setCellInfo c m s).gate = s.gate := rfl
@[simp] theorem setCellInfo_ep (c : Nat) (m : CellMeta) : (setCellInfo c m s).ep = s.ep := rfl
@[simp] theorem setCellInfo_emt (c : Nat) (m : CellMeta) : (setCellInfo c m s).emt = s.emt := rfl
@[simp] theorem setCellInfo_thk (c : Nat) (m : CellMeta) : (setCellInfo c m s).thk = s.thk := rfl
@[simp] theorem setCellInfo_tae (c : Nat) (m : CellMeta) : (setCellInfo c m s).tae = s.tae := rfl
@[simp] theorem setCellInfo_lko (c : Nat) (m : CellMeta) : (setCellInfo c m s).lko = s.lko := rfl
@[simp] theorem setCellInfo_svc (c : Nat) (m : CellMeta) : (setCellInfo c m s).svc = s.svc := rfl
@[simp] theorem setCellInfo_rw (c : Nat) (m : CellMeta) : (setCellInfo c m s).rw = s.rw := rfl
@[simp] theorem setCellInfo_hw (c : Nat) (m : CellMeta) : (setCellInfo c m s).hw = s.hw := rfl
@[simp] theorem setCellInfo_sap (c : Nat) (m : CellMeta) : (setCellInfo c m s).sap = s.sap := rfl
@[simp] theorem setCellInfo_host (c : Nat) (m : CellMeta) : (setCellInfo c m s).host = s.host := rfl
@[simp] theorem setCellInfo_ic (c : Nat) (m : CellMeta) : (setCellInfo c m s).ic = s.ic := rfl
@[simp] theorem setCellInfo_pin (c : Nat) (m : CellMeta) : (setCellInfo c m s).pin = s.pin := rfl

@[simp] theorem setFreeList_pending (b : Nat) (f : FreeList) : (setFreeList b f s).pending = s.pending := rfl
@[simp] theorem setFreeList_freeCtr (b : Nat) (f : FreeList) : (setFreeList b f s).freeCtr = s.freeCtr := rfl
@[simp] theorem setFreeList_straps (b : Nat) (f : FreeList) : (setFreeList b f s).straps = s.straps := rfl
@[simp] theorem setFreeList_bus (b : Nat) (f : FreeList) : (setFreeList b f s).bus = s.bus := rfl
@[simp] theorem setFreeList_time (b : Nat) (f : FreeList) : (setFreeList b f s).time = s.time := rfl
@[simp] theorem setFreeList_ports (b : Nat) (f : FreeList) : (setFreeList b f s).ports = s.ports := rfl
@[simp] theorem setFreeList_disp (b : Nat) (f : FreeList) : (setFreeList b f s).disp = s.disp := rfl
@[simp] theorem setFreeList_grv (b : Nat) (f : FreeList) : (setFreeList b f s).grv = s.grv := rfl
@[simp] theorem setFreeList_pgu (b : Nat) (f : FreeList) : (setFreeList b f s).pgu = s.pgu := rfl
@[simp] theorem setFreeList_ctx (b : Nat) (f : FreeList) : (setFreeList b f s).ctx = s.ctx := rfl
@[simp] theorem setFreeList_store (b : Nat) (f : FreeList) : (setFreeList b f s).store = s.store := rfl
@[simp] theorem setFreeList_sch (b : Nat) (f : FreeList) : (setFreeList b f s).sch = s.sch := rfl
@[simp] theorem setFreeList_gate (b : Nat) (f : FreeList) : (setFreeList b f s).gate = s.gate := rfl
@[simp] theorem setFreeList_ep (b : Nat) (f : FreeList) : (setFreeList b f s).ep = s.ep := rfl
@[simp] theorem setFreeList_emt (b : Nat) (f : FreeList) : (setFreeList b f s).emt = s.emt := rfl
@[simp] theorem setFreeList_thk (b : Nat) (f : FreeList) : (setFreeList b f s).thk = s.thk := rfl
@[simp] theorem setFreeList_tae (b : Nat) (f : FreeList) : (setFreeList b f s).tae = s.tae := rfl
@[simp] theorem setFreeList_lko (b : Nat) (f : FreeList) : (setFreeList b f s).lko = s.lko := rfl
@[simp] theorem setFreeList_svc (b : Nat) (f : FreeList) : (setFreeList b f s).svc = s.svc := rfl
@[simp] theorem setFreeList_rw (b : Nat) (f : FreeList) : (setFreeList b f s).rw = s.rw := rfl
@[simp] theorem setFreeList_hw (b : Nat) (f : FreeList) : (setFreeList b f s).hw = s.hw := rfl
@[simp] theorem setFreeList_sap (b : Nat) (f : FreeList) : (setFreeList b f s).sap = s.sap := rfl
@[simp] theorem setFreeList_host (b : Nat) (f : FreeList) : (setFreeList b f s).host = s.host := rfl
@[simp] theorem setFreeList_ic (b : Nat) (f : FreeList) : (setFreeList b f s).ic = s.ic := rfl
@[simp] theorem setFreeList_pin (b : Nat) (f : FreeList) : (setFreeList b f s).pin = s.pin := rfl

@[simp] theorem setRwLink_pending (l : Nat) (v : RwLink) : (setRwLink l v s).pending = s.pending := rfl
@[simp] theorem setRwLink_freeCtr (l : Nat) (v : RwLink) : (setRwLink l v s).freeCtr = s.freeCtr := rfl
@[simp] theorem setRwLink_straps (l : Nat) (v : RwLink) : (setRwLink l v s).straps = s.straps := rfl
@[simp] theorem setRwLink_bus (l : Nat) (v : RwLink) : (setRwLink l v s).bus = s.bus := rfl
@[simp] theorem setRwLink_time (l : Nat) (v : RwLink) : (setRwLink l v s).time = s.time := rfl
@[simp] theorem setRwLink_ports (l : Nat) (v : RwLink) : (setRwLink l v s).ports = s.ports := rfl
@[simp] theorem setRwLink_disp (l : Nat) (v : RwLink) : (setRwLink l v s).disp = s.disp := rfl
@[simp] theorem setRwLink_grv (l : Nat) (v : RwLink) : (setRwLink l v s).grv = s.grv := rfl
@[simp] theorem setRwLink_pgu (l : Nat) (v : RwLink) : (setRwLink l v s).pgu = s.pgu := rfl
@[simp] theorem setRwLink_ctx (l : Nat) (v : RwLink) : (setRwLink l v s).ctx = s.ctx := rfl
@[simp] theorem setRwLink_store (l : Nat) (v : RwLink) : (setRwLink l v s).store = s.store := rfl
@[simp] theorem setRwLink_clr (l : Nat) (v : RwLink) : (setRwLink l v s).clr = s.clr := rfl
@[simp] theorem setRwLink_sch (l : Nat) (v : RwLink) : (setRwLink l v s).sch = s.sch := rfl
@[simp] theorem setRwLink_gate (l : Nat) (v : RwLink) : (setRwLink l v s).gate = s.gate := rfl
@[simp] theorem setRwLink_ep (l : Nat) (v : RwLink) : (setRwLink l v s).ep = s.ep := rfl
@[simp] theorem setRwLink_emt (l : Nat) (v : RwLink) : (setRwLink l v s).emt = s.emt := rfl
@[simp] theorem setRwLink_thk (l : Nat) (v : RwLink) : (setRwLink l v s).thk = s.thk := rfl
@[simp] theorem setRwLink_tae (l : Nat) (v : RwLink) : (setRwLink l v s).tae = s.tae := rfl
@[simp] theorem setRwLink_lko (l : Nat) (v : RwLink) : (setRwLink l v s).lko = s.lko := rfl
@[simp] theorem setRwLink_svc (l : Nat) (v : RwLink) : (setRwLink l v s).svc = s.svc := rfl
@[simp] theorem setRwLink_hw (l : Nat) (v : RwLink) : (setRwLink l v s).hw = s.hw := rfl
@[simp] theorem setRwLink_sap (l : Nat) (v : RwLink) : (setRwLink l v s).sap = s.sap := rfl
@[simp] theorem setRwLink_host (l : Nat) (v : RwLink) : (setRwLink l v s).host = s.host := rfl
@[simp] theorem setRwLink_ic (l : Nat) (v : RwLink) : (setRwLink l v s).ic = s.ic := rfl
@[simp] theorem setRwLink_pin (l : Nat) (v : RwLink) : (setRwLink l v s).pin = s.pin := rfl

@[simp] theorem setCore_pending (n : Nat) (c : SapCore) : (setCore n c s).pending = s.pending := rfl
@[simp] theorem setCore_freeCtr (n : Nat) (c : SapCore) : (setCore n c s).freeCtr = s.freeCtr := rfl
@[simp] theorem setCore_straps (n : Nat) (c : SapCore) : (setCore n c s).straps = s.straps := rfl
@[simp] theorem setCore_bus (n : Nat) (c : SapCore) : (setCore n c s).bus = s.bus := rfl
@[simp] theorem setCore_time (n : Nat) (c : SapCore) : (setCore n c s).time = s.time := rfl
@[simp] theorem setCore_ports (n : Nat) (c : SapCore) : (setCore n c s).ports = s.ports := rfl
@[simp] theorem setCore_disp (n : Nat) (c : SapCore) : (setCore n c s).disp = s.disp := rfl
@[simp] theorem setCore_grv (n : Nat) (c : SapCore) : (setCore n c s).grv = s.grv := rfl
@[simp] theorem setCore_pgu (n : Nat) (c : SapCore) : (setCore n c s).pgu = s.pgu := rfl
@[simp] theorem setCore_ctx (n : Nat) (c : SapCore) : (setCore n c s).ctx = s.ctx := rfl
@[simp] theorem setCore_store (n : Nat) (c : SapCore) : (setCore n c s).store = s.store := rfl
@[simp] theorem setCore_clr (n : Nat) (c : SapCore) : (setCore n c s).clr = s.clr := rfl
@[simp] theorem setCore_sch (n : Nat) (c : SapCore) : (setCore n c s).sch = s.sch := rfl
@[simp] theorem setCore_gate (n : Nat) (c : SapCore) : (setCore n c s).gate = s.gate := rfl
@[simp] theorem setCore_ep (n : Nat) (c : SapCore) : (setCore n c s).ep = s.ep := rfl
@[simp] theorem setCore_emt (n : Nat) (c : SapCore) : (setCore n c s).emt = s.emt := rfl
@[simp] theorem setCore_thk (n : Nat) (c : SapCore) : (setCore n c s).thk = s.thk := rfl
@[simp] theorem setCore_tae (n : Nat) (c : SapCore) : (setCore n c s).tae = s.tae := rfl
@[simp] theorem setCore_lko (n : Nat) (c : SapCore) : (setCore n c s).lko = s.lko := rfl
@[simp] theorem setCore_svc (n : Nat) (c : SapCore) : (setCore n c s).svc = s.svc := rfl
@[simp] theorem setCore_rw (n : Nat) (c : SapCore) : (setCore n c s).rw = s.rw := rfl
@[simp] theorem setCore_hw (n : Nat) (c : SapCore) : (setCore n c s).hw = s.hw := rfl
@[simp] theorem setCore_host (n : Nat) (c : SapCore) : (setCore n c s).host = s.host := rfl
@[simp] theorem setCore_ic (n : Nat) (c : SapCore) : (setCore n c s).ic = s.ic := rfl
@[simp] theorem setCore_pin (n : Nat) (c : SapCore) : (setCore n c s).pin = s.pin := rfl

@[simp] theorem setHic_pending (h : HicSt) : (setHic h s).pending = s.pending := rfl
@[simp] theorem setHic_freeCtr (h : HicSt) : (setHic h s).freeCtr = s.freeCtr := rfl
@[simp] theorem setHic_straps (h : HicSt) : (setHic h s).straps = s.straps := rfl
@[simp] theorem setHic_bus (h : HicSt) : (setHic h s).bus = s.bus := rfl
@[simp] theorem setHic_time (h : HicSt) : (setHic h s).time = s.time := rfl
@[simp] theorem setHic_ports (h : HicSt) : (setHic h s).ports = s.ports := rfl
@[simp] theorem setHic_disp (h : HicSt) : (setHic h s).disp = s.disp := rfl
@[simp] theorem setHic_grv (h : HicSt) : (setHic h s).grv = s.grv := rfl
@[simp] theorem setHic_pgu (h : HicSt) : (setHic h s).pgu = s.pgu := rfl
@[simp] theorem setHic_ctx (h : HicSt) : (setHic h s).ctx = s.ctx := rfl
@[simp] theorem setHic_store (h : HicSt) : (setHic h s).store = s.store := rfl
@[simp] theorem setHic_clr (h : HicSt) : (setHic h s).clr = s.clr := rfl
@[simp] theorem setHic_sch (h : HicSt) : (setHic h s).sch = s.sch := rfl
@[simp] theorem setHic_gate (h : HicSt) : (setHic h s).gate = s.gate := rfl
@[simp] theorem setHic_ep (h : HicSt) : (setHic h s).ep = s.ep := rfl
@[simp] theorem setHic_emt (h : HicSt) : (setHic h s).emt = s.emt := rfl
@[simp] theorem setHic_thk (h : HicSt) : (setHic h s).thk = s.thk := rfl
@[simp] theorem setHic_tae (h : HicSt) : (setHic h s).tae = s.tae := rfl
@[simp] theorem setHic_lko (h : HicSt) : (setHic h s).lko = s.lko := rfl
@[simp] theorem setHic_svc (h : HicSt) : (setHic h s).svc = s.svc := rfl
@[simp] theorem setHic_rw (h : HicSt) : (setHic h s).rw = s.rw := rfl
@[simp] theorem setHic_sap (h : HicSt) : (setHic h s).sap = s.sap := rfl
@[simp] theorem setHic_host (h : HicSt) : (setHic h s).host = s.host := rfl
@[simp] theorem setHic_ic (h : HicSt) : (setHic h s).ic = s.ic := rfl
@[simp] theorem setHic_pin (h : HicSt) : (setHic h s).pin = s.pin := rfl

@[simp] theorem tick_pending : (tick s).pending = s.pending := rfl
@[simp] theorem tick_freeCtr : (tick s).freeCtr = s.freeCtr := rfl
@[simp] theorem tick_straps : (tick s).straps = s.straps := rfl
@[simp] theorem tick_bus : (tick s).bus = s.bus := rfl
@[simp] theorem tick_ports : (tick s).ports = s.ports := rfl
@[simp] theorem tick_disp : (tick s).disp = s.disp := rfl
@[simp] theorem tick_grv : (tick s).grv = s.grv := rfl
@[simp] theorem tick_pgu : (tick s).pgu = s.pgu := rfl
@[simp] theorem tick_ctx : (tick s).ctx = s.ctx := rfl
@[simp] theorem tick_store : (tick s).store = s.store := rfl
@[simp] theorem tick_clr : (tick s).clr = s.clr := rfl
@[simp] theorem tick_sch : (tick s).sch = s.sch := rfl
@[simp] theorem tick_gate : (tick s).gate = s.gate := rfl
@[simp] theorem tick_ep : (tick s).ep = s.ep := rfl
@[simp] theorem tick_emt : (tick s).emt = s.emt := rfl
@[simp] theorem tick_thk : (tick s).thk = s.thk := rfl
@[simp] theorem tick_tae : (tick s).tae = s.tae := rfl
@[simp] theorem tick_lko : (tick s).lko = s.lko := rfl
@[simp] theorem tick_svc : (tick s).svc = s.svc := rfl
@[simp] theorem tick_rw : (tick s).rw = s.rw := rfl
@[simp] theorem tick_hw : (tick s).hw = s.hw := rfl
@[simp] theorem tick_sap : (tick s).sap = s.sap := rfl
@[simp] theorem tick_host : (tick s).host = s.host := rfl
@[simp] theorem tick_ic : (tick s).ic = s.ic := rfl
@[simp] theorem tick_pin : (tick s).pin = s.pin := rfl

/-! The board and the VDD_KEEP island keep their pins; every other part is what the meaning made of it. -/

@[simp] theorem boardKeeps_pending (t : State) : (boardKeeps s t).pending = s.pending := rfl
@[simp] theorem boardKeeps_freeCtr (t : State) : (boardKeeps s t).freeCtr = t.freeCtr := rfl
@[simp] theorem boardKeeps_straps (t : State) : (boardKeeps s t).straps = t.straps := rfl
@[simp] theorem boardKeeps_bus (t : State) : (boardKeeps s t).bus = t.bus := rfl
@[simp] theorem boardKeeps_time (t : State) : (boardKeeps s t).time = t.time := rfl
@[simp] theorem boardKeeps_ports (t : State) : (boardKeeps s t).ports = t.ports := rfl
@[simp] theorem boardKeeps_disp (t : State) : (boardKeeps s t).disp = t.disp := rfl
@[simp] theorem boardKeeps_grv (t : State) : (boardKeeps s t).grv = t.grv := rfl
@[simp] theorem boardKeeps_pgu (t : State) : (boardKeeps s t).pgu = t.pgu := rfl
@[simp] theorem boardKeeps_ctx (t : State) : (boardKeeps s t).ctx = t.ctx := rfl
@[simp] theorem boardKeeps_store (t : State) : (boardKeeps s t).store = t.store := rfl
@[simp] theorem boardKeeps_clr (t : State) : (boardKeeps s t).clr = t.clr := rfl
@[simp] theorem boardKeeps_sch (t : State) : (boardKeeps s t).sch = t.sch := rfl
@[simp] theorem boardKeeps_gate (t : State) : (boardKeeps s t).gate = t.gate := rfl
@[simp] theorem boardKeeps_ep (t : State) : (boardKeeps s t).ep = t.ep := rfl
@[simp] theorem boardKeeps_emt (t : State) : (boardKeeps s t).emt = t.emt := rfl
@[simp] theorem boardKeeps_thk (t : State) : (boardKeeps s t).thk = t.thk := rfl
@[simp] theorem boardKeeps_tae (t : State) : (boardKeeps s t).tae = t.tae := rfl
@[simp] theorem boardKeeps_lko (t : State) : (boardKeeps s t).lko = t.lko := rfl
@[simp] theorem boardKeeps_svc (t : State) : (boardKeeps s t).svc = t.svc := rfl
@[simp] theorem boardKeeps_rw (t : State) : (boardKeeps s t).rw = t.rw := rfl
@[simp] theorem boardKeeps_hw (t : State) : (boardKeeps s t).hw = t.hw := rfl
@[simp] theorem boardKeeps_sap (t : State) : (boardKeeps s t).sap = t.sap := rfl
@[simp] theorem boardKeeps_host (t : State) : (boardKeeps s t).host = t.host := rfl
@[simp] theorem boardKeeps_ic (t : State) : (boardKeeps s t).ic = t.ic := rfl
@[simp] theorem boardKeeps_pin_straps (t : State) : (boardKeeps s t).pin.straps = s.pin.straps := rfl
@[simp] theorem boardKeeps_pin_keep (t : State) : (boardKeeps s t).pin.keep = s.pin.keep := rfl
@[simp] theorem boardKeeps_pin_rstN (t : State) : (boardKeeps s t).pin.rstN = s.pin.rstN := rfl
@[simp] theorem boardKeeps_pin_perstN (t : State) : (boardKeeps s t).pin.perstN = s.pin.perstN := rfl
@[simp] theorem boardKeeps_pin_testEn (t : State) : (boardKeeps s t).pin.testEn = s.pin.testEn := rfl
@[simp] theorem boardKeeps_pin_keepClk (t : State) : (boardKeeps s t).pin.keepClk = s.pin.keepClk := rfl
@[simp] theorem boardKeeps_pin_trip (t : State) : (boardKeeps s t).pin.trip = s.pin.trip := rfl
@[simp] theorem boardKeeps_pin_cells (t : State) : (boardKeeps s t).pin.cells = s.pin.cells := rfl
@[simp] theorem boardKeeps_pin_jtag (t : State) : (boardKeeps s t).pin.jtag = s.pin.jtag := rfl
@[simp] theorem boardKeeps_pin_dr (t : State) : (boardKeeps s t).pin.dr = s.pin.dr := rfl
@[simp] theorem boardKeeps_pin_bothSince (t : State) : (boardKeeps s t).pin.bothSince = t.pin.bothSince := rfl
@[simp] theorem boardKeeps_pin_pcieUp (t : State) : (boardKeeps s t).pin.pcieUp = t.pin.pcieUp := rfl
@[simp] theorem boardKeeps_pin_alive (t : State) : (boardKeeps s t).pin.alive = t.pin.alive := rfl
@[simp] theorem boardKeeps_pin_aliveAt (t : State) : (boardKeeps s t).pin.aliveAt = t.pin.aliveAt := rfl
@[simp] theorem boardKeeps_pin_fault (t : State) : (boardKeeps s t).pin.fault = t.pin.fault := rfl
@[simp] theorem boardKeeps_pin_lost (t : State) : (boardKeeps s t).pin.lost = t.pin.lost := rfl
@[simp] theorem boardKeeps_pin_back (t : State) : (boardKeeps s t).pin.back = t.pin.back := rfl
@[simp] theorem boardKeeps_pin_verdict (t : State) : (boardKeeps s t).pin.verdict = t.pin.verdict := rfl

end Sys2Proof.Machine
end

