-- ==== Sys2Proof/Laws/Ops.lean ====
section
/-!
SUPPORT. The shared operations, once each: registers, live values, counters, ports, passes, threads, reports, and what a
meaning answers.
-/

namespace Sys2Proof.Machine
open Sys2Proof

variable (s : State)

/-! ### What a meaning answers -/

/-- A block whose clocks run takes the command's effect. -/
theorem act_running (f : State → State) (h : stopped s = false) : act f s = .next (boardKeeps s (f s)) := by
  simp [act, h]

/-- A block whose clocks stand does nothing. -/
theorem act_stopped (f : State → State) (h : stopped s = true) : act f s = .next s := by simp [act, h]

theorem stopped_of_held (h : held s = true) : stopped s = true := by simp [stopped, h]

theorem held_of_running (h : stopped s = false) : held s = false := by
  simp only [stopped, Bool.or_eq_false_iff] at h; exact h.1

/-- A device held in reset does nothing. -/
theorem act_held (f : State → State) (h : held s = true) : act f s = .next s := act_stopped s f (stopped_of_held s h)

/-- What runs on KCLK, TCLK or a lane clock takes its effect unless the device is held in reset. -/
theorem actK_running (f : State → State) (h : held s = false) : actK f s = .next (boardKeeps s (f s)) := by
  simp [actK, h]

theorem actK_held (f : State → State) (h : held s = true) : actK f s = .next s := by simp [actK, h]

theorem actPin_next (f : State → State) : actPin f s = .next { f s with pending := s.pending } := rfl

/-- Whatever a block's meaning answers leaves the queue and the board's pins alone. -/
theorem act_keeps (f : State → State) {t : State} (h : act f s = .next t) :
    t.pending = s.pending ∧ t.pin.keep = s.pin.keep ∧ t.pin.rstN = s.pin.rstN ∧ t.pin.perstN = s.pin.perstN ∧
      t.pin.testEn = s.pin.testEn ∧ t.pin.keepClk = s.pin.keepClk ∧ t.pin.trip = s.pin.trip ∧ t.pin.straps = s.pin.straps := by
  unfold act at h
  injection h with h
  subst h
  split <;> simp

theorem actK_keeps (f : State → State) {t : State} (h : actK f s = .next t) :
    t.pending = s.pending ∧ t.pin.keep = s.pin.keep ∧ t.pin.rstN = s.pin.rstN ∧ t.pin.perstN = s.pin.perstN ∧
      t.pin.testEn = s.pin.testEn ∧ t.pin.keepClk = s.pin.keepClk ∧ t.pin.trip = s.pin.trip ∧ t.pin.straps = s.pin.straps := by
  unfold actK at h
  injection h with h
  subst h
  split <;> simp

/-! ### Registers -/

@[simp] theorem reg_setReg_same (a : Nat) (v : Word) : reg (setReg a v s) a = v := by simp [reg, setReg]

theorem reg_setReg_other (a b : Nat) (v : Word) (h : b ≠ a) : reg (setReg a v s) b = reg s b := by
  simp [reg, setReg, mget_mset_other, h]

theorem reg_setReg (a b : Nat) (v : Word) : reg (setReg a v s) b = if b = a then v else reg s b := by
  split_ifs with h
  · subst h; simp
  · exact reg_setReg_other s a b v h

@[simp] theorem reg_applyLive (a b : Nat) : reg (applyLive a s) b = reg s b := rfl
@[simp] theorem reg_setCtr (a v b : Nat) : reg (setCtr a v s) b = reg s b := rfl
@[simp] theorem reg_ctrAdd (p o n b : Nat) : reg (ctrAdd p o n s) b = reg s b := rfl
@[simp] theorem reg_count (p o b : Nat) : reg (count p o s) b = reg s b := rfl
@[simp] theorem reg_capture (p q c r b : Nat) (x : Bool) : reg (capture p q c x r s) b = reg s b := rfl
@[simp] theorem reg_boardKeeps (t : State) (a : Nat) : reg (boardKeeps s t) a = reg t a := rfl
@[simp] theorem live_boardKeeps (t : State) (a : Nat) : live (boardKeeps s t) a = live t a := rfl
@[simp] theorem ctr_boardKeeps (t : State) (a : Nat) : ctr (boardKeeps s t) a = ctr t a := rfl

/-- A field reads what was last written to it, modulo its width. -/
theorem regF_setRegF_same (a : Nat) (f : Fld) (v : Nat) (h : f.lo ≤ f.hi) (h32 : f.hi < 32) :
    regF (setRegF a f v s) a f = v % 2 ^ fldWidth f := by
  simp [regF, setRegF, fget_fset_same _ _ _ h h32]

/-- Fields of other bits keep their value. -/
theorem regF_setRegF_field (a : Nat) (f g : Fld) (v : Nat) (h : f.lo ≤ f.hi) (h32 : f.hi < 32) (hg : g.lo ≤ g.hi)
    (hd : g.hi < f.lo ∨ f.hi < g.lo) : regF (setRegF a f v s) a g = regF s a g := by
  simp [regF, setRegF, fget_fset_other _ _ _ _ h h32 hg hd]

/-- Fields of other registers keep their value. -/
theorem regF_setRegF_other (a b : Nat) (f g : Fld) (v : Nat) (h : b ≠ a) :
    regF (setRegF a f v s) b g = regF s b g := by
  simp [regF, setRegF, reg_setReg_other, h]

theorem regB_setRegB_same (a i : Nat) (b : Bool) (h : i < 32) : regB (setRegB a ⟨i, i⟩ b s) a ⟨i, i⟩ = b := by
  simp [regB, setRegB, setRegF, fbit_fset_bit _ _ _ h]

theorem regB_setRegB_other (a c : Nat) (f g : Fld) (b : Bool) (h : c ≠ a) : regB (setRegB a f b s) c g = regB s c g := by
  simp [regB, setRegB, setRegF, reg_setReg_other, h]

/-- Once a block takes up a value, it sees what a read sees (R40). -/
theorem live_applyLive (a : Nat) : live (applyLive a s) a = reg s a := by
  simp [live, applyLive, reg]

/-- Until then it sees what it saw before (R40). -/
theorem live_writeLive (a : Nat) (v : Word) : live (writeLive a v s) a = live s a := by
  unfold writeLive live noteOld
  simp only
  split_ifs with h
  · simp only [mfind_mdel_same, Option.getD_none]
    simp only [reg, setReg, mget_mset_same]
    exact h.symm
  · simp

theorem reg_writeLive (a : Nat) (v : Word) : reg (writeLive a v s) a = v := by
  simp [reg, writeLive, noteOld, setReg]

/-! ### Counters -/

theorem ctr_setCtr_same (a v : Nat) : ctr (setCtr a v s) a = v := by simp [ctr, setCtr]

theorem ctr_setCtr_other (a b v : Nat) (h : b ≠ a) : ctr (setCtr a v s) b = ctr s b := by
  simp [ctr, setCtr, mget_mset_other, h]

/-- A counter counts one event and saturates (R47). -/
theorem ctr_count_same (p o : Nat) : ctr (count p o s) (pa p o) = Nat.min maxCtr (ctr s (pa p o) + 1) := by
  simp [count, ctrAdd, ctr_setCtr_same]

/-! ### Ports, passes, threads -/

@[simp] theorem port_setPort_same (p : Nat) (v : PortSt) : port (setPort p v s) p = v := by simp [port, setPort]

theorem port_setPort_other (p q : Nat) (v : PortSt) (h : q ≠ p) : port (setPort p v s) q = port s q := by
  simp [port, setPort, mget_mset_other, h]

@[simp] theorem pass_setPass_same (k : Nat) (p : Pass) : pass? (setPass k p s) k = some p := by simp [pass?, setPass]

theorem pass_setPass_other (k j : Nat) (p : Pass) (h : j ≠ k) : pass? (setPass k p s) j = pass? s j := by
  simp [pass?, setPass, mfind_mput_other, h]

@[simp] theorem thread_setThread_same (t : Nat) (v : Thread) : thread (setThread t v s) t = v := by simp [thread, setThread]

theorem thread_setThread_other (t u : Nat) (v : Thread) (h : u ≠ t) : thread (setThread t v s) u = thread s u := by
  simp [thread, setThread, mget_mset_other, h]

theorem dispQ_setDispQ_same (q : Nat) (l : List Nat) : dispQ (setDispQ q l s) q = l := by simp [dispQ, setDispQ]

/-! ### Cells (R250) -/

/-- A cell reads what was last written to it, filled with 0 to 256 bytes. -/
theorem cell_setCell_same (c : Nat) (d : Bytes) (l : Nat) : cell (setCell c d l s) c = ⟨padTo 256 d, l⟩ := by
  simp [cell, setCell]

theorem cell_setCell_other (c e : Nat) (d : Bytes) (l : Nat) (h : e ≠ c) : cell (setCell c d l s) e = cell s e := by
  simp [cell, setCell, mget_mset_other, h]

/-! ### Canonical memories -/

theorem setReg_wf (a : Nat) (v : Word) (h : mwf (regReset s.straps) s.bus.regs = true) :
    mwf (regReset (setReg a v s).straps) (setReg a v s).bus.regs = true := mwf_mset _ _ _ _ h

theorem setCell_wf (c : Nat) (d : Bytes) (l : Nat) (h : mwf cellReset s.clr.cells = true) :
    mwf cellReset (setCell c d l s).clr.cells = true := mwf_mset _ _ _ _ h

/-- A chain of writes keeps the cells canonical. -/
theorem writeChain_wf (cs : List Nat) (bs : Bytes) (h : mwf cellReset s.clr.cells = true) :
    mwf cellReset (writeChain cs bs s).clr.cells = true := by
  induction cs generalizing bs s with
  | nil => exact h
  | cons c cs ih =>
    cases cs with
    | nil => exact setCell_wf s _ _ _ h
    | cons d cs => exact ih _ _ (setCell_wf s _ _ _ h)

/-- Every cell of the chain written, and no other, can change. -/
theorem cell_writeChain_other (cs : List Nat) (bs : Bytes) (e : Nat) (h : e ∉ cs) : cell (writeChain cs bs s) e = cell s e := by
  induction cs generalizing bs s with
  | nil => rfl
  | cons c cs ih =>
    have h1 : e ≠ c := by intro x; exact h (by simp [x])
    have h2 : e ∉ cs := fun x => h (by simp [x])
    cases cs with
    | nil => exact cell_setCell_other s _ _ _ _ h1
    | cons d cs =>
      show cell (writeChain (d :: cs) _ (setCell c _ d s)) e = _
      rw [ih _ _ h2, cell_setCell_other s _ _ _ _ h1]

end Sys2Proof.Machine
end

