-- ==== Sys2Proof/Laws/Exec.lean ====
section
/-!
SUPPORT. Every command but the events on pins is a meaning of a block that a reset holds, and but for those of KCLK and TCLK one
that a loss of SYSCLK holds.
-/

namespace Sys2Proof.Machine
open Sys2Proof

set_option maxRecDepth 4000 in
/-- What a command of a block on CCLK, BCLK or MCLK is: nothing while its clocks stand, else its effect with the queue and the
board's pins kept. -/
theorem exec_act (c : Instr) (s : State) (hp : pinEvent c = false) (hk : kclkCmd c = false) : ∃ f, exec c s = act f s := by
  cases c
  case frameReceive p part last => exact ⟨fun s => frameReceive p part.bytes last (fecCount p part.corr part.uncorr s), rfl⟩
  case tref25 req b =>
    exact ⟨fun s => reqWrite req (pa pgPtp offPTP_CFG)
      (fset (reg s (pa pgPtp offPTP_CFG)) fPTP_CFG_TREF_25 (if b then 1 else 0)) s, rfl⟩
  case headEnqueue src => exact ⟨fun s => rwVirtualNext (headEnqueue src s), rfl⟩
  all_goals first | exact Bool.noConfusion (show true = false from hp) | exact Bool.noConfusion (show true = false from hk) | exact ⟨_, rfl⟩

set_option maxRecDepth 4000 in
/-- What a command of a block on KCLK or TCLK is: nothing while the device is held in reset. -/
theorem exec_actK (c : Instr) (s : State) (hk : kclkCmd c = true) : ∃ f, exec c s = actK f s := by
  cases c
  case railOutOfTolerance => exact ⟨fun s => hicRaise 4 (capture pgPt 3 clsFT false 0 s), rfl⟩
  all_goals first | exact Bool.noConfusion (show false = true from hk) | exact ⟨_, rfl⟩

end Sys2Proof.Machine
end

