-- ==== Sys2Proof/Laws/Bus.lean ====
section
/-!
SUPPORT. What a 32-bit write of a requester comes to: a write of a header register, of a block register of a page, a refusal.
-/

namespace Sys2Proof.Machine
open Sys2Proof

variable (s : State)

theorem pageOf_pa (page off : Nat) (h : off < 4096) : pageOf (pa page off) = page := by
  simp only [pageOf, pa]; omega

theorem offOf_pa (page off : Nat) (h : off < 4096) : offOf (pa page off) = off := by
  simp only [offOf, pa]; omega

theorem pa_inj (page off page' off' : Nat) (h : off < 4096) (h' : off' < 4096) (e : pa page off = pa page' off') :
    page = page' ∧ off = off' := by
  simp only [pa] at e; omega

/-- Words of one page at different offsets are different words. -/
theorem pa_ne (page off off' : Nat) (h : off ≠ off') : pa page off ≠ pa page off' := by
  simp only [pa]; omega

theorem page_lt (page : Nat) (h : hasHeader page = true) : page < 4096 := by
  simp only [hasHeader, Bool.and_eq_true, decide_eq_true_eq] at h; omega

theorem kind_some (page : Nat) (h : hasHeader page = true) : ∃ k, kindOf page = some k := by
  simp only [hasHeader, Bool.and_eq_true] at h
  exact Option.isSome_iff_exists.mp h.2

theorem isRegAddr_pa (page off : Nat) (hp : page < 4096) (h : off < 4096) : isRegAddr (pa page off) = true := by
  have hlt : pa page off < aSub := by simp only [pa, aSub]; omega
  simp [isRegAddr, hlt]

/-- A write of a header register (R37 to R39). -/
theorem reqWrite_header (req page off : Nat) (v : Word) (hr : reaches s req = true) (hp : hasHeader page = true)
    (ho : off < 64) : reqWrite req (pa page off) v s = headerWrite req page off v s := by
  obtain ⟨k, hk⟩ := kind_some page hp
  have h1 := isRegAddr_pa page off (page_lt page hp) (by omega)
  simp only [reqWrite, hr, if_true, write32, h1, pageOf_pa page off (by omega), offOf_pa page off (by omega), pageWrite, hk, hp,
    Bool.true_and]
  simp [ho]

/-- A write of PAGE_CTL that sets one bit and leaves the others as they read. -/
theorem reqCtl_eq (req page bit : Nat) (b : Bool) (hr : reaches s req = true) (hp : hasHeader page = true) (hb : bit < 8) :
    reqCtl req page bit b s = ctlWrite req page (natSetBit (ctlNow s page) bit b) s := by
  have hlt : natSetBit (ctlNow s page) bit b < 2 ^ 32 := by
    have hc : ctlNow s page < 32 := by unfold ctlNow; split_ifs <;> omega
    have h2 : 2 ^ bit ≤ 2 ^ 7 := Nat.pow_le_pow_right (by omega) (by omega)
    have h3 := Nat.sub_le (ctlNow s page) (2 ^ bit)
    unfold natSetBit; split_ifs <;> omega
  unfold reqCtl
  rw [reqWrite_header s req page offCtl _ hr hp (by decide)]
  obtain ⟨r, hf, hl⟩ : ∃ r, rowFind offCtl rowsHdr = some r ∧ ∀ v, rowLegal r v = true := ⟨_, rfl, fun v => rfl⟩
  have h1 : ¬offCtl = offERR_INJECT := by decide
  simp only [headerWrite, hf, hl, Bool.not_true, Bool.false_eq_true, if_false, h1, if_true, BitVec.toNat_ofNat,
    Nat.mod_eq_of_lt hlt]

end Sys2Proof.Machine
end

