-- ==== Sys2Proof/Tests/Slice0.lean ====
section
/-!
SUPPORT. Tests: for each statement with hypotheses, states and operands that meet them clause by clause (test_w_ and the
statement's name); the worked examples of the spec; ill-formed commands that WellFormed refuses.
-/

namespace Sys2Proof.Tests
open Sys2Proof Sys2Proof.Machine

-- one kernel evaluation after the other: each takes its own stack
set_option Elab.async false

/-! ### Small states -/

/-- A device some time after its boot: every block started, PCIe trained, the clock monitors' verdict given. -/
def up : State :=
  let s := setRegF (pa pgHmb offHW_BOOT_STS) fHW_BOOT_STS_BOOT_DONE 1
    (setRegF (pa pgHmb offHW_BOOT_STS) fHW_BOOT_STS_STEP 6 State.reset)
  { s with pin := { s.pin with pcieUp := true, verdict := true }, time := { s.time with cclk := 3000000000, kclk := 3000000000 } }

/-- The reset state held by RST_N. -/
def low : State := { State.reset with pin := { State.reset.pin with rstN := false } }

/-- The device as a Canopy device with id 1, and as an Understory device with id 7. -/
def canopy : State := setReg (pa pgRw offRW_ID) (fset (fset 0 fRW_ID_MODE 1) fRW_ID_ID 1) up
def under : State := setReg (pa pgRw offRW_ID) (fset (fset 0 fRW_ID_MODE 2) fRW_ID_ID 7) up

/-! ### Witnesses: states and operands that meet the hypotheses of each statement, clause by clause -/

theorem test_w_EmptyQueuePassesOneTick :
    up.pending = [] ∧ held low = true ∧ low.pending = [] ∧ stopped up = false ∧ up.pin.verdict = true ∧
    regB up (pa pgPtp offTIME_STS) fTIME_STS_STOPPED = false ∧ State.reset.pin.verdict = false ∧
    0 ≤ fracOfTc up.time.now + 2 * (2 ^ 44 + signed 32 (live up (pa pgPtp offTIME_FREQ)).toNat) ∧
    fracOfTc up.time.now + 2 * (2 ^ 44 + signed 32 (live up (pa pgPtp offTIME_FREQ)).toNat) <
      2 ^ 48 * 1000000000 * 2 ^ 44 ∧ (∀ e ∈ up.ports.port, e.2.partnerEee = false) ∧ up.pgu.transBad = [] ∧ up.gate.port = [] ∧
    txrFill up = 0 := by
  decide +kernel

theorem test_w_EveryStepKeepsResetQuiet : resetQuiet low ∧ step low = .next low := by
  constructor
  · intro _; unfold QuietNow; decide +kernel
  · rfl

theorem test_w_HeldDeviceIgnoresCommands : pinEvent .ppsIn = false ∧ held low = true := by decide +kernel

theorem test_w_CommandsKeepQueueAndBoardPins :
    exec .thermTripN up = .next { up with pin := { up.pin with trip := true } } ∧
    exec .ppsIn low = .next low ∧ pinEvent .ppsIn = false ∧
    ({ up with pin := { up.pin with trip := true } } : State).pin.trip = true := ⟨rfl, rfl, rfl, rfl⟩

/-- Page of a Grove, of the multicast table (staged, bound to epochs), and a MAC page. -/
def bound : State := setRegB (pa pgMc offCtl) fPAGE_CTL_EPOCH_BIND true { up with bus := { up.bus with bound := [pgMc] } }
def committing (page : Nat) : State := setRegB (pa page offSts) fPAGE_STS_COMMIT_PENDING true up

theorem test_w_PageShadowsAndSnapshots :
    stopped up = false ∧ reaches up 0 = true ∧ hasHeader pgMc = true ∧ capStaged pgMc = true ∧ epochPaced up pgMc = false ∧
    commitPending (committing pgMc) pgMc = true ∧ epochPaced (committing pgMc) pgMc = false ∧ commitPending up pgMc = false ∧
    stopped (committing pgMc) = false ∧ reaches (committing pgMc) 0 = true ∧
    capEpoch pgMc = true ∧ capSnap 0x080 = true ∧ hasHeader 0x080 = true ∧
    regB up (pa 0x080 offSts) fPAGE_STS_SNAP_BUSY = false ∧
    mfind ({ up with bus := { up.bus with taking := [(0x080, [])] } } : State).bus.taking 0x080 = some [] := by
  decide +kernel

theorem test_w_EnableQuiesceAndSoftReset :
    stopped up = false ∧ reaches up 0 = true ∧ hasHeader 0x17F = true ∧ capQuiesce 0x17F = true ∧ capReset 0x020 = true ∧
    inReset up 0x020 = false ∧ quiesceReq (setRegB (pa 0x17F offCtl) fPAGE_CTL_QUIESCE true up) 0x17F = true ∧
    blockIdle (setRegB (pa 0x17F offCtl) fPAGE_CTL_QUIESCE true up) 0x17F = true ∧
    regB (setRegB (pa 0x020 offSts) fPAGE_STS_IN_RESET true up) (pa 0x020 offSts) fPAGE_STS_IN_RESET = true := by
  decide +kernel

theorem test_w_HeaderClearsAndInjection :
    stopped up = false ∧ reaches up 6 = true ∧ hasHeader 0x1D0 = true ∧ hasHeader 0 = true ∧ capInject 0x020 = true ∧
    hasHeader 0x020 = true := by
  decide +kernel

theorem test_w_RegisterWritesAndLiveValues :
    stopped up = false ∧ reaches up 1 = true ∧
    (∃ r, rowAt (pa pgClr offCLR_OCC_SEL) = some r ∧ r.half = .single ∧
      refusal 1 .clr pgClr [(pa pgClr offCLR_OCC_SEL, r, 0)] up = none ∧
      regB up (pa pgClr offSts) fPAGE_STS_REFUSED = false) ∧
    (∃ r, rowAt (pa pgClr offCLR_CNT_BASE) = some r ∧ r.half = .single ∧
      refusal 1 .clr pgClr [(pa pgClr offCLR_CNT_BASE, r, 1)] up = some reasonEncoding) ∧
    (∃ s, mfind s.bus.old 0x44 = some (5 : Word) ∧ liveReady s 0x44 = true ∧ stopped s = false) := by
  refine ⟨by decide +kernel, by decide +kernel, ⟨_, rfl, by decide +kernel⟩, ⟨_, rfl, by decide +kernel⟩,
    ⟨{ up with bus := { up.bus with old := [(0x44, 5)] } }, by decide +kernel⟩⟩

def held64 : State := { up with bus := { up.bus with hold := [(1, ⟨pa dev offEPOCH_TIME, true, 999999999⟩)] } }

theorem test_w_SixtyFourBitAccessAndReadEffects :
    stopped up = false ∧ reaches up 1 = true ∧ isRegAddr (pa dev offEPOCH_TIME) = true ∧ pa dev offEPOCH_TIME % 4 = 0 ∧
    0x40 ≤ offOf (pa dev offEPOCH_TIME) ∧ capStaged (pageOf (pa dev offEPOCH_TIME)) = false ∧
    (∃ r, rowAt (pa dev offEPOCH_TIME) = some r ∧ r.half = .low) ∧ inReset held64 dev = false ∧
    mfind held64.bus.hold 1 = some ⟨pa dev offEPOCH_TIME, true, 999999999⟩ ∧
    heldWord up 1 (pa dev offEPOCH_TIME) true = none ∧ isCounter (pa dev cAct_RESTARTS) = true ∧
    pa dev cAct_RESTARTS < aSub ∧ 0x40 ≤ offOf (pa dev cAct_RESTARTS) ∧ offOf (pa dev cAct_RESTARTS) < 0x840 ∧
    pageOf (pa dev cAct_RESTARTS) ≠ pgHmb ∧
    (∃ e s, s.time.fifo = [e] ∧ stopped s = false ∧ reaches s 1 = true) := by
  refine ⟨by decide +kernel, by decide +kernel, by decide +kernel, by decide +kernel, by decide +kernel, by decide +kernel,
    ⟨_, rfl, rfl⟩, by decide +kernel, by decide +kernel, by decide +kernel, by decide +kernel, by decide +kernel, by decide +kernel,
    by decide +kernel, by decide +kernel, ⟨⟨0, 0, 0, 0, tZero⟩, { up with time := { up.time with fifo := [⟨0, 0, 0, 0, tZero⟩] } }, rfl, rfl, rfl⟩⟩

def queueReg : State := setRegF (pa pgEmt offLQ_HEAD) ⟨31, 0⟩ 131071 { up with emt := { up.emt with lq := [1, 2] } }
def hostFull : State := setRegF (pa pgTae offTAE_HSQ_TAIL) fTAE_HSQ_TAIL_TAIL 256 up

theorem test_w_PointerRegisterWrites :
    stopped up = false ∧ accepts up 0 (pa pgTae offTAE_HSQ_TAIL) 256 = true ∧ hsqWriter up 0 = true ∧
    (256 + 512 - hsqTail up) % 512 ≤ 256 - hsqFill up ∧ accepts hostFull 0 (pa pgTae offTAE_HSQ_TAIL) 257 = true ∧
    256 - hsqFill hostFull < (257 + 512 - hsqTail hostFull) % 512 ∧ accepts up 0 (pa pgTae offTAE_HCQ_HEAD) 511 = true ∧
    accepts queueReg 1 (pa pgEmt offLQ_HEAD) 1 = true ∧ lqOwner queueReg 1 = true ∧ stopped queueReg = false ∧
    (reg queueReg (pa pgEmt offLQ_HEAD)).toNat < 131072 ∧
    (1 + 131072 - (reg queueReg (pa pgEmt offLQ_HEAD)).toNat) % 131072 ≤ queueReg.emt.lq.length ∧
    accepts canopy 1 (pa pgRw offRW_TXR_TAIL) 65535 = true ∧ stopped canopy = false ∧ reaches up 0 = true ∧
    accepts up 0 (pa pgSap offAPI_CMD_TAIL) 3 = true := by
  decide +kernel

/-- A word that enables an exact-match table, one that enables a Thicket table. -/
def geo1 : Word := [(fEMT_TBL_GEO_ENABLE, 1), (fEMT_TBL_GEO_KEY_BYTES, 8)].foldl (fun (w : Word) (e : Fld × Nat) => fset w e.1 e.2) 0
def thk1 : Word :=
  [(fTHK_TBL_CFG_ENABLE, 1), (fTHK_TBL_CFG_COPIES, 1), (fTHK_TBL_CFG_DEPTH, 1)].foldl (fun (w : Word) (e : Fld × Nat) => fset w e.1 e.2) 0

theorem test_w_ConfigurationWritesTakeEffect :
    stopped up = false ∧ accepts up 0 (pa (macPage 255) offMAC_CFG) (reg up (pa (macPage 255) offMAC_CFG)) = true ∧
    accepts up 0 (pa pgPgu offFRAG_SEED) 1 = true ∧ accepts up 0 (pa pgPgu offPGU_NODE_CMD) (nodeCmd 0 1 255) = true ∧
    accepts up 0 (pa pgPgu offPGU_NODE_CMD) (nodeCmd 1 1 255) = true ∧
    nodeIllegal (dRegs up (pa pgPgu (offPGU_NODE_D 0)) 4 % 2 ^ 95) = false ∧
    accepts up 0 (pa pgEmt (offEMT_TBL_GEO 63)) geo1 = true ∧ natField geo1.toNat 19 17 = 0 ∧ emtGeoIllegal geo1 = false ∧
    emtOn up 63 = false ∧ emtEnableRefused up 63 geo1 = false ∧ fbit geo1 fEMT_TBL_GEO_ENABLE = true ∧
    accepts up 0 (pa pgThk (offTHK_TBL_CFG 63)) thk1 = true ∧ natField thk1.toNat 28 23 = 0 ∧ natField thk1.toNat 15 15 = 0 ∧
    natField thk1.toNat 7 6 = 0 ∧ thkCfgIllegal thk1 = false ∧ thkOn up 63 = false ∧ thkEnableRefused up 63 thk1 = false ∧
    fbit thk1 fTHK_TBL_CFG_ENABLE = true := by
  decide +kernel

theorem test_w_MacCfgWithoutQuietChange :
    (match rowAt (pa (macPage 255) offMAC_CFG) with
     | some r => rowQuiet r (reg up (pa (macPage 255) offMAC_CFG)) (reg up (pa (macPage 255) offMAC_CFG))
     | none => true) = false := by
  decide +kernel

def armable : State := setReg (pa dev offEPOCH_TIME) 10000 up
def armed : State := { setRegF (pa dev offEPOCH_STS) fEPOCH_STS_ARMED 1 up with ep := { up.ep with armAt := 0 } }
def retiring : State := setRegF (pa dev offEPOCH_STS) fEPOCH_STS_PREV_LIVE 1 up

theorem test_w_EpochCommandsSwitchArmAndRetire :
    stopped up = false ∧ reaches up 5 = true ∧ inReset up dev = false ∧ badEpoch up 1 = false ∧
    epSts up fEPOCH_STS_PREV_LIVE = 0 ∧ badEpoch up 2 = true ∧ bindReq bound pgMc = true ∧ isBound bound pgMc = true ∧
    epCheck armable 1 (some (placeInstant armable (reg armable (pa dev (offEPOCH_TIME + 4))).toNat
      (reg armable (pa dev offEPOCH_TIME)).toNat)) = erArmed ∧ stopped armable = false ∧
    epSts armed fEPOCH_STS_ARMED = 1 ∧ armed.ep.armAt ≤ nowNs armed ∧ stopped armed = false ∧
    epSts retiring fEPOCH_STS_PREV_LIVE = 1 ∧ inflight retiring (epSts retiring fEPOCH_STS_PREVIOUS) = 0 ∧
    retiring.ep.switchAt + liveF retiring (pa dev offEPOCH_CFG) fEPOCH_CFG_GRACE_US * tUs ≤ now retiring ∧
    retiring.ep.trailAt + liveF retiring (pa dev offEPOCH_CFG) fEPOCH_CFG_GRACE_US * tUs ≤ now retiring := by
  decide +kernel

/-- Grove 31 quiesced, and so in the other states below it. -/
def quietGrv : State := setRegB (pa (grvPage 31) offSts) fPAGE_STS_QUIESCED true up
def badWord : State := setReg (pa (grvPage 31) (offGRV_CS_D 0)) 0xFFFFFFFF quietGrv

theorem test_w_ControlStoreCommands :
    stopped up = false ∧ quiet up (grvPage 31) = false ∧ quiet quietGrv (grvPage 31) = true ∧ stopped quietGrv = false ∧
    accepts quietGrv 0 (pa (grvPage 31) offGRV_CS_WR) (mkWord [(fGRV_CS_WR_ADDR, 4095)]) = true ∧
    microLegal (csData quietGrv 31) = true ∧
    accepts badWord 0 (pa (grvPage 31) offGRV_CS_WR) (mkWord [(fGRV_CS_WR_ADDR, 4095)]) = true ∧
    microLegal (csData badWord 31) = false ∧
    accepts up 0 (pa (grvPage 31) offGRV_CS_RD) (mkWord [(fGRV_CS_RD_COPY, 7), (fGRV_CS_RD_ADDR, 4095)]) = true ∧
    accepts up 0 (pa (grvPage 31) offGRV_CS_CRC) 0 = true ∧
    mfind ({ up with grv := { up.grv with csRead := [(31, 7 * 4096 + 4095)] } } : State).grv.csRead 31 = some (7 * 4096 + 4095) ∧
    up.grv.csBad.contains (csCopyKey 31 7 4095) = false ∧ mfind up.grv.csRead 31 = none ∧
    mget (fun _ => 0) up.grv.scrub (31 * 8 + 7) = 0 ∧
    ({ up with grv := { up.grv with csBad := [csCopyKey 31 7 4095] } } : State).grv.csBad.contains (csCopyKey 31 7 4095) = true ∧
    ({ up with grv := { up.grv with csBad := [csCopyKey 31 7 4095] } } : State).grv.csBad.contains (csCopyKey 31 0 4095) = false := by
  decide +kernel

def draining : State :=
  { setRegB (pa (grvPage 31) offCtl) fPAGE_CTL_QUIESCE true up with grv := { up.grv with drainAt := [(31, 0)] } }

theorem test_w_EngineServiceFencesAndDrain :
    stopped up = false ∧ accepts up 0 (pa (grvPage 31) offGRV_ENG_SVC) 0xFFFFFFFF = true ∧
    accepts up 0 (pa (grvPage 31) offGRV_ENG_FENCE) 1 = true ∧ mfind draining.grv.drainAt 31 = some 0 ∧ stopped draining = false ∧
    quiesceReq draining (grvPage 31) = true ∧
    0 + liveF draining (pa (grvPage 31) offGRV_CFG) fGRV_CFG_DRAIN_US * tUs ≤ now draining := by
  decide +kernel

/-- SCH_D holding a twig entry of weight 1, disabled. -/
def schD : State := setReg (pa pgSch (offSCH_D 0)) (BitVec.ofNat 32 (2 ^ 20)) up

theorem test_w_SchedulerTableAccess :
    stopped up = false ∧ accepts up 0 (pa pgSch offSCH_CMD) (schWord 0 4 32767) = true ∧ 32767 < poolSize 0 ∧
    accepts up 0 (pa pgSch offSCH_CMD) (schWord 0 3 260) = true ∧ poolSize 3 ≤ 260 ∧
    accepts schD 0 (pa pgSch offSCH_CMD) (schWord 1 1 16383) = true ∧ 16383 < poolSize 1 ∧
    entryIllegal 1 (entryMask 1 (dRegs schD (pa pgSch (offSCH_D 0)) 4)) = false ∧
    nEn (node schD (nodeKey 1 16383)) = false ∧ nEn (entryMask 1 (dRegs schD (pa pgSch (offSCH_D 0)) 4)) = false ∧
    entryQuiet 1 (entryMask 1 (dRegs schD (pa pgSch (offSCH_D 0)) 4)) = entryQuiet 1 (node schD (nodeKey 1 16383)) ∧
    accepts up 0 (pa pgSch offSCH_CMD) (schWord 2 0 32767) = true ∧ queueList up 32767 = [] := by
  decide +kernel

/-- An administrative entry: one list entry at 65,535, a cycle of 100 ns; and a port whose gates are enabled and hold it. -/
def admin1 : Nat := 65535 + 2 ^ 16 + 100 * 2 ^ 64
def gated : State :=
  setReg (pa pgGate (offGATE_EN 7)) 0x80000000 { up with gate := { up.gate with admin := [(255, admin1)], pool := [(65535, 25600)] } }
def poolD : State := setReg (pa pgGate (offGATE_D 0)) 25600 up
def gateRuns (pend : Option (Nat × Nat)) (run : Option GateRun) : State :=
  { gated with gate := { gated.gate with port := [(255, { gatePortReset 255 with run := run, pend := pend })] },
               time := { gated.time with now := ⟨0, 250, 0⟩ } }
/-- A list of two entries of 100 ns at 0 of the pool, whose second is due. -/
def twoEntries : State :=
  { gateRuns none (some ⟨2 * 2 ^ 16 + 200 * 2 ^ 64, 0, 200, 1⟩) with gate :=
    { gated.gate with pool := [(0, 25600), (1, 25600)],
                      port := [(255, { gatePortReset 255 with run := some ⟨2 * 2 ^ 16 + 200 * 2 ^ 64, 0, 0, 1⟩ })] } }

theorem test_w_GateTableAccess :
    stopped up = false ∧ accepts up 0 (pa pgGate offGATE_CMD) (gateWord 0 0 255) = true ∧
    accepts up 0 (pa pgGate offGATE_CMD) (gateWord 0 3 65535) = true ∧
    accepts up 0 (pa pgGate offGATE_CMD) (gateWord 0 1 255) = true ∧
    accepts up 0 (pa pgGate offGATE_CMD) (gateWord 0 2 255) = true ∧ (gatePort up 255).run = none ∧
    (gatePort up 255).pend = none ∧ accepts up 0 (pa pgGate offGATE_CMD) (gateWord 1 0 255) = true ∧
    natField (dRegs up (pa pgGate (offGATE_D 0)) 8) 159 128 ≤ 999999999 ∧
    accepts poolD 0 (pa pgGate offGATE_CMD) (gateWord 1 3 65535) = true ∧ poolInUse poolD 65535 = false ∧ stopped poolD = false ∧
    dRegs poolD (pa pgGate (offGATE_D 0)) 8 % 2 ^ 32 / 256 ≠ 0 := by
  decide +kernel

theorem test_w_GateConfigurationChange :
    stopped gated = false ∧ accepts gated 0 (pa pgGate offGATE_CMD) (gateWord 2 0 255) = true ∧ gateEn gated 255 = true ∧
    gateAdmin gated 255 = admin1 ∧ 1 ≤ gListLen admin1 ∧ gListLen admin1 ≤ 1024 ∧
    gListBase admin1 + gListLen admin1 ≤ 65536 ∧ 100 ≤ gCycle admin1 ∧ gCycle admin1 ≤ 4000000000 ∧
    gCte admin1 ≤ gCycle admin1 ∧
    accepts gated 0 (pa pgGate (offGATE_EN 7)) 1 = true ∧ (1 : Word).toNat.testBit 31 = false ∧
    gateEn gated (32 * 7 + 0) = false ∧ txClass gated (32 * 7 + 0) = none ∧ (1 : Word).toNat.testBit 5 = gateEn gated (32 * 7 + 5) := by
  decide +kernel

/-- A queue with one descriptor under a port whose tree is enabled. -/
def desc1 : Desc :=
  { headCells := [], headLen := 60, segs := [], len := 60, cells := 1, port := 256, cls := 0, queue := 0, held := false,
    mirror := none, ct := false, broken := false, rxPass := none, pkt := 0, group := 0, l3end := 0, rootway := false }
def tree1 : State :=
  { up with sch := { up.sch with node := [(0, 2 ^ 30 + 2 ^ 20), (65536, 2 ^ 30 + 2 ^ 20), (131072, 2 ^ 30 + 2 ^ 20 + 257),
                                          (nodeKey 3 257, 2 ^ 30 + 2 ^ 16)], qs := [(0, [5])] },
            clr := { up.clr with desc := [(5, { desc1 with port := 257 })] } }
def wheel1 : State := { up with sch := { up.sch with wheel := [⟨3, false, 1000, 0⟩] } }

theorem test_w_GateEventsAndSelections :
    stopped (gateRuns (some (admin1, 250)) none) = false ∧
    (gatePort (gateRuns (some (admin1, 250)) none) 255).pend = some (admin1, 250) ∧
    250 ≤ nowNs (gateRuns (some (admin1, 250)) none) ∧ txClass (gateRuns (some (admin1, 250)) none) 255 = none ∧
    (gatePort twoEntries 255).run = some ⟨2 * 2 ^ 16 + 200 * 2 ^ 64, 0, 0, 1⟩ ∧ (gatePort twoEntries 255).pend = none ∧
    (gatePort twoEntries 255).stepped = false ∧ txClass twoEntries 255 = none ∧ stopped twoEntries = false ∧
    listPos twoEntries ⟨2 * 2 ^ 16 + 200 * 2 ^ 64, 0, 0, 1⟩ none (nowNs twoEntries) ≠ (0, 1) ∧
    stopped tree1 = false ∧ safe tree1 = false ∧ selectPort tree1 32 = some 257 ∧
    stopped wheel1 = false ∧ wheelDue wheel1 false = [⟨3, false, 1000, 0⟩] ∧ wheelDue wheel1 true = [] := by
  decide +kernel

def timed (f : TimeSt → TimeSt) (s : State) : State := { s with time := f s.time }
def ppsOn : State := timed (fun t => { t with now := ⟨1, 0, 0⟩ }) (setRegF (pa pgPtp offPPS_OUT) fPPS_OUT_EN 1 up)

theorem test_w_TimeCounterCommands :
    stopped up = false ∧ accepts up 0 (pa pgPtp offTIME_CTL) (mkWord [(fTIME_CTL_OP, 1)]) = true ∧
    accepts up 0 (pa pgPtp offTIME_CTL) (mkWord [(fTIME_CTL_OP, 2)]) = true ∧
    (reg up (pa pgPtp (offTIME_D 1))).toNat < 1000000000 ∧ up.ports.port = [] ∧ up.pin.verdict = true ∧
    accepts up 0 (pa pgPtp offTIME_CTL) (mkWord [(fTIME_CTL_OP, 3)]) = true ∧
    (let b := !regB up (pa pgPtp offPTP_CFG) fPTP_CFG_TREF_25
     accepts up 0 (pa pgPtp offPTP_CFG) (fset (reg up (pa pgPtp offPTP_CFG)) fPTP_CFG_TREF_25 (if b then 1 else 0)) = true ∧
      b ≠ regB up (pa pgPtp offPTP_CFG) fPTP_CFG_TREF_25) ∧
    fbit (live ppsOn (pa pgPtp offPPS_OUT)) fPPS_OUT_EN = true ∧ ppsOn.time.ppsLast < ppsPoint ppsOn ∧ ppsOn.time.ppsEnd = none ∧
    stopped ppsOn = false ∧ up.pin.lost.contains 1 = false ∧
    (timed (fun t => { t with trefSince := some 0 }) up).time.trefSince = some 0 ∧ 0 + 10 * tMs ≤ kNow up ∧
    regB up (pa pgPtp offTIME_STS) fTIME_STS_TREF_LOCK = false := by
  decide +kernel

/-- The service offload on, and its timer 131,071 with a period of 1,000 ns due; then the same waiting in the FIFO. -/
def svcUp : State := setRegF (pa dev offSVC_CFG) fSVC_CFG_PROFILE 1 up
def timerDue (out : Bool) : State :=
  { svcUp with svc := { svcUp.svc with entry := [(131071, 1)], next := [(131071, 5)],
                                       outstanding := if out then [131071] else [] } }

def timerWaits : State := { svcUp with svc := { svcUp.svc with fifo := [(131071, 0, 1)] } }

theorem test_w_ServiceTimerCommands :
    stopped up = false ∧ accepts up 0 (pa dev offSVC_CFG) 1 = true ∧
    accepts up 0 (pa pgRc offTMR_CMD) (mkWord [(fTMR_CMD_OP, 0), (fTMR_CMD_INDEX, 131071)]) = true ∧
    accepts up 0 (pa pgRc offTMR_CMD) (mkWord [(fTMR_CMD_OP, 1), (fTMR_CMD_INDEX, 131071)]) = true ∧
    timerIllegal (dRegs (setReg (pa pgRc (offTMR_D 1)) 1000 up) (pa pgRc (offTMR_D 0)) 2) = false ∧
    timerIllegal (dRegs up (pa pgRc (offTMR_D 0)) 2) = true ∧ stopped (timerDue true) = false ∧
    mfind (timerDue false).svc.next 131071 = some 5 ∧ svcOn (timerDue false) = true ∧
    tEn (timerEntry (timerDue false) 131071) = true ∧ 5 ≤ now (timerDue false) ∧
    inWheel (timerDue false) (timerKey 131071) = false ∧ (timerDue false).svc.fifo.length < 4096 ∧
    (timerDue false).svc.outstanding.contains 131071 = false ∧ (timerDue true).svc.outstanding.contains 131071 = true ∧
    tEn (timerEntry (timerDue true) 131071) = true ∧ inWheel (timerDue true) (timerKey 131071) = false ∧
    timerWaits.svc.fifo = [(131071, 0, 1)] ∧ svcOn timerWaits = true ∧ stopped timerWaits = false ∧
    (dispQ timerWaits 36).length < 256 ∧ timerWaits.svc.lastAt + 64 ≤ now timerWaits := by
  decide +kernel

/-- A thread reserved for a service pass of a profile, whose PRV names a context. -/
def svcThread (prof ctx : Nat) (head : Bytes) : State :=
  let p : Pass := { passReset with phase := .ready, head := head, src := 260, prv := overwrite (overwrite (List.replicate 64 0) 2 (leBytes 1 prof)) 28 (leBytes 4 ctx) }
  { svcUp with disp := { svcUp.disp with passes := [(9, p)] }, grv := { svcUp.grv with threads := [(4095, { threadReset 4095 with st := .reserved, pass := 9 })] } }
/-- A BFD control packet for session 0 without a discriminator, and one that its empty block takes. -/
def bfdPkt : Bytes := [0x20, 0x40, 3, 24, 0, 0, 0, 1] ++ List.replicate 4 0 ++ List.replicate 12 0
def bfdGood : State :=
  let s := svcThread 0xF1 0 ([0x20, 0x40, 3, 24, 0, 0, 0, 1, 0, 0, 0, 1] ++ List.replicate 12 0)
  { s with ctx := { s.ctx with ctx := [(0xC0004, 1)] } }
def learning : State :=
  setReg (pa pgEmt (offEMT_TBL_GEO 0)) (mkWord [(fEMT_TBL_GEO_ENABLE, 1), (fEMT_TBL_GEO_KEY_BYTES, 8)])
    { up with sap := { up.sap with core := [(0, { coreReset 0 with halted := false })], learn := [(0, 4)] },
              emt := { up.emt with lq := [1] } }
/-- A CFM frame whose PDU is given. Table 62 has a key of no bytes and one entry, which every CFM frame therefore finds. -/
def cfmHead (pdu : Bytes) : Bytes := List.replicate 12 0 ++ [0x89, 0x02] ++ pdu
def cfmUp (found : Bool) (pdu : Bytes) : State :=
  let s := svcThread 0xF3 0 (cfmHead pdu)
  let t := setReg (pa pgEmt (offEMT_TBL_GEO 62)) (mkWord [(fEMT_TBL_GEO_ENABLE, 1)]) s
  if found then setEmtTag 62 (4 * (emtHash t 62 [] % emtBuckets t 62)) (mkTag 3 false false 0) t else s
/-- A CCM at this level for a MEP of which `b` is configured. -/
def ccmPdu (b : Bytes) (level : Nat) : Bytes :=
  [BitVec.ofNat 8 (level * 32), 1, BitVec.ofNat 8 (Config.mepPeriod b % 8)] ++ List.replicate 5 0 ++
    [BitVec.ofNat 8 (Config.mepRemote b % 8192 / 256), BitVec.ofNat 8 (Config.mepRemote b % 256)] ++ padTo 48 (Config.mepMeg b)

theorem padTo_length (n : Nat) (b : Bytes) : (padTo n b).length = n := by
  simp [padTo, slice]

theorem test_w_CcmTakenOrUnexpected (b : Bytes) : ccmCause b (ccmPdu b (Config.mepLevel b % 8)) = 0 ∧
    ccmCause b (ccmPdu b ((Config.mepLevel b + 1) % 8)) ≠ 0 := by
  have hm : slice (ccmPdu b (Config.mepLevel b % 8)) 10 48 = padTo 48 (Config.mepMeg b) := by
    have h := padTo_length 48 (Config.mepMeg b)
    simp [slice, ccmPdu, List.replicate, h]
  have h0 : ∀ l, l < 8 → (byteAt (ccmPdu b l) 0).toNat / 32 = l := by
    intro l hl; simp [byteAt, ccmPdu, List.replicate]; omega
  have h2 : (byteAt (ccmPdu b (Config.mepLevel b % 8)) 2).toNat % 8 = Config.mepPeriod b % 8 := by
    simp [byteAt, ccmPdu, List.replicate]
  have h8 : beAt (ccmPdu b (Config.mepLevel b % 8)) 8 2 % 8192 = Config.mepRemote b % 8192 := by
    simp [beAt, beNat, leNat, slice, ccmPdu, List.replicate]; omega
  refine ⟨?_, ?_⟩
  · simp [ccmCause, h0 _ (Nat.mod_lt _ (by omega)), h2, h8, hm]
  · have h : (Config.mepLevel b + 1) % 8 ≠ Config.mepLevel b % 8 := by omega
    simp [ccmCause, h0 _ (Nat.mod_lt _ (by omega)), h]

theorem test_w_CfmReceive :
    (∀ op ∈ [1, 3, 5, 42, 43, 46, 47], let s := cfmUp true [0, op]
      stopped s = false ∧ (match svcPass s 4095 0xF3 with
        | some (_, p) => cfmAt p.head == some 14 && (cfmFind s p 14).isSome
        | none => false) = true) ∧
    blockFree (cfmUp true []) (mepCtx 16383) = true ∧ (svcPass (cfmUp false [0, 1]) 4095 0xF3).isSome = true ∧
    (svcPass (cfmUp true [0, 2]) 4095 0xF3).isSome = true ∧ cfmServed 2 = false := by
  decide +kernel

theorem test_w_ServiceImagesUpdateTheirSession :
    stopped (svcThread 0xF0 0xC0000 []) = false ∧ 4095 < noThread ∧ (svcPass (svcThread 0xF0 0xC0000 []) 4095 0xF0).isSome = true ∧
    blockFree (svcThread 0xF0 0xC0000 []) 0xC0000 = true ∧ (svcPass bfdGood 4095 0xF1).isSome = true ∧
    blockFree bfdGood 0xC0004 = true ∧ stopped bfdGood = false ∧
    bfdValid (block bfdGood 0xC0004) ([0x20, 0x40, 3, 24, 0, 0, 0, 1, 0, 0, 0, 1] ++ List.replicate 12 0) = true ∧
    bfdValid (block bfdGood 0xC0000) bfdPkt = false ∧
    (svcPass (svcThread 0xF2 0xBFFFC []) 4095 0xF2).map (fun x => mepOf x.2) = some 16383 ∧
    blockFree (svcThread 0xF2 0xBFFFC []) (mepCtx 16383) = true ∧
    (svcPass (svcThread 0xF6 0xB0000 []) 4095 0xF6).map (fun x => mepOf x.2) = some 0 ∧
    blockFree (svcThread 0xF6 0xB0000 []) (mepCtx 0) = true ∧
    stopped learning = false ∧ sapRunning learning = true ∧ learning.tae.sapC = [] ∧ learning.sap.flush = [] ∧
    learning.emt.lq = [1] ∧ liveB learning (pa pgEmt offLQ_CFG) fLQ_CFG_OWNER = false ∧ learning.tae.sapQ.length < 256 ∧
    (reg learning (pa pgEmt offLQ_HEAD)).toNat < 131072 ∧ (learnOff learning 0).isSome = true ∧ emtOn learning 0 = true ∧
    emtKeyLen learning 0 ≤ 12 := by
  decide +kernel

/-- Core 3 running, source 5 enabled for it at PRIO 0 and pending. -/
def coreUp (c : SapCore) (s : State) : State := { s with sap := { s.sap with core := [(3, c)] } }
def run3 : SapCore := { coreReset 3 with halted := false, sp := 64 }
def src5 : State :=
  let s := setReg (pa pgIc (offIC_SRC_CFG 2)) (BitVec.ofNat 32 ((2 ^ 9 + 2 ^ 8 + 2 ^ 7) * 2 ^ 16)) up
  coreUp run3 { s with ic := { s.ic with latch := [5] } }
def timer3 (periodic : Bool) : State :=
  let s := setReg (pa pgIc (offIC_TMR 3)) (fset 1 fIC_TMR_PERIODIC (if periodic then 1 else 0)) up
  { s with ic := { s.ic with timer := [(3, 7)] } }

theorem test_w_InterruptControllerCommands :
    stopped src5 = false ∧ accepts src5 0 (pa pgIc offIC_SGI) 5 = true ∧ srcEn src5 5 = true ∧ srcEn src5 15 = false ∧
    accepts src5 0 (pa pgIc offIC_SGI) 15 = true ∧ accepts up 0 (pa pgIc (offIC_EOI 3)) 511 = true ∧
    icActiveOn { up with ic := { up.ic with active := [511 * 4 + 3] } } 511 3 = true ∧ icActiveOn up 511 3 = false ∧
    mfind (timer3 true).ic.timer 3 = some 7 ∧ 7 ≤ now (timer3 true) ∧ stopped (timer3 true) = false ∧
    regB (timer3 false) (pa pgIc (offIC_TMR 3)) fIC_TMR_PERIODIC = false ∧
    regB (timer3 true) (pa pgIc (offIC_TMR 3)) fIC_TMR_PERIODIC = true ∧
    (Machine.core src5 3).halted = false ∧ presented src5 3 = some 5 ∧ contests src5 3 0 5 = false ∧
    (Machine.core (coreUp { run3 with frames := [5] } up) 3).frames = [5] ∧
    presented (setRegF (pa pgIc (offIC_RP 3)) fIC_RP_RP (natField (frameWord (Machine.core (coreUp { run3 with frames := [5] } up) 3) 2).toNat 20 16)
      (coreUp { run3 with frames := [5] } up)) 3 = none ∧ stopped (coreUp { run3 with frames := [5] } up) = false ∧
    accepts up 0 (pa pgPcie offHEV_ACK) 63 = true ∧ hevPages up 63 = [] := by
  decide +kernel

def late3 : State := coreUp run3 (setReg (pa pgHmb offHW_SWD) (fset (reg up (pa pgHmb offHW_SWD)) fHW_SWD_EN 1) up)

theorem test_w_SapwoodKickAndWatchdog :
    stopped up = false ∧ accepts up 4 (pa 0x007 offSW_KICK) 0 = true ∧ up.sap.started ≠ some 3 ∧ (Machine.core late3 3).halted = false ∧
    (Machine.core late3 3).kickAt + swdTimeout late3 ≤ kNow late3 ∧ late3.hw.downTill = none ∧ late3.pin.keepClk = true ∧
    late3.sap.started ≠ some 3 ∧ liveB late3 (pa pgHmb offHW_SWD) fHW_SWD_EN = true ∧ late3.sap.restart.contains 3 = false ∧
    stopped late3 = false := by
  decide +kernel

/-- A MAC page with these fields of its status and configuration. -/
def mac (p : Nat) (sts cfg : List (Fld × Nat)) (s : State) : State :=
  let a := sts.foldl (fun s e => setRegF (pa (macPage p) offMAC_STS) e.1 e.2 s) s
  cfg.foldl (fun s e => setRegF (pa (macPage p) offMAC_CFG) e.1 e.2 s) (setRegB (pa (macPage p) offCtl) fPAGE_CTL_ENABLE true a)
def pll (p : Nat) (s : State) : State :=
  setRegF (pa (quadPage p) offSDQ_PLL) fSDQ_PLL_PLL0_LOCK 1 (setRegF (pa (quadPage p) offSDQ_PLL) fSDQ_PLL_PLL0_FAM 1 s)
def port1 (p : Nat) (f : PortSt → PortSt) (s : State) : State :=
  { s with ports := { s.ports with port := mset portReset s.ports.port p (f (port s p)) } }
def negotiating : State :=
  setRegF (pa (macPage 255) offANMASK) fANMASK_TYPES 1 (mac 255 [(fMAC_STS_LSTATE, lsNeg)] [(fMAC_CFG_PORT_MODE, 0x1F)] up)
def atLevel (l : Nat) : State := pll 255 (mac 255 [(fMAC_STS_LSTATE, l), (fMAC_STS_RESOLVED, 0x10)] [(fMAC_CFG_PORT_MODE, 0x10)] up)
def linked (p : Nat) : State := mac p [(fMAC_STS_LINK, 1), (fMAC_STS_LSTATE, lsUp), (fMAC_STS_RESOLVED, 0x19), (fMAC_STS_ACTIVE_LANES, 4)] [] up

theorem test_w_PortLinkEvents :
    stopped negotiating = false ∧ macSts negotiating 255 fMAC_STS_LSTATE = lsNeg ∧ portEnabled negotiating 255 = true ∧
    advertised negotiating 255 = [0x10] ∧ fecMode negotiating 255 = 0 ∧ (3 : Nat).testBit (0x10 - 0x10) = true ∧
    (pllFor negotiating (quadPage 255) (modeFamily 0x10)).isSome = true ∧ (2 : Nat).testBit (0x10 - 0x10) = false ∧
    macSts (atLevel lsTrain) 255 fMAC_STS_LSTATE = lsTrain ∧ portLocked (atLevel lsTrain) 255 = true ∧
    portMode (atLevel lsTrain) 255 ≠ 0x1F ∧ macSts (atLevel lsAlign) 255 fMAC_STS_LSTATE = lsAlign ∧
    portLocked (atLevel lsAlign) 255 = true ∧ portEnabled (atLevel lsAlign) 255 = true ∧ stopped (atLevel lsAlign) = false ∧
    macSts (linked 252) 252 fMAC_STS_LINK = 1 ∧ pllFam (atLevel 0) (quadPage 255) 0 ≠ 0 ∧
    pllLocked (atLevel 0) (quadPage 255) 0 = true ∧ up.pin.lost.contains 3 = false := by
  decide +kernel

def eee : State := mac 255 [(fMAC_STS_LINK, 1), (fMAC_STS_EEE_ACTIVE, 1)] [] up
def lpi : State := port1 255 (fun st => { st with fcOwed := [(8, true)] }) (mac 255 [(fMAC_STS_TX_LPI, 1)] [] up)

theorem test_w_EnergyEfficientEthernet :
    stopped eee = false ∧ macSts eee 255 fMAC_STS_EEE_ACTIVE = 1 ∧ macSts eee 255 fMAC_STS_TX_LPI = 0 ∧ gateEn eee 255 = false ∧
    (port eee 255).tx = none ∧ txWants eee 255 = false ∧
    (port eee 255).idleSince + liveF eee (pa (macPage 255) offEEE_CFG) fEEE_CFG_LPI_IDLE_US * tUs ≤ now eee ∧
    macSts lpi 255 fMAC_STS_TX_LPI = 1 ∧ txWants lpi 255 = true ∧ macSts eee 255 fMAC_STS_LINK = 1 ∧
    macSts (linked 252) 252 fMAC_STS_LINK = 1 ∧ macSts (linked 252) 252 fMAC_STS_EEE_ACTIVE = 0 := by
  decide +kernel

/-- Port 252 with Coppice active on this many of its four lanes, up or in loopback. -/
def copIn (level lanes : Nat) (f : PortSt → PortSt) : State :=
  port1 252 f (mac 252 [(fMAC_STS_COPPICE_ACTIVE, 1), (fMAC_STS_ACTIVE_LANES, lanes), (fMAC_STS_LSTATE, level)]
    [(fMAC_CFG_COPPICE_EN, 1)] (linked 252))
def cop (lanes : Nat) (f : PortSt → PortSt) : State := copIn lsUp lanes f
def asked (q : CopReq) (st : PortSt) : PortSt := { st with copReq := some q }
def busy (st : PortSt) : PortSt := { st with winLast := 1000000000 }

theorem test_w_CoppiceCommands :
    stopped (cop 4 id) = false ∧ copOn (cop 4 id) 252 = true ∧ (port (cop 4 id) 252).copSent = none ∧ copActive (cop 4 id) 252 = true ∧
    copOpen (cop 4 id) 252 = true ∧ rxAccepts (cop 4 id) 252 = true ∧ macSts (cop 4 id) 252 fMAC_STS_LSTATE ≠ lsLoop ∧
    copOn (copIn lsLoop 4 id) 252 = true ∧ copOpen (copIn lsLoop 4 id) 252 = true ∧ rxAccepts (copIn lsLoop 4 id) 252 = true ∧
    macSts (copIn lsLoop 4 id) 252 fMAC_STS_LSTATE = lsLoop ∧ (port (copIn lsLoop 4 id) 252).copSent = none ∧
    stopped (copIn lsLoop 4 id) = false ∧ copPending (cop 4 id) 252 = none ∧ 2 ≤ activeLanes (cop 4 id) 252 ∧ shedLow (cop 4 busy) 252 2 = false ∧ shedLow (cop 4 id) 252 2 = true ∧
    2 * 2 = activeLanes (cop 4 id) 252 ∧
    (port (cop 4 (fun st => { st with copLowSince := some 0 })) 252).copLowSince = some 0 ∧ 0 + copHold (cop 4 id) 252 ≤ now (cop 4 id) ∧
    (port (cop 4 id) 252).copNakUntil ≤ now (cop 4 id) ∧
    copPending (cop 4 (asked ⟨false, 2, 9, 0, false⟩)) 252 = some ⟨false, 2, 9, 0, false⟩ ∧
    copPending (cop 4 (asked ⟨true, 4, 9, 0, false⟩)) 252 = some ⟨true, 4, 9, 0, false⟩ ∧
    (port (cop 4 (asked ⟨false, 2, 9, 0, false⟩)) 252).copReq = some ⟨false, 2, 9, 0, false⟩ ∧
    (port (cop 4 (asked ⟨false, 2, 9, 0, true⟩)) 252).copReq = some ⟨false, 2, 9, 0, true⟩ ∧
    copActive (cop 4 (asked ⟨false, 2, 9, 0, true⟩)) 252 = true ∧ copOpen (cop 2 id) 252 = true ∧ copActive (cop 2 id) 252 = true ∧
    activeLanes (cop 2 id) 252 < fullLanes (cop 2 id) 252 ∧ wakeWanted (cop 2 id) 252 = true ∧
    (port (cop 2 (asked ⟨true, 4, 9, 0, false⟩)) 252).copReq = some ⟨true, 4, 9, 0, false⟩ ∧
    (port (cop 2 id) 252).winStart + 100 * tUs ≤ now (cop 2 id) ∧ 0 + 20 * tUs ≤ now (cop 2 id) := by
  decide +kernel

/-- A frame of n bytes before its good FCS; and one of 64 bytes whose FCS is stomped. -/
def good (n : Nat) : Bytes := withFcs false (List.replicate n 0x11)
def stomped : Bytes := withFcs true (List.replicate 60 0x11)
def rx255 : State := linked 255

/-- Every free list filled; port 255 with cut-through; its reception open, its head gone ahead as pass 9; Rootway enabled on it. -/
def stocked (s : State) : State :=
  { s with clr := { s.clr with free := (List.range 32).map (fun b => (b, ⟨0, 16384, []⟩)) } }
def cutThrough : State := setReg (pa pgClr (offCLR_CT_RX 7)) 0x80000000 (stocked rx255)
def rxPart (bytes : Bytes) (pass : Option Nat) : RxFrame :=
  { bytes := bytes, cells := [], ignore := false, discard := false, why := 0, owed := [], cls := 8, broken := false, cut := none,
    ts := ⟨0, 0, 0⟩, pass := pass }
def early : State :=
  let s := port1 255 (fun st => { st with rx := some (rxPart ((good 255).take 257) (some 9)) }) rx255
  { s with disp := { s.disp with passes := [(9, { passReset with src := 255, raw := (good 255).take 256, complete := false })] } }
def rwPort : State := setReg (pa pgRw (offRW_LINK_EN 3)) 0x80000000 rx255
def rwGood (et : Nat) : Bytes := withFcs false (beBytes 6 0x035048000002 ++ List.replicate 6 0 ++ beBytes 2 et ++ List.replicate 46 0)
def gotWhy (s : State) (f : Bytes) : Nat := (bodyCells 31 false 255 8 (((rxBody s 255 f).length + 255) / 256) [] s).2.2

set_option maxRecDepth 20000 in
theorem test_w_ReceivedFramesAreCheckedInOrder :
    stopped rx255 = false ∧ safe rx255 = false ∧ (port rx255 255).rx = none ∧ rxAccepts up 255 = false ∧ rxAccepts rx255 255 = true ∧
    macSts (mac 255 [(fMAC_STS_FEC, 2)] [] rx255) 255 fMAC_STS_LINK = 1 ∧ 2 ≤ macSts (mac 255 [(fMAC_STS_FEC, 2)] [] rx255) 255 fMAC_STS_FEC ∧
    (good 60).length = 64 ∧ (good 256).length = 260 ∧ (good 257).length = 261 ∧
    maxLen (setReg (pa (macPage 255) offMAC_MAXLEN) 259 rx255) 255 < (good 256).length ∧
    gotWhy (setReg (pa (macPage 255) offMAC_MAXLEN) 259 rx255) (good 256) = 0 ∧ gotWhy rx255 stomped = 0 ∧
    (good 257).length ≤ maxLen rx255 255 ∧ leAt stomped 60 4 ≠ crc32 (stomped.take 60) ∧ stomped.length = 64 ∧
    leAt (good 256) 256 4 = crc32 ((good 256).take 256) ∧ consumed rx255 255 (good 256) = false ∧
    leAt (good 257) 257 4 = crc32 ((good 257).take 257) ∧ consumed (stocked rx255) 255 (good 257) = false ∧
    gotWhy (stocked rx255) (good 257) = 0 ∧ (good 257).length ≤ maxLen (stocked rx255) 255 ∧
    limit (setReg (pa pgClr (offCLR_PROF 9)) 0 rx255) 255 9 ≤ rxc (setReg (pa pgClr (offCLR_PROF 9)) 0 rx255) 255 ∧
    (live cutThrough (pa pgClr (offCLR_CT_RX (255 / 32)))).toNat.testBit (255 % 32) = true ∧ gotWhy cutThrough (good 257) = 0 ∧
    consumed cutThrough 255 (good 257) = false := by
  decide +kernel

set_option maxRecDepth 20000 in
theorem test_w_ReceivedFramesOfRootwayAndAhead :
    (let f := rwGood (liveF rwPort (pa pgRw offRW_CFG) fRW_CFG_ETYPE)
     f.length = 64 ∧ leAt f 60 4 = crc32 (f.take 60) ∧ isMacCtl f = false ∧ isCoppice rwPort 255 f = false ∧
     isRootway rwPort 255 f = true) ∧
    stopped early = false ∧ safe early = false ∧ (port early 255).rx = some (rxPart ((good 255).take 257) (some 9)) ∧
    rxCopies early 9 = [] ∧ (pass? early 9).isSome = true ∧ (good 255).take 257 ++ (good 255).drop 257 = good 255 ∧
    (good 255).length = 259 ∧ consumed early 255 (good 255) = false ∧ leAt (good 255) 255 4 = crc32 ((good 255).take 255) ∧
    leAt ((good 255).take 257 ++ [0, 0]) 255 4 ≠ crc32 (((good 255).take 257 ++ [0, 0]).take 255) ∧
    259 ≤ maxLen early 255 := by
  decide +kernel

/-- Port 255 on 800 Gb/s, its PAUSE timer running since long ago; the same, owing a PAUSE frame. -/
def fcPort (cfg : List (Fld × Nat)) (f : PortSt → PortSt) : State := port1 255 f (mac 255 [] cfg rx255)
def held8 (st : PortSt) : PortSt := { st with timers := [(8, ⟨9000000000, 0, 0⟩)] }
def storm : State := setReg (pa (macPage 255) offPAUSE_WD) (mkWord [(fPAUSE_WD_HOLD_MS, 1), (fPAUSE_WD_IGNORE_MS, 1)]) (fcPort [] held8)

theorem test_w_FlowControlReceivedAndSent :
    rxAccepts (fcPort [(fMAC_CFG_PAUSE_RX_EN, 1)] id) 255 = true ∧ pauseRxEn (fcPort [(fMAC_CFG_PAUSE_RX_EN, 1)] id) 255 = true ∧
    (∀ i, i < 9 → (fcTimer rx255 255 i).ignEnd ≤ now rx255 ∧ (fcTimer rx255 255 i).fin ≤ now rx255) ∧
    pauseRxEn rx255 255 = false ∧ pfcRxEn rx255 255 = false ∧
    pauseRxEn (fcPort [(fMAC_CFG_PFC_RX_EN, 1)] id) 255 = false ∧ pfcRxEn (fcPort [(fMAC_CFG_PFC_RX_EN, 1)] id) 255 = true ∧
    pfcRxEn (fcPort [(fMAC_CFG_PAUSE_RX_EN, 1)] id) 255 = false ∧ stopped storm = false ∧
    fget (live storm (pa (macPage 255) offPAUSE_WD)) fPAUSE_WD_HOLD_MS ≠ 0 ∧ now storm < (fcTimer storm 255 8).fin ∧
    (fcTimer storm 255 8).holdStart + fget (live storm (pa (macPage 255) offPAUSE_WD)) fPAUSE_WD_HOLD_MS * tMs < now storm ∧
    (port (fcPort [] (fun st => { st with fcOwed := [(8, true)] })) 255).fcOwed = [(8, true)] ∧
    ownOpen (fcPort [] (fun st => { st with fcOwed := [(8, true)] })) 255 = true ∧
    fcGateOk (fcPort [] (fun st => { st with fcOwed := [(8, true)] })) 255 = true ∧
    macSts (mac 255 [(fMAC_STS_LSTATE, lsLoop)] [] rx255) 255 fMAC_STS_LSTATE = lsLoop ∧
    (port (fcPort [] (fun st => { st with cond := [8] })) 255).cond.contains 8 = true ∧
    mget (fun _ => 0) (port rx255 255).fcLast 8 + quantaUnits rx255 255 (liveF rx255 (pa (macPage 255) offFC_CFG) fFC_CFG_QUANTA) / 2
      ≤ now rx255 := by
  decide +kernel

/-- A copy of 60 bytes in transmission on a port. -/
def sending (p : Nat) (d : Desc) (s : State) : State :=
  let t := port1 p (fun st => { st with tx := some 5, txMax := 9216 }) s
  { t with clr := { t.clr with desc := [(5, { d with port := p })] } }
/-- Heads of port 258 that wait for dispatch. -/
def waiting258 (n : Nat) (s : State) : State :=
  { s with disp := { s.disp with passes := (List.range n).map (fun k => (k, { passReset with src := 258 })) } }
def trail255 : State := sending 255 desc1 (mac 255 [] [(fMAC_CFG_TRAIL_EN, 1)] rx255)

theorem test_w_FramesTransmittedLeaveTheirPort :
    stopped (sending 255 desc1 rx255) = false ∧ safe (sending 255 desc1 rx255) = false ∧
    (port (sending 255 desc1 rx255) 255).tx = some 5 ∧ trailEn (sending 255 desc1 rx255) 255 = false ∧
    hEvent (pktHeader (sending 255 desc1 rx255) []) = false ∧ Nat.max desc1.len 60 + 4 ≤ (port (sending 255 desc1 rx255) 255).txMax ∧
    macSts (sending 255 desc1 rx255) 255 fMAC_STS_LSTATE ≠ lsLoop ∧
    (port (sending 255 desc1 rx255) 255).txMax < Nat.max ({ desc1 with len := 16000 } : Desc).len 60 + 4 ∧
    trailEn trail255 255 = true ∧ hTrail (pktHeader trail255 []) = false ∧ Nat.max (desc1.len + 16) 60 + 4 ≤ (port trail255 255).txMax ∧
    macSts trail255 255 fMAC_STS_LSTATE ≠ lsLoop ∧
    mfind (sending 258 desc1 up).clr.desc 5 = some { desc1 with port := 258 } ∧ (port (sending 258 desc1 up) 258).tx = some 5 ∧
    desc1.rxPass = none ∧ desc1.broken = false ∧ headsWaiting (sending 258 desc1 up) 258 < 32 ∧
    (port (sending 259 desc1 up) 259).tx = some 5 ∧ headsWaiting (sending 259 desc1 up) 259 < 32 ∧
    32 ≤ headsWaiting (waiting258 32 (sending 258 desc1 up)) 258 := by
  decide +kernel

def withPass (k : Nat) (p : Pass) (s : State) : State := { s with disp := { s.disp with passes := mput s.disp.passes k p } }
def inQueue (q : Nat) (l : List Nat) (s : State) : State := { s with disp := { s.disp with queue := mput s.disp.queue q l } }
/-- Grove 31 and the parser in service. -/
def grv31 : State := setRegB (pa pgPgu offCtl) fPAGE_CTL_ENABLE true (setRegB (pa (grvPage 31) offCtl) fPAGE_CTL_ENABLE true up)
def arrived (src : Nat) : State := withPass 9 { passReset with src := src, raw := List.replicate 64 0 } grv31
def granted (q : Nat) : State := inQueue q [9] (withPass 9 { passReset with phase := .queued } grv31)
def restarting : State :=
  let s := withPass 9 { passReset with phase := .restart, grove := 31 } grv31
  { s with disp := { s.disp with restarts := [9] } }
def reserved (e : Nat) : State :=
  let s := withPass 9 { passReset with phase := .ready, tid := 4095, epoch := 1 } grv31
  { s with grv := { s.grv with threads := [(4095, { threadReset 4095 with st := .reserved, pass := 9 })], disp := [(256, e)] } }

theorem test_w_HeadsAreQueuedGrantedAndStarted :
    stopped grv31 = false ∧ firstOf (arrived 260) 260 .arrived = some 9 ∧ firstOf (arrived 255) 255 .arrived = some 9 ∧
    (dispQ (arrived 255) (queueOf 255)).length < 256 ∧
    256 ≤ (dispQ (inQueue (queueOf 255) (List.replicate 256 3) (arrived 255)) (queueOf 255)).length ∧
    256 ≤ (dispQ (inQueue (queueOf 260) (List.replicate 256 3) (arrived 260)) (queueOf 260)).length ∧
    dispatchOpen (granted 0) = true ∧ strayRestarts (granted 0) = [] ∧ dispQ (granted 36) 36 = [9] ∧
    (∀ r, r < 37 → r ≠ 36 → dispQ (granted 36) r = []) ∧ dispQ (granted 0) 0 = [9] ∧ running (granted 0) pgPgu = true ∧
    pickGrove (granted 0) (groveTakes ⟨0, [], granted 0⟩) = some 0 ∧ dispatchOpen restarting = true ∧
    restarting.disp.restarts = [9] ∧ (pass? restarting 9).map (restartGrove restarting) = some (some 31) ∧
    (pass? restarting 9).map (fun p => (pickRestart restarting p 31).isSome) = some true ∧ (thread (reserved 4096) 4095).st = .reserved ∧
    (pass? (reserved 4096) 9).isSome = true ∧ (dispEntry (reserved 4096) (256 * (1 % 2) + 0)).testBit 12 = true ∧
    (dispEntry (reserved 0) (256 * (1 % 2) + 0)).testBit 12 = false := by
  decide +kernel

/-- A pass walking under one node: its kind, with DEFNEXT 0x100. -/
def walks (kind : Nat) : State :=
  let s := withPass 9 { passReset with phase := .walking, tid := 4095, raw := List.replicate 64 0, flen := 68 } grv31
  setRegF (pa pgPgu offPGU_ACT) fPGU_ACT_MALF 2
    { s with pgu := { s.pgu with nodes := [(0, 2 ^ 94 + kind * 2 ^ 63 + 256 * 2 ^ 54)] } }
def walkResult (kind : Nat) : WalkEnd × Walk :=
  let s := walks kind
  let p := (pass? s 9).getD passReset
  let e := curEpoch s
  graphWalk (enterFlight 9 e s)
    ⟨p.raw, 256, some (p.flen - 4), liveB s (pa pgPgu offPGU_CFG) fPGU_CFG_FRAG_EN && !p.recirc, e % 2, p.grove⟩
    (liveF s (pa pgPgu (offPGU_PORT p.src)) fPGU_PORT_START) (walkStart (liveF s (pa pgPgu (offPGU_PORT p.src)) fPGU_PORT_PROFILE))
def holding : State :=
  let s := withPass 9 { passReset with phase := .held } up
  { s with pgu := { s.pgu with held := [9], fragAt := [(65535, 0)], frag := [(65535, 1)] } }

theorem test_w_WalksHoldsAndFragmentAge :
    stopped (walks 0) = false ∧ (pass? (walks 0) 9).map (fun p => p.phase == .walking && p.tid == 4095 && p.known) = some true ∧
    trailEn (walks 0) 0 = false ∧ (walkResult 0).1 = (0, 0) ∧ (walkResult 0).2.frag = none ∧ (walkResult 0).2.overlong = false ∧
    (walkResult 1).1.1 = 2 ∧ (walkResult 1).2.frag = none ∧ liveF (walks 1) (pa pgPgu offPGU_ACT) fPGU_ACT_MALF = 2 ∧
    holding.pgu.held.filter (fun k => match pass? holding k with
       | some p => decide (p.holdSince + liveF holding (pa pgPgu offFRAG_CFG) fFRAG_CFG_HOLD_US * tUs ≤ now holding)
       | none => false) ≠ [] ∧
    (let late := { holding with time := { holding.time with cclk := 10 ^ 15 } }
     late.pgu.fragAt.filter (fun e => decide (e.2 + liveF late (pa pgPgu offFRAG_CFG) fFRAG_CFG_AGE_MS * tMs ≤ now late)) ≠ []) := by
  decide +kernel

/-- Thread 4,095 at its first word w, for a pass with a head of 64 bytes whose layer 0 starts at 14. -/
def mw (l : List (Nat × Nat)) : Nat := (l.map (fun e => e.2 * 2 ^ e.1)).sum
def pass9 : Pass :=
  { passReset with phase := .running, tid := 4095, head := List.replicate 64 0x45, prv := [0, 0, 0, 0, 0, 0, 0, 0, 14] ++ List.replicate 7 0 ++ [1] ++ List.replicate 47 0 }
def at0 (w : Nat) (f : Thread → Thread) : State :=
  let th := { threadReset 4095 with st := .ready, pass := 9, staged := { stagedReset with copy := pass9.head, orig := (List.range 64).map some } }
  let s := withPass 9 pass9 grv31
  { s with grv := { s.grv with threads := [(4095, f th)], cs := [(31 * 4096, w)] } }
def aluWord (slot op : Nat) : Nat := mw [(if slot = 0 then 134 else 106, op)]

theorem test_w_AluOperationsOnTwoOperands :
    ∀ slot, slot < 2 → ∀ op ∈ [1, 2, 3, 4, 5, 6, 7, 8, 9, 0xA, 0xD, 0xE, 0x15, 0x16, 0x17, 0x2E],
      stopped (at0 (aluWord slot op) id) = false ∧ FieldReady (at0 (aluWord slot op) id) 1023 slot 4095 (aluIs slot (op % 32)) := by
  unfold FieldReady; decide +kernel

theorem test_w_AluLoadsComparesAndStores :
    (∀ slot, slot < 2 → ∀ op ∈ [0, 0xB, 0xC, 0xF, 0x10, 0x11, 0x12, 0x13, 0x14, 0x18],
      FieldReady (at0 (aluWord slot op) id) 1023 slot 4095 (fun w => aluOp (mwAlu w slot) == op)) ∧
    (passOf (at0 0 id) 4095).isSome = true := by
  unfold FieldReady; decide +kernel

theorem test_w_SequencingChoosesTheNextWord :
    (∀ seq, seq < 9 → SeqReady (at0 (mw [(140, seq)]) id) 1023 seq 4095) ∧ (passOf (at0 0 id) 4095).isSome = true ∧
    (waitMask (mw [(140, 6)])).any (pendingReg (wordThread (at0 (mw [(140, 6)]) id) 4095)) = false ∧
    SeqReady (at0 (mw [(140, 6)]) (fun th => { th with lrst := [(7, .pending)] })) 1023 6 4095 ∧
    (waitMask (mw [(140, 6)])).any
      (pendingReg (wordThread (at0 (mw [(140, 6)]) (fun th => { th with lrst := [(7, .pending)] })) 4095)) = true ∧
    pass9.headLost = false ∧ pass9.counted + 1 ≤ regF (at0 0 id) (pa dev offACT_CFG) fACT_CFG_RESTART_MAX := by
  unfold SeqReady; decide +kernel

def missing : Thread → Thread := fun th => { th with flagZ := false }
/-- Thread 4,095 waiting for registers 0 and 7, which one request fills. -/
def landing : State :=
  let l : List Pend := [⟨0, true, false, 5, false, none, 3, 0⟩, ⟨7, true, false, 6, false, none, 3, 0⟩]
  at0 0 (fun th => { th with st := .waiting, await := [0, 7], lrst := [(0, .pending), (7, .pending)], pend := l })

theorem test_w_LookupsReachResultRegisters :
    (∀ sp ∈ [1, 2], stopped (at0 (mw [(65, sp)]) id) = false ∧ FieldReady (at0 (mw [(65, sp)]) id) 1023 2 4095 (fun w => mwSpace w == sp)) ∧
    mwPred (mw [(65, 1)]) = false ∧ mwPred (mw [(65, 1), (64, 1), (144, 1)]) = true ∧
    FieldReady (at0 (mw [(65, 1), (64, 1), (144, 1)]) missing) 1023 2 4095 (fun w => mwSpace w == 1) ∧
    condNow (wordThread (at0 (mw [(65, 1), (64, 1), (144, 1)]) missing) 4095) (mw [(65, 1), (64, 1), (144, 1)]) = false ∧
    (thread landing 4095).pend.filter (fun x => x.grp == 3) = [⟨0, true, false, 5, false, none, 3, 0⟩, ⟨7, true, false, 6, false, none, 3, 0⟩] ∧
    ((thread landing 4095).pend.map (fun x => x.rreg % 8)).Nodup ∧ (thread landing 4095).st = .waiting ∧ stopped landing = false := by
  unfold FieldReady; decide +kernel

def hdrWord (op disp len : Nat) : Nat := mw [(60, op), (52, disp), (46, len - 1), (40, 48)]

theorem test_w_HeaderEditsChangeTheCopy :
    (∀ op, op < 8 → op ≠ 0 → FieldReady (at0 (hdrWord op 10 2) id) 1023 3 4095 (fun w => mwHdrOp w == op)) ∧
    stopped (at0 (hdrWord 1 10 2) id) = false ∧ (passOf (at0 0 id) 4095) = some pass9 ∧
    (wordThread (at0 (hdrWord 1 10 2) id) 4095).staged.edits < 16 ∧ prvLayerOk pass9.prv (mwHdrLayer (hdrWord 1 10 2)) = true ∧
    prvLayer pass9.prv (mwHdrLayer (hdrWord 6 10 2)) + mwHdrDisp (hdrWord 6 10 2) = 24 ∧
    (setBytes (at0 (hdrWord 1 10 2) id) pass9 (wordThread (at0 (hdrWord 1 10 2) id) 4095) (hdrWord 1 10 2) 2 48).map List.length = some 2 ∧
    5 ≤ (byteAt pass9.head (24 - 10)).toNat % 16 ∧ 24 - 10 + 4 * ((byteAt pass9.head (24 - 10)).toNat % 16) ≤ 64 ∧
    ((encap (at0 0 id) (mwImm (hdrWord 2 10 64) % 4096)).take 64).length = 64 ∧
    FieldReady (at0 (hdrWord 7 10 2) (fun th => { th with staged := { th.staged with edits := 16 } })) 1023 3 4095
      (fun w => mwHdrOp w == 7) := by
  unfold FieldReady; decide +kernel

/-- MEM of a word, and template 63 with one segment of sixteen bytes of the PRV. -/
def memWord (op low : Nat) : Nat := mw [(36, op), (24, low)]
def at0T (w : Nat) : State := let s := at0 w id; { s with grv := { s.grv with tmpl := [(63, 2 + 15 * 2 ^ 17)] } }
def waiting9 : State := { at0 0 id with ctx := { lock := [], wait := [(1048575, [9])], ctx := [] } }

theorem test_w_MemoryOperationsStageOrRead :
    (∀ op, op < 8 → op ≠ 0 → FieldReady (at0T (memWord op 63)) 1023 4 4095 (fun w => memOp (mwMem w) == op)) ∧
    (let s := at0T (memWord 3 0)
     mfind s.ctx.lock (ctxIndex (wordThread s 4095) (mwMem (memWord 3 0))) = none ∧
     mget (fun _ => []) s.ctx.wait (ctxIndex (wordThread s 4095) (mwMem (memWord 3 0))) = [] ∧
     (touched s (wordThread s 4095).pass).length < 8 ∧ (wordThread s 4095).staged.ctxs = []) ∧
    (templateBytes (at0T (memWord 4 63)) pass9 (wordThread (at0T (memWord 4 63)) 4095) 0 (natField (mwMem (memWord 4 63)) 5 0)).length = 16 ∧
    natField (mwMem (memWord 3 0)) 2 0 = 0 ∧ (wordThread (at0T 0) 4095).staged.cnts.length < 8 ∧
    (wordThread (at0T 0) 4095).staged.pols.length < 4 ∧ (wordThread (at0T 0) 4095).staged.notices.length < 2 ∧
    mfind waiting9.ctx.lock 1048575 = none ∧
    oldestWaiter waiting9 (mget (fun _ => []) waiting9.ctx.wait 1048575) = some 9 ∧ stopped waiting9 = false := by
  unfold FieldReady; decide +kernel

theorem test_w_DispositionOperationsSetTheRecord :
    ∀ op ∈ [1, 2, 3, 4, 5, 6, 0xC, 0xD, 0xE, 0xF],
      stopped (at0 (mw [(4, op), (0, 15)]) id) = false ∧
      FieldReady (at0 (mw [(4, op), (0, 15)]) id) 1023 5 4095 (fun w => mwDispOp w == op) := by
  unfold FieldReady; decide +kernel

def committing9 (copy : Bytes) (ctxs : List CtxOp) (dispo : Nat) : State :=
  at0 0 (fun th => { th with st := .committing, staged := { th.staged with copy := copy, ctxs := ctxs, dispo := dispo } })
def com1 : Committed := { headCells := [], headLen := 64, segs := [], dispo := 4, cells := 0, notices := [], early := false }
def ordered (l : List Nat) : State :=
  let s := withPass 9 { passReset with phase := .reorder, com := some com1 } up
  { s with disp := { s.disp with order := [(0, l)] } }

theorem test_w_CommitAndReorderRelease :
    (∀ d ∈ [2, 4], let s := committing9 (List.replicate 14 0) [⟨1048575, some 7, 0, 0⟩] d
      stopped s = false ∧ safe s = false ∧ passOf s 4095 = some pass9 ∧ (thread s 4095).st = .committing ∧
      14 ≤ (thread s 4095).staged.copy.length + (pass9.segs.map (fun g => g.len)).sum ∧
      dAction (thread s 4095).staged.dispo = d ∧ s.pgu.held = []) ∧
    (thread (committing9 (List.replicate 13 0) [] 0) 4095).staged.copy.length < 14 ∧
    (mget (fun _ => []) (ordered [8, 9]).disp.order 0).contains 9 = true ∧
    (mget (fun _ => []) (ordered [8, 9]).disp.order 0).head? ≠ some 9 ∧
    (mget (fun _ => []) (ordered [9, 8]).disp.order 0).head? = some 9 ∧ dAction com1.dispo = 4 ∧
    (pass? (ordered [9]) 9).map (fun p => p.com) = some (some com1) ∧ stopped (ordered [9]) = false := by
  decide +kernel

/-- The state after a command that completes. -/
def after (c : Instr) (s : State) : State := match exec c s with | .next t => t | _ => s
/-- A TAE command of the Sapwood queue, and a state with it as the next one. -/
def cmdBytes (op space table memb index len : Nat) (data : Bytes) : Bytes :=
  leBytes 4 (op + space * 2 ^ 8 + table * 2 ^ 16 + memb * 2 ^ 22) ++ leBytes 4 7 ++ leBytes 4 index ++ leBytes 4 len ++
    List.replicate 16 0 ++ (data ++ List.replicate (96 - data.length) 0)
def cmdAt (b : Bytes) (s : State) : State :=
  setRegB (pa pgTae offCtl) fPAGE_CTL_ENABLE true { s with tae := { s.tae with sapQ := [⟨b, 5⟩] } }
def nextIs (s : State) (b : Bytes) : Bool := stopped s == false && taeNext s 1 == some ⟨b, 5⟩ && taeFormatOk b

def emt63 : State := setReg (pa pgEmt (offEMT_TBL_GEO 63)) geo1 up
def key63 : Bytes := leBytes 16 0x1122334455667788
def ins63 : Bytes := cmdBytes opInsert 1 63 3 0 65 key63
def one63 : State := after (.insert 1 false) (cmdAt ins63 emt63)
def emtHyp (s : State) (b : Bytes) : Bool :=
  nextIs (cmdAt b s) b && tcSpace b == 1 && tcTable b == 63 && emtOn s 63 && !emtClearing s 63

theorem test_w_TableEngineOnExactMatchTables :
    emtHyp emt63 ins63 = true ∧ tcLen ins63 = 65 ∧ emtPadOk emt63 63 (tcData ins63) = true ∧ tcMemb ins63 = 3 ∧
    emtHolders emt63 63 (emtKeyOf emt63 63 (tcData ins63)) = [] ∧
    (match emtPlace emt63 63 (emtKeyOf emt63 63 (tcData ins63)) with | .free _ => true | _ => false) = true ∧
    (∀ op ∈ [opDelete, opModify, opSearch, opSetMemb], emtHyp one63 (cmdBytes op 1 63 3 0 65 key63) = true ∧
      (emtSelected one63 63 3 (emtKeyOf one63 63 (tcData (cmdBytes op 1 63 3 0 65 key63)))).length = 1) ∧
    emtHyp one63 (cmdBytes opSearch 1 63 3 0 65 []) = true ∧
    emtSelected one63 63 3 (emtKeyOf one63 63 (tcData (cmdBytes opSearch 1 63 3 0 65 []))) = [] ∧
    emtHyp emt63 (cmdBytes opWrite 1 63 3 3 65 key63) = true ∧ emtIndexOk emt63 63 3 = true ∧
    emtHyp emt63 (cmdBytes opRead 1 63 0 3 0 []) = true ∧ emtPadOk emt63 63 (tcData (cmdBytes opRead 1 63 0 3 0 [])) = true ∧
    tcLen (cmdBytes opRead 1 63 0 3 0 []) = 0 := by
  decide +kernel

def thk63 (copies : Nat) : State := setReg (pa pgThk (offTHK_TBL_CFG 63)) (fset thk1 fTHK_TBL_CFG_COPIES copies) up
/-- Data of an entry whose mask has n bits. -/
def thkData (n : Nat) : Bytes := leBytes 40 0 ++ leBytes 40 (2 ^ n - 1) ++ leBytes 8 n
def thkCmd (op memb index n : Nat) : Bytes := cmdBytes op 2 63 memb index 88 (thkData n)
/-- The table with entries of 3 and of 2 mask bits in rows 0 and 1. -/
def two63 (copies : Nat) : State :=
  after (.insert 1 false) (cmdAt (thkCmd opInsert 3 0 2) (after (.insert 1 false) (cmdAt (thkCmd opInsert 3 0 3) (thk63 copies))))
def thkHyp (s : State) (b : Bytes) : Bool :=
  nextIs (cmdAt b s) b && tcSpace b == 2 && tcTable b == 63 && thkOn s 63 && !thkClearing s 63 && !thkShifting s 63 && !thkRepairing s 63
/-- Moves are under way for an entry of 5 mask bits. -/
def moving : State := after (.insert 1 false) (cmdAt (thkCmd opInsert 3 0 5) (two63 1))
def moved : State := after (.shiftMove 63 0) (after (.shiftMove 63 0) (after (.shiftMove 63 0) moving))

theorem test_w_TableEngineOnThicketTables :
    thkHyp (thk63 2) (thkCmd opInsert 3 0 3) = true ∧ thkPadOk (thk63 2) 63 (tcData (thkCmd opInsert 3 0 3)) = true ∧
    tcLen (thkCmd opInsert 3 0 3) = 88 ∧
    (thkPlan (thk63 2) 63 (thkPrio (thk63 2) 63 (mkThkTag 3 0 3))).map (fun p => p.moves) = some [] ∧
    thkHyp (two63 1) (thkCmd opInsert 3 0 5) = true ∧
    (thkPlan (two63 1) 63 (thkPrio (two63 1) 63 (mkThkTag 3 0 5))).map (fun p => p.moves.length) = some 2 ∧
    thkHolders (two63 1) 63 0 (tcData (thkCmd opInsert 3 0 5)) = [] ∧
    (∀ op ∈ [opDelete, opModify, opSearch, opSetMemb], thkHyp (two63 2) (thkCmd op 3 0 2) = true) ∧
    thkSelected (two63 2) 63 3 0 (tcData (thkCmd opDelete 3 0 2)) = [1] ∧
    thkHyp (two63 2) (thkCmd opWrite 3 2047 2) = true ∧ 2047 < thkSize (two63 2) 63 ∧
    thkHyp (two63 2) (cmdBytes opRead 2 63 0 2047 0 []) = true ∧
    thkPadOk (two63 2) 63 (tcData (cmdBytes opRead 2 63 0 2047 0 [])) = true := by
  decide +kernel

def lock7 (s : State) : State := { s with ctx := { s.ctx with lock := [(1048575, 9)] } }

theorem test_w_TableEngineOnIndexedSpaces :
    (∀ sp ∈ [3, 4, 5, 6, 7, 8, 9],
      (let b := cmdBytes opWrite sp 0 0 (spaceSize sp - 1) (spaceLen sp (spaceSize sp - 1)) []
       nextIs (cmdAt b up) b = true ∧ spaceIllegal sp (spaceSize sp - 1) (leAt (tcData b) 0 (spaceLen sp (spaceSize sp - 1))) = false) ∧
      (let b := cmdBytes opWrite sp 0 0 (spaceSize sp) 0 []
       nextIs (cmdAt b up) b = true) ∧
      (let b := cmdBytes opWrite sp 0 0 (spaceSize sp - 1) 1 []
       nextIs (cmdAt b up) b = true ∧ tcLen b ≠ spaceLen sp (spaceSize sp - 1)) ∧
      (let b := cmdBytes opRead sp 0 0 (spaceSize sp - 1) 0 []
       nextIs (cmdAt b up) b = true)) ∧
    nextIs (cmdAt (cmdBytes opRead 10 0 0 8191 0 []) up) (cmdBytes opRead 10 0 0 8191 0 []) = true ∧
    up.store.mcgBad = [] ∧ up.pgu.transBad = [] ∧ mfind up.ctx.lock 1048575 = none ∧ mfind (lock7 up).ctx.lock 1048575 ≠ none ∧
    nextIs (cmdAt (cmdBytes opReadClear 3 0 0 524287 0 []) up) (cmdBytes opReadClear 3 0 0 524287 0 []) = true ∧
    nextIs (cmdAt (cmdBytes opFence 0 0 0 0 0 []) up) (cmdBytes opFence 0 0 0 0 0 []) = true ∧
    fenceWaits up 1 5 = false ∧ fenceWaits { up with tae := { up.tae with exec := [(0, ⟨[], 5⟩)] } } 1 5 = true := by
  decide +kernel

def clearing63 : State := setRegB (pa pgThk (offTHK_TBL_STS 63)) fTHK_TBL_STS_CLEARING true
  (setRegB (pa pgEmt (offEMT_TBL_STS 63)) fEMT_TBL_STS_CLEARING true emt63)
def aging : State := setRegF (pa pgEmt (offEMT_TBL_AGE 63)) fEMT_TBL_AGE_AGE_EN 1 one63
/-- The one entry: static, hit, and at an age limit. -/
def agePlace (limit : Nat) : List (Bool × Bool × Bool) :=
  let s := setRegF (pa pgEmt (offEMT_TBL_AGE 63)) fEMT_TBL_AGE_AGE_LIMIT limit aging
  (emtUsed s 63).map (fun x => (tagStatic (emtTag s 63 x), tagHit (emtTag s 63 x),
    decide (fget (live s (pa pgEmt (offEMT_TBL_AGE 63))) fEMT_TBL_AGE_AGE_LIMIT ≤ tagAge (emtTag s 63 x))))

/-- The entry at AGE 3 under a limit, with removal. -/
def removes (limit : Nat) : Bool × List (Nat × Bool × Bool) :=
  let s := setRegF (pa pgEmt (offEMT_TBL_AGE 63)) fEMT_TBL_AGE_AGE_MODE 1
    (setRegF (pa pgEmt (offEMT_TBL_AGE 63)) fEMT_TBL_AGE_AGE_LIMIT limit aging)
  let t := (emtUsed s 63).foldl (fun u x => setEmtTag 63 x (mkTag 3 false false 3) u) s
  (fbit (live t (pa pgEmt (offEMT_TBL_AGE 63))) fEMT_TBL_AGE_AGE_MODE && fget (live t (pa pgEmt (offEMT_TBL_AGE 63))) fEMT_TBL_AGE_AGE_LIMIT == limit,
   (emtUsed t 63).map (fun x => (tagAge (emtTag t 63 x), tagStatic (emtTag t 63 x), tagHit (emtTag t 63 x))))

theorem test_w_TableClearAndAging :
    stopped clearing63 = false ∧ emtClearing clearing63 63 = true ∧ thkClearing clearing63 63 = true ∧ stopped aging = false ∧
    emtOn aging 63 = true ∧ emtClearing aging 63 = false ∧
    fbit (live aging (pa pgEmt (offEMT_TBL_AGE 63))) fEMT_TBL_AGE_AGE_EN = true ∧
    mget (fun _ => 0) aging.emt.sweepAt 63 ≤ now aging ∧ liveB aging (pa pgEmt offLQ_CFG) fLQ_CFG_OVF_RET = false ∧
    agePlace 1 = [(false, false, false)] ∧ agePlace 0 = [(false, false, true)] ∧
    fbit (live aging (pa pgEmt (offEMT_TBL_AGE 63))) fEMT_TBL_AGE_AGE_MODE = false ∧
    removes 3 = (true, [(3, false, false)]) ∧ removes 2 = (true, [(3, false, false)]) := by
  decide +kernel

def repairRow (l : List Nat) (s : State) : State := { s with thk := { s.thk with repair := l } }
def repairing (copies : Nat) : State := repairRow [0] (two63 copies)
/-- The copy whose next move it is, for the table of the moves. -/
def moverOf (s : State) : Option (Nat × Nat × Nat) :=
  match s.thk.shifts.find? (fun h => h.table == 63) with
  | none => none
  | some h => (h.copies.find? (fun x => x.copy == 0)).map (fun x => (x.copy, x.moves.length, x.writes))
def freed : State := after (.shiftMove 63 0) (after (.shiftMove 63 0) moving)
/-- Two copies move; copy 0 has its entry's row freed, copy 1 has not begun. -/
def moving2 : State := (List.range 3).foldl (fun s _ => after (.shiftMove 63 0) s) (after (.insert 1 false) (cmdAt (thkCmd opInsert 3 0 5) (two63 2)))

theorem test_w_ThicketMovesScrubAndRepair :
    stopped moving = false ∧ (moving.thk.shifts.find? (fun h => h.table == 63)).map (fun h => h.copies.map (fun x => (x.copy, x.moves.length, x.writes)))
      = some [(0, 2, 0)] ∧
    (shiftersHeld moving).contains (63, 0) = true ∧ moverOf moving = some (0, 2, 0) ∧ thkRepairing moving 63 = false ∧
    thkRepairing (repairRow [0] moving) 63 = true ∧
    (shiftersHeld (repairRow [0] moving)).contains (63, 0) = true := by
  decide +kernel

theorem test_w_ThicketMovesGoOn :
    moverOf freed = some (0, 0, 0) ∧ (shiftersHeld freed).contains (63, 0) = true ∧ thkRepairing freed 63 = false ∧
    stopped freed = false ∧ moverOf moving2 = some (0, 0, 1) ∧ (shiftersHeld moving2).contains (63, 0) = true ∧
    thkRepairing moving2 63 = false ∧ (moving2.thk.shifts.find? (fun h => h.table == 63)).map (fun h =>
      h.copies.any (fun y => y.copy != 0 && y.writes != 2)) = some true ∧ thkRepairing moved 63 = false := by
  decide +kernel

theorem test_w_ThicketMovesEndAndRepair :
    (moved.thk.shifts.find? (fun h => h.table == 63)).map (fun h => h.copies.map (fun x => (x.copy, x.moves.length, x.writes)))
      = some [(0, 0, 1)] ∧
    (shiftersHeld moved).contains (63, 0) = true ∧ moved.tae.exec = [(1, ⟨thkCmd opInsert 3 0 5, 5⟩)] ∧ stopped moved = false ∧
    (repairing 2).thk.repair.contains 0 = true ∧ thkPlaceOf (repairing 2) 0 0 = some (63, 0, 0) ∧
    ((List.range (thkCopies (repairing 2) 63 - 1)).map (fun i => (0 + 1 + i) % thkCopies (repairing 2) 63)).find?
      (fun d => !thkPending (repairing 2) 63 d 0) = some 1 ∧ stopped (repairing 2) = false ∧
    ((List.range (thkCopies (repairing 1) 63 - 1)).map (fun i => (0 + 1 + i) % thkCopies (repairing 1) 63)).find?
      (fun d => !thkPending (repairing 1) 63 d 0) = none ∧ thkPlaceOf (repairing 1) 0 0 = some (63, 0, 0) ∧
    (repairRow [129029] up).thk.repair.contains (63 * 2048 + 5) = true ∧ thkPlaceOf (repairRow [129029] up) 63 5 = none ∧
    (repairing 1).thk.repair.contains (63 * 2048) = false := by
  decide +kernel

def auditing : State :=
  setRegB (pa pgWp offWP_AUDIT) fWP_AUDIT_BUSY true { up with clr := { up.clr with info := [(31, ⟨1, 0, 0⟩)], release := [31], audit := [31] } }
def residue1 (copies : List Nat) (d : Desc) : State :=
  { up with clr := { up.clr with residue := [⟨4, 1, 3000000000, copies⟩], desc := [(5, d)] } }

theorem test_w_PolicersCellsAuditAndResidue :
    stopped auditing = false ∧ auditing.clr.release.find? (fun c => c % 32 == 31) = some 31 ∧
    accepts up 0 (pa pgWp offWP_AUDIT) (mkWord [(fWP_AUDIT_GO, 1)]) = true ∧ regB up (pa pgWp offWP_AUDIT) fWP_AUDIT_BUSY = false ∧
    regB auditing (pa pgWp offWP_AUDIT) fWP_AUDIT_BUSY = true ∧
    (mkeys auditing.clr.info).filter (fun c => auditing.clr.audit.contains c && !(reached auditing).contains c) = [31] ∧
    up.clr.residue = [] ∧ (∀ e ∈ (residue1 [] desc1).clr.residue, residueExpired (residue1 [] desc1) e = false) ∧
    residueNext (residue1 [] desc1) = some ⟨4, 1, 3000000000, []⟩ ∧ heldByPort (residue1 [] desc1) ⟨4, 1, 3000000000, []⟩ = [] ∧
    (let d := { desc1 with held := true, cells := 0 }
     let s := residue1 [5] d
     stopped s = false ∧ heldByPort s ⟨4, 1, 3000000000, [5]⟩ = [5] ∧ mfind s.clr.desc 5 = some d ∧
     (∀ e ∈ s.clr.residue, residueExpired s e = false) ∧ residueNext s = some ⟨4, 1, 3000000000, [5]⟩ ∧
     admitTest { s with clr := { s.clr with desc := mdel s.clr.desc 5 } } d.port d.cls
       (d.queue - nQbase (node s (nodeKey 3 d.port))) d.cells = .ok) ∧
    residueExpired (residue1 [5] desc1) ⟨4, 1, 0, [5]⟩ = true := by
  decide +kernel

def reported (r : Report) (f : LkoSt → LkoSt) : State := { up with lko := f { up.lko with cap := [r] } }
def ftReport : Report := ⟨dev, 8, clsFT, false, 0, 0⟩
def ucReport : Report := ⟨0x020, 1, clsUC, false, 0, 0⟩
def lk (f : LkoSt → LkoSt) : State := { up with lko := f up.lko }

theorem test_w_LookoutReportsDecidesAndRepairs :
    stopped up = false ∧ up.pin.keepClk = true ∧ srcClass (pgThk + 7) 15 ≠ 0 ∧ partnerSource (pgThk + 7) 15 = true ∧
    dueReports (reported ftReport id) = [ftReport] ∧ hasHeader dev = true ∧ safe up = false ∧
    dueReports (reported ucReport id) = [ucReport] ∧ hasHeader 0x020 = true ∧
    inEcho (reported ucReport (fun l => { l with disabled := [0x020] })) 0x020 = true ∧
    inEcho (reported ucReport id) 0x020 = false ∧ echoes (reported ucReport id) ucReport = false ∧
    (∀ b, reactField (setReg (pa pgLko (offLKO_REACT 0)) 0 (reported ucReport id)) (areaOf 0x020) clsUC b ≤ 1) ∧
    (mfind (lk (fun l => { l with win := [(0x020 * 16 + 15, ⟨7, 0, 0, 0, 0, false, false⟩)] })).lko.win (0x020 * 16 + 15)).map (fun w => w.fin) = some 7 ∧
    mget (fun _ => 0) (lk (fun l => { l with echoEnd := [(0x020, 7)] })).lko.echoEnd 0x020 ≤ kNow up ∧
    (let res := resId 3 (2048 * 63 + 2047)
     (unitOf res).isSome = true ∧ [res].find? (fun r => unitOf r == unitOf res) = some res ∧ res < 2 ^ 23) ∧
    (lk (fun l => { l with otpWait := [⟨1, 0⟩] })).lko.otpWait = [⟨1, 0⟩] ∧ up.hw.downTill = none ∧
    up.pin.aliveAt + 1500000 ≤ kNow up := by
  decide +kernel

/-- The SHA-384 of no bytes (FIPS 180-4). -/
def noBytes384 : Bytes :=
  beBytes 48 0x38b060a751ac96384cd9327eb1b1e36a21fdb71114be07434c0cc7bf63f6e1da274edebfe76f65fbd51ad2f14898b95b

/-- An image of a Sapwood program without a payload, at security version 5; a directory of flash entries (kind, offset, length). -/
def imageOf (kind : Byte) : Bytes :=
  let h := ([0x56, 0x4C, 0x52, 0x49, 1, kind] ++ List.replicate 10 0 : Bytes) ++ leBytes 4 (if kind = 1 then 64 else 0) ++ leBytes 4 5 ++ List.replicate 8 0 ++
    noBytes384 ++ List.replicate 96 0
  h ++ leBytes 4 (crc32 h) ++ List.replicate 76 0
def imageHead : Bytes := imageOf 1
def dirOf (l : List (Nat × Nat × Nat)) : Bytes :=
  let d := [0x56, 0x4C, 0x52, 0x44] ++ leBytes 4 1 ++ List.replicate 24 0 ++
    l.flatMap (fun e => leBytes 4 e.1 ++ leBytes 4 e.2.1 ++ leBytes 4 e.2.2 ++ List.replicate 4 0)
  let d := d ++ List.replicate (508 - d.length) 0
  d ++ leBytes 4 (crc32 d)
def placed (a : Nat) (b : Bytes) : List (Nat × Byte) := (List.range b.length).zipWith (fun i x => (a + i, x)) b
def flashOf (kind : Byte) : State :=
  { State.reset with hw := { State.reset.hw with flash := placed 0x8000 (imageOf kind) ++ placed 0x10000 (dirOf [(1, 0x8000, 256)]) } }
def flashed : State := flashOf 1
/-- The boot at a step, its image source and fallback given. -/
def atStep (step src fb : Nat) (s : State) : State :=
  [(fHW_BOOT_STS_STEP, step), (fHW_BOOT_STS_SOURCE, src), (fHW_BOOT_STS_ROM_FALLBACK, fb)].foldl
    (fun s e => setRegF (pa pgHmb offHW_BOOT_STS) e.1 e.2 s) s

set_option maxRecDepth 20000 in
theorem test_flash_directory : directory flashed = some (dirOf [(1, 0x8000, 256)]) := by
  decide +kernel

set_option maxRecDepth 20000 in
theorem test_w_BootGoesThroughItsSteps :
    stopped State.reset = false ∧ bootDone State.reset = false ∧ State.reset.hw.waiting = false ∧ State.reset.hw.downTill = none ∧
    State.reset.pin.keepClk = true ∧ bootStep (atStep 0 0 0 State.reset) = 0 ∧ bootStep (atStep 1 0 0 State.reset) = 1 ∧
    bootStep (atStep 2 0 0 State.reset) = 2 ∧ State.reset.pin.verdict = false ∧ up.pin.verdict = true ∧
    up.pin.lost.contains 0 = false ∧ dirFind (dirOf [(1, 0x8000, 256)]) imPatch = none ∧ bootStep (atStep 3 0 0 flashed) = 3 ∧
    bootSource (atStep 3 0 0 flashed) = 0 ∧ bootStep (atStep 4 3 0 flashed) = 4 ∧ bootSource (atStep 4 3 0 flashed) = 3 ∧
    bootF (atStep 4 0 1 flashed) fHW_BOOT_STS_ROM_FALLBACK = 1 ∧ bootSource (atStep 4 1 0 flashed) = 1 ∧
    bootF (atStep 4 1 0 flashed) fHW_BOOT_STS_ROM_FALLBACK = 0 ∧ dirFind (dirOf [(1, 0x8000, 256)]) imSapwood = some 0 ∧
    imKind (dirImage (atStep 4 0 0 flashed) (dirOf [(1, 0x8000, 256)]) 0) = imSapwood ∧
    imKind (dirImage (atStep 4 0 0 (flashOf 2)) (dirOf [(1, 0x8000, 256)]) 0) ≠ imSapwood ∧
    dirKind (dirOf [(1, 0x8000, 256)]) 1 = 0 ∧ bootStep (atStep 6 0 0 flashed) = 6 ∧
    State.reset.hw.noPorts = false ∧ State.reset.hw.cfgPages.contains (macPage 255) = false := by
  decide +kernel

/-- A request in a mailbox slot. -/
def req (slot op : Nat) (w : List Nat) (f : HwSt → HwSt) : State := { up with hw := f { up.hw with req := [(slot, (op, w))] } }
theorem held_req (slot op : Nat) (w : List Nat) : stopped (req slot op w id) = false := by rfl

theorem test_w_MailboxRequestsAreAnswered :
    (∀ op, op < 11 → hmbReq (req 0 op [op, 0, 0, 0] id) 0 op = some [op, 0, 0, 0] ∧ hmbReq (req 1 op [op, 0, 0, 0] id) 1 op = some [op, 0, 0, 0]) ∧
    up.hw.hold = none ∧ bootDone up = true ∧ ([2, 0, 0, 0x200000].getD 3 0 ≤ 0x200000) ∧ up.sap.started = none ∧ up.sap.restart = [] ∧
    [5, 2 ^ 3, 0, 0].getD 1 0 = 2 ^ 3 ∧ (req 0 4 [4, 1, 0, 0] (fun h => { h with loaded := true })).hw.loaded = true ∧
    up.hw.locks.testBit 0 = false ∧ (req 0 6 [6, 1, 0, 0] (fun h => { h with locks := 1 })).hw.locks.testBit 0 = true ∧
    ([9, 0x10000, 0x20000, 0] : List Nat).getD 1 0 % 0x10000 = 0 ∧ safe up = false ∧ up.hw.downTill = none ∧ up.pin.keepClk = true ∧
    mfind (req 1 258 [2, 0, 0, 64] id).hw.req 1 = some (258, [2, 0, 0, 64]) ∧ ([7, 1, 0, 0] : List Nat).getD 1 0 = imSapwood ∧
    mget (fun _ => 0) up.hw.svn (activeBank up) ≤ mget (fun _ => 0) up.hw.floor imSapwood ∧
    (let s := req 0 7 [7, 1, 0, 0] (fun h => { h with svn := [(0, 5)], steps := [(1, 64)] })
     mget (fun _ => 0) s.hw.floor imSapwood < mget (fun _ => 0) s.hw.svn (activeBank s) ∧
     64 ≤ mget (fun _ => 0) s.hw.steps imSapwood) := by
  decide +kernel

/-- The staging area's bytes are read one by one, so that an image at its start is judged by that image alone. -/
theorem sapRead_append (s : State) (a m n : Nat) : sapRead s a (m + n) = sapRead s a m ++ sapRead s (a + m) n := by
  simp [sapRead, List.range_add, Nat.add_assoc, Function.comp_def]

theorem byteAt_append (p r : Bytes) (i : Nat) (h : i < p.length) : byteAt (p ++ r) i = byteAt p i := by
  simp [byteAt, List.getElem?_append_left h]

/-- The staging area holds the image; before BOOT_DONE, one of a patch. -/
def staged : State := { req 0 259 [3, 0, 0, 0] id with sap := { up.sap with mem := placed staging imageHead } }
def stagedPatch : State :=
  { State.reset with hw := { State.reset.hw with req := [(0, (259, [3, 0, 0, 0]))] },
                     sap := { State.reset.sap with mem := placed staging (imageOf 4) } }

set_option maxRecDepth 20000 in
theorem test_w_VerifyLoadOfTheStagedImage :
    imKind (stagedImage staged) = imSapwood ∧ bootDone staged = true ∧ mfind staged.hw.req 0 = some (259, [3, 0, 0, 0]) ∧
    staged.hw.downTill = none ∧ staged.pin.keepClk = true ∧ stopped staged = false := by
  have h : stagedImage staged = sapRead staged staging 256 ++ sapRead staged (staging + 256) 2096896 := by
    rw [← sapRead_append]; unfold stagedImage; congr 1
  have hk : byteAt (sapRead staged staging 256) 5 = 1 := by decide +kernel
  have hp : (sapRead staged staging 256).length = 256 := by simp [sapRead]
  refine ⟨?_, by decide +kernel, by decide +kernel, by decide +kernel, by decide +kernel, by decide +kernel⟩
  rw [h, imKind, byteAt_append _ _ _ (by omega), hk]; rfl

set_option maxRecDepth 20000 in
theorem test_w_VerifyLoadOfTheStagedPatch :
    imKind (stagedImage stagedPatch) = imPatch ∧
    bootDone stagedPatch = false ∧ stagedPatch.hw.downTill = none ∧ stagedPatch.pin.keepClk = true ∧ stopped stagedPatch = false ∧
    mfind stagedPatch.hw.req 0 = some (259, [3, 0, 0, 0]) := by
  have h : stagedImage stagedPatch = sapRead stagedPatch staging 256 ++ sapRead stagedPatch (staging + 256) 2096896 := by
    rw [← sapRead_append]; unfold stagedImage; congr 1
  have hk : byteAt (sapRead stagedPatch staging 256) 5 = 4 := by decide +kernel
  have hp : (sapRead stagedPatch staging 256).length = 256 := by simp [sapRead]
  refine ⟨?_, by decide +kernel, by decide +kernel, by decide +kernel, by decide +kernel, by decide +kernel⟩
  rw [h, imKind, byteAt_append _ _ _ (by omega), hk]; rfl

theorem test_w_HeartwoodRestartSmbusAndAging :
    stopped up = false ∧ up.pin.keepClk = true ∧ up.hw.downTill = none ∧
    ({ up with hw := { up.hw with downTill := some 5 } } : State).hw.downTill ≠ none ∧ up.hw.locks.testBit 2 = false ∧
    leNat (sha384 (hwPatch { up with hw := { up.hw with digest := leNat noBytes384 } })) = leNat noBytes384 ∧
    leNat (sha384 (hwPatch up)) ≠ up.hw.digest ∧ (7 : Nat).testBit 2 = true ∧ up.hw.avsAt = none ∧ 0 + tMs ≤ kNow up ∧ up.hw.ageSaid = false := by
  decide +kernel

/-- The host API on with one command posted; a transmit ring and a receive ring with entries posted. -/
def api (s : State) : State :=
  coreUp run3 (setReg (pa pgSap offAPI_CMD_TAIL) 1 (setReg (pa pgSap offAPI_CFG) (mkWord [(fAPI_CFG_EN, 1), (fAPI_CFG_LOG2, 4)]) s))
def rings (k : Nat) (s : State) : State :=
  let t := setReg (pa pgTxr (offTXR_TAIL 15)) 1 (setReg (pa pgTxr (offTXR_CFG 15)) (mkWord [(fTXR_CFG_EN, 1), (fTXR_CFG_LOG2, 4)]) s)
  setReg (pa pgRxr (offRXR_TAIL k)) 4 (setReg (pa pgRxr (offRXR_CFG k)) (mkWord [(fRXR_CFG_EN, 1), (fRXR_CFG_BUFSZ, 8), (fRXR_CFG_LOG2, 4)]) t)
def ringed : State := api (setReg (pa pgRw offRW_TXR_CFG) (mkWord [(fRW_TXR_CFG_BASE, 0x400), (fRW_TXR_CFG_LOG2, 4)]) canopy)
def blk3 : Bytes := List.replicate 10 0 ++ [3] ++ List.replicate 53 0
def sessionUp : State := let s := api up; { s with sap := { s.sap with sessions := [65536 + 16383] } }
def excWaits : State :=
  let s := withPass 9 { passReset with phase := .exception } (rings (regF up (pa dev offACT_CFG) fACT_CFG_EXC_RING) up)
  { s with disp := { s.disp with excQ := [9] } }
def toHost : State := sending 256 desc1 (rings (desc1.queue - nQbase (node up (nodeKey 3 256))) up)

theorem test_w_HostApiRingsAndLinkReset :
    apiOn (api up) = true ∧ sapRunning (api up) = true ∧ 0 < apiPosted (api up) ∧ apiRoom (api up) = true ∧ stopped (api up) = false ∧
    capSnap 0x080 = true ∧ isCanopy ringed = true ∧ stopped ringed = false ∧ apiOn ringed = true ∧ apiRoom ringed = true ∧
    txrFill ringed < 2 ^ liveF ringed (pa pgRw offRW_TXR_CFG) fRW_TXR_CFG_LOG2 ∧
    (∀ i, i < 64 → coreMay ringed (ringSlot ringed offRW_TXR_CFG fRW_TXR_CFG_BASE fRW_TXR_CFG_LOG2
      (regF ringed (pa pgRw offRW_TXR_TAIL) fRW_TXR_TAIL_POS) + i) = true) ∧ isCanopy (api up) = false ∧
    timerIllegal (sessionTimer true 16383 1000 blk3) = false ∧ timerIllegal (sessionTimer false 65535 4000000000 blk3) = false ∧
    blockFree (api up) (sessionCtx true 16383) = true ∧ blockFree (api up) (sessionCtx false 65535) = true ∧
    sessionUp.sap.sessions.contains (sessionKey true 16383) = true ∧ liveB (api up) (pa pgEmt offLQ_CFG) fLQ_CFG_OWNER = false ∧
    ({ up with host := { up.host with msgHeld := [31], msgAt := [(31, 0)] } } : State).host.msgHeld.contains 31 = true ∧
    0 + liveF up (ringCfg 31) fTXR_CFG_ITR_US * tUs ≤ now up ∧ hostUp (rings 0 up) = true ∧ (dispQ (rings 0 up) 32).length < 256 ∧
    txNext (rings 0 up) (2 ^ 15) = some 15 ∧ addr64 (rings 0 up) (pa pgTxr (offTXR_WB 15)) / 4 * 4 = 0 ∧
    (port toHost 256).tx = some 5 ∧ mfind toHost.clr.desc 5 = some { desc1 with port := 256 } ∧ hostUp toHost = true ∧ safe toHost = false ∧
    ringRoom toHost (desc1.queue - nQbase (node toHost (nodeKey 3 256))) desc1.len = true ∧
    excWaits.disp.excQ = [9] ∧ (pass? excWaits 9).map (fun p => !p.bad && !p.broken && p.complete) = some true ∧
    ringRoom excWaits (regF excWaits (pa dev offACT_CFG) fACT_CFG_EXC_RING) (64 + 16) = true := by
  decide +kernel

/-- A Rootway message waiting at the device, with the link it came on. -/
def got (l : Nat) (m : Bytes) (s : State) : State := { s with rw := { s.rw with todo := [(l, m)] } }
def msg (ty : Nat) (pay : Bytes) : Bytes := mkMsg ty 7 1 9 3 pay
def ofType (m : Bytes) (ty len : Nat) : Bool := mType m == ty && mLen m == len
def assign (v : Nat) : Bytes := msg mtAssignId (beBytes 8 v ++ beBytes 2 4094 ++ [0, 0])
def hb (hopLocal : Bool) (pay : Bytes) : Bytes :=
  let m := mkMsg mtHeartbeat 4095 1 0 3 pay
  if hopLocal then m.take 1 ++ [2] ++ m.drop 2 else m
def trailUp : State := mac 255 [] [(fMAC_CFG_TRAIL_EN, 1)] rx255

theorem assign_serial (v : Nat) : beAt (mPay (assign v)) 0 8 = v % 2 ^ 64 := by
  have h : mLen (assign v) = 12 := by
    simp [mLen, assign, msg, mkMsg, beAt, beNat, leNat, slice, beBytes, leBytes]
  rw [mPay, h]
  simp [assign, msg, mkMsg, beAt, beNat, leNat, slice, beBytes, leBytes]
  omega

theorem test_w_RootwayMessagesActAndAreAnswered :
    stopped under = false ∧ isUnder under = true ∧ isUnder up = false ∧ ofType (assign Config.serial) mtAssignId 12 = true ∧
    beAt (mPay (assign Config.serial)) 8 2 % 4096 = 4094 ∧ ofType (msg mtRegWrite (List.replicate 12 0)) mtRegWrite 12 = true ∧
    regMsgOk 2 1 12 12 = false ∧ regMsgOk 0xFFC 1 12 12 = true ∧
    (relayWrites pgClr offCLR_OCC_SEL none [0] (got 128 (msg mtRegWrite []) under)).1 = none ∧
    (relayWrites pgClr offCLR_CNT_BASE none [1] (got 128 (msg mtRegWrite []) under)).1.isSome = true ∧
    ofType (msg mtRegRead (List.replicate 8 0)) mtRegRead 8 = true ∧ regMsgOk 0xF00 64 8 8 = true ∧
    rxrFull canopy = false ∧ txrFill canopy = 0 ∧ ofType (msg mtRegResp []) mtRegResp 0 = true ∧
    ([⟨9, 1, mtRegRead, 5⟩] : List RwTag).any (fun t => t.tag == mTag (msg mtRegResp []) && t.dst == mSrc (msg mtRegResp [])) = true ∧
    ([(9, 1)] : List (Nat × Nat)).contains (mTag (msg mtRegResp []), mSrc (msg mtRegResp [])) = true ∧
    ofType (msg mtTableOp (List.replicate 128 0)) mtTableOp 128 = true ∧ hsqFill under < 256 ∧
    ofType (msg mtDiscover []) mtDiscover 0 = true ∧ ofType (msg mtEvent []) mtEvent 0 = true ∧
    ofType (msg mtEpochArm (List.replicate 12 0)) mtEpochArm 12 = true ∧
    ({ under with ep := { under.ep with lastArm := some (1, 5, 9, erArmed) } } : State).ep.lastArm = some (1, 5, 9, erArmed) ∧
    ofType (msg mtEpochAck [1, 1, 0, 0]) mtEpochAck 4 = true ∧ isCanopy canopy = true := by
  decide +kernel

/-- The ASSIGN_ID that names this device does so whatever its serial number is. -/
theorem test_w_AssignId : beAt (mPay (assign Config.serial)) 0 8 = Config.serial % 2 ^ 64 ∧
    beAt (mPay (assign (Config.serial + 1))) 0 8 ≠ Config.serial % 2 ^ 64 := by
  rw [assign_serial, assign_serial]; omega

theorem test_w_HeartbeatsAndImageChunks :
    isManagerHb (hb false (beBytes 4 5 ++ beBytes 4 1)) = true ∧ mHops (hb false []) < 4094 ∧
    regF under (pa pgRw offRW_GEN) fRW_GEN_GEN ≠ beAt (mPay (hb false (beBytes 4 5 ++ beBytes 4 1))) 0 4 ∧
    rwUpstream under = none ∧ mType (hb true []) = mtHeartbeat ∧ mHopLocal (hb true []) = true ∧
    ofType (msg mtImageChunk (beBytes 4 0x1FFFFF ++ beBytes 4 0x200000 ++ List.replicate 8 0 ++ [1])) mtImageChunk 17 = true ∧
    under.hw.hold = none ∧ under.hw.downTill = none ∧ under.pin.keepClk = true ∧
    ({ under with hw := { under.hw with hold := some 0 } } : State).hw.hold.isSome = true := by
  decide +kernel

/-- Link 255 of an Understory, up, with Rootway enabled on it; its numbered frames and its inbox. -/
def rwOn (f : RwLink → RwLink) (s : State) : State :=
  let t := setReg (pa pgRw (offRW_LINK_EN 3)) 0x80000000 (mac 255 [(fMAC_STS_LINK, 1), (fMAC_STS_LSTATE, lsUp), (fMAC_STS_RESOLVED, 0x19)] [] s)
  { t with rw := { t.rw with link := [(255, f { rwLinkReset 255 with up := true, rxSeq := 65535 })] } }
def inFrame (m : Bytes) : Bytes := List.replicate 14 0 ++ m
def unacked1 : RwLink → RwLink := fun k => { k with unacked := [⟨1, msg mtEvent [], 0⟩] }
def upOn255 (s : State) : State := setReg (pa pgRw offRW_UP) (mkWord [(fRW_UP_VALID, 1), (fRW_UP_PORT, 255)]) s

/-- Its upstream is link 128; sequence 9 has come on link 255 alone, long ago. -/
def altUp : State :=
  let s := setReg (pa pgRw offRW_UP) (mkWord [(fRW_UP_VALID, 1), (fRW_UP_PORT, 128)]) (rwOn id under)
  { s with rw := { s.rw with alt := [(9, 255, 3, 0)] } }

theorem test_w_RootwayLinksAndTheTree :
    stopped (rwOn id under) = false ∧ rwIsLink under 255 = false ∧ rwIsLink (rwOn id under) 255 = true ∧
    (mType (hb true []) = mtHeartbeat ∧ mHopLocal (hb true []) = true ∧ mAckv (hb true []) = false ∧ rwBad (hb true []) = false) ∧
    (rwLink (rwOn (fun k => { k with up := false }) under) 255).up = false ∧ (rwLink (rwOn id under) 255).up = true ∧
    rwFull (rwOn id under) = true ∧ mAckv (msg mtRegRead []) = false ∧ mType (msg mtRegRead []) ≠ mtHeartbeat ∧
    mSeq (msg mtRegRead []) = (65535 + 1) % 65536 ∧ rwBad (msg mtRegRead []) = false ∧
    rwNoBuffer (rwOn id under) 255 (msg mtRegRead []) = false ∧ rwMine (rwOn id under) 255 (msg mtRegRead []) = true ∧
    mDst (msg mtRegRead []) ≠ 4095 ∧ mHopLocal (msg mtRegRead []) = false ∧
    (rwLink (rwOn (fun k => { k with rxSeq := 5 }) under) 255).rxSeq = 5 ∧
    rtxDue (rwOn unacked1 under) 255 = true ∧ rtxSpent (rwOn unacked1 under) 255 = false ∧
    downDue (rwOn (fun k => { k with heardAt := some 0 }) under) 255 = true ∧
    rwUpstream (upOn255 under) = some 255 ∧ rwOrphan under = false ∧
    under.rw.hbAt + liveF under (pa pgRw offRW_HB) fRW_HB_HB_MISS * liveF under (pa pgRw offRW_HB) fRW_HB_HB_MS * tMs ≤ now under ∧
    altUp.rw.alt.find? (fun e => altDue altUp e && (rwLink altUp e.2.1).up) = some (9, 255, 3, 0) ∧
    rwUpstream altUp = some 128 ∧ stopped altUp = false ∧ altUp.rw.alt ≠ [] ∧ under.rw.alt = [] ∧
    0 + liveF under (pa pgRw offRW_HB) fRW_HB_E2E_MS * tMs ≤ now under ∧ rxrFull under = false ∧ txrFill under = 0 ∧
    0 + liveF under (pa pgRw offRW_HB) fRW_HB_HB_MS * tMs ≤ now under ∧ under.rw.discAt + (if ownId under = 0 then 1000 * tMs else 100 * tMs) ≤ now under ∧
    mfind under.rw.evtAt 0x1FF = none ∧ canopy.rw.hbAt + liveF canopy (pa pgRw offRW_HB) fRW_HB_HB_MS * tMs ≤ now canopy ∧
    regF (setReg (pa pgRw offRW_GEN) 1 canopy) (pa pgRw offRW_GEN) fRW_GEN_GEN ≠ 0 ∧ (rwLink (rwOn id under) 255).hbAt = none ∧
    regB under (pa pgRw offTR_SWITCH) fTR_SWITCH_BUSY = false ∧
    accepts under 0 (pa pgRw offTR_SWITCH) (mkWord [(fTR_SWITCH_PORT, 255), (fTR_SWITCH_TRAIL_EN, 1), (fTR_SWITCH_MAXLEN, 9216)]) = true ∧
    quiesced (setRegB (pa (macPage 255) offSts) fPAGE_STS_QUIESCED true under) (macPage 255) = true := by
  decide +kernel

def clk (l : List Nat) (v : Bool) : State := { up with pin := { up.pin with lost := l, verdict := v } }

def testing (j : Jtag) : State := { up with pin := { up.pin with testEn := true, jtag := j } }

theorem test_w_ResetsPinsClocksAndJtag :
    up.pin.keep = true ∧ low.pin.keep = true ∧ low.pin.rstN = false ∧ low.pin.testEn = false ∧ up.pin.rstN = true ∧ up.pin.testEn = false ∧
    stopped up = false ∧ accepts up 0 (pa dev offDEV_RST) (mkWord [(fDEV_RST_KEY, 0xB007), (fDEV_RST_WARM, 1)]) = true ∧
    up.pin.perstN = true ∧ up.pin.lost.contains 4 = false ∧ up.pin.bothSince + tMs ≤ kNow up ∧ up.pin.keepClk = true ∧
    (∀ i, i < 5 → up.pin.lost.contains i = false ∧ (clk [0, 1, 2, 3, 4] true).pin.lost.contains i = true) ∧
    mfind up.pin.back 4 = none ∧ 0 + 10 * tMs ≤ kNow up ∧ (clk [] false).pin.verdict = false ∧ tMs ≤ kNow (clk [] false) ∧
    stopped (clk [] false) = false ∧ (testing .highz).pin.testEn = true ∧ (testing .highz).pin.jtag = .highz ∧
    (testing .extest).pin.jtag = .extest ∧ (clk [1] true).time.tref25Written = false ∧
    regB (clk [1] true) (pa pgPtp offTIME_STS) fTIME_STS_TREF_LOCK = false ∧
    mfind ({ clk [4] true with pin := { (clk [4] true).pin with back := [(4, 7)] } } : State).pin.back 4 = some 7 ∧
    7 + 10 * tMs ≤ kNow (clk [4] true) := by
  decide +kernel

theorem test_w_LkoTopShowsUnmaskedErrors :
    stopped up = false ∧ reaches up 6 = true ∧ inArea 31 0x03F = true ∧ inArea 61 (pgPcie) = inArea 61 pgPcie ∧
    (lkoTop (setReg (pa 0x03F offERR_STS) 0x8000 up)).testBit 31 = true ∧
    (lkoTop (setReg (pa 0x03F offERR_MASK) 0x8000 (setReg (pa 0x03F offERR_STS) 0x8000 up))).testBit 31 = false ∧
    (lkoTop (setReg (pa 0x03F offERR_CLASS) 0xC0000000 (setReg (pa 0x03F offERR_MASK) 0x8000
      (setReg (pa 0x03F offERR_STS) 0x8000 up)))).testBit 31 = true ∧
    (lkoEchoTop (setReg (pa 0x03F offECHO_STS) 1 up)).testBit 31 = true := by
  decide +kernel

theorem test_w_MembZeroInsertAndSetMemb :
    (∀ op ∈ [opInsert, opSetMemb], emtHyp one63 (cmdBytes op 1 63 0 0 65 key63) = true ∧ tcMemb (cmdBytes op 1 63 0 0 65 key63) = 0 ∧
      emtPadOk one63 63 (tcData (cmdBytes op 1 63 0 0 65 key63)) = true ∧ tcLen (cmdBytes op 1 63 0 0 65 key63) = 65 ∧ thkHyp (two63 2) (thkCmd op 0 0 2) = true ∧
      thkPadOk (two63 2) 63 (tcData (thkCmd op 0 0 2)) = true ∧ tcLen (thkCmd op 0 0 2) = 88 ∧ tcMemb (thkCmd op 0 0 2) = 0) := by
  decide +kernel

theorem test_w_KclkLossStopsTheLookout :
    ({ up with pin := { up.pin with keepClk := false } } : State).pin.keepClk = false := rfl

/-- Two Groves alone take heads: 30 with one engine, 31 with all of its engines that are in service at reset. -/
def twoGroves : State :=
  let s := (List.range 30).foldl (fun s g => setRegB (pa (grvPage g) offCtl) fPAGE_CTL_ENABLE false s) grv31
  setReg (pa (grvPage 30) offGRV_ENG_FENCE) 0xFFFFFFFE s

theorem test_w_DispatchTakesTheFreestGrove :
    pickGrove twoGroves (groveTakes ⟨0, [], twoGroves⟩) = some 31 ∧ groveTakes ⟨0, [], twoGroves⟩ 30 = true ∧
    freeThreads twoGroves 30 = 4 ∧ freeThreads twoGroves 31 = 120 := by
  decide +kernel

/-! ### The worked examples of the spec -/

/-- R212's example: TTL 64 to 63 turns checksum 0xB1E6 into 0xB2E6. -/
def ipHead (ttl : Byte) : Bytes := [0x45, 0, 0, 40, 0, 0, 0, 0, ttl, 0x11, 0xB1, 0xE6, 10, 0, 0, 1, 10, 0, 0, 2]
theorem test_csum4_example :
    csum4 { passReset with head := ipHead 0x40 } { stagedReset with copy := ipHead 0x3F, orig := (List.range 20).map some } 0 20 10
      = 0xB2E6 := by decide +kernel

/-- R286's example: 1 Gb/s is M 3,815 and E 18. -/
theorem test_rate_example : rateOf (18 * 4096 + 3815) = 1000079360 ∧ rateOf (27 * 4096 + 2980) = 399968829440 := by decide +kernel

/-- R289's example: a wait of 1.1545 s goes 4,095 coarse slots ahead. -/
theorem test_wheel_example : wheelPlace State.reset 3 (1154500000 * 65536) = ⟨3, true, 4095 * 262144, 1154500000 * 65536⟩ := by decide +kernel

/-- The example of "Exact-match tables": bucket 50,901 lies in row 4,891 of banks 42 and 43, and slot 3 is its victim. -/
def flowCache : State :=
  let s := setReg (pa pgEmt (offEMT_TBL_GEO 9)) (mkWord [(fEMT_TBL_GEO_ENABLE, 1), (fEMT_TBL_GEO_EVICT, 2), (fEMT_TBL_GEO_WIDTH, 1),
    (fEMT_TBL_GEO_KEY_BYTES, 40), (fEMT_TBL_GEO_SIZE_LOG2, 10), (fEMT_TBL_GEO_BASE, 4096)]) State.reset
  let tags := [mkTag 1 false false 3, mkTag 1 true false 5, mkTag 1 false true 0, mkTag 1 false false 7]
  { s with emt := { s.emt with tag := (List.range 4).zipWith (fun j g => ((42 * 8192 + 4891) * 4 + j, g)) tags } }
theorem test_bucket_example :
    emtBuckets flowCache 9 = 65536 ∧ 0x7A31C6D5 % 65536 = 50901 ∧ emtQuarter flowCache 9 50901 3 0 = (42 * 8192 + 4891) * 4 + 3 ∧
    emtQuarter flowCache 9 50901 3 1 = (43 * 8192 + 4891) * 4 + 3 ∧ (emtVictim flowCache 9 50901).map (fun v => v.1) = some 203607 := by
  decide +kernel

/-- The example of "The Thicket": a rule of 24 care bits goes to position 2,046, with three moves down. -/
def thicket5 : State :=
  let s := setReg (pa pgThk (offTHK_TBL_CFG 5)) (mkWord [(fTHK_TBL_CFG_ENABLE, 1), (fTHK_TBL_CFG_COPIES, 1), (fTHK_TBL_CFG_DEPTH, 2),
    (fTHK_TBL_CFG_FIRST_BANK, 10)]) State.reset
  let row (care : Nat) : ThkRow := ⟨0, 0, 0, mkThkTag 1 0 care⟩
  let rows := (List.range 15).map (fun i => (10 * 2048 + 2031 + i, row 24)) ++
    [(10 * 2048 + 2046, row 20), (10 * 2048 + 2047, row 20), (11 * 2048, row 16)]
  { s with thk := { s.thk with rows := rows } }
theorem test_thicket_example : (thkPlan thicket5 5 24).map (fun p => (p.pos, p.moves)) =
    some (2046, [(2048, 2049), (2047, 2048), (2046, 2047)]) := by decide +kernel

/-- The example of "Chains": the Trail header of a frame from L-port 4 of device 5. -/
def trailPkt : Bytes :=
  overwrite (overwrite (overwrite (overwrite (List.replicate 48 0) 4 (leBytes 8 (1 + 2 ^ 6 + 2 ^ 42))) 12
    (leBytes 4 (17 + 3 * 2 ^ 16 + 5 * 2 ^ 28 + 2 ^ 31))) 16 (leBytes 2 4)) 20 [38]
def trailState : State :=
  let s := setReg (pa pgRw offRW_ID) (mkWord [(fRW_ID_ID, 5)]) State.reset
  { s with clr := { s.clr with cells := [(3, ⟨overwrite trailPkt 32 (leBytes 4 123456789), 0⟩)] } }
theorem test_trail_example :
    trailHeader trailState { desc1 with headCells := [3] } (overwrite trailPkt 32 (leBytes 4 123456789)) false =
      [0x88, 0xB6, 0x11, 0x04, 0x26, 0xA8, 0x00, 0x11, 0x00, 0x03, 0x00, 0x05, 0x00, 0x04, 0xCD, 0x15] := by decide +kernel

/-- The example of "Time": a Sync that took 2,350.5 ns through devices A and B. -/
theorem test_residence_example :
    (residence State.reset (overwrite (overwrite (overwrite (overwrite (List.replicate 48 0) 16 (leBytes 2 (2 ^ 9))) 22 [2 ^ 4]) 28
      [0x5D, 0x30]) 32 (leBytes 4 499999100 ++ leBytes 6 100)) ⟨100, 500000350, 2 ^ 43⟩).1 = 0x092E8000 := by decide +kernel
/-! ### svc_arp and svc_nd (R330) -/

/-- Thread 4,095 before a CALL of a subroutine, in the SVC profile; `img` stands in bucket 0 or where its key hashes to. -/
def calls (entry tbl width klen : Nat) (img head : Bytes) : State :=
  let s := at0 (mw [(140, 4), (148, entry), (8, 0x123)]) (fun th =>
    { th with staged := { th.staged with copy := head, orig := (List.range head.length).map some } })
  let s := setRegF (pa dev offSVC_CFG) fSVC_CFG_PROFILE 1 (setPass 9 { pass9 with head := head } s)
  let s := setReg (pa pgEmt (offEMT_TBL_GEO tbl)) (mkWord [(fEMT_TBL_GEO_ENABLE, 1), (fEMT_TBL_GEO_WIDTH, width),
    (fEMT_TBL_GEO_KEY_BYTES, klen)]) s
  let x := 4 * (emtHash s tbl (img.take klen) % emtBuckets s tbl)
  setEmtTag tbl x (mkTag 3 false false 0) (setEmtImage tbl x img s)
def macA : Bytes := [2, 0, 0, 0, 0, 1]
def macB : Bytes := [2, 0, 0, 0, 0, 2]
def arpReq (op : Byte) : Bytes :=
  List.replicate 6 0xFF ++ macA ++ [8, 6, 0, 1, 8, 0, 6, 4, 0, op] ++ macA ++ [10, 0, 0, 1] ++ List.replicate 6 0 ++ [10, 0, 0, 2] ++
    List.replicate 18 0
def arpUp (tgt op : Byte) : State := calls 0xC00 60 0 8 ([0, 0, 10, 0, 0, tgt, 0, 0] ++ macB ++ [0, 0]) (arpReq op)
/-- A solicitation of fe80::2 by fe80::1, with its source link-layer address option or without. -/
def ip6 (n : Byte) : Bytes := [0xFE, 0x80] ++ List.replicate 13 0 ++ [n]
def ndReq (hop : Byte) (opt : Bool) : Bytes :=
  [0x33, 0x33, 0xFF, 0, 0, 2] ++ macA ++ [0x86, 0xDD, 0x60, 0, 0, 0, 0, if opt then 32 else 24, 58, hop] ++
    (if opt then ip6 1 else List.replicate 16 0) ++ ip6 2 ++ [135, 0, 0, 0, 0, 0, 0, 0] ++ ip6 2 ++ (if opt then [1, 1] ++ macA else [])
def ndUp (tgt hop : Byte) (opt : Bool) : State :=
  calls 0xC02 61 1 20 ([0, 0, 0, 0] ++ ip6 tgt ++ macB ++ [1] ++ List.replicate 5 0) (ndReq hop opt)

def subReady (s : State) (entry : Nat) : Bool :=
  !stopped s && svcOn s && (passOf s 4095).isSome && nextC (wordThread s 4095) (wordOf s 4095) == entry &&
    decide ((wordThread s 4095).issued + 96 < 512) && decide ((wordThread s 4095).staged.edits < 16) &&
    decide ((wordThread s 4095).staged.cnts.length < 8)
def subFound (s : State) (tbl : Nat) (key : Pass → Bytes → Nat → Bytes) : Bool :=
  match passOf s 4095 with
  | none => false
  | some q => (emtFind s tbl (padTo (emtKeyLen s tbl) (key q (wordThread s 4095).staged.copy 14)) q.epoch).isSome

theorem test_w_ServiceSubroutines :
    (∀ s ∈ [arpUp 2 1, arpUp 3 1, arpUp 2 2], SeqReady s 1023 4 4095 ∧ subReady s 0xC00 = true ∧
      etherTypeAt (wordThread s 4095).staged.copy 4 12 = (0x0806, 14)) ∧
    (∀ s ∈ [ndUp 2 255 true, ndUp 2 255 false, ndUp 3 255 true, ndUp 2 254 true], SeqReady s 1023 4 4095 ∧
      subReady s 0xC02 = true ∧ etherTypeAt (wordThread s 4095).staged.copy 4 12 = (0x86DD, 14) ∧
      ndAsks (wordThread s 4095).staged.copy 14 = true) ∧
    arpAsks (arpReq 1) 14 = true ∧ arpAsks (arpReq 2) 14 = false ∧ subFound (arpUp 2 1) 60 arpKey = true ∧
    subFound (arpUp 3 1) 60 arpKey = false ∧ subFound (ndUp 2 255 true) 61 ndKey = true ∧
    subFound (ndUp 3 255 true) 61 ndKey = false ∧
    (match ndResize pass9 { stagedReset with copy := ndReq 255 true, orig := [] } 14 with | .ok d _ => d == ndReq 255 true | _ => false) =
      true := by
  unfold SeqReady; decide +kernel

/-- The reply of RFC 826 and the advertisement of RFC 4861, its checksum worked out by hand from the pseudo-header. -/
theorem test_svc_arp_replies :
    (thread (after (.seqCall 1023) (arpUp 2 1)) 4095).staged.copy =
      macA ++ macB ++ [8, 6, 0, 1, 8, 0, 6, 4, 0, 2] ++ macB ++ [10, 0, 0, 2] ++ macA ++ [10, 0, 0, 1] ++ List.replicate 18 0 := by
  decide +kernel
theorem test_svc_nd_replies :
    (thread (after (.seqCall 1023) (ndUp 2 255 true)) 4095).staged.copy =
      macA ++ macB ++ [0x86, 0xDD, 0x60, 0, 0, 0, 0, 32, 58, 255] ++ ip6 2 ++ ip6 1 ++ [136, 0, 0x98, 0x19, 0xE0, 0, 0, 0] ++ ip6 2 ++
        [2, 1] ++ macB ∧
    (thread (after (.seqCall 1023) (ndUp 2 255 false)) 4095).staged.copy.take 54 =
      [0x33, 0x33, 0, 0, 0, 1] ++ macB ++ [0x86, 0xDD, 0x60, 0, 0, 0, 0, 32, 58, 255] ++ ip6 2 ++ [0xFF, 2] ++ List.replicate 13 0 ++ [1] ∧
    ((thread (after (.seqCall 1023) (ndUp 2 255 false)) 4095).staged.copy.drop 58).take 4 = [0xA0, 0, 0, 0] := by
  decide +kernel

/-! ### Ill-formed commands: one for each bound of each command -/

/-- Each has one operand at its bound. -/
theorem test_refused1 : ∀ c ∈ ([
     .registerWrite 7 0 1 0, .registerWrite 0 67174400 1 0, .registerWrite 0 0 9 0, .registerWrite 0 0 1 (2 ^ 64),
     .liveValueApply 67174400, .commit 7 0, .commit 0 4096, .shadowApply 4096, .discard 7 0, .discard 0 4096,
     .epochBind 7 0 false, .epochBind 0 4096 false, .snapshot 7 0, .snapshot 0 4096, .snapClear 7 0, .snapClear 0 4096,
     .snapshotComplete 4096, .softReset 7 0, .softReset 0 4096, .softResetComplete 4096, .quiesce 7 0 false,
     .quiesce 0 4096 false, .quiesceComplete 4096, .enable 7 0 false, .enable 0 4096 false, .refusedClear 7 0,
     .refusedClear 0 4096, .errStsClear 7 0 0, .errStsClear 0 4096 0, .errStsClear 0 0 65536, .errInject 7 0 0 0,
     .errInject 0 4096 0 0, .errInject 0 0 16 0, .errInject 0 0 0 4, .lowWordWrite 7 0 0, .lowWordWrite 0 67174400 0,
     .highWordWrite 7 0 0, .highWordWrite 0 67174400 0, .lowWordRead 7 ⟨0, 1⟩, .lowWordRead 0 ⟨67174400, 1⟩, .lowWordRead 0 ⟨0, 16⟩,
     .highWordRead 7 0, .highWordRead 0 67174400, .rcLagRead 7, .taeHsqTail 7 0, .taeHsqTail 0 512, .taeHcqHead 7 0,
     .taeHcqHead 0 512] : List Instr), wellFormed c = false := by decide

/-- Each has one operand at its bound. -/
theorem test_refused2 : ∀ c ∈ ([
     .insert 2 false, .delete 2 false, .modify 2 false, .search 2 false, .write 2 false, .read 2 false, .readClear 2 false,
     .setMemb 2 false, .fence 2 false, .macCfg 7 0 0, .macCfg 0 256 0, .autoNegotiation 256 0 0 false,
     .autoNegotiation 0 1024 0 false, .autoNegotiation 0 0 16 false, .linkTraining 256 false, .linkUp 256 0,
     .linkUp 0 65536, .linkDown 256, .pllLossOfLock 448 0, .pllLossOfLock 0x180 2, .frameReceive 256 ⟨[], 0, 0⟩ false,
     .pause 256 0, .pause 0 65536, .pfc 256 0 [], .pfc 0 256 [], .pfc 0 0 [65536], .pauseTimerExpire 256 0,
     .pauseTimerExpire 0 9, .pauseStorm 256 0, .pauseStorm 0 9, .ignoreExpire 256 0, .ignoreExpire 0 9, .fcFrameSend 256,
     .fcRefresh 256 0, .fcRefresh 0 9, .lpiEnter 256, .lpiWake 256, .hello 256 false, .shedReq 256 false 0 0 0,
     .shedReq 0 false 256 0 0, .shedReq 0 false 0 65536 0, .shedReq 0 false 0 0 4294967296, .shedAck 256, .shedNak 256,
     .wakeReq 256 false 0 0, .wakeReq 0 false 65536 0, .wakeReq 0 false 0 4294967296, .wakeAck 256] : List Instr), wellFormed c = false := by decide

/-- Each has one operand at its bound. -/
theorem test_refused3 : ∀ c ∈ ([
     .utilisationWindow 256, .coppiceTimeout 256 0, .coppiceTimeout 0 4294967296, .frameTransmit 260 false,
     .headEnqueue 261, .parseWalk 4294967296, .fragSeed 7 0, .pguNodeRead 7 0 0, .pguNodeRead 0 2 0, .pguNodeRead 0 0 256,
     .pguNodeWrite 7 0 0, .pguNodeWrite 0 2 0, .pguNodeWrite 0 0 256, .dispatchEntry 4096, .aluNop 1024 0, .aluNop 0 2,
     .aluMov 1024 0, .aluMov 0 2, .aluAdd 1024 0, .aluAdd 0 2, .aluSub 1024 0, .aluSub 0 2, .aluAnd 1024 0, .aluAnd 0 2,
     .aluOr 1024 0, .aluOr 0 2, .aluXor 1024 0, .aluXor 0 2, .aluAndn 1024 0, .aluAndn 0 2, .aluShl 1024 0, .aluShl 0 2,
     .aluShr 1024 0, .aluShr 0 2, .aluRor 1024 0, .aluRor 0 2, .aluExt 1024 0, .aluExt 0 2, .aluIns 1024 0, .aluIns 0 2,
     .aluMin 1024 0, .aluMin 0 2, .aluMax 1024 0, .aluMax 0 2, .aluCmp 1024 0, .aluCmp 0 2, .aluLdp 1024 0, .aluLdp 0 2] : List Instr), wellFormed c = false := by decide

/-- Each has one operand at its bound. -/
theorem test_refused4 : ∀ c ∈ ([
     .aluLdh 1024 0, .aluLdh 0 2, .aluLdl 1024 0, .aluLdl 0 2, .aluLdm 1024 0, .aluLdm 0 2, .aluStm 1024 0, .aluStm 0 2,
     .aluHash 1024 0, .aluHash 0 2, .aluPopc 1024 0, .aluPopc 0 2, .aluFfs 1024 0, .aluFfs 0 2, .aluLdt 1024 0,
     .aluLdt 0 2, .seqCont 1024, .seqTwoway 1024, .seqDisp4 1024, .seqDisp16 1024, .seqCall 1024, .seqReturn 1024,
     .seqWait 1024, .seqEnd 1024, .seqAbandon 1024, .lookupEmt 1024 false 0 0, .lookupEmt 0 false 4 0,
     .lookupEmt 0 false 0 1048576, .lookupThicket 1024 false, .lookupResult 4096 0, .lookupResult 0 65536, .hdrSet 1024,
     .hdrPush 1024, .hdrPop 1024, .hdrInc 1024, .hdrDec 1024, .hdrCsum4 1024, .hdrUdp0 1024, .memCnt 1024,
     .memPol 1024 false, .memCtxRd 1024 false, .memCtxWrt 1024, .memCtxWrl 1024, .memCtxAdd 1024, .memLearn 1024,
     .contextLockGrant 1048576, .dispFwd 1024, .dispClass 1024] : List Instr), wellFormed c = false := by decide

/-- Each has one operand at its bound. -/
theorem test_refused5 : ∀ c ∈ ([
     .dispColour 1024, .dispMirror 1024, .dispOam 1024, .dispRestore 1024, .dispCommit 1024, .dispDrop 1024,
     .dispToHost 1024, .dispRecirc 1024, .commitAccept 4096 false [] [], .commitAccept 0 false [1048576] [],
     .commitAccept 0 false [] [1048576], .reorderRelease 4294967296, .lqHead 7 0, .lqHead 0 131072, .emtTblGeo 7 0 0,
     .emtTblGeo 0 64 0, .tableClearDone 64, .agingSweep 64, .thkTblCfg 7 0 0, .thkTblCfg 0 64 0, .thkTableClearDone 64,
     .shiftMove 64 0, .shiftMove 0 2, .thicketScrub [64], .thkRowRepair 64 0, .thkRowRepair 0 16384, .csScrub 32 0 0,
     .csScrub 0 8 0, .csScrub 0 0 4, .csRepair 32 0 0, .csRepair 0 8 0, .csRepair 0 0 67174400, .grvCsWr 7 0 0,
     .grvCsWr 0 32 0, .grvCsWr 0 0 16384, .grvCsRd 7 0 0 0, .grvCsRd 0 32 0 0, .grvCsRd 0 0 8 0, .grvCsRd 0 0 0 65536,
     .grvCsCrc 7 0 0, .grvCsCrc 0 32 0, .inService 7 0 0, .inService 0 32 0, .fenced 7 0 0, .fenced 0 32 0,
     .drainTimeout 32, .epochCommit 7 0, .epochCommit 0 256] : List Instr), wellFormed c = false := by decide

/-- Each has one operand at its bound. -/
theorem test_refused6 : ∀ c ∈ ([
     .epochArm 7 0 false 0, .epochArm 0 256 false 0, .epochArm 0 0 false 4096, .epochDisarm 7 false 0,
     .epochDisarm 0 false 4096, .cellPush 32, .wpAudit 7, .selection 65, .schRead 7 0 0, .schRead 0 256 0,
     .schRead 0 0 1048576, .schWrite 7 0 0, .schWrite 0 256 0, .schWrite 0 0 1048576, .flush 7 0 0, .flush 0 256 0,
     .flush 0 0 1048576, .policerRefresh 262144 false, .gateRead 7 0 0, .gateRead 0 256 0, .gateRead 0 0 1048576,
     .gateWrite 7 0 0, .gateWrite 0 256 0, .gateWrite 0 0 1048576, .configurationChange 7 0 0,
     .configurationChange 0 256 0, .configurationChange 0 0 1048576, .configChangeTake 256, .gateEntryAdvance 256,
     .gateEn 7 0 0, .gateEn 0 8 0, .timeRead 7, .timeSet 7, .timeAdd 7, .tref25 7 false, .squelched 2, .txts3 7,
     .svcCfg 7 0, .timerFire 131072, .tmrRead 7 0, .tmrRead 0 131072, .tmrWrite 7 0, .tmrWrite 0 131072, .bfdTick 4096 ⟨0, false⟩,
     .bfdTick 0 ⟨64, false⟩, .bfdReceive 4096 0 ⟨0, false⟩, .bfdReceive 0 256 ⟨0, false⟩,
     .bfdReceive 0 0 ⟨64, false⟩] : List Instr), wellFormed c = false := by decide

/-- Each has one operand at its bound. -/
theorem test_refused7 : ∀ c ∈ ([
     .ccmTick 4096 false false false, .cfmReceive 4096 false 0 0 false false false false,
     .cfmReceive 0 true 4 0 false false false false, .cfmReceive 0 true 0 1048576 false false false false,
     .lmDmTick 4096 false false, .rootwayFrameReceive 260, .event false 4096,
     .linkHeartbeat 260 false, .rwRtx 260, .rootwayDown 260, .rwTxrTail 7 0, .rwTxrTail 0 65536, .trSwitch 7 128 false 0,
     .trSwitch 0 256 false 0, .trSwitch 0 128 false 16384, .coldReset 4 0 0 0, .coldReset 0 4 0 0, .coldReset 0 0 8 0,
     .coldReset 0 0 0 4, .rstN false 4 0 0 0, .rstN false 0 4 0 0, .rstN false 0 0 8 0, .rstN false 0 0 0 4,
     .devRst 7 0 false, .devRst 0 65536 false, .status 2, .fetch 2, .verifyLoad 2, .activate 2, .restartCore 2,
     .lockCommand 2, .commitSvn 2, .flashWrite 2, .flashErase 2, .safeState 2, .swKick 4 0, .sapwoodWatchdog 4,
     .apiCmdTail 7 0, .apiCmdTail 0 65536, .counterRead 4294967296 0 0, .counterRead 0 4096 0, .counterRead 0 0 (2 ^ 64),
     .rootwaySend 4294967296 [], .sessionAdd 4294967296 false 0 0 ⟨0, 0⟩ [], .sessionAdd 0 false 65536 0 ⟨0, 0⟩ [],
     .sessionAdd 0 false 0 131072 ⟨0, 0⟩ [], .sessionAdd 0 false 0 0 ⟨4294967296, 0⟩ [],
     .sessionAdd 0 false 0 0 ⟨0, 4294967296⟩ [],
     .sessionDel 4294967296 false 0, .sessionDel 0 false 65536] : List Instr), wellFormed c = false := by decide

/-- Each has one operand at its bound. -/
theorem test_refused8 : ∀ c ∈ ([
     .tableFlushPort 4294967296 0, .tableFlushPort 0 512, .fwInfo 4294967296, .ringTail false 16 0, .ringTail false 0 8192,
     .hostTxFetch 65536 [] [] [] false, .hostTxFetch 0 [16384] [] [] false, .hostTxFetch 0 [] [256] [] false,
     .hostRxDeliver [(2 ^ 64)] false, .exceptionDeliver [(2 ^ 64)] false, .hevAck 7 0, .hevAck 0 64, .smbusPower 65536,
     .smbusAddress 128, .agingMonitor 65536 0 0, .agingMonitor 0 65536 0, .agingMonitor 0 0 4096, .icSgi 7 0, .icSgi 0 512,
     .icTmr 4, .interruptEntry 4 0, .interruptEntry 0 5, .returnFromInterrupt 4 0, .returnFromInterrupt 0 5, .icEoi 7 0 0,
     .icEoi 0 4 0, .icEoi 0 0 512, .errorReport 4096 0 0 false, .errorReport 0 16 0 false, .errorReport 0 0 1048576 false,
     .errWindowClose 4096 0, .errWindowClose 0 16, .echoWindowEnd 4096, .remap 16777216, .junctionOverLimit 16 0,
     .junctionOverLimit 0 65536, .clockLoss 5, .clockReturn ⟨5, false⟩, .firstVerdict 32 false, .pllLock 448 0,
     .pllLock 0x180 2, .rxLpi 256 false, .itrUsExpiry 32, .hmbDone 2 false false [], .registerWrite 0 0 3 0,
     .pllLossOfLock 0x17E 0, .pllLossOfLock 0x181 0, .pllLock 0x17E 0] : List Instr), wellFormed c = false := by decide

/-- Each has one operand at its bound. -/
theorem test_refused9 : ∀ c ∈ ([
     .pllLock 0x181 0, .trSwitch 0 127 false 0] : List Instr), wellFormed c = false := by decide

/-- The same commands with that operand at 0. -/
theorem test_wellFormed1 : ∀ c ∈ ([
     .registerWrite 0 0 1 0, .liveValueApply 0, .commit 0 0, .shadowApply 0, .discard 0 0, .epochBind 0 0 false,
     .snapshot 0 0, .snapClear 0 0, .snapshotComplete 0, .softReset 0 0, .softResetComplete 0, .quiesce 0 0 false,
     .quiesceComplete 0, .enable 0 0 false, .refusedClear 0 0, .errStsClear 0 0 0, .errInject 0 0 0 0, .lowWordWrite 0 0 0,
     .highWordWrite 0 0 0, .lowWordRead 0 ⟨0, 1⟩, .highWordRead 0 0, .rcLagRead 0, .taeHsqTail 0 0, .taeHcqHead 0 0,
     .insert 0 false, .delete 0 false, .modify 0 false, .search 0 false, .write 0 false, .read 0 false, .readClear 0 false,
     .setMemb 0 false, .fence 0 false, .macCfg 0 0 0, .autoNegotiation 0 0 0 false, .linkTraining 0 false, .linkUp 0 0,
     .linkDown 0, .pllLossOfLock 0x180 0, .frameReceive 0 ⟨[], 0, 0⟩ false, .pause 0 0, .pfc 0 0 [], .pauseTimerExpire 0 0,
     .pauseStorm 0 0, .ignoreExpire 0 0, .fcFrameSend 0, .fcRefresh 0 0, .lpiEnter 0] : List Instr), wellFormed c = true := by decide

/-- The same commands with that operand at 0. -/
theorem test_wellFormed2 : ∀ c ∈ ([
     .lpiWake 0, .hello 0 false, .shedReq 0 false 0 0 0, .shedAck 0, .shedNak 0, .wakeReq 0 false 0 0, .wakeAck 0,
     .utilisationWindow 0, .coppiceTimeout 0 0, .frameTransmit 0 false, .headEnqueue 0, .parseWalk 0, .fragSeed 0 0,
     .pguNodeRead 0 0 0, .pguNodeWrite 0 0 0, .dispatchEntry 0, .aluNop 0 0, .aluMov 0 0, .aluAdd 0 0, .aluSub 0 0,
     .aluAnd 0 0, .aluOr 0 0, .aluXor 0 0, .aluAndn 0 0, .aluShl 0 0, .aluShr 0 0, .aluRor 0 0, .aluExt 0 0, .aluIns 0 0,
     .aluMin 0 0, .aluMax 0 0, .aluCmp 0 0, .aluLdp 0 0, .aluLdh 0 0, .aluLdl 0 0, .aluLdm 0 0, .aluStm 0 0, .aluHash 0 0,
     .aluPopc 0 0, .aluFfs 0 0, .aluLdt 0 0, .seqCont 0, .seqTwoway 0, .seqDisp4 0, .seqDisp16 0, .seqCall 0, .seqReturn 0,
     .seqWait 0] : List Instr), wellFormed c = true := by decide

/-- The same commands with that operand at 0. -/
theorem test_wellFormed3 : ∀ c ∈ ([
     .seqEnd 0, .seqAbandon 0, .lookupEmt 0 false 0 0, .lookupThicket 0 false, .lookupResult 0 0, .hdrSet 0, .hdrPush 0,
     .hdrPop 0, .hdrInc 0, .hdrDec 0, .hdrCsum4 0, .hdrUdp0 0, .memCnt 0, .memPol 0 false, .memCtxRd 0 false, .memCtxWrt 0,
     .memCtxWrl 0, .memCtxAdd 0, .memLearn 0, .contextLockGrant 0, .dispFwd 0, .dispClass 0, .dispColour 0, .dispMirror 0,
     .dispOam 0, .dispRestore 0, .dispCommit 0, .dispDrop 0, .dispToHost 0, .dispRecirc 0, .commitAccept 0 false [] [],
     .reorderRelease 0, .lqHead 0 0, .emtTblGeo 0 0 0, .tableClearDone 0, .agingSweep 0, .thkTblCfg 0 0 0,
     .thkTableClearDone 0, .shiftMove 0 0, .thicketScrub [], .thkRowRepair 0 0, .csScrub 0 0 0, .csRepair 0 0 0,
     .grvCsWr 0 0 0, .grvCsRd 0 0 0 0, .grvCsCrc 0 0 0, .inService 0 0 0, .fenced 0 0 0] : List Instr), wellFormed c = true := by decide

/-- The same commands with that operand at 0. -/
theorem test_wellFormed4 : ∀ c ∈ ([
     .drainTimeout 0, .epochCommit 0 0, .epochArm 0 0 false 0, .epochDisarm 0 false 0, .cellPush 0, .wpAudit 0,
     .selection 0, .schRead 0 0 0, .schWrite 0 0 0, .flush 0 0 0, .policerRefresh 0 false, .gateRead 0 0 0,
     .gateWrite 0 0 0, .configurationChange 0 0 0, .configChangeTake 0, .gateEntryAdvance 0, .gateEn 0 0 0, .timeRead 0,
     .timeSet 0, .timeAdd 0, .tref25 0 false, .squelched 0, .txts3 0, .svcCfg 0 0, .timerFire 0, .tmrRead 0 0,
     .tmrWrite 0 0, .bfdTick 0 ⟨0, false⟩, .bfdReceive 0 0 ⟨0, false⟩, .ccmTick 0 false false false,
     .cfmReceive 0 false 0 0 false false false false, .lmDmTick 0 false false, .rootwayFrameReceive 0,
     .event false 0, .linkHeartbeat 0 false, .rwRtx 0, .rootwayDown 0, .rwTxrTail 0 0, .trSwitch 0 128 false 0,
     .coldReset 0 0 0 0, .rstN false 0 0 0 0, .devRst 0 0 false, .status 0, .fetch 0, .verifyLoad 0, .activate 0,
     .restartCore 0, .lockCommand 0] : List Instr), wellFormed c = true := by decide

/-- The same commands with that operand at 0. -/
theorem test_wellFormed5 : ∀ c ∈ ([
     .commitSvn 0, .flashWrite 0, .flashErase 0, .safeState 0, .swKick 0 0, .sapwoodWatchdog 0, .apiCmdTail 0 0,
     .counterRead 0 0 0, .rootwaySend 0 [], .sessionAdd 0 false 0 0 ⟨0, 0⟩ [], .sessionDel 0 false 0, .tableFlushPort 0 0,
     .fwInfo 0, .ringTail false 0 0, .hostTxFetch 0 [] [] [] false, .hostRxDeliver [] false, .exceptionDeliver [] false,
     .hevAck 0 0, .smbusPower 0, .smbusAddress 0, .agingMonitor 0 0 0, .icSgi 0 0, .icTmr 0, .interruptEntry 0 0,
     .returnFromInterrupt 0 0, .icEoi 0 0 0, .errorReport 0 0 0 false, .errWindowClose 0 0, .echoWindowEnd 0, .remap 0,
     .junctionOverLimit 0 0, .clockLoss 0, .clockReturn ⟨0, false⟩, .firstVerdict 0 false, .pllLock 0x180 0, .rxLpi 0 false,
     .itrUsExpiry 0, .hmbDone 0 false false []] : List Instr), wellFormed c = true := by decide

/-- Bytes beyond two megabytes are refused. -/
theorem test_refused_bytes (b : Bytes) (h : b.length = 0x200001) :
    wellFormed (.frameReceive 0 ⟨b, 0, 0⟩ false) = false ∧ wellFormed (.hostTxFetch 0 [] [] b false) = false ∧
    wellFormed (.hmbDone 0 false false b) = false ∧ wellFormed (.rootwaySend 0 b) = false ∧
    wellFormed (.sessionAdd 0 false 0 0 ⟨0, 0⟩ b) = false := by
  have hb : bytesOk b = false := by simp [bytesOk, h]
  simp [wellFormed, hb]

/-! ### Witnesses of the clauses on refusals, resets, lost clocks and what waits -/

/-- SYSCLK lost. -/
def noSys : State := { up with pin := { up.pin with lost := [0] } }

theorem test_w_StoppedClock :
    held noSys = false ∧ clkStopped noSys = true ∧ stopped noSys = true ∧ noSys.pending = [] ∧ clkStopped up = false ∧
    kclkCmd .timerInject = false ∧ pinEvent .timerInject = false := by decide +kernel

theorem test_w_ResetStateIsQuiet :
    up.pin.keep = true ∧ up.pin.testEn = false ∧ stopped up = false ∧ reaches up 0 = true ∧ inReset up dev = false := by
  decide +kernel

/-- A register row of a page, of one word, of which P holds. -/
def rowIs (a : Nat) (P : RegRow → Bool) : Bool := (rowAt a).any (fun q => q.half == Half.single && P q)

theorem test_w_RegisterWritesAreRefused :
    (let s := setRegB (pa pgPgu offSts) fPAGE_STS_IN_RESET true up
     inReset s pgPgu = true ∧ kindOf pgPgu = some .pgu ∧ rowIs (pa pgPgu offFRAG_SEED) (fun _ => true) = true) ∧
    (let s := { up with hw := { up.hw with locks := 1 } }
     s.hw.locks.testBit 0 = true ∧ reaches s 1 = true ∧ stopped s = false ∧ inReset s pgLko = false ∧
     rowIs (pa pgLko offLKO_CFG) (fun _ => true) = true ∧ rowIs (pa pgLko 0x1FC) (fun _ => true) = true) ∧
    rowIs (pa (macPage 255) offMAC_MAXLEN) (fun q => q.fields.any (fun f => f.acc == .rw && !legalVal f.legal (fget (0 : Word) (frFld f)))) = true ∧
    ownJudge .bmac offMAC_MAXLEN = false ∧ kindOf (macPage 255) = some .bmac ∧
    (let s := setRegB (pa (macPage 255) offCtl) fPAGE_CTL_ENABLE true up
     let v := fset (reg s (pa (macPage 255) offMAC_CFG)) fMAC_CFG_PORT_MODE 0x13
     enabled s (macPage 255) = true ∧ quiesced s (macPage 255) = false ∧ rowIs (pa (macPage 255) offMAC_CFG) (fun q =>
       rowLegal q v && !rowStaged q && q.fields.any (fun f => f.cls == .quiet && f.acc == .rw &&
         fget v (frFld f) != fget (reg s (pa (macPage 255) offMAC_CFG)) (frFld f))) = true ∧
     crossLegal s .bmac (macPage 255) offMAC_CFG v = true) ∧
    rowIs (pa pgMc (offMIR_CFG 15)) (fun q => rowLegal q 1 && rowStaged q && q.fields.all (fun f => f.cls != .quiet)) = true ∧
    epochPaced (committing pgMc) pgMc = false ∧ inReset (committing pgMc) pgMc = false := by
  decide +kernel

theorem test_w_ShadowWritesAndBitsClearedByWritingOne :
    (stagedWords pgMc).contains (pa pgMc (offMIR_CFG 15)) = true ∧ accepts up 0 (pa pgMc (offMIR_CFG 15)) 1 = true ∧
    (stagedWords pgPol).contains (pa pgPol offPOL_ACT) = true ∧ accepts up 0 (pa pgPol offPOL_ACT) 1 = true ∧
    accepts up 0 (pa dev offEPOCH_CHAIN_BAD) 0x80000000 = true ∧ accepts up 0 (pa (grvPage 31) offGRV_ERR_ENG) 0x80000000 = true ∧
    accepts up 0 (pa (macPage 255) offPV_STS) 0x1FE = true ∧ hasHeader 0x17F = true := by
  decide +kernel

/-- A node access of the parse graph in progress, and one that is over. -/
def nodeBusy (t0 : Nat) : State :=
  { setRegB (pa pgPgu offPGU_NODE_CMD) fPGU_NODE_CMD_BUSY true up with pgu := { up.pgu with cmd := some (511, none, t0) } }
/-- The Thicket table whose ENABLE falls while entries move. -/
def thkOff : Word := fset (thkCfg moving 63) fTHK_TBL_CFG_ENABLE 0

theorem test_w_NodeAccessAndShiftEnded :
    up.pgu.cmd = none ∧ (nodeBusy 5).pgu.cmd = some (511, none, 5) ∧ 5 ≤ now (nodeBusy 5) ∧ stopped (nodeBusy 5) = false ∧
    accepts (nodeBusy 5) 0 (pa pgPgu offPGU_NODE_CMD) (nodeCmd 0 1 255) = true ∧
    accepts (nodeBusy 5) 0 (pa pgPgu offPGU_NODE_CMD) (nodeCmd 1 1 255) = true ∧
    accepts (nodeBusy 5) 0 (pa pgPgu (offPGU_NODE_D 3)) 7 = true ∧
    nodeIllegal (dRegs (setReg (pa pgPgu (offPGU_NODE_D 2)) 0xFFFFFFFF up) (pa pgPgu (offPGU_NODE_D 0)) 4 % 2 ^ 95) = true ∧
    accepts moving 0 (pa pgThk (offTHK_TBL_CFG 63)) thkOff = true ∧ natField thkOff.toNat 28 23 = 0 ∧ natField thkOff.toNat 15 15 = 0 ∧
    natField thkOff.toNat 7 6 = 0 ∧ thkCfgIllegal thkOff = false ∧ thkOn moving 63 = true ∧ fbit thkOff fTHK_TBL_CFG_ENABLE = false ∧
    natField thkOff.toNat 30 0 = natField (thkCfg moving 63).toNat 30 0 ∧ thkShifting moving 63 = true ∧
    (moving.tae.exec.find? (fun e => tcSpace e.2.bytes == 2 && tcTable e.2.bytes == 63)).map (fun e => e.1) = some 1 ∧
    thkShifting (thk63 1) 63 = false := by
  decide +kernel

/-- Engine 31 of Grove 31 alone busy, with its one pass; and the word that fences it. -/
def fencing : State := at0 0 (fun th => { th with st := .ready })
def fenceWord : Word := 0x80000000

/-- The same with these engines of Grove 31 in service, and with every engine in service. -/
def serving (w : Word) : State := setReg (pa (grvPage 31) offGRV_ENG_SVC) w fencing
def allServe : State := (List.range 32).foldl (fun s g => setReg (pa (grvPage g) offGRV_ENG_SVC) 0xFFFFFFFF s) fencing

theorem test_w_FenceOfABusyEngine :
    (engBit (serving 0x80000000) offGRV_ENG_SVC 31 31 = true ∧ spareFor (serving 0x80000000) 31 = some 992 ∧
      liveB (serving 0x80000000) (pa (grvPage 31) offGRV_CFG) fGRV_CFG_AUTO_SPARE = true ∧ spareFor allServe 31 = none) ∧
    accepts fencing 0 (pa (grvPage 31) offGRV_ENG_FENCE) fenceWord = true ∧ engBit fencing offGRV_ENG_FENCE 31 31 = false ∧
    (∀ f, f < 32 → fenceWord.toNat.testBit f = (f == 31 || engBit fencing offGRV_ENG_FENCE 31 f)) ∧
    (engThreads 31 31).contains 4095 = true ∧ (∀ y ∈ engThreads 31 31, y ≠ 4095 → (thread fencing y).st = .free) ∧
    attempting (thread fencing 4095) = true ∧ (pass? fencing (thread fencing 4095).pass).map (fun p => p.headLost) = some false ∧
    (pass? fencing (thread fencing 4095).pass).map (fun p =>
      decide (p.counted ≤ liveF fencing (pa dev offACT_CFG) fACT_CFG_RESTART_MAX)) = some true ∧
    (∀ f, f < 32 → quiet (setRegB (pa (grvPage f) offSts) fPAGE_STS_QUIESCED true up) (grvPage f) = true) := by
  decide +kernel

/-! ### Witnesses: interrupts, links, commits -/

/-- Core 3 in a handler of source f, whose frame says RP 16. -/
def handling (f : Nat) (s : State) : State :=
  coreUp (coreWrite (run3.sp + 8) (leBytes 4 (f + 16 * 65536)) { run3 with frames := [f] }) s

theorem test_w_InterruptControllerEntries :
    icWon src5 3 = none ∧ contests src5 3 0 5 = false ∧ stopped src5 = false ∧
    presented up 3 = none ∧ run3.frames.contains 0 = false ∧ (Machine.core (handling 0 up) 3).frames.contains 0 = true ∧
    presented (handling 0 up) 3 = none ∧ (Machine.core (handling 0 up) 3).halted = false ∧ icWon (handling 0 up) 3 = none ∧
    reaches up 0 = true ∧
    accepts up 0 (pa pgIc (offIC_EOI 3)) 0 = true ∧
    (let s := handling 7 src5
     let c := Machine.core s 3
     let u := setRegF (pa pgIc (offIC_RP 3)) fIC_RP_RP (natField (frameWord c 2).toNat 20 16) s
     c.frames = [7] ∧ presented u 3 = some 5 ∧ contests u 3 0 5 = false ∧ icWon s 3 = none ∧ c.halted = false ∧ stopped s = false) := by
  decide +kernel

/-- Source 5 presented to cores 0 and 3, which claim it in one MCLK. -/
def both5 : State :=
  let s := setReg (pa pgIc (offIC_SRC_CFG 2)) (BitVec.ofNat 32 ((2 ^ 9 + 2 ^ 8 + 2 ^ 7 + 2 ^ 4) * 2 ^ 16)) up
  { s with sap := { s.sap with core := [(0, run3), (3, run3)] }, ic := { s.ic with latch := [5] } }

theorem test_w_TwoCoresClaimOneSource :
    presented both5 3 = some 5 ∧ contests both5 3 0 5 = true ∧ losesTo both5 3 0 = true ∧ icWon both5 3 = none ∧
    presented both5 0 = some 5 ∧ contests both5 0 3 5 = true ∧ losesTo both5 0 3 = false ∧ stopped both5 = false := by
  decide +kernel

/-- Frames that wait for room before port 259's queue (R17). -/
def vwaits : State := { arrived 259 with rw := { (arrived 259).rw with vwait := [[1]] } }

theorem test_w_VirtualLinkWaits : vwaits.rw.vwait = [[1]] ∧ firstOf vwaits 259 .arrived = some 9 ∧ stopped vwaits = false ∧
    (dispQ vwaits (queueOf 259)).length < 256 ∧ headsWaiting vwaits 259 < 32 ∧ up.rw.vwait = [] := by decide +kernel

theorem test_w_LandingWordIsDone :
    (thread landing 4095).done = [] ∧ (∀ x ∈ (thread landing 4095).pend, x.waitCtx = none ∧ x.uncorr = false ∧ x.apply = false) := by
  decide +kernel

/-- A commit with staged work; crossings into X6, X7 and X8 of Grove 31 that still stand there. -/
def committingAll : State :=
  at0 0 (fun th =>
    { th with st := .committing,
              staged := { th.staged with copy := List.replicate 14 0, cnts := [(524287, 9)], notices := [17], dispo := 1 + 256 * 257 } })
def crowded : State :=
  let s := committing9 (List.replicate 14 0) [] 0
  { s with grv := { s.grv with cross := List.replicate 32 ⟨31, now s, 1, 0, 0⟩ } }

theorem test_w_CommitRoomCountersAndNotices :
    (let s := committingAll
     stopped s = false ∧ safe s = false ∧ passOf s 4095 = some pass9 ∧ (thread s 4095).st = .committing ∧ s.pgu.held = [] ∧
     commitRoom s (thGrove 4095) (headCellsFor 14) 1 1 = true ∧ (thread s 4095).staged.cnts = [(524287, 9)] ∧
     (thread s 4095).staged.notices = [17] ∧ liveB s (pa pgClr offCLR_CFG) fCLR_CFG_CNT_EN = false) ∧
    commitRoom crowded (thGrove 4095) (headCellsFor 14) 0 0 = false ∧ (thread crowded 4095).st = .committing ∧
    passOf crowded 4095 = some pass9 ∧ stopped crowded = false := by
  decide +kernel

/-- A packet at the head of its order, with a disposition and notices; a tree of port 257; a group of members. -/
def leaves (dispo : Nat) (nots : List Nat) (f : State → State) : State :=
  let s := withPass 9 { passReset with phase := .reorder, complete := true, com := some { com1 with dispo := dispo, notices := nots, cells := 1, headCells := [7] } } up
  f { s with disp := { s.disp with order := [(0, [9])] },
             sch := { s.sch with node := [(32, 2 ^ 30 + 2 ^ 20 + 9 * 2 ^ 73), (nodeKey 3 257, 2 ^ 30 + 2 ^ 16 + 32), (nodeKey 3 256, 2 ^ 30 + 2 ^ 16 + 32)] } }
def fwd257 : Nat := 1 + 256 * 257
def mc5 : Nat := 2 + 256 * 5
def group5 (g : Nat) (s : State) : State := { s with store := { s.store with mcg := [(5, g)] } }

theorem test_w_ReleaseEnqueuesWhatIsAdmitted :
    (∀ d ∈ [fwd257, 3 + 256 * 256, 5 + 256 * 257], let s := leaves d [] id
      stopped s = false ∧ safe s = false ∧ (pass? s 9).map (fun p => p.phase == .reorder && p.complete && !p.bad) = some true ∧
      (∀ j, j < 16 → mirMatch s 0 j 1 257 = false ∧ mirMatch s 0 j 1 256 = false)) ∧
    [dAction fwd257, dDest fwd257, dAction mc5, dDest mc5] = [1, 257, 2, 5] ∧
    (leaves fwd257 [17] id).emt.lq.length < 65536 ∧ filtered (leaves fwd257 [17] id) 17 = false ∧
    admitTest (leaves fwd257 [] id) 257 0 0 1 = .ok ∧
    (leaves mc5 [] id).store.mcgBad.contains 5 = false ∧
    mcMembers (mcGroup (leaves mc5 [] (group5 (2 ^ 261 + 2 ^ 257))) 5) 0 = [257] ∧
    (mcGroup (leaves mc5 [] (group5 (2 ^ 261 + 2 ^ 257))) 5).testBit 261 = true ∧
    (mcGroup (leaves mc5 [] id) 5).testBit 261 = false ∧ mcMembers (mcGroup (leaves mc5 [] (group5 (2 ^ 261))) 5) 0 = [] := by
  decide +kernel

/-! ### Witnesses: moves that end early, cells, the Lookout's reactions, rings, links, pins -/

/-- The table disabled while its entries move. -/
def stopping : State := setReg (pa pgThk (offTHK_TBL_CFG 63)) (fset (thkCfg moving 63) fTHK_TBL_CFG_ENABLE 0) moving

theorem test_w_MovesOfADisabledTable :
    thkOn stopping 63 = false ∧ stopped stopping = false ∧ (shiftersHeld stopping).contains (63, 0) = true ∧
    (stopping.thk.shifts.find? (fun h => h.table == 63)).isSome = true ∧ moverOf stopping = some (0, 2, 0) ∧
    (stopping.tae.exec.find? (fun e => tcSpace e.2.bytes == 2 && tcTable e.2.bytes == 63)).map (fun e => e.1) = some 1 ∧
    thkOn moving 63 = true ∧ thkOn freed 63 = true ∧ thkOn moved 63 = true := by
  decide +kernel

/-- What a repair of a row finds in the other copies. -/
def foundFor (s : State) : Option (Nat × Nat) :=
  (((List.range (thkCopies s 63 - 1)).map (fun i => (0 + 1 + i) % thkCopies s 63)).flatMap
    (fun d => (rowNow s 63 d (rowBefore s 63 0 0)).map (fun y => (d, y)))).find? (fun e => !thkPending s 63 e.1 e.2)

theorem test_w_RowRepair : foundFor (repairing 2) = some (1, 0) ∧ foundFor (repairing 1) = none := by decide +kernel

/-- The free lists being filled; a push of bank 31 in this BCLK. -/
def filling : State := { auditing with clr := { auditing.clr with fillAt := some (now auditing) } }
def pushedNow : State := { auditing with clr := { auditing.clr with pushed := [(31, bclk auditing)] } }

theorem test_w_CellPushes :
    fillOver auditing = true ∧ mfind auditing.clr.pushed 31 ≠ some (bclk auditing) ∧ fillOver filling = false ∧
    filling.clr.release.find? (fun c => c % 32 == 31) = some 31 ∧ mfind pushedNow.clr.pushed 31 = some (bclk pushedNow) ∧
    auditing.clr.retired.contains 31 = false := by
  decide +kernel

/-- A report of a source, its mask, and the word of LKO_REACT of its area. -/
def reacting (page src cls res : Nat) (mask react : Word) : State :=
  setReg (pa page offERR_MASK) mask (setReg (pa pgLko (offLKO_REACT (areaOf page))) react (reported ⟨page, src, cls, false, res, 3000000000⟩ id))
/-- Every field of a word of LKO_REACT. -/
def react6 (f : Nat) : Word := mkWord [(fLKO_REACT_UC_P, f), (fLKO_REACT_UC, f), (fLKO_REACT_CE_P, f), (fLKO_REACT_CE, f)]

theorem test_w_LookoutReacts :
    (∀ f ∈ [0, 1, 2, 4, 5], ∀ b, let s := reacting (macPage 255) 0 clsUC 0 0 (react6 f)
      stopped s = false ∧ safe s = false ∧ reactField s (areaOf (macPage 255)) clsUC b = f ∧
      dueReports s = [⟨macPage 255, 0, clsUC, false, 0, 3000000000⟩] ∧ inEcho s (macPage 255) = false ∧
      echoes s ⟨macPage 255, 0, clsUC, false, 0, 3000000000⟩ = false) ∧
    (reg (reacting 0x03F 1 clsUC (resId 1 1023) 2 0) (pa 0x03F offERR_MASK)).toNat.testBit 1 = true ∧
    (∀ b, let s := reacting 0x03F 1 clsUC (resId 1 1023) 0 (react6 3)
      reactField s (areaOf 0x03F) clsUC b = 3 ∧ (live s (pa 0x03F offERR_MASK)).toNat.testBit 1 = false) ∧
    resId 1 1023 / 2 ^ 20 = 1 ∧ capReset (macPage 255) = true ∧ macPort (macPage 255) = some 255 := by
  decide +kernel

/-- An engine's source at its thresholds, and one whose tracker is full. -/
def persists : State := setReg (pa 0x03F offERR_THRESH) 0x0101 (reacting 0x03F 1 clsUC (resId 1 1023) 0 (react6 3))
def trackFull : State :=
  { persists with lko := { persists.lko with track := (List.range 1024).map (fun i => (2 ^ 20 + i, ⟨4000000000, 0, 0, 1, 1, false, false⟩)) } }

theorem test_w_PersistenceAndTracking :
    (let w := windowAdd persists 0x03F clsUC (mfind persists.lko.win (0x03F * 16 + 1))
     w.ucTh ≤ w.uc ∧ w.ucSaid = false) ∧
    (let w := windowAdd (reacting (macPage 255) 0 clsUC 0 0 (react6 1)) (macPage 255) clsUC none
     ¬ w.ucTh ≤ w.uc) ∧
    (trackFull.lko.track.filter (fun e => kNow trackFull < e.2.fin)).length = 1024 ∧
    (mfind (trackFull.lko.track.filter (fun e => kNow trackFull < e.2.fin)) (resId 1 1023)).isSome = true ∧
    (mfind (trackFull.lko.track.filter (fun e => kNow trackFull < e.2.fin)) (resId 3 5)).isNone = true ∧
    (1 ≤ resId 3 5 / 2 ^ 20 ∧ resId 3 5 / 2 ^ 20 ≤ 6) := by
  decide +kernel

/-- Boot states: the units started, the directory with a patch, flash that cannot be read. -/
def startedAt (t0 : Nat) (s : State) : State := { s with hw := { s.hw with startAt := some t0 }, time := { s.time with kclk := 3000000000 } }

set_option maxRecDepth 20000 in
theorem test_w_BootBranches :
    State.reset.hw.startAt = none ∧ (startedAt 0 (atStep 2 0 0 State.reset)).hw.startAt = some 0 ∧ bootStep (startedAt 0 (atStep 2 0 0 State.reset)) = 2 ∧
    0 + 640 * tUs ≤ kNow (startedAt 0 up) ∧ kNow (startedAt 2999999999 up) < 2999999999 + 640 * tUs ∧ (startedAt 0 State.reset).pin.verdict = false ∧
    (startedAt 0 up).pin.verdict = true ∧ stopped State.reset = false ∧
    dirFind (dirOf [(imPatch, 0x8000, 256)]) imPatch = some 0 ∧ bootStep (atStep 5 0 0 flashed) = 5 ∧
    portMode State.reset 255 = 0x10 ∧ portMode (setReg (pa (macPage 1) offMAC_CFG) 0 State.reset) 1 = 0 ∧
    ({ flashed with hw := { flashed.hw with noPorts := true } } : State).hw.noPorts = true ∧
    dirKind (dirOf [(1, 0x8000, 256)]) 1 = 0 ∧
    (imKind (imageOf 1) = imSapwood ∧ leAt (imageOf 1) 80 48 = 0) := by
  decide +kernel

/-- A link HEARTBEAT of another version. -/
def badHb : Bytes := BitVec.ofNat 8 (2 * 16 + mtHeartbeat) :: (hb true []).drop 1

theorem test_w_RingsAndLinks :
    excReady toHost = false ∧ excReady up = false ∧ mType badHb = mtHeartbeat ∧ mHopLocal badHb = true ∧ mAckv badHb = false ∧
    rwBad badHb = true ∧ stopped (rwOn id under) = false := by
  decide +kernel

theorem test_w_BallsAndChains :
    inChain .trstN = false ∧ inChain .faultN = true ∧ low.pin.rstN = false ∧ ({ low with pin := { low.pin with testEn := true } } : State).pin.testEn = true ∧
    (testing .samplePreload).pin.testEn = true := by
  decide +kernel

/-! ### SHA-384 and P-384 (FIPS 180-4, FIPS 186-5) -/

/-- SHA-384 of "sample" (RFC 6979, A.2.6), and the double of the base point (worked out from the curve). A whole verification takes the kernel minutes. -/
theorem test_sha384_sample : beNat (sha384 [0x73, 0x61, 0x6D, 0x70, 0x6C, 0x65]) =
    0x9A9083505BC92276AEC4BE312696EF7BF3BF603F4BBD381196A029F340585312313BCA4A9B5B890EFEE42C77B1EE25FE := by decide +kernel
theorem test_p384_double : ecAdd (some ecG) (some ecG) =
    some (0x08D999057BA3D2D969260045C55B97F089025959A6F434D651D207D19FB96E9E4FE0E86EBE0E64F85B96A9C75295DF61,
      0x8E80F1FA5B1B3CEDB7BFE8DFFD6DBA74B275D875BC6CC43E904E505F256AB4255FFD43E94D39E22D61501E700A940E80) := by decide +kernel
theorem test_p384_zero : ecdsaOk ecG 1 0 1 = false ∧ ecdsaOk ecG 1 1 0 = false := by decide +kernel

/-! ### The default bridge (R435) -/

/-- A frame: destination, source, and what follows them. -/
def bridged (da sa : Bytes) (rest : Bytes) : Bytes := da ++ sa ++ rest ++ List.replicate 44 7
def station (n : Nat) : Bytes := [0x02, 0, 0, 0, 0, BitVec.ofNat 8 n]
def prio (pcp vid : Nat) : Bytes := [0x81, 0x00] ++ beBytes 2 (pcp * 8192 + vid)

/-- The ROM bridge is installed; a pass of a port stands ready on thread 4095 of Grove 31. -/
def romReady (port : Nat) (head : Bytes) : State :=
  let s := romTable (withPass 9 (putPrv 4 (leBytes 2 port)
    { passReset with phase := .ready, tid := 4095, src := port, raw := head, head := head, flen := 68 }) grv31)
  { s with grv := { s.grv with rom := true, threads := [(4095, { threadReset 4095 with st := .reserved, pass := 9 })] },
           pgu := { s.pgu with rom := true } }
/-- Table 0 holds a station of a VLAN with a forwarding word. -/
def knows (vid n fw : Nat) (s : State) : State :=
  let key := bridgeKey vid (station n)
  emtCommit 0 (4 * (emtHash s 0 key % emtBuckets s 0)) (key ++ [0, 0, 0, 0] ++ leBytes 4 fw) (metaTag 3 0) s

/-- What the bridge stages: action, destination, class, queue, notices, length of the copy, words issued. -/
def staged435 (s : State) : Nat × Nat × Nat × Nat × List Nat × Nat × Nat :=
  let th := thread (dispatchEntry 4095 s) 4095
  let d := th.staged.dispo
  (dAction d, dDest d, dClass d, natField d 35 24, th.staged.notices, th.staged.copy.length, if th.st = .committing then th.issued else 0)

theorem test_bridge_unknown :
    staged435 (romReady 7 (bridged (station 1) (station 2) [8, 0])) =
      (2, 1, 0, 0, [notice 1 0 1 7 (1 + leNat (station 2) * 2 ^ 16 + 7 * 2 ^ 64)], 58, 40) := by decide +kernel

theorem test_bridge_known :
    staged435 (knows 100 1 9 (knows 100 2 7 (romReady 7 (bridged (station 1) (station 2) (prio 5 100))))) =
      (1, 9, 5, 5, [], 60, 40) := by decide +kernel

theorem test_bridge_entry_port :
    staged435 (knows 100 1 7 (knows 100 2 7 (romReady 7 (bridged (station 1) (station 2) (prio 5 100))))) =
      (4, 511, 0, 0, [], 60, 40) := by decide +kernel

/-- A priority-tagged frame of a station that moved from port 3 leaves untagged, and a notice is staged. -/
theorem test_bridge_moved :
    staged435 (knows 1 1 9 (knows 1 2 3 (romReady 7 (bridged (station 1) (station 2) (prio 6 0))))) =
      (1, 9, 6, 6, [notice 1 0 1 7 (1 + leNat (station 2) * 2 ^ 16 + 7 * 2 ^ 64)], 56, 40) := by decide +kernel

theorem test_bridge_drops :
    (staged435 (romReady 7 (bridged [0x01, 0x80, 0xC2, 0, 0, 15] (station 2) [8, 0]))).1 = 4 ∧
    (staged435 (romReady 7 (bridged [0x01, 0x80, 0xC2, 0, 0, 16] (station 2) [8, 0]))).1 = 2 ∧
    (staged435 (romReady 7 (bridged (station 1) (station 2) (prio 5 0xFFF)))).1 = 4 ∧
    (staged435 (romReady 256 (bridged (station 1) (station 2) [8, 0]))).2.2.2.2.1 = [] := by
  decide +kernel

theorem test_w_TheBridgeRuns :
    (∀ h ∈ [bridged (station 1) (station 2) (prio 5 100), bridged (station 1) (station 2) (prio 5 0xFFF), bridged (List.replicate 6 255) (station 2) [8, 0]],
      ∀ port ∈ [7, 256], let s := knows 100 1 9 (romReady port h)
        stopped s = false ∧ (pass? s 9).map (fun p => (romBridge s 4095 p, p.tid, p.phase == .ready)) = some (true, 4095, true)) ∧
    (let s := romReady 7 (bridged (station 1) (station 2) [8, 0])
     romGraph s ⟨[], 256, none, false, 0, 31⟩ 0 = true ∧
     (graphWalk s ⟨List.replicate 64 0, 256, some 64, false, 0, 31⟩ 0 (walkStart 0)).1 = (0, 0)) := by
  decide +kernel

end Sys2Proof.Tests
end

section
/-!
PROOFS. The Grove and the thread that a dispatch takes (R14, R174, R175): both choices are one search for the first place of the
greatest value.
-/

namespace Sys2Proof.Machine
open Sys2Proof

/-! ### The first place of the greatest value -/

/-- One step of the search for the first place where `f` is greatest and not 0: the best so far against `x`. -/
def better (f : Nat → Nat) (b : Option (Nat × Nat)) (x : Nat) : Option (Nat × Nat) :=
  match b with
  | none => if f x = 0 then none else some (x, f x)
  | some (_, m) => if m < f x then some (x, f x) else b

/-- `b` is the first place in `l` where `f` is greatest, with that value; `none` where `f` is 0 in all of `l`. -/
def IsFirstMax (f : Nat → Nat) (l : List Nat) : Option (Nat × Nat) → Prop
  | none => ∀ y ∈ l, f y = 0
  | some (x, m) => x ∈ l ∧ m = f x ∧ 0 < m ∧ ∀ y ∈ l, f y < m ∨ (f y = m ∧ x ≤ y)

/-- A step keeps the best of a rising list, extended at its end. -/
theorem isFirstMax_better {f : Nat → Nat} {l : List Nat} {b : Option (Nat × Nat)} {x : Nat}
    (hb : IsFirstMax f l b) (hx : ∀ y ∈ l, y < x) : IsFirstMax f (l ++ [x]) (better f b x) := by
  cases b with
  | none =>
    have hz : ∀ y ∈ l, f y = 0 := hb
    by_cases h0 : f x = 0
    · simp only [better, h0, if_true, IsFirstMax, List.mem_append, List.mem_singleton]
      rintro y (hy | rfl)
      · exact hz y hy
      · exact h0
    · simp only [better, h0, if_false, IsFirstMax, List.mem_append, List.mem_singleton]
      refine ⟨.inr trivial, trivial, by omega, ?_⟩
      rintro y (hy | rfl)
      · exact .inl (by rw [hz y hy]; omega)
      · exact .inr ⟨rfl, le_rfl⟩
  | some e =>
    obtain ⟨z, m⟩ := e
    obtain ⟨hz, hm, hpos, hmax⟩ := hb
    by_cases h : m < f x
    · simp only [better, h, if_true, IsFirstMax, List.mem_append, List.mem_singleton]
      refine ⟨.inr trivial, trivial, by omega, ?_⟩
      rintro y (hy | rfl)
      · exact .inl (by have := hmax y hy; omega)
      · exact .inr ⟨rfl, le_rfl⟩
    · simp only [better, h, if_false, IsFirstMax, List.mem_append, List.mem_singleton]
      refine ⟨.inl hz, hm, hpos, ?_⟩
      rintro y (hy | rfl)
      · exact hmax y hy
      · have := hx z hz; omega

/-- The search over a rising list finds the first place of the greatest value. -/
theorem isFirstMax_foldl_better (f : Nat → Nat) (l : List Nat) (hl : l.Pairwise (· < ·)) :
    IsFirstMax f l (l.foldl (better f) none) := by
  induction l using List.reverseRecOn with
  | nil => simp [IsFirstMax]
  | append_singleton l x ih =>
    rw [List.pairwise_append] at hl
    obtain ⟨hl, -, hx⟩ := hl
    rw [List.foldl_concat]
    exact isFirstMax_better (ih hl) (fun y hy => hx y hy x (List.mem_singleton_self x))

/-- The numbers below `n` that pass a test rise. -/
theorem pairwise_lt_filter_range (n : Nat) (ok : Nat → Bool) : ((List.range n).filter ok).Pairwise (· < ·) :=
  List.pairwise_lt_range.filter _

/-! ### The choices of R14 and R175 -/

/-- The search of R14 is that of the most free threads among the Groves that pass the test. -/
theorem pickGrove_eq (s : State) (ok : Nat → Bool) :
    pickGrove s ok = (((List.range 32).filter ok).foldl (better (freeThreads s)) none).map Prod.fst := by
  rw [List.foldl_filter]; rfl

/-- The search of R175 is that of the most free threads among the engines that receive dispatch and are allowed. -/
theorem pickAmong_eq (s : State) (g : Nat) (ok : Nat → Bool) :
    pickAmong s g ok =
      (((List.range 32).filter (fun e => engInService s g e && ok e)).foldl (better (fun e => (engFree s g e).length)) none).bind
        (fun b => (engFree s g b.1).head?) := by
  unfold pickAmong
  change (match List.foldl (better (fun e => (engFree s g e).length)) none _ with | none => none | some (e, _) => _) = _
  cases List.foldl (better (fun e => (engFree s g e).length)) none
    ((List.range 32).filter (fun e => engInService s g e && ok e)) <;> rfl

/-- The Grove picked (R14): it passes the test, and no other that does has more free threads, nor as many and a lower number. -/
theorem pickGrove_some {s : State} {ok : Nat → Bool} {g : Nat} (h : pickGrove s ok = some g) :
    g < 32 ∧ ok g = true ∧ 0 < freeThreads s g ∧
      ∀ x, x < 32 → ok x = true → freeThreads s x < freeThreads s g ∨ (freeThreads s x = freeThreads s g ∧ g ≤ x) := by
  have hbest := isFirstMax_foldl_better (freeThreads s) _ (pairwise_lt_filter_range 32 ok)
  rw [pickGrove_eq, Option.map_eq_some_iff] at h
  obtain ⟨⟨g', m⟩, hfold, rfl⟩ := h
  rw [hfold] at hbest
  obtain ⟨hmem, rfl, hpos, hmax⟩ := hbest
  simp only [List.mem_filter, List.mem_range] at hmem hmax
  exact ⟨hmem.1, hmem.2, hpos, fun x hx hok => hmax x ⟨hx, hok⟩⟩

/-- Where a Grove that passes the test has a free thread, one is picked (R14). -/
theorem pickGrove_isSome {s : State} {ok : Nat → Bool} {g : Nat} (hg : g < 32) (hok : ok g = true)
    (hfree : 0 < freeThreads s g) : (pickGrove s ok).isSome = true := by
  have hbest := isFirstMax_foldl_better (freeThreads s) _ (pairwise_lt_filter_range 32 ok)
  rw [pickGrove_eq, Option.isSome_map]
  cases hfold : ((List.range 32).filter ok).foldl (better (freeThreads s)) none with
  | some b => rfl
  | none =>
    rw [hfold] at hbest
    have hz : freeThreads s g = 0 := hbest g (by simp [hg, hok])
    omega

/-- A thread is reserved on an engine that receives dispatch (R175). -/
theorem engInService_of_pickAmong {s : State} {g : Nat} {ok : Nat → Bool} (h : (pickAmong s g ok).isSome = true) :
    ∃ e, e < 32 ∧ engInService s g e = true := by
  have hbest := isFirstMax_foldl_better (fun e => (engFree s g e).length) _
    (pairwise_lt_filter_range 32 (fun e => engInService s g e && ok e))
  obtain ⟨t, ht⟩ := Option.isSome_iff_exists.mp h
  rw [pickAmong_eq, Option.bind_eq_some_iff] at ht
  obtain ⟨⟨e, m⟩, hfold, -⟩ := ht
  rw [hfold] at hbest
  obtain ⟨hmem, -⟩ := hbest
  simp only [List.mem_filter, List.mem_range, Bool.and_eq_true] at hmem
  exact ⟨e, hmem.1, hmem.2.1⟩

/-! ### What it says of a Grove that it can take a head -/

theorem running_iff (s : State) (page : Nat) :
    running s page = true ↔ enabled s page = true ∧ quiesceReq s page = false ∧ inReset s page = false := by
  simp [running, and_assoc]

theorem engInService_iff (s : State) (g e : Nat) :
    engInService s g e = true ↔ engBit s offGRV_ENG_SVC g e = true ∧ engBit s offGRV_ENG_FENCE g e = false := by
  simp [engInService]

/-- A Grove that can take a head runs, and has a thread to reserve (R174). -/
theorem groveTakes_running {g : Grants} {x : Nat} (h : groveTakes g x = true) :
    running g.s (grvPage x) = true ∧ (pickThread g.s x).isSome = true := by
  simp only [groveTakes, groveOpen, Bool.and_eq_true] at h
  obtain ⟨⟨⟨⟨⟨-, hrun⟩, -⟩, -⟩, -⟩, hpick⟩ := h
  exact ⟨hrun, hpick⟩

/-- Settles O60: R14's search finds the first of the greatest, and a Grove that takes a head runs and has an engine that
receives dispatch. -/
theorem dispatchTakesTheFreestGrove : Obligations.DispatchTakesTheFreestGrove := by
  intro s
  refine ⟨fun g hg => ?_, fun h hlt htake hfree => pickGrove_isSome hlt htake hfree⟩
  obtain ⟨hlt, htake, hfree, hmax⟩ := pickGrove_some hg
  obtain ⟨hrun, hpick⟩ := groveTakes_running htake
  obtain ⟨hen, hq, hres⟩ := (running_iff s (grvPage g)).mp hrun
  obtain ⟨e, he, hsvc⟩ := engInService_of_pickAmong hpick
  exact ⟨hlt, htake, hfree, hen, hq, hres, ⟨e, he, (engInService_iff s g e).mp hsvc⟩, hmax⟩

end Sys2Proof.Machine
end

section
/-!
PROOFS. Bit fields of a number (R221): a field of the disposition record reads what was put into it, and the others stay.
-/

namespace Sys2Proof.Machine
open Sys2Proof

/-- `putField` on the parts of a number: those above and below the field stay. -/
theorem putField_eq (n hi lo v : Nat) (h : lo ≤ hi) :
    putField n hi lo v = n / 2 ^ (hi + 1) * 2 ^ (hi + 1) + v % 2 ^ (hi + 1 - lo) * 2 ^ lo + n % 2 ^ lo := by
  have hsplit := split_field n lo (hi + 1 - lo)
  rw [show lo + (hi + 1 - lo) = hi + 1 by omega] at hsplit
  simp only [putField, natField, Nat.shiftRight_eq_div_pow]
  omega

/-- A field reads what was put into it, modulo its width. -/
theorem natField_putField_same (n hi lo v : Nat) (h : lo ≤ hi) :
    natField (putField n hi lo v) hi lo = v % 2 ^ (hi + 1 - lo) := by
  rw [putField_eq n hi lo v h]
  exact field_of_parts _ _ _ _ _ h (Nat.mod_lt _ (by positivity)) (Nat.mod_lt _ (by positivity))

/-- A bit outside the field stays. -/
theorem testBit_putField_other (n hi lo v i : Nat) (h : lo ≤ hi) (hi' : i < lo ∨ hi < i) :
    (putField n hi lo v).testBit i = n.testBit i := by
  have hlow : n % 2 ^ lo < 2 ^ lo := Nat.mod_lt _ (by positivity)
  have hval : v % 2 ^ (hi + 1 - lo) < 2 ^ (hi + 1 - lo) := Nat.mod_lt _ (by positivity)
  have hwidth : (2 : Nat) ^ (hi + 1) = 2 ^ lo * 2 ^ (hi + 1 - lo) := by rw [← pow_add]; congr 1; omega
  have hparts : putField n hi lo v =
      2 ^ lo * (2 ^ (hi + 1 - lo) * (n / 2 ^ (hi + 1)) + v % 2 ^ (hi + 1 - lo)) + n % 2 ^ lo := by
    rw [putField_eq n hi lo v h, hwidth]; ring
  rw [hparts, Nat.testBit_two_pow_mul_add _ hlow]
  rcases hi' with hlt | hgt
  · simp [hlt, Nat.testBit_mod_two_pow]
  · rw [if_neg (by omega), Nat.testBit_two_pow_mul_add _ hval, if_neg (by omega), Nat.testBit_div_two_pow]
    congr 1; omega

/-- A field of other bits stays. -/
theorem natField_putField_other (n hi lo v hi' lo' : Nat) (h : lo ≤ hi) (h' : lo' ≤ hi') (hd : hi' < lo ∨ hi < lo') :
    natField (putField n hi lo v) hi' lo' = natField n hi' lo' := by
  refine Nat.eq_of_testBit_eq fun i => ?_
  simp only [natField, Nat.testBit_mod_two_pow, Nat.testBit_shiftRight]
  by_cases hi : i < hi' + 1 - lo'
  · rw [testBit_putField_other n _ lo v (lo' + i) h (by omega)]
  · simp [hi]

theorem natField_lt (n hi lo : Nat) : natField n hi lo < 2 ^ (hi + 1 - lo) := Nat.mod_lt _ (by positivity)

/-- Bytes, little-endian, make a number below 256 to their count. -/
theorem leNat_lt (bs : Bytes) : leNat bs < 256 ^ bs.length := by
  induction bs with
  | nil => simp [leNat]
  | cons b bs ih =>
    have hb := b.isLt
    simp only [leNat, List.length_cons, pow_succ]
    omega

@[simp] theorem slice_length (bs : Bytes) (off n : Nat) : (slice bs off n).length = n := by
  simp [slice]

theorem beAt_lt (bs : Bytes) (off n : Nat) : beAt bs off n < 256 ^ n := by
  simpa [beAt, beNat] using leNat_lt (slice bs off n).reverse

end Sys2Proof.Machine
end

section
/-!
PROOFS. Rules of the packet passes: what a write of a queue, a reservation and the end of a pass leave as it was (R12 to R17),
and HEAD_ENQUEUE (R16).
-/

namespace Sys2Proof.Machine
open Sys2Proof

/-! ### Commands of a block whose clocks run -/

/-- A block whose clocks run takes the command's effect: what holds of that holds of the answer. -/
theorem gives_act {c : Instr} {s : State} {f : State → State} {P : State → Prop} (hs : stopped s = false)
    (hc : exec c s = act f s) (h : P (boardKeeps s (f s))) : Gives c s P :=
  ⟨_, hc.trans (act_running s f hs), h⟩

/-- Where the effect itself keeps the queue and the pins, the answer is the effect. -/
theorem boardKeeps_eq_self {s t : State} (hq : t.pending = s.pending) (hp : t.pin = s.pin) : boardKeeps s t = t := by
  simp only [boardKeeps, ← hq, ← hp]

/-- The same, where the effect is known and keeps the queue and the pins. -/
theorem gives_act_eq {c : Instr} {s u : State} {f : State → State} {P : State → Prop} (hs : stopped s = false)
    (hc : exec c s = act f s) (hu : f s = u) (hkeep : boardKeeps s u = u) (h : P u) : Gives c s P :=
  gives_act hs hc (by rwa [hu, hkeep])

/-- A relation that every step of a list keeps holds from the first state to the last. -/
theorem forAll_rel {α : Type} {f : α → State → State} {R : State → State → Prop} (hrefl : ∀ s, R s s)
    (htrans : ∀ s t u, R s t → R t u → R s u) (hf : ∀ x s, R s (f x s)) (l : List α) (s : State) : R s (forAll f l s) := by
  induction l generalizing s with
  | nil => exact hrefl s
  | cons x l ih => exact htrans _ _ _ (hf x s) (ih (f x s))

/-! ### Passes and dispatch queues -/

theorem dispQ_setDispQ_other (s : State) (q r : Nat) (l : List Nat) (h : r ≠ q) : dispQ (setDispQ q l s) r = dispQ s r := by
  simp [dispQ, setDispQ, mget_mset_other, h]

@[simp] theorem pass_setDispQ (s : State) (q k : Nat) (l : List Nat) : pass? (setDispQ q l s) k = pass? s k := rfl
@[simp] theorem thread_setDispQ (s : State) (q t : Nat) (l : List Nat) : thread (setDispQ q l s) t = thread s t := rfl
@[simp] theorem pass_setThread (s : State) (t k : Nat) (v : Thread) : pass? (setThread t v s) k = pass? s k := rfl
@[simp] theorem thread_setPass (s : State) (k t : Nat) (p : Pass) : thread (setPass k p s) t = thread s t := rfl
@[simp] theorem dispQ_setPass (s : State) (k q : Nat) (p : Pass) : dispQ (setPass k p s) q = dispQ s q := rfl
@[simp] theorem dispQ_setThread (s : State) (t q : Nat) (v : Thread) : dispQ (setThread t v s) q = dispQ s q := rfl

/-- A change of a pass is a write of its record. -/
theorem updPass_some {s : State} {k : Nat} {p : Pass} (f : Pass → Pass) (h : pass? s k = some p) :
    updPass k f s = setPass k (f p) s := by
  simp [updPass, h]

/-- A change of a pass touches the records of the passes alone. -/
theorem updPass_eq (k : Nat) (f : Pass → Pass) (s : State) :
    updPass k f s = { s with disp := { s.disp with passes := (updPass k f s).disp.passes } } := by
  unfold updPass
  split <;> rfl

@[simp] theorem dispQ_updPass (k : Nat) (f : Pass → Pass) (s : State) (q : Nat) : dispQ (updPass k f s) q = dispQ s q := by
  rw [updPass_eq]; rfl

/-! ### What the end of a pass leaves as it was -/

/-- Only ports and the Clearing changed. -/
def OnlyPortsClr (s t : State) : Prop := t = { s with ports := t.ports, clr := t.clr }

theorem onlyPortsClr_refl (s : State) : OnlyPortsClr s s := rfl

theorem onlyPortsClr_trans (s t u : State) (h1 : OnlyPortsClr s t) (h2 : OnlyPortsClr t u) : OnlyPortsClr s u :=
  h2.trans (by rw [h1])

theorem onlyPortsClr_fcCompare (p i : Nat) (s : State) : OnlyPortsClr s (fcCompare p i s) := by
  unfold fcCompare
  dsimp only
  split_ifs <;> rfl

theorem onlyPortsClr_fcUpdate (p : Nat) (s : State) : OnlyPortsClr s (fcUpdate p s) := by
  unfold fcUpdate
  split_ifs
  · exact forAll_rel onlyPortsClr_refl onlyPortsClr_trans (onlyPortsClr_fcCompare p) _ s
  · rfl

theorem onlyPortsClr_dropRef (c : Nat) (s : State) : OnlyPortsClr s (dropRef c s) := by
  unfold dropRef
  dsimp only
  split_ifs
  · exact onlyPortsClr_trans s (setCellInfo c (infoReset c) s) _ rfl (onlyPortsClr_fcUpdate _ _)
  · exact (onlyPortsClr_fcUpdate _ _).trans rfl
  · rfl

theorem onlyPortsClr_dropRefs (cs : List Nat) (s : State) : OnlyPortsClr s (dropRefs cs s) :=
  forAll_rel onlyPortsClr_refl onlyPortsClr_trans onlyPortsClr_dropRef cs s

theorem onlyPortsClr_cutReception (k : Nat) (s : State) : OnlyPortsClr s (cutReception k s) := by
  unfold cutReception
  split_ifs
  · rfl
  · refine forAll_rel onlyPortsClr_refl onlyPortsClr_trans (fun pt s => ?_) _ s
    dsimp only
    split
    · split_ifs <;> rfl
    · rfl

/-- Only what the end of a pass touches changed: the ports, the Clearing, the in-flight counts, the timers' heads, the fragments
held and the records of the passes; no register, counter, thread or dispatch queue. -/
def OnlyPasses (s t : State) : Prop :=
  t = { s with ports := t.ports, clr := t.clr, ep := t.ep, svc := t.svc, pgu := t.pgu,
               disp := { t.disp with queue := s.disp.queue, last := s.disp.last } }

theorem onlyPasses_trans (s t u : State) (h1 : OnlyPasses s t) (h2 : OnlyPasses t u) : OnlyPasses s u :=
  h2.trans (by rw [h1])

theorem onlyPasses_of_onlyPortsClr {s t : State} (h : OnlyPortsClr s t) : OnlyPasses s t := by
  rw [h]; rfl

theorem onlyPasses_leaveOrder (k : Nat) (s : State) : OnlyPasses s (leaveOrder k s) := by
  unfold leaveOrder
  split <;> rfl

theorem onlyPasses_leaveFlight (k : Nat) (s : State) : OnlyPasses s (leaveFlight k s) := by
  unfold leaveFlight
  split
  · rfl
  · split_ifs <;> rfl

theorem onlyPasses_endPass (k : Nat) (s : State) : OnlyPasses s (endPass k s) := by
  unfold endPass
  split
  · rfl
  · next p _ =>
    have hgone : OnlyPasses s (dropRefs (passCells p) (leaveFlight k (leaveOrder k (cutReception k s)))) :=
      onlyPasses_trans _ _ _ (onlyPasses_of_onlyPortsClr (onlyPortsClr_cutReception k s))
        (onlyPasses_trans _ _ _ (onlyPasses_leaveOrder k _)
          (onlyPasses_trans _ _ _ (onlyPasses_leaveFlight k _) (onlyPasses_of_onlyPortsClr (onlyPortsClr_dropRefs _ _))))
    refine onlyPasses_trans _ _ _ hgone ?_
    dsimp only
    split_ifs <;> rfl

/-- The record of a pass that ended is gone. -/
@[simp] theorem pass_endPass_same (k : Nat) (s : State) : pass? (endPass k s) k = none := by
  unfold endPass
  split
  · assumption
  · exact mfind_mdel_same _ _

section
variable {s t : State} (h : OnlyPasses s t)
include h

theorem OnlyPasses.pending_eq : t.pending = s.pending := by rw [h]
theorem OnlyPasses.pin_eq : t.pin = s.pin := by rw [h]
theorem OnlyPasses.rw_eq : t.rw = s.rw := by rw [h]
theorem OnlyPasses.bus_eq : t.bus = s.bus := by rw [h]
theorem OnlyPasses.grv_eq : t.grv = s.grv := by rw [h]
theorem OnlyPasses.queue_eq : t.disp.queue = s.disp.queue := by rw [h]
end

@[simp] theorem dispQ_endPass (k q : Nat) (s : State) : dispQ (endPass k s) q = dispQ s q := by
  rw [dispQ, (onlyPasses_endPass k s).queue_eq, dispQ]

/-! ### HEAD_ENQUEUE (R16, R17) -/

theorem exec_headEnqueue (src : Nat) (s : State) :
    exec (.headEnqueue src) s = act (fun s => rwVirtualNext (headEnqueue src s)) s := rfl

section
variable {s : State} {src k : Nat} (hk : firstOf s src .arrived = some k)
include hk

/-- In a queue with room the head goes to its end. -/
theorem headEnqueue_room (hroom : (dispQ s (queueOf src)).length < 256) :
    headEnqueue src s =
      setDispQ (queueOf src) (dispQ s (queueOf src) ++ [k]) (updPass k (fun p => { p with phase := .queued }) s) := by
  simp [headEnqueue, hk, hroom]

/-- It touches its queue and its record alone. -/
theorem headEnqueue_room_frame (hroom : (dispQ s (queueOf src)).length < 256) :
    headEnqueue src s = { s with disp := { s.disp with
      queue := (headEnqueue src s).disp.queue, passes := (headEnqueue src s).disp.passes } } := by
  rw [headEnqueue_room hk hroom, updPass_eq]
  rfl

/-- A head of a port that finds its queue full is dropped and counted. -/
theorem headEnqueue_overrun (hfull : 256 ≤ (dispQ s (queueOf src)).length) (hport : src < 256) :
    headEnqueue src s = count (macPage src) cMac_DISPATCH_OVERRUN (endPass k s) := by
  simp [headEnqueue, hk, Nat.not_lt.mpr hfull, hport]

/-- An internal source that finds its queue full keeps its head. -/
theorem headEnqueue_withheld (hfull : 256 ≤ (dispQ s (queueOf src)).length) (hint : 256 ≤ src) : headEnqueue src s = s := by
  simp [headEnqueue, hk, Nat.not_lt.mpr hfull, Nat.not_lt.mpr hint]
end

/-- After `u`, which leaves the virtual link's waiting frames, the queue and the pins alone, a frame of the virtual link enters
if one waits and has room (R17). -/
theorem virtual_frame_follows {s u : State} (hrw : u.rw = s.rw) (hq : u.pending = s.pending) (hp : u.pin = s.pin) :
    (s.rw.vwait = [] → boardKeeps s (rwVirtualNext u) = u) ∧
    ∀ f fs, s.rw.vwait = f :: fs → boardKeeps s (rwVirtualNext u) =
      if headsWaiting u 259 < 32 then boardKeeps s (rwHead f { u with rw := { u.rw with vwait := fs } }) else u := by
  have hself : boardKeeps s u = u := boardKeeps_eq_self hq hp
  constructor
  · intro hnone
    simp [rwVirtualNext, hrw, hnone, hself]
  · intro f fs hwait
    simp only [rwVirtualNext, hrw, hwait]
    split_ifs
    · rfl
    · exact hself

end Sys2Proof.Machine
end

section
/-!
PROOFS. DISPATCH_GRANT and RESTART (R174, R226): what a grant to the head of one queue does, and that the other queues, being
empty, get none.
-/

namespace Sys2Proof.Machine
open Sys2Proof

/-! ### Reservation -/

@[simp] theorem pass_giveAge (s : State) (k j : Nat) : pass? (giveAge k s) j = pass? s j := by
  unfold giveAge; split_ifs <;> rfl

@[simp] theorem thread_giveAge (s : State) (k t : Nat) : thread (giveAge k s) t = thread s t := by
  unfold giveAge; split_ifs <;> rfl

@[simp] theorem dispQ_giveAge (s : State) (k q : Nat) : dispQ (giveAge k s) q = dispQ s q := by
  unfold giveAge; split_ifs <;> rfl

theorem giveAge_eq (s : State) (k : Nat) : giveAge k s = { s with disp := (giveAge k s).disp } := by
  unfold giveAge; split_ifs <;> rfl

@[simp] theorem giveAge_pending (s : State) (k : Nat) : (giveAge k s).pending = s.pending := by
  rw [giveAge_eq]

@[simp] theorem giveAge_straps (s : State) (k : Nat) : (giveAge k s).straps = s.straps := by
  rw [giveAge_eq]

@[simp] theorem giveAge_bus (s : State) (k : Nat) : (giveAge k s).bus = s.bus := by
  rw [giveAge_eq]

@[simp] theorem giveAge_pin (s : State) (k : Nat) : (giveAge k s).pin = s.pin := by
  rw [giveAge_eq]

@[simp] theorem setPass_restarts (s : State) (k : Nat) (p : Pass) : (setPass k p s).disp.restarts = s.disp.restarts := rfl

/-- Reserving a thread for a pass writes the thread and the pass. -/
theorem reserve_some {s : State} {k : Nat} {p : Pass} (g t : Nat) (h : pass? s k = some p) :
    reserve k g t s = setPass k { p with grove := g, tid := t }
      (setThread t { threadReset t with st := .reserved, pass := k } s) :=
  updPass_some _ h

/-! ### Grants -/

theorem exec_dispatchGrant (s : State) : exec .dispatchGrant s = act dispatchGrant s := rfl

/-- A queue without a head is granted nothing. -/
theorem grantQueue_empty {q : Nat} {g : Grants} (h : dispQ g.s q = []) : grantQueue q g = g := by
  simp [grantQueue, h]

/-- Queues without a head are granted nothing. -/
theorem foldl_grantQueue_empty {l : List Nat} {g : Grants} (h : ∀ q ∈ l, dispQ g.s q = []) :
    l.foldl (fun g q => grantQueue q g) g = g := by
  induction l with
  | nil => rfl
  | cons q l ih =>
    rw [List.foldl_cons, grantQueue_empty (h q List.mem_cons_self)]
    exact ih fun r hr => h r (List.mem_cons_of_mem q hr)

/-- The order of R174 holds each of the 37 queues once. -/
theorem nodup_grantOrder (s : State) : (grantOrder s).Nodup := by
  have hthird : ((List.range 35).map (fun i => (s.disp.last + 1 + i) % 35)).Nodup := by
    refine List.Nodup.map_on (fun i hi j hj hij => ?_) List.nodup_range
    rw [List.mem_range] at hi hj
    omega
  refine List.Nodup.append (by decide) hthird fun q hq hq' => ?_
  simp only [List.mem_map, List.mem_range] at hq'
  obtain ⟨i, -, rfl⟩ := hq'
  simp only [List.mem_cons, List.not_mem_nil, or_false] at hq
  omega

theorem mem_grantOrder (s : State) (q : Nat) : q ∈ grantOrder s ↔ q < 37 := by
  simp only [grantOrder, List.mem_append, List.mem_cons, List.not_mem_nil, or_false, List.mem_map, List.mem_range]
  constructor
  · rintro ((rfl | rfl) | ⟨i, hi, rfl⟩) <;> omega
  · intro hq
    by_cases h : q < 35
    · exact .inr ⟨(q + 35 - (s.disp.last + 1) % 35) % 35, by omega, by omega⟩
    · exact .inl (by omega)

/-- Notes a queue of the third tier as the one granted last. -/
def noteGranted (q : Nat) (s : State) : State := if q < 35 then { s with disp := { s.disp with last := q } } else s

@[simp] theorem pass_noteGranted (q k : Nat) (s : State) : pass? (noteGranted q s) k = pass? s k := by
  unfold noteGranted; split_ifs <;> rfl

@[simp] theorem thread_noteGranted (q t : Nat) (s : State) : thread (noteGranted q s) t = thread s t := by
  unfold noteGranted; split_ifs <;> rfl

@[simp] theorem dispQ_noteGranted (q r : Nat) (s : State) : dispQ (noteGranted q s) r = dispQ s r := by
  unfold noteGranted; split_ifs <;> rfl

theorem noteGranted_eq (q : Nat) (s : State) : noteGranted q s = { s with disp := (noteGranted q s).disp } := by
  unfold noteGranted; split_ifs <;> rfl

@[simp] theorem noteGranted_pending (q : Nat) (s : State) : (noteGranted q s).pending = s.pending := by
  rw [noteGranted_eq]

@[simp] theorem noteGranted_straps (q : Nat) (s : State) : (noteGranted q s).straps = s.straps := by
  rw [noteGranted_eq]

@[simp] theorem noteGranted_bus (q : Nat) (s : State) : (noteGranted q s).bus = s.bus := by
  rw [noteGranted_eq]

@[simp] theorem noteGranted_pin (q : Nat) (s : State) : (noteGranted q s).pin = s.pin := by
  rw [noteGranted_eq]

/-- The state after the head k of queue q, of pass p, is granted thread t of Grove x. -/
def headGranted (s : State) (q k : Nat) (rest : List Nat) (p : Pass) (x t : Nat) : State :=
  noteGranted q
    (setPass k { p with grove := x, tid := t, phase := if q = 36 then .ready else .walking, unit := (freeUnit s x).getD 0 }
      (setPass k { p with grove := x, tid := t }
        (setThread t { threadReset t with st := .reserved, pass := k } (giveAge k (setDispQ q rest s)))))

section
variable {s : State} {q k : Nat} {rest : List Nat} {p : Pass} {x t : Nat}

theorem boardKeeps_headGranted : boardKeeps s (headGranted s q k rest p x t) = headGranted s q k rest p x t :=
  boardKeeps_eq_self (by simp [headGranted]) (by simp [headGranted])

theorem dispQ_headGranted_same : dispQ (headGranted s q k rest p x t) q = rest := by
  simp [headGranted, dispQ_setDispQ_same]

theorem dispQ_headGranted_other {r : Nat} (h : r ≠ q) : dispQ (headGranted s q k rest p x t) r = dispQ s r := by
  simp [headGranted, dispQ_setDispQ_other _ _ _ _ h]

theorem thread_headGranted_same :
    thread (headGranted s q k rest p x t) t = { threadReset t with st := .reserved, pass := k } := by
  simp [headGranted]

theorem thread_headGranted_other {y : Nat} (h : y ≠ t) : thread (headGranted s q k rest p x t) y = thread s y := by
  simp [headGranted, thread_setThread_other _ _ _ _ h]

theorem pass_headGranted_same : pass? (headGranted s q k rest p x t) k =
    some { p with grove := x, tid := t, phase := if q = 36 then .ready else .walking, unit := (freeUnit s x).getD 0 } := by
  simp [headGranted]

theorem pass_headGranted_other {j : Nat} (h : j ≠ k) : pass? (headGranted s q k rest p x t) j = pass? s j := by
  simp [headGranted, pass_setPass_other _ _ _ _ h]

theorem sameRegs_headGranted : SameRegs s (headGranted s q k rest p x t) := by
  intro a
  simp [headGranted, reg]

/-- A grant to a head that a Grove takes (R174): a thread is reserved and the pass gets its phase and parse unit. -/
theorem grantQueue_head (hq : dispQ s q = k :: rest) (hpgu : q ≠ 36 → running s pgPgu = true) (hp : pass? s k = some p)
    (hx : pickGrove s (groveTakes ⟨0, [], s⟩) = some x) (ht : pickThread s x = some t) :
    (grantQueue q ⟨0, [], s⟩).s = headGranted s q k rest p x t := by
  have hp' : pass? (giveAge k (setDispQ q rest s)) k = some p := by simpa using hp
  have hopen : ¬(q ≠ 36 && !running s pgPgu) = true := by
    by_cases h : q = 36 <;> simp [h, hpgu]
  simp only [grantQueue, hq, hopen, hx, ht, reserve_some x t hp', updPass_some _ (pass_setPass_same _ _ _), headGranted,
    noteGranted]
  rfl

/-- Where one queue alone holds heads, DISPATCH_GRANT is the grant to that queue's head. -/
theorem dispatchGrant_single (hopen : dispatchOpen s = true) (hstray : strayRestarts s = []) (hlt : q < 37)
    (hothers : ∀ r, r < 37 → r ≠ q → dispQ s r = [])
    (hgrant : (grantQueue q ⟨0, [], s⟩).s = headGranted s q k rest p x t) :
    dispatchGrant s = headGranted s q k rest p x t := by
  obtain ⟨before, after, horder⟩ := List.append_of_mem ((mem_grantOrder s q).mpr hlt)
  have hnodup := nodup_grantOrder s
  have hrange : ∀ r ∈ before ++ q :: after, r < 37 := fun r hr => (mem_grantOrder s r).mp (horder ▸ hr)
  rw [horder, List.nodup_middle, List.nodup_cons, List.mem_append] at hnodup
  obtain ⟨hnot, -⟩ := hnodup
  have hbefore : before.foldl (fun g q => grantQueue q g) ⟨0, [], s⟩ = ⟨0, [], s⟩ :=
    foldl_grantQueue_empty fun r hr =>
      hothers r (hrange r (List.mem_append_left _ hr)) (fun h => hnot (.inl (h ▸ hr)))
  have hafter : after.foldl (fun g q => grantQueue q g) (grantQueue q ⟨0, [], s⟩) = grantQueue q ⟨0, [], s⟩ :=
    foldl_grantQueue_empty fun r hr => by
      have hne : r ≠ q := fun h => hnot (.inr (h ▸ hr))
      rw [hgrant, dispQ_headGranted_other hne]
      exact hothers r (hrange r (List.mem_append_right _ (List.mem_cons_of_mem q hr))) hne
  simp only [dispatchGrant, hopen, hstray, horder, List.foldl_append, List.foldl_cons, hbefore, hafter, hgrant,
    Bool.not_true, List.isEmpty_nil, Bool.or_self, Bool.false_eq_true, if_false]
end

/-! ### RESTART (R226) -/

theorem exec_restart (s : State) : exec .restart s = act restart s := rfl

/-- Counts a restart owed for an abandoned attempt. -/
def countRestart (p : Pass) (s : State) : State := if p.redo then count dev cAct_RESTARTS s else s

theorem countRestart_eq (p : Pass) (s : State) :
    countRestart p s = { s with bus := { s.bus with ctr := (countRestart p s).bus.ctr } } := by
  unfold countRestart; split_ifs <;> rfl

@[simp] theorem countRestart_pending (p : Pass) (s : State) : (countRestart p s).pending = s.pending := by
  rw [countRestart_eq]

@[simp] theorem countRestart_straps (p : Pass) (s : State) : (countRestart p s).straps = s.straps := by
  rw [countRestart_eq]

@[simp] theorem countRestart_disp (p : Pass) (s : State) : (countRestart p s).disp = s.disp := by
  rw [countRestart_eq]

@[simp] theorem countRestart_pin (p : Pass) (s : State) : (countRestart p s).pin = s.pin := by
  rw [countRestart_eq]

@[simp] theorem countRestart_regs (p : Pass) (s : State) : (countRestart p s).bus.regs = s.bus.regs := by
  rw [countRestart_eq]

@[simp] theorem pass_countRestart (p : Pass) (s : State) (k : Nat) : pass? (countRestart p s) k = pass? s k := by
  rw [countRestart_eq]; rfl

@[simp] theorem thread_countRestart (p : Pass) (s : State) (t : Nat) : thread (countRestart p s) t = thread s t := by
  rw [countRestart_eq]; rfl

theorem counts_countRestart (p : Pass) (s : State) :
    Counts (if p.redo then [(pa dev cAct_RESTARTS, 1)] else []) s (countRestart p s) := by
  intro a
  unfold countRestart
  by_cases h : p.redo = true
  · by_cases ha : a = pa dev cAct_RESTARTS
    · subst ha; simp [h, mfind, ctr_count_same]
    · simp [h, mfind, ha, count, ctrAdd, ctr_setCtr_other]
  · simp [h, mfind]

/-- Empties the restart list. -/
def clearRestarts (s : State) : State := { s with disp := { s.disp with restarts := [] } }

@[simp] theorem pass_clearRestarts (s : State) (k : Nat) : pass? (clearRestarts s) k = pass? s k := rfl
@[simp] theorem thread_clearRestarts (s : State) (t : Nat) : thread (clearRestarts s) t = thread s t := rfl
@[simp] theorem clearRestarts_pending (s : State) : (clearRestarts s).pending = s.pending := rfl
@[simp] theorem clearRestarts_straps (s : State) : (clearRestarts s).straps = s.straps := rfl
@[simp] theorem clearRestarts_bus (s : State) : (clearRestarts s).bus = s.bus := rfl
@[simp] theorem clearRestarts_pin (s : State) : (clearRestarts s).pin = s.pin := rfl
@[simp] theorem clearRestarts_restarts (s : State) : (clearRestarts s).disp.restarts = [] := rfl

/-- The state after the waiting pass p, numbered k and alone in the restart list, is reserved thread t of Grove g. -/
def passRestarted (s : State) (k : Nat) (p : Pass) (g t : Nat) : State :=
  clearRestarts
    (setPass k { p with grove := g, tid := t, phase := .ready, redo := false }
      (setPass k { p with grove := g, tid := t }
        (setThread t { threadReset t with st := .reserved, pass := k } (countRestart p s))))

/-- RESTART of the one pass that waits, where a thread is free for it (R226). -/
theorem restart_single {s : State} {k : Nat} {p : Pass} {g t : Nat} (hopen : dispatchOpen s = true)
    (hk : s.disp.restarts = [k]) (hp : pass? s k = some p) (hg : restartGrove s p = some g) (ht : pickRestart s p g = some t) :
    restart s = passRestarted s k p g t := by
  have hp' : pass? (countRestart p s) k = some p := by simpa using hp
  have hk' : (countRestart p s).disp.restarts = [k] := by simpa using hk
  have hrestart : restart s = (fun u => { u with disp := { u.disp with restarts := u.disp.restarts.filter (fun x => x != k) } })
      (updPass k (fun q => { q with phase := .ready, redo := false }) (reserve k g t (countRestart p s))) := by
    simp only [restart, hopen, hk, hp, hg, ht, countRestart, List.find?_cons, Option.isSome_some, Bool.not_true,
      Bool.false_eq_true, if_false]
  rw [hrestart, reserve_some g t hp', updPass_some _ (pass_setPass_same _ _ _)]
  have hnone : [k].filter (fun x => x != k) = [] := by simp
  simp only [setPass_restarts, setThread_disp, hk', hnone, passRestarted, clearRestarts]

section
variable {s : State} {k : Nat} {p : Pass} {g t : Nat}

theorem boardKeeps_passRestarted : boardKeeps s (passRestarted s k p g t) = passRestarted s k p g t :=
  boardKeeps_eq_self (by simp [passRestarted]) (by simp [passRestarted])

theorem restarts_passRestarted : (passRestarted s k p g t).disp.restarts = [] := by simp [passRestarted]

theorem thread_passRestarted_same :
    thread (passRestarted s k p g t) t = { threadReset t with st := .reserved, pass := k } := by
  simp [passRestarted]

theorem thread_passRestarted_other {y : Nat} (h : y ≠ t) : thread (passRestarted s k p g t) y = thread s y := by
  simp [passRestarted, thread_setThread_other _ _ _ _ h]

theorem pass_passRestarted_same :
    pass? (passRestarted s k p g t) k = some { p with grove := g, tid := t, phase := .ready, redo := false } := by
  simp [passRestarted]

theorem sameRegs_passRestarted : SameRegs s (passRestarted s k p g t) := by
  intro a
  simp [passRestarted, reg]

theorem counts_passRestarted :
    Counts (if p.redo then [(pa dev cAct_RESTARTS, 1)] else []) s (passRestarted s k p g t) := by
  intro a
  have hctr : ctr (passRestarted s k p g t) a = ctr (countRestart p s) a := by simp [passRestarted, ctr]
  rw [hctr]
  exact counts_countRestart p s a

end

end Sys2Proof.Machine
end

section
/-!
PROOFS. DISPATCH_ENTRY (R176) and the routine of the default bridge (R435): what its start writes, what its two lookups see, and
what it stages.
-/

namespace Sys2Proof.Machine
open Sys2Proof

/-! ### The disposition that the bridge stages (R220, R221) -/

theorem bridgeTag_lt {c : Bytes} {x : Nat} (h : bridgeTag c = some x) : x < 65536 := by
  unfold bridgeTag at h
  split_ifs at h
  cases h
  exact beAt_lt c 14 2

theorem bridgeVid_lt (c : Bytes) : bridgeVid c < 4096 := by
  unfold bridgeVid
  split
  · split_ifs <;> omega
  · omega

theorem bridgeClass_lt (c : Bytes) : bridgeClass c < 8 := by
  unfold bridgeClass
  split
  · next x hx => have := bridgeTag_lt hx; omega
  · omega

/-- FWD's class, where it sets one, leaves the other fields. -/
theorem stageFwd_dispo_other (v trail : Nat) (st : Staged) {hi lo : Nat} (h : lo ≤ hi) (hd : hi < 3 ∨ 5 < lo) :
    natField (stageFwd v trail st).dispo hi lo =
      natField (putField (putField (putField st.dispo 2 0 (if fwMc v then 2 else 1)) 21 8 (fwDest v)) 35 24 (fwQueue v)) hi lo := by
  cases hc : fwClsEn v
  · simp only [stageFwd, hc, Bool.false_eq_true, if_false]
  · simp only [stageFwd, hc, if_true]
    exact natField_putField_other _ _ _ _ _ _ (by omega) h hd

/-- The disposition that the bridge stages for a forwarding word: its action and destination, and the frame's class and queue. -/
theorem bridgeFwd_dispo (v trail cls : Nat) (st : Staged) (hcls : cls < 8) :
    let d := (bridgeFwd v trail cls st).dispo
    dAction d = (if fwMc v then 2 else 1) ∧ dDest d = fwDest v ∧ dClass d = cls ∧ natField d 35 24 = cls := by
  refine ⟨?_, ?_, ?_, ?_⟩
  · simp (disch := omega) only [bridgeFwd, dAction, natField_putField_other, stageFwd_dispo_other, natField_putField_same]
    split_ifs <;> rfl
  · simp (disch := omega) only [bridgeFwd, dDest, natField_putField_other, stageFwd_dispo_other, natField_putField_same]
    exact Nat.mod_eq_of_lt (natField_lt v 13 0)
  · simp (disch := omega) only [bridgeFwd, dClass, natField_putField_other, natField_putField_same]
    exact Nat.mod_eq_of_lt hcls
  · simp (disch := omega) only [bridgeFwd, natField_putField_same]
    exact Nat.mod_eq_of_lt (by omega)

/-- The disposition of a frame that the bridge drops. -/
theorem dAction_dropped (d : Nat) : dAction (putField (putField d 2 0 4) 21 8 511) = 4 := by
  simp (disch := omega) [dAction, natField_putField_other, natField_putField_same]

/-- The forwarding word of the group of a VID. -/
theorem groupWord (vid : Nat) (h : vid < 4096) : fwMc (vid + 2 ^ 15) = true ∧ fwDest (vid + 2 ^ 15) = vid := by
  constructor
  · rw [fwMc, Nat.add_comm, Nat.testBit_two_pow_add_eq, Nat.testBit_lt_two_pow (by omega)]; rfl
  · simp only [fwDest, natField, Nat.shiftRight_zero]; omega

/-! ### What the bridge stages (R435) -/

@[simp] theorem bridgeFwd_notices (v trail cls : Nat) (st : Staged) : (bridgeFwd v trail cls st).notices = st.notices := by
  cases st; rfl

@[simp] theorem bridgePop_notices (st : Staged) : (bridgePop st).notices = st.notices := by
  unfold bridgePop
  split
  · split_ifs <;> rfl
  · rfl

/-- The staged state after the source's lookup: the LEARN notice, and a tag of VID 0 taken out. -/
def bridgeLearned (s : State) (p : Pass) (sa : Option Nat) (st : Staged) : Staged :=
  let port := leAt p.prv 4 2 % 512
  let known : Bool := match sa with
    | some x => !fwMc (bridgeWord s x) && fwDest (bridgeWord s x) == port
    | none => false
  bridgePop (if !known && decide (port < 256) && !(byteAt p.head 6).toNat.testBit 0 then
    { st with notices := [bridgeNotice p (bridgeVid p.head) port] } else st)

section
variable (s : State) (p : Pass) (sa da : Option Nat) (st : Staged)

/-- No station is learned on an internal port. -/
theorem bridgeLearned_notices_internal (hport : 256 ≤ leAt p.prv 4 2 % 512) :
    (bridgeLearned s p sa st).notices = st.notices := by
  simp [bridgeLearned, Nat.not_lt.mpr hport]

/-- A station not found is learned on its port. -/
theorem bridgeLearned_notices_unknown (hport : leAt p.prv 4 2 % 512 < 256) (huni : (byteAt p.head 6).toNat.testBit 0 = false) :
    (bridgeLearned s p none st).notices = [bridgeNotice p (bridgeVid p.head) (leAt p.prv 4 2 % 512)] := by
  simp [bridgeLearned, hport, huni]

/-- A frame of no known station, or to a group address, goes to the group of its VID. -/
theorem bridgeStage_group (h : da = none ∨ (byteAt p.head 0).toNat.testBit 0 = true) :
    bridgeStage s p sa da st =
      bridgeFwd (bridgeVid p.head + 2 ^ 15) 0 (bridgeClass p.head) (bridgeLearned s p sa st) := by
  have hnone : (if (byteAt p.head 0).toNat.testBit 0 then none else da) = none := by
    rcases h with h | h <;> simp [h]
  simp only [bridgeStage, hnone]
  rfl

/-- A frame to a station of its own entry port is dropped. -/
theorem bridgeStage_entryPort {x : Nat} (huni : (byteAt p.head 0).toNat.testBit 0 = false) (hmc : fwMc (bridgeWord s x) = false)
    (hport : fwDest (bridgeWord s x) = leAt p.prv 4 2 % 512) :
    bridgeStage s p sa (some x) st =
      { bridgeLearned s p sa st with
        dispo := putField (putField (bridgeLearned s p sa st).dispo 2 0 4) 21 8 511 } := by
  simp only [bridgeStage, huni, hmc, hport, Bool.false_eq_true, if_false, Bool.not_false, Bool.true_and, decide_true, if_true]
  rfl

/-- Any other frame to a known station goes where its forwarding word says. -/
theorem bridgeStage_hit {x : Nat} (huni : (byteAt p.head 0).toNat.testBit 0 = false)
    (hport : ¬(fwMc (bridgeWord s x) = false ∧ fwDest (bridgeWord s x) = leAt p.prv 4 2 % 512)) :
    bridgeStage s p sa (some x) st =
      bridgeFwd (bridgeWord s x) (natField (emtWord s 0 x 0) 95 64) (bridgeClass p.head) (bridgeLearned s p sa st) := by
  have hother : ¬(!fwMc (bridgeWord s x) && decide (fwDest (bridgeWord s x) = leAt p.prv 4 2 % 512)) = true := by
    simpa using hport
  simp only [bridgeStage, huni, hother, Bool.false_eq_true, if_false]
  rfl

/-- The notices staged are those of the source's lookup. -/
theorem bridgeStage_notices : (bridgeStage s p sa da st).notices = (bridgeLearned s p sa st).notices := by
  cases da with
  | none => rw [bridgeStage_group s p sa none st (.inl rfl), bridgeFwd_notices]
  | some x =>
    cases hgroup : (byteAt p.head 0).toNat.testBit 0 with
    | true => rw [bridgeStage_group s p sa _ st (.inr hgroup), bridgeFwd_notices]
    | false =>
      by_cases hport : fwMc (bridgeWord s x) = false ∧ fwDest (bridgeWord s x) = leAt p.prv 4 2 % 512
      · rw [bridgeStage_entryPort s p sa st hgroup hport.1 hport.2]
      · rw [bridgeStage_hit s p sa st hgroup hport, bridgeFwd_notices]

end

/-! ### The start of a routine -/

theorem exec_dispatchEntry (t : Nat) (s : State) : exec (.dispatchEntry t) s = act (dispatchEntry t) s := rfl

/-- The state after the routine of pass p starts on its reserved thread t (R176). -/
def passStarted (s : State) (t : Nat) (p : Pass) : State :=
  setThread t (entryThread s (thread s t).pass p (dispEntry s (dispIndex p) % 4096))
    (setPass (thread s t).pass { p with phase := .running, attempts := p.attempts + 1 } s)

/-- DISPATCH_ENTRY of a reserved thread whose pass is ready (R176, R435). -/
theorem dispatchEntry_ready {s : State} {t : Nat} {p : Pass} (hst : (thread s t).st = .reserved)
    (hp : pass? s (thread s t).pass = some p) (hph : p.phase = .ready) (htid : p.tid = t) :
    dispatchEntry t s =
      if romBridge s t p then bridgeRun t p (passStarted s t p)
      else if !(dispEntry s (dispIndex p)).testBit 12 then
        count (grvPage (thGrove t)) cGrv_NO_ROUTINE (endPass (thread s t).pass (freeThread t s))
      else passStarted s t p := by
  have hready : ((thread s t).st ≠ .reserved || p.phase ≠ .ready || p.tid ≠ t) = false := by simp [hst, hph, htid]
  simp only [dispatchEntry, hp, hready, Bool.false_eq_true, if_false]
  rfl

/-- The parts of the state that a start leaves alone. -/
theorem passStarted_eq (s : State) (t : Nat) (p : Pass) :
    passStarted s t p = { s with
      disp := { s.disp with passes := (passStarted s t p).disp.passes },
      grv := { s.grv with threads := (passStarted s t p).grv.threads } } := rfl

theorem thread_passStarted_same (s : State) (t : Nat) (p : Pass) :
    thread (passStarted s t p) t = entryThread s (thread s t).pass p (dispEntry s (dispIndex p) % 4096) :=
  thread_setThread_same _ _ _

theorem thread_passStarted_other (s : State) (t : Nat) (p : Pass) {y : Nat} (h : y ≠ t) :
    thread (passStarted s t p) y = thread s y := by
  simp [passStarted, thread_setThread_other _ _ _ _ h]

theorem pass_passStarted_same (s : State) (t : Nat) (p : Pass) :
    pass? (passStarted s t p) (thread s t).pass = some { p with phase := .running, attempts := p.attempts + 1 } := by
  simp [passStarted]

/-! ### Lookups do not see passes and threads -/

/-- The state with other passes and threads. -/
def withPasses (d : DispSt) (g : GrvSt) (s : State) : State := { s with disp := d, grv := g }

theorem emtFind_withPasses (d : DispSt) (g : GrvSt) (s : State) (a : Nat) (key : Bytes) (parity : Nat) :
    emtFind (withPasses d g s) a key parity = emtFind s a key parity := rfl

theorem emtTouch_withPasses (d : DispSt) (g : GrvSt) (s : State) (a : Nat) (found : Option Nat) :
    emtTouch a found (withPasses d g s) = withPasses d g (emtTouch a found s) := by
  cases found with
  | none => rfl
  | some x =>
    change freeNext (if emtIsOvf s a x then _ else _) = withPasses d g (freeNext (if emtIsOvf s a x then _ else _))
    split_ifs <;> rfl

/-- A lookup that hits touches the tables and the free value alone (R131). -/
theorem emtTouch_eq (a : Nat) (found : Option Nat) (s : State) :
    emtTouch a found s = { s with emt := (emtTouch a found s).emt, freeCtr := (emtTouch a found s).freeCtr } := by
  cases found with
  | none => rfl
  | some x => simp only [emtTouch, setEmtTag]; split_ifs <;> rfl

/-! ### The run of the bridge -/

/-- The bridge's run to its END: 40 words are counted, and the thread goes to commit what `f` staged. -/
def bridgeDone (t : Nat) (f : Staged → Staged) (s : State) : State :=
  updThread t (fun th => { th with st := .committing, issued := 40, staged := f th.staged })
    (ctrAdd (grvPage (thGrove t)) cGrv_ISSUES 40 s)

theorem thread_bridgeDone_same (t : Nat) (f : Staged → Staged) (s : State) :
    thread (bridgeDone t f s) t =
      { thread s t with st := .committing, issued := 40, staged := f (thread s t).staged } :=
  thread_setThread_same _ _ _

section
variable (t : Nat) (f : Staged → Staged) (d : DispSt) (g : GrvSt) (s : State)

@[simp] theorem bridgeDone_pending : (bridgeDone t f (withPasses d g s)).pending = s.pending := by
  simp [bridgeDone, updThread, ctrAdd, withPasses]
@[simp] theorem bridgeDone_pin : (bridgeDone t f (withPasses d g s)).pin = s.pin := by
  simp [bridgeDone, updThread, ctrAdd, withPasses]
theorem reg_bridgeDone (a : Nat) : reg (bridgeDone t f (withPasses d g s)) a = reg s a := by
  simp [bridgeDone, updThread, ctrAdd, withPasses, reg, setCtr]
theorem pass_bridgeDone (k : Nat) : pass? (bridgeDone t f (withPasses d g s)) k = mfind d.passes k := rfl
end

/-- Key of a lookup of the bridge: the VID and the address at offset i of the head. -/
def bridgeLookupKey (s : State) (p : Pass) (i : Nat) : Bytes :=
  padTo (emtKeyLen s 0) (bridgeKey (bridgeVid p.head) (slice p.head i 6))

/-- What the source's lookup finds, and the state after it. -/
def bridgeSource (s : State) (p : Pass) : Option Nat := emtFind s 0 (bridgeLookupKey s p 6) p.epoch
def afterSource (s : State) (p : Pass) : State := emtTouch 0 (bridgeSource s p) s

/-- What the destination's lookup finds, and the state after it. -/
def bridgeDest (s : State) (p : Pass) : Option Nat := emtFind (afterSource s p) 0 (bridgeLookupKey s p 0) p.epoch
def afterDest (s : State) (p : Pass) : State := emtTouch 0 (bridgeDest s p) (afterSource s p)

theorem afterDest_eq (s : State) (p : Pass) :
    afterDest s p = { s with emt := (afterDest s p).emt, freeCtr := (afterDest s p).freeCtr } := by
  unfold afterDest afterSource
  rw [emtTouch_eq 0 (bridgeDest s p), emtTouch_eq 0 (bridgeSource s p)]

theorem withPasses_passStarted (s : State) (t : Nat) (p : Pass) :
    withPasses (passStarted s t p).disp (passStarted s t p).grv s = passStarted s t p := rfl

section
variable {s : State} {t : Nat} {p : Pass}

/-- A frame that is dropped unseen. -/
theorem bridgeRun_started_drops (h : bridgeDrops p.head = true) :
    bridgeRun t p (passStarted s t p) =
      bridgeDone t (fun st => { st with dispo := putField (putField st.dispo 2 0 4) 21 8 511 })
        (withPasses (passStarted s t p).disp (passStarted s t p).grv s) := by
  rw [withPasses_passStarted]
  simp only [bridgeRun, h, if_true]
  rfl

/-- A frame that is not dropped unseen is staged by its two lookups, which passes and threads do not change. -/
theorem bridgeRun_started_forwards (h : bridgeDrops p.head = false) :
    bridgeRun t p (passStarted s t p) =
      bridgeDone t (bridgeStage (afterDest s p) p (bridgeSource s p) (bridgeDest s p))
        (withPasses (passStarted s t p).disp (passStarted s t p).grv (afterDest s p)) := by
  rw [← withPasses_passStarted]
  generalize (passStarted s t p).disp = d, (passStarted s t p).grv = g
  have hkey : ∀ i, padTo (emtKeyLen (withPasses d g s) 0) (bridgeKey (bridgeVid p.head) (slice p.head i 6)) =
      bridgeLookupKey s p i := fun _ => rfl
  simp only [bridgeRun, h, Bool.false_eq_true, if_false, hkey, emtFind_withPasses, emtTouch_withPasses]
  rfl
end

/-- The bridge's run on a pass just started, `v` being the state after its lookups, with the passes and threads of the start. -/
theorem bridgeDone_started {s u v : State} {t : Nat} {p : Pass} {f : Staged → Staged}
    (hu : u = bridgeDone t f (withPasses (passStarted s t p).disp (passStarted s t p).grv v))
    (hv : v = { s with emt := v.emt, freeCtr := v.freeCtr }) :
    boardKeeps s u = u ∧ (thread u t).st = .committing ∧ (thread u t).issued = 40 ∧ (pass? u (thread s t).pass).isSome = true ∧ SameRegs s u ∧
      ∃ entry : Staged, entry.notices = [] ∧ (thread u t).staged = f entry := by
  subst hu
  have hthread : thread (withPasses (passStarted s t p).disp (passStarted s t p).grv v) t =
      entryThread s (thread s t).pass p (dispEntry s (dispIndex p) % 4096) := thread_passStarted_same s t p
  refine ⟨?_, ?_, ?_, Option.isSome_iff_exists.mpr ⟨_, (pass_bridgeDone ..).trans (pass_passStarted_same s t p)⟩, fun a => ?_, _, ?_,
    congrArg Thread.staged (thread_bridgeDone_same t f _)⟩
  · refine boardKeeps_eq_self ?_ ?_
    · rw [bridgeDone_pending, hv]
    · rw [bridgeDone_pin, hv]
  · rw [thread_bridgeDone_same]
  · rw [thread_bridgeDone_same]
  · rw [reg_bridgeDone, hv]
    rfl
  · rw [hthread, entryThread, stagedReset]

/-- The staged disposition of a frame that is not dropped unseen (R435): the group of its VID where no station is known or the
address is a group's, a drop on the entry port, the station's port otherwise. -/
theorem bridgeStage_disposition (s : State) (p : Pass) (sa da : Option Nat) (st : Staged) :
    let d := (bridgeStage s p sa da st).dispo
    let port := leAt p.prv 4 2 % 512
    let cls := bridgeClass p.head
    (da = none ∨ (byteAt p.head 0).toNat.testBit 0 = true →
      dAction d = 2 ∧ dDest d = bridgeVid p.head ∧ dClass d = cls ∧ natField d 35 24 = cls) ∧
    (∀ x, da = some x → (byteAt p.head 0).toNat.testBit 0 = false → fwMc (bridgeWord s x) = false →
      (fwDest (bridgeWord s x) = port → dAction d = 4) ∧
      (fwDest (bridgeWord s x) ≠ port →
        dAction d = 1 ∧ dDest d = fwDest (bridgeWord s x) ∧ dClass d = cls ∧ natField d 35 24 = cls)) := by
  have hcls := bridgeClass_lt p.head
  refine ⟨fun hgroup => ?_, fun x hx huni hmc => ⟨fun hport => ?_, fun hport => ?_⟩⟩
  · obtain ⟨hmc, hdest⟩ := groupWord _ (bridgeVid_lt p.head)
    have hd := bridgeFwd_dispo (bridgeVid p.head + 2 ^ 15) 0 _ (bridgeLearned s p sa st) hcls
    simp only [hmc, hdest, if_true] at hd
    rwa [bridgeStage_group s p sa da st hgroup]
  · subst hx
    rw [bridgeStage_entryPort s p sa st huni hmc hport]
    exact dAction_dropped _
  · subst hx
    have hd := bridgeFwd_dispo (bridgeWord s x) (natField (emtWord s 0 x 0) 95 64) _ (bridgeLearned s p sa st) hcls
    simp only [hmc, Bool.false_eq_true, if_false] at hd
    rwa [bridgeStage_hit s p sa st huni (fun h => hport h.2)]

/-- The ROM bridge runs for passes of even epochs alone (R436). -/
theorem epoch_even_of_romBridge {s : State} {t : Nat} {p : Pass} (h : romBridge s t p = true) : p.epoch % 2 = 0 := by
  simp only [romBridge, Bool.and_eq_true, beq_iff_eq] at h
  obtain ⟨⟨⟨⟨-, heven⟩, -⟩, -⟩, -⟩ := h
  exact heven

/-- What the bridge's run leaves, on a pass just started (R435): nothing in the registers, the thread ready to commit, and what it
staged. -/
theorem bridgeRun_outcome {s u : State} {t : Nat} {p : Pass} (hrom : romBridge s t p = true)
    (hu : u = bridgeRun t p (passStarted s t p)) :
    let st := (thread u t).staged
    let d := st.dispo
    let port := leAt p.prv 4 2 % 512
    let cls := bridgeClass p.head
    boardKeeps s u = u ∧
    (thread u t).st = .committing ∧ (thread u t).issued = 40 ∧ (pass? u (thread s t).pass).isSome = true ∧ SameRegs s u ∧
    (bridgeDrops p.head = true → dAction d = 4 ∧ st.notices = []) ∧
    (bridgeDrops p.head = false →
      (bridgeDest s p = none ∨ (byteAt p.head 0).toNat.testBit 0 = true →
        dAction d = 2 ∧ dDest d = bridgeVid p.head ∧ dClass d = cls ∧ natField d 35 24 = cls) ∧
      (∀ x, bridgeDest s p = some x → (byteAt p.head 0).toNat.testBit 0 = false →
        fwMc (bridgeWord (afterDest s p) x) = false →
        (fwDest (bridgeWord (afterDest s p) x) = port → dAction d = 4) ∧
        (fwDest (bridgeWord (afterDest s p) x) ≠ port →
          dAction d = 1 ∧ dDest d = fwDest (bridgeWord (afterDest s p) x) ∧ dClass d = cls ∧ natField d 35 24 = cls)) ∧
      (256 ≤ port → st.notices = []) ∧
      (bridgeSource s p = none → port < 256 → (byteAt p.head 6).toNat.testBit 0 = false →
        st.notices = [notice 1 0 1 port (leNat (bridgeKey (bridgeVid p.head) (slice p.head 6 6)) + port * 2 ^ 64)])) := by
  intro st d port cls
  cases hdrops : bridgeDrops p.head with
  | true =>
    obtain ⟨hkeep, hcom, hissued, hpass, hregs, entry, hnone, hstaged⟩ :=
      bridgeDone_started (hu.trans (bridgeRun_started_drops hdrops)) rfl
    refine ⟨hkeep, hcom, hissued, hpass, hregs, fun _ => ?_, fun h => absurd h (by decide)⟩
    simp only [d, st, hstaged]
    exact ⟨dAction_dropped _, hnone⟩
  | false =>
    obtain ⟨hkeep, hcom, hissued, hpass, hregs, entry, hnone, hstaged⟩ :=
      bridgeDone_started (hu.trans (bridgeRun_started_forwards hdrops)) (afterDest_eq s p)
    obtain ⟨hgroup, hstation⟩ := bridgeStage_disposition (afterDest s p) p (bridgeSource s p) (bridgeDest s p) entry
    refine ⟨hkeep, hcom, hissued, hpass, hregs, fun h => absurd h (by decide), fun _ => ?_⟩
    simp only [d, st, hstaged, bridgeStage_notices]
    refine ⟨hgroup, hstation, fun hport => ?_, fun hsa hport huni => ?_⟩
    · rw [bridgeLearned_notices_internal _ _ _ _ hport, hnone]
    · rw [hsa, bridgeLearned_notices_unknown _ _ _ hport huni, bridgeNotice, epoch_even_of_romBridge hrom]
      rfl

/-! ### An invalid dispatch entry -/

/-- A packet whose dispatch entry is invalid is dropped and counted, and its thread is free (R176). -/
theorem noRoutine_drops (s : State) (t k : Nat) (ht : t < 4096) :
    let u := count (grvPage (thGrove t)) cGrv_NO_ROUTINE (endPass k (freeThread t s))
    boardKeeps s u = u ∧ (thread u t).st = .free ∧ pass? u k = none ∧
      ctr u (pa (grvPage (thGrove t)) cGrv_NO_ROUTINE) =
        Nat.min maxCtr (ctr s (pa (grvPage (thGrove t)) cGrv_NO_ROUTINE) + 1) := by
  have hfree : freeThread t s = setThread t (threadReset t) s := if_pos ht
  have hends := onlyPasses_endPass k (freeThread t s)
  refine ⟨boardKeeps_eq_self ?_ ?_, ?_, pass_endPass_same k _, ?_⟩
  · exact hends.pending_eq.trans (by rw [hfree, setThread_pending])
  · exact hends.pin_eq.trans (by rw [hfree, setThread_pin])
  · change (mget threadReset (endPass k (freeThread t s)).grv.threads t).st = .free
    rw [hends.grv_eq, hfree]
    exact congrArg Thread.st (thread_setThread_same s t _)
  · rw [ctr_count_same, ctr, hends.bus_eq, hfree]
    rfl

end Sys2Proof.Machine
end

section
/-!
PROOFS. Heads are queued, granted and started (R16, R93, R174, R176, R226, R435).
-/

namespace Sys2Proof.Machine
open Sys2Proof

/-- Settles O32, clause by clause: the effect of each command is one of the states above, and its rules say what it holds. -/
theorem headsAreQueuedGrantedAndStarted : Obligations.HeadsAreQueuedGrantedAndStarted := by
  intro s hs
  refine ⟨fun src k hsrc hk => ⟨fun hroom => ?_, fun hfull hport => ?_, fun hfull hint => ?_⟩, ?_, ?_, ?_⟩
  · have hq := headEnqueue_room hk hroom
    have hframe := headEnqueue_room_frame hk hroom
    refine gives_act hs (exec_headEnqueue src s) ⟨headEnqueue src s, ?_, ?_, fun r hr => ?_, fun p hp => ?_, hframe⟩
    · exact virtual_frame_follows (by rw [hframe]) (by rw [hframe]) (by rw [hframe])
    · rw [hq, dispQ_setDispQ_same]
    · rw [hq, dispQ_setDispQ_other _ _ _ _ hr, dispQ_updPass]
    · rw [hq, pass_setDispQ, updPass_some _ hp, pass_setPass_same]
  · have hq := headEnqueue_overrun hk hfull hport
    have hends := onlyPasses_endPass k s
    refine gives_act hs (exec_headEnqueue src s) ⟨headEnqueue src s, ?_, ?_, ?_, fun q => ?_⟩
    · rw [hq]
      exact virtual_frame_follows hends.rw_eq hends.pending_eq hends.pin_eq
    · rw [hq]
      exact pass_endPass_same k s
    · rw [hq, ctr_count_same, ctr, hends.bus_eq, ctr]
    · rw [hq]
      exact dispQ_endPass k q s
  · have hq := headEnqueue_withheld hk hfull hint
    refine gives_act hs (exec_headEnqueue src s) ?_
    simp only [hq]
    exact virtual_frame_follows rfl rfl rfl
  · intro q k rest p x t hopen hstray hlt hq hothers hpgu hp hx ht
    have hgrant := dispatchGrant_single hopen hstray hlt hothers (grantQueue_head hq hpgu hp hx ht)
    exact gives_act_eq hs (exec_dispatchGrant s) hgrant boardKeeps_headGranted
      ⟨dispQ_headGranted_same, thread_headGranted_same, fun y hy => thread_headGranted_other hy, pass_headGranted_same,
        fun j hj => pass_headGranted_other hj, sameRegs_headGranted⟩
  · intro k p g t hopen hk hp hg ht
    exact gives_act_eq hs (exec_restart s) (restart_single hopen hk hp hg ht) boardKeeps_passRestarted
      ⟨thread_passRestarted_same, pass_passRestarted_same, restarts_passRestarted, counts_passRestarted,
        sameRegs_passRestarted, fun y hy => thread_passRestarted_other hy⟩
  · intro t p hst hp hph htid ht
    have hentry := dispatchEntry_ready hst hp hph htid
    refine ⟨fun hrom => ?_, fun hrom hvalid => ?_, fun hrom hinvalid => ?_⟩
    · obtain ⟨hkeep, hout⟩ := bridgeRun_outcome hrom rfl
      exact gives_act_eq hs (exec_dispatchEntry t s) (hentry.trans (if_pos hrom)) hkeep hout
    · have hstart : dispatchEntry t s = passStarted s t p := by
        rw [hentry, hrom, dispIndex, hvalid]; rfl
      exact gives_act_eq hs (exec_dispatchEntry t s) hstart rfl
        ⟨thread_passStarted_same s t p, pass_passStarted_same s t p, fun y hy => thread_passStarted_other s t p hy,
          passStarted_eq s t p⟩
    · have hdrop : dispatchEntry t s =
          count (grvPage (thGrove t)) cGrv_NO_ROUTINE (endPass (thread s t).pass (freeThread t s)) := by
        rw [hentry, hrom, dispIndex, hinvalid]; rfl
      obtain ⟨hkeep, hout⟩ := noRoutine_drops s t (thread s t).pass ht
      exact gives_act_eq hs (exec_dispatchEntry t s) hdrop hkeep hout

end Sys2Proof.Machine
end

section
/-!
PROOFS. Register words: what a chain of writes of register words leaves, and the writes of a page's header that clear or inject
(R37 to R39).
-/

namespace Sys2Proof.Machine
open Sys2Proof

/-! ### Writes that touch register words alone -/

section
variable {l : List Nat} {s t : State} {a : Nat}

theorem onlyRegs_refl : OnlyRegs l s s := ⟨rfl, fun _ _ => rfl⟩

/-- One more write of a word of the list. -/
theorem OnlyRegs.setReg (h : OnlyRegs l s t) (ha : a ∈ l) (v : Word) : OnlyRegs l s (setReg a v t) := by
  obtain ⟨heq, hregs⟩ := h
  refine ⟨by rw [heq]; rfl, fun b hb => ?_⟩
  rw [reg_setReg_other _ _ _ _ (ne_of_mem_of_not_mem ha hb).symm, hregs b hb]

theorem OnlyRegs.setRegF (h : OnlyRegs l s t) (ha : a ∈ l) (f : Fld) (v : Nat) : OnlyRegs l s (setRegF a f v t) :=
  h.setReg ha _

theorem OnlyRegs.setRegB (h : OnlyRegs l s t) (ha : a ∈ l) (f : Fld) (b : Bool) : OnlyRegs l s (setRegB a f b t) :=
  h.setRegF ha _ _

/-- A write of register words leaves the queue and the pins. -/
theorem OnlyRegs.boardKeeps (h : OnlyRegs l s t) : boardKeeps s t = t := by
  obtain ⟨heq, -⟩ := h
  exact boardKeeps_eq_self (by rw [heq]) (by rw [heq])

/-- A command whose effect is a write of register words. -/
theorem OnlyRegs.gives {c : Instr} {f : State → State} {P : State → Prop} (h : OnlyRegs l s t) (hs : stopped s = false)
    (hc : exec c s = act f s) (hf : f s = t) (hP : P t) : Gives c s P :=
  gives_act_eq hs hc hf h.boardKeeps hP

end

/-! ### Flags of a register word -/

/-- A flag reads what was written to it, another flag of the word what it read before. -/
theorem regB_setRegB_bit (s : State) (a i j : Nat) (b : Bool) (hi : i < 32) :
    regB (setRegB a ⟨i, i⟩ b s) a ⟨j, j⟩ = if j = i then b else regB s a ⟨j, j⟩ := by
  split_ifs with h
  · subst h; exact regB_setRegB_same s a j b hi
  · simp only [regB, fbit, setRegB, Machine.setRegF, reg_setReg_same]
    rw [fget_fset_other _ ⟨i, i⟩ ⟨j, j⟩ _ le_rfl hi le_rfl (by change j < i ∨ i < j; omega)]

/-! ### PAGE_STS.REFUSED and ERR_STS (R38, R39) -/

theorem onlyRegs_refusedClear (s : State) (page : Nat) :
    OnlyRegs [pa page offSts, pa page offWRITE_REFUSED] s (refusedClear page s) :=
  (onlyRegs_refl.setRegB (by simp) _ _).setReg (by simp) _

theorem onlyRegs_errStsClear (s : State) (page mask : Nat) :
    OnlyRegs [pa page offERR_STS, pa page offERR_CLASS] s (errStsClear page mask s) :=
  (onlyRegs_refl.setReg (by simp) _).setReg (by simp) _

/-- The class fields of the sources of a list are cleared, the others stay. -/
theorem fget_foldl_clearClasses (mask i : Nat) (hi : i < 16) (l : List Nat) (hl : ∀ x ∈ l, x < 16) (w : Word) :
    fget (l.foldl (fun w x => if mask.testBit x then fset w ⟨2 * x + 1, 2 * x⟩ 0 else w) w) ⟨2 * i + 1, 2 * i⟩ =
      if i ∈ l ∧ mask.testBit i = true then 0 else fget w ⟨2 * i + 1, 2 * i⟩ := by
  induction l generalizing w with
  | nil => simp
  | cons x l ih =>
    have hx : x < 16 := hl x (by simp)
    rw [List.foldl_cons, ih (fun y hy => hl y (by simp [hy]))]
    by_cases hxi : x = i
    · subst hxi
      cases hbit : mask.testBit x
      · simp
      · simp [fget_fset_same w ⟨2 * x + 1, 2 * x⟩ 0 (Nat.le_succ _) (by change 2 * x + 1 < 32; omega)]
    · have hother : fget (if mask.testBit x then fset w ⟨2 * x + 1, 2 * x⟩ 0 else w) ⟨2 * i + 1, 2 * i⟩ =
          fget w ⟨2 * i + 1, 2 * i⟩ := by
        split_ifs
        · exact fget_fset_other w ⟨2 * x + 1, 2 * x⟩ ⟨2 * i + 1, 2 * i⟩ 0 (Nat.le_succ _) (by change 2 * x + 1 < 32; omega)
            (Nat.le_succ _) (by change 2 * i + 1 < 2 * x ∨ 2 * x + 1 < 2 * i; omega)
        · rfl
      rw [hother]
      simp [Ne.symm hxi]

theorem fget_clearClasses (mask i : Nat) (w : Word) (hi : i < 16) :
    fget (clearClasses mask w) ⟨2 * i + 1, 2 * i⟩ = if mask.testBit i then 0 else fget w ⟨2 * i + 1, 2 * i⟩ := by
  rw [clearClasses, fget_foldl_clearClasses mask i hi _ (by simp)]
  simp [hi]

/-- A bit of ERR_STS stays unless it was written as 1. -/
theorem testBit_errStsClear (s : State) (page mask i : Nat) (hi : i < 16) (hm : mask < 65536) :
    (reg (errStsClear page mask s) (pa page offERR_STS)).toNat.testBit i =
      ((reg s (pa page offERR_STS)).toNat.testBit i && !mask.testBit i) := by
  have hsub : (0xFFFF - mask % 0x10000).testBit i = !mask.testBit i := by
    have h := Nat.testBit_two_pow_sub_succ (n := 16) (x := mask) hm i
    rw [Nat.mod_eq_of_lt hm, show (0xFFFF : Nat) - mask = 2 ^ 16 - (mask + 1) by omega, h]
    simp [hi]
  have hlt : (reg s (pa page offERR_STS)).toNat &&& (0xFFFF - mask % 0x10000) < 2 ^ 32 :=
    Nat.lt_of_le_of_lt Nat.and_le_left (BitVec.isLt _)
  rw [errStsClear, reg_setReg_other _ _ _ _ (pa_ne page _ _ (by decide)), reg_setReg_same, BitVec.toNat_ofNat,
    Nat.mod_eq_of_lt hlt, Nat.testBit_and, hsub]

theorem reg_errStsClear_class (s : State) (page mask : Nat) :
    reg (errStsClear page mask s) (pa page offERR_CLASS) = clearClasses mask (reg s (pa page offERR_CLASS)) := by
  rw [errStsClear, reg_setReg_same]

/-! ### The writes of the header -/

theorem headerWrite_errSts (s : State) (req page mask : Nat) (hm : mask < 65536) :
    headerWrite req page offERR_STS (BitVec.ofNat 32 mask) s = errStsClear page mask s := by
  have h : headerWrite req page offERR_STS (BitVec.ofNat 32 mask) s =
      errStsClear page ((BitVec.ofNat 32 mask).toNat % 0x10000) s := rfl
  rw [h, BitVec.toNat_ofNat, Nat.mod_eq_of_lt (by omega : mask < 2 ^ 32), Nat.mod_eq_of_lt hm]

/-- A word of ERR_INJECT with GO, a source and a legal class. -/
theorem errInject_word : ∀ src < 16, ∀ cls < 4, 1 ≤ cls →
    let v := mkWord [(fERR_INJECT_SRC, src), (fERR_INJECT_CLASS, cls), (fERR_INJECT_GO, 1)]
    fget v fERR_INJECT_SRC = src ∧ fget v fERR_INJECT_CLASS = cls ∧ fbit v fERR_INJECT_GO = true := by
  decide +kernel

theorem headerWrite_errInject (s : State) (req page src cls : Nat) (hcap : capInject page = true) (hsrc : src < 16)
    (h1 : 1 ≤ cls) (h3 : cls ≤ 3) :
    headerWrite req page offERR_INJECT (mkWord [(fERR_INJECT_SRC, src), (fERR_INJECT_CLASS, cls), (fERR_INJECT_GO, 1)]) s =
      capture page src cls false 0 s := by
  obtain ⟨hs, hc, hg⟩ := errInject_word src hsrc cls (by omega) h1
  generalize mkWord [(fERR_INJECT_SRC, src), (fERR_INJECT_CLASS, cls), (fERR_INJECT_GO, 1)] = v at hs hc hg
  have hrow : ∃ r, rowFind offERR_INJECT rowsHdr = some r ∧
      rowLegal r v = (decide (1 ≤ fget v fERR_INJECT_CLASS) && decide (fget v fERR_INJECT_CLASS ≤ 3)) :=
    ⟨_, rfl, by simp only [rowLegal, legalVal, frFld, List.all_cons, List.all_nil, Bool.true_and, Bool.and_true]; rfl⟩
  obtain ⟨r, hr, hlegal⟩ := hrow
  rw [hc] at hlegal
  simp [headerWrite, hr, hcap, hlegal, h1, h3, hg, hs, hc]

/-- Settles O10: each command is one header write, whose effect is stated above. -/
theorem headerClearsAndInjection : Obligations.HeaderClearsAndInjection := by
  intro s req page hs hreach hpage
  have hwrite := fun off v (ho : off < 64) => reqWrite_header s req page off v hreach hpage ho
  refine ⟨?_, fun mask hm => ?_, fun src cls hsrc h1 h3 hcap => ?_⟩
  · have honly := onlyRegs_refusedClear s page
    refine honly.gives hs rfl (hwrite offSts _ (by decide)) ⟨?_, reg_setReg_same _ _ _, honly⟩
    rw [refusedClear, regB, reg_setReg_other _ _ _ _ (pa_ne page _ _ (by decide))]
    exact regB_setRegB_same s _ 4 false (by decide)
  · have honly := onlyRegs_errStsClear s page mask
    refine honly.gives hs rfl ((hwrite offERR_STS _ (by decide)).trans (headerWrite_errSts s req page mask hm))
      ⟨fun i hi => testBit_errStsClear s page mask i hi hm, fun i hi => ?_, honly⟩
    rw [reg_errStsClear_class, fget_clearClasses mask i _ hi]
  · exact gives_act_eq hs rfl ((hwrite offERR_INJECT _ (by decide)).trans
      (headerWrite_errInject s req page src cls hcap hsrc h1 h3)) rfl ⟨rfl, rfl⟩

end Sys2Proof.Machine
end

section
/-!
PROOFS. The state after reset (R429, R430).
-/

namespace Sys2Proof.Machine
open Sys2Proof

/-- The pages of the 256 ports are MAC pages of lines and of the backplane (R35). -/
theorem kindOf_macPage : ∀ p < 256, kindOf (macPage p) = some .lmac ∨ kindOf (macPage p) = some .bmac := by decide +kernel

theorem hasHeader_macPage (p : Nat) (hp : p < 256) : hasHeader (macPage p) = true := by
  have hlt : macPage p < 0x1000 := by unfold macPage; omega
  rcases kindOf_macPage p hp with h | h <;> simp [hasHeader, hlt, h]

/-- A header word at reset (R37, R464). -/
theorem regReset_header (st : Straps) (page off : Nat) (hp : hasHeader page = true) (ho : off < 0x40) :
    regReset st (pa page off) = BitVec.ofNat 32 (headerReset page off) := by
  rw [regReset, pageOf_pa page off (by omega), offOf_pa page off (by omega), hp]
  simp [ho]

/-- The MAC pages are disabled after reset (R464). -/
theorem enabled_reset_macPage (p : Nat) (hp : p < 256) : enabled State.reset (macPage p) = false := by
  have hne : pa (macPage p) offCtl ≠ 0x4C := by simp only [pa, macPage]; omega
  have hreg : reg State.reset (pa (macPage p) offCtl) = BitVec.ofNat 32 (headerReset (macPage p) offCtl) := by
    rw [← regReset_header strapsOpen (macPage p) offCtl (hasHeader_macPage p hp) (by decide)]
    simp [reg, mget, mfind, State.reset, hne]
  have hoff : headerReset (macPage p) offCtl = 0 := by
    rcases kindOf_macPage p hp with h | h <;> simp [headerReset, enableReset, h]
  rw [enabled, regB, hreg, hoff]
  rfl

/-- Settles O3: but for the MAC pages each value is that of the state written out. -/
theorem resetLeavesTheseValues : Obligations.ResetLeavesTheseValues :=
  ⟨rfl, fun _ => rfl, enabled_reset_macPage, fun _ => ⟨rfl, rfl⟩, rfl, by decide, by decide, rfl, by decide, rfl, rfl, rfl, rfl⟩

end Sys2Proof.Machine
end

section
/-!
PROOFS. The commands of PAGE_CTL (R37, R41, R42, R47): a write of one bit comes to the effect of that bit, and what that is on
shadows, bindings and snapshots.
-/

namespace Sys2Proof.Machine
open Sys2Proof

/-! ### One bit of a number -/

/-- Setting a bit is a write of the one-bit field. -/
theorem natSetBit_eq_putField (n i : Nat) (b : Bool) : natSetBit n i b = putField n i i b.toNat := by
  have hfield : natField n i i = n / 2 ^ i % 2 := by simp [natField, Nat.shiftRight_eq_div_pow]
  have hle : n / 2 ^ i % 2 * 2 ^ i ≤ n :=
    (Nat.mul_le_mul_right _ (Nat.mod_le _ _)).trans (Nat.div_mul_le_self n (2 ^ i))
  have hbit : n.testBit i = decide (n / 2 ^ i % 2 = 1) := by
    rw [Nat.testBit_eq_decide_div_mod_eq]
  simp only [natSetBit, putField, hfield, hbit]
  rcases Nat.mod_two_eq_zero_or_one (n / 2 ^ i) with h | h <;> rw [h] at hle ⊢ <;> cases b
  case inr.true => simp; omega
  all_goals simp

theorem testBit_natSetBit_other (n i j : Nat) (b : Bool) (h : j ≠ i) : (natSetBit n i b).testBit j = n.testBit j := by
  rw [natSetBit_eq_putField, testBit_putField_other n i i _ j le_rfl (by omega)]

theorem testBit_natSetBit_same (n i : Nat) (b : Bool) : (natSetBit n i b).testBit i = b := by
  have h := natField_putField_same n i i b.toNat le_rfl
  rw [← natSetBit_eq_putField] at h
  simp only [natField, Nat.shiftRight_eq_div_pow, Nat.add_sub_cancel_left, pow_one] at h
  rw [Nat.testBit_eq_decide_div_mod_eq, h]
  cases b <;> rfl

theorem testBit_natSetBit (n i j : Nat) (b : Bool) : (natSetBit n i b).testBit j = if j = i then b else n.testBit j := by
  split_ifs with h
  · rw [h, testBit_natSetBit_same]
  · exact testBit_natSetBit_other n i j b h

/-! ### A write of PAGE_CTL that sets one bit -/

/-- PAGE_CTL reads ENABLE, QUIESCE and EPOCH_BIND, and 0 elsewhere (R37). -/
theorem testBit_ctlNow (s : State) (page : Nat) :
    (ctlNow s page).testBit 0 = enabled s page ∧ (ctlNow s page).testBit 1 = quiesceReq s page ∧
      (ctlNow s page).testBit 2 = false ∧ (ctlNow s page).testBit 3 = false ∧
      (ctlNow s page).testBit 4 = bindReq s page ∧ (ctlNow s page).testBit 5 = false ∧
      (ctlNow s page).testBit 6 = false ∧ (ctlNow s page).testBit 7 = false := by
  unfold ctlNow
  cases enabled s page <;> cases quiesceReq s page <;> cases bindReq s page <;> decide

/-- The write of EPOCH_BIND that every accepted write of PAGE_CTL makes on a page that can be bound. -/
def rebind (page : Nat) (b : Bool) (s : State) : State :=
  if capEpoch page then setRegB (pa page offCtl) fPAGE_CTL_EPOCH_BIND b s else s

theorem onlyRegs_rebind (page : Nat) (b : Bool) (s : State) : OnlyRegs [pa page offCtl] s (rebind page b s) := by
  unfold rebind
  split_ifs
  · exact onlyRegs_refl.setRegB (by simp) _ _
  · exact onlyRegs_refl

theorem enabled_rebind (page : Nat) (b : Bool) (s : State) : enabled (rebind page b s) page = enabled s page := by
  unfold rebind
  split_ifs
  · exact regB_setRegB_bit s _ 4 0 b (by decide)
  · rfl

theorem quiesceReq_rebind (page : Nat) (b : Bool) (s : State) : quiesceReq (rebind page b s) page = quiesceReq s page := by
  unfold rebind
  split_ifs
  · exact regB_setRegB_bit s _ 4 1 b (by decide)
  · rfl

theorem bindReq_rebind (page : Nat) (b : Bool) (s : State) (h : capEpoch page = true) : bindReq (rebind page b s) page = b := by
  rw [rebind, if_pos h]
  exact regB_setRegB_bit s _ 4 4 b (by decide)

theorem bindReq_rebind_self (page : Nat) (s : State) : bindReq (rebind page (bindReq s page) s) page = bindReq s page := by
  unfold rebind
  split_ifs
  · exact regB_setRegB_bit s _ 4 4 _ (by decide)
  · rfl

theorem setEnable_self (s : State) (page : Nat) (echo : Bool) : setEnable page (enabled s page) echo s = s := by
  simp [setEnable]

theorem setQuiesce_self (s : State) (page : Nat) : setQuiesce page (quiesceReq s page) s = s := by
  simp [setQuiesce]

/-- What a write that sets a bit of PAGE_CTL does, bit by bit: the fields it leaves have no effect. -/
theorem ctlBits_setBit (s : State) (req page : Nat) :
    (∀ b, ctlBits req page (natSetBit (ctlNow s page) 0 b) s =
      let t := setEnable page b (req == hostReq s) s
      rebind page (bindReq s page) (setQuiesce page (quiesceReq s page) t)) ∧
    (∀ b, ctlBits req page (natSetBit (ctlNow s page) 1 b) s = rebind page (bindReq s page) (setQuiesce page b s)) ∧
    ctlBits req page (natSetBit (ctlNow s page) 2 true) s = rebind page (bindReq s page) (softReset page s) ∧
    ctlBits req page (natSetBit (ctlNow s page) 3 true) s = rebind page (bindReq s page) (commit page s) ∧
    (∀ b, ctlBits req page (natSetBit (ctlNow s page) 4 b) s = rebind page b s) ∧
    ctlBits req page (natSetBit (ctlNow s page) 5 true) s = snapshot page false (rebind page (bindReq s page) s) ∧
    ctlBits req page (natSetBit (ctlNow s page) 6 true) s = discard page (rebind page (bindReq s page) s) ∧
    ctlBits req page (natSetBit (ctlNow s page) 7 true) s = snapshot page true (rebind page (bindReq s page) s) := by
  obtain ⟨h0, h1, h2, h3, h4, h5, h6, h7⟩ := testBit_ctlNow s page
  simp [-Nat.testBit_zero, ctlBits, testBit_natSetBit, h0, h1, h2, h3, h4, h5, h6, h7, setEnable_self, setQuiesce_self, rebind]

/-- A write that sets a bit of PAGE_CTL is applied unless SNAP_BUSY, BOUND or COMMIT_BUSY refuses it (R38, R42). -/
theorem ctlWrite_setBit (s : State) (req page i : Nat) (b : Bool)
    (hsnap : capSnap page = true → (i = 5 ∨ i = 7) → b = true → regB s (pa page offSts) fPAGE_STS_SNAP_BUSY = false)
    (hbound : capStaged page = true → i = 3 → b = true → epochPaced s page = false)
    (hbusy : capEpoch page = true → i = 4 → b = bindReq s page ∨ commitPending s page = false) :
    ctlWrite req page (natSetBit (ctlNow s page) i b) s = ctlBits req page (natSetBit (ctlNow s page) i b) s := by
  obtain ⟨h0, h1, h2, h3, h4, h5, h6, h7⟩ := testBit_ctlNow s page
  simp only [ctlWrite, testBit_natSetBit, h3, h4, h5, h7]
  rw [if_neg ?_, if_neg ?_, if_neg ?_]
  · simp only [Bool.and_eq_true, bne_iff_ne, not_and, Bool.not_eq_true]
    rintro ⟨hcap, hne⟩
    by_cases hi : 4 = i
    · simp only [hi, if_true] at hne
      exact (hbusy hcap hi.symm).resolve_left hne
    · simp [hi] at hne
  · simp only [Bool.and_eq_true, not_and, Bool.not_eq_true]
    rintro ⟨hcap, hb⟩
    split_ifs at hb with hi
    exact hbound hcap hi.symm hb
  · simp only [Bool.and_eq_true, Bool.or_eq_true, not_and, Bool.not_eq_true]
    rintro ⟨hcap, hb⟩
    split_ifs at hb <;> simp_all

/-! ### COMMIT, SHADOW_APPLY and DISCARD (R41, R42) -/

section
variable (s : State) (a b parity : Nat)

/-- One word of SHADOW_APPLY: the shadow becomes both active values. -/
def promote (a : Nat) (s : State) : State := setActive 0 a (shadowS s a) (setActive 1 a (shadowS s a) s)

/-- One word of DISCARD: the shadow takes the active value of the current parity. -/
def demote (a : Nat) (s : State) : State := setShadow a (activeS s (curEpoch s) a) s

theorem shadowS_promote : shadowS (promote a s) b = shadowS s b := rfl

theorem activeS_promote (hp : parity = 0 ∨ parity = 1) :
    activeS (promote a s) parity b = if b = a then shadowS s a else activeS s parity b := by
  rcases hp with rfl | rfl <;> exact mget_mset _ _ _ _ _

theorem activeS_demote : activeS (demote a s) parity b = activeS s parity b := rfl

theorem shadowS_demote : shadowS (demote a s) b = if b = a then activeS s (curEpoch s) a else shadowS s b :=
  mget_mset _ _ _ _ _

/-- The words of a list are promoted, and nothing else changes. -/
theorem forAll_promote (l : List Nat) :
    (∀ x, shadowS (forAll promote l s) x = shadowS s x) ∧
    (∀ x parity, parity = 0 ∨ parity = 1 →
      activeS (forAll promote l s) parity x = if x ∈ l then shadowS s x else activeS s parity x) ∧
    forAll promote l s = { s with bus := { s.bus with even := (forAll promote l s).bus.even,
                                                      odd := (forAll promote l s).bus.odd } } := by
  induction l generalizing s with
  | nil => exact ⟨fun _ => rfl, fun _ _ _ => by simp [forAll], rfl⟩
  | cons a l ih =>
    obtain ⟨hshadow, hactive, heq⟩ := ih (promote a s)
    refine ⟨hshadow, fun x parity hp => ?_, heq⟩
    have hstep := hactive x parity hp
    rw [shadowS_promote, activeS_promote s a x parity hp] at hstep
    rw [forAll, hstep]
    by_cases hx : x = a
    · subst hx; simp
    · simp [hx]

/-- The words of a list are demoted, and nothing else changes. -/
theorem forAll_demote (l : List Nat) :
    (∀ x, shadowS (forAll demote l s) x = if x ∈ l then activeS s (curEpoch s) x else shadowS s x) ∧
    forAll demote l s = { s with bus := { s.bus with shadow := (forAll demote l s).bus.shadow } } := by
  induction l generalizing s with
  | nil => exact ⟨fun _ => by simp [forAll], rfl⟩
  | cons a l ih =>
    obtain ⟨hshadow, heq⟩ := ih (demote a s)
    refine ⟨fun x => ?_, heq⟩
    have hstep := hshadow x
    rw [activeS_demote, shadowS_demote] at hstep
    rw [forAll, hstep]
    by_cases hx : x = a
    · subst hx; simp [curEpoch, demote, setShadow, regF, reg]
    · simp [hx, curEpoch, demote, setShadow, regF, reg]

end

theorem commit_eq (s : State) (page : Nat) (h : capStaged page = true) :
    commit page s = setRegB (pa page offSts) fPAGE_STS_COMMIT_PENDING true s := if_pos h

theorem shadowApply_eq (s : State) (page : Nat) (h : commitPending s page = true) (hp : epochPaced s page = false) :
    shadowApply page s =
      setRegB (pa page offSts) fPAGE_STS_COMMIT_PENDING false (forAll promote (stagedWords page) s) := by
  simp only [shadowApply, h, hp]
  rfl

theorem discard_eq (s : State) (page : Nat) (h : capStaged page = true)
    (hp : commitPending s page = false ∨ epochPaced s page = true) :
    discard page s = setRegB (pa page offSts) fPAGE_STS_COMMIT_PENDING false (forAll demote (stagedWords page) s) := by
  have hif : (!capStaged page || (commitPending s page && !epochPaced s page)) = false := by
    rcases hp with hp | hp <;> simp [h, hp]
  simp only [discard, hif]
  rfl

/-! ### SNAPSHOT (R47) -/

theorem mfind_mfilter {α : Type} (p : Nat → Bool) (m : NMap α) (a : Nat) :
    mfind (mfilter p m) a = if p a then mfind m a else none := by
  induction m with
  | nil => simp [mfilter, mfind]
  | cons e m ih =>
    obtain ⟨k, v⟩ := e
    unfold mfilter at ih ⊢
    rw [List.filter_cons]
    by_cases hk : a = k
    · subst hk
      by_cases hp : p a = true
      · simp [hp, mfind]
      · rw [if_neg hp, ih, if_neg hp, if_neg hp]
    · by_cases hp : p k = true
      · simp only [hp, if_true, mfind, hk, if_false]; exact ih
      · simp only [hp, mfind, hk, if_false]; exact ih

theorem mget_mfilter {α : Type} (d : Nat → α) (p : Nat → Bool) (m : NMap α) (a : Nat) :
    mget d (mfilter p m) a = if p a then mget d m a else d a := by
  rw [mget, mfind_mfilter]
  split_ifs <;> rfl

/-- A change of a port's own record and of counters of its page: what bringing its time counters up to date can be (R75). -/
def OnlyPortTimes (p : Nat) (s t : State) : Prop :=
  t = { s with ports := t.ports, bus := { s.bus with ctr := t.bus.ctr } } ∧
    ∀ a, pageOf a ≠ macPage p → ctr t a = ctr s a

theorem onlyPortTimes_refl (p : Nat) (s : State) : OnlyPortTimes p s s := ⟨rfl, fun _ _ => rfl⟩

theorem OnlyPortTimes.trans {p : Nat} {s t u : State} (h : OnlyPortTimes p s t) (h' : OnlyPortTimes p t u) :
    OnlyPortTimes p s u := by
  obtain ⟨heq, hctr⟩ := h
  obtain ⟨heq', hctr'⟩ := h'
  exact ⟨heq'.trans (by rw [heq]), fun a ha => (hctr' a ha).trans (hctr a ha)⟩

theorem onlyPortTimes_ctrAdd (p off n : Nat) (v : PortSt) (s : State) (ho : off < 4096) :
    OnlyPortTimes p s (ctrAdd (macPage p) off n (setPort p v s)) := by
  refine ⟨rfl, fun a ha => ?_⟩
  rw [ctrAdd, ctr_setCtr_other _ _ _ _ (fun e => ha (by rw [e, pageOf_pa _ _ ho]))]
  rfl

theorem onlyPortTimes_countUs (p : Nat) (s : State) : OnlyPortTimes p s (countUs p s) := by
  have hlpi : OnlyPortTimes p s (countLpi p s) := by
    unfold countLpi
    split_ifs
    · exact onlyPortTimes_refl p s
    · exact onlyPortTimes_ctrAdd _ _ _ _ s (by decide)
  have hshed : OnlyPortTimes p (countLpi p s) (countUs p s) := by
    unfold countUs countShed
    dsimp only
    split_ifs
    · exact onlyPortTimes_refl p _
    · exact onlyPortTimes_ctrAdd _ _ _ _ _ (by decide)
  exact hlpi.trans hshed

/-- The state whose counters a snapshot of a page copies: a MAC page counts its times up to now first (R75). -/
def countedUp (page : Nat) (s : State) : State := match macPort page with | some p => countUs p s | none => s

theorem macPort_some {page p : Nat} (h : macPort page = some p) : page = macPage p ∧ p < 256 := by
  unfold macPort at h
  split_ifs at h with hpage
  simp only [Bool.and_eq_true, decide_eq_true_eq] at hpage
  injection h with h
  unfold macPage
  omega

/-- No MAC page can be bound to epochs (R464). -/
theorem capEpoch_of_macPort {page p : Nat} (h : macPort page = some p) : capEpoch page = false := by
  obtain ⟨rfl, hp⟩ := macPort_some h
  rcases kindOf_macPage p hp with hk | hk <;> simp only [capEpoch, capBits, hk] <;> decide

/-- Counting up changes counters of the page and ports, and the words of registers stay. -/
theorem countedUp_frame (page : Nat) (s : State) :
    countedUp page s = { s with ports := (countedUp page s).ports,
                                bus := { s.bus with ctr := (countedUp page s).bus.ctr } } ∧
    ∀ a, pageOf a ≠ page → ctr (countedUp page s) a = ctr s a := by
  unfold countedUp
  split
  case h_1 p hp =>
    obtain ⟨hpage, -⟩ := macPort_some hp
    obtain ⟨heq, hctr⟩ := onlyPortTimes_countUs p s
    exact ⟨heq, fun a ha => hctr a (hpage ▸ ha)⟩
  case h_2 => exact ⟨rfl, fun _ _ => rfl⟩

/-- A write of EPOCH_BIND and the counting up of a page do not meet on one page. -/
theorem onlyRegs_countedUp_rebind (page : Nat) (b : Bool) (s : State) :
    OnlyRegs [pa page offCtl] (countedUp page s) (countedUp page (rebind page b s)) := by
  unfold countedUp
  split
  case h_1 p hp =>
    have hid : rebind page b s = s := by rw [rebind, capEpoch_of_macPort hp]; rfl
    rw [hid]
    exact onlyRegs_refl
  case h_2 => exact onlyRegs_rebind page b s

/-- What a snapshot of a page that has them leaves. -/
def snapTaken (page : Nat) (clear : Bool) (u : State) : State :=
  setRegB (pa page offSts) fPAGE_STS_SNAP_BUSY true
    { u with bus := { u.bus with ctr := if clear then mfilter (fun a => pageOf a != page) u.bus.ctr else u.bus.ctr,
                                 taking := mput u.bus.taking page (pageCounters u page) } }

theorem snapshot_eq (page : Nat) (clear : Bool) (s : State) (h : capSnap page = true) :
    snapshot page clear s = snapTaken page clear (countedUp page s) := by
  rw [snapshot, h]
  rfl

/-- A snapshot of the counted-up counters `u`, whatever EPOCH_BIND reads: the page is busy with a copy of them, and with
SNAP_CLEAR they start again from 0. -/
theorem snapTaken_spec (page : Nat) (clear : Bool) {u v : State} (h : OnlyRegs [pa page offCtl] u v) :
    let t := snapTaken page clear v
    regB t (pa page offSts) fPAGE_STS_SNAP_BUSY = true ∧
    mfind t.bus.taking page = some (pageCounters u page) ∧
    (∀ a, ctr t a = if clear = true ∧ pageOf a = page then 0 else ctr u a) ∧
    (∀ a, a ≠ pa page offCtl → a ≠ pa page offSts → reg t a = reg u a) ∧
    t = { u with bus := { u.bus with regs := t.bus.regs, taking := t.bus.taking, ctr := t.bus.ctr } } ∧
    (clear = false → t.bus.ctr = u.bus.ctr) := by
  obtain ⟨heq, hregs⟩ := h
  have hctr : v.bus.ctr = u.bus.ctr := by rw [heq]
  refine ⟨regB_setRegB_same _ _ 5 true (by decide), ?_, fun a => ?_, fun a hctl hsts => ?_, ?_, ?_⟩
  · change mfind (mput v.bus.taking page (pageCounters v page)) page = _
    rw [mfind_mput_same, pageCounters, pageCounters, hctr]
  · change mget _ (if clear then _ else v.bus.ctr) a = _
    rw [hctr]
    cases clear
    · simp [ctr]
    · simp only [if_true, true_and, mget_mfilter, bne_iff_ne, ne_eq, ite_not]
      rfl
  · rw [← hregs a (by simp [hctl])]
    exact reg_setReg_other _ _ _ _ hsts
  · rw [heq]
    rfl
  · rintro rfl
    exact hctr

theorem snapshotComplete_eq (page : Nat) (s : State) {m : NMap Nat} (h : mfind s.bus.taking page = some m) :
    snapshotComplete page s =
      setRegB (pa page offSts) fPAGE_STS_SNAP_BUSY false (setRegB (pa page offSts) fPAGE_STS_SNAP_VALID true
        { s with bus := { s.bus with taking := mdel s.bus.taking page, snap := mput s.bus.snap page m } }) := by
  rw [snapshotComplete, h]

end Sys2Proof.Machine
end

section
/-!
PROOFS. Page shadows and snapshots (R37, R41, R42, R47).
-/

namespace Sys2Proof.Machine
open Sys2Proof

theorem OnlyRegs.shadowS_eq {l : List Nat} {s t : State} (h : OnlyRegs l s t) (a : Nat) : shadowS t a = shadowS s a := by
  obtain ⟨heq, -⟩ := h
  rw [heq]; rfl

theorem OnlyRegs.activeS_eq {l : List Nat} {s t : State} (h : OnlyRegs l s t) (parity a : Nat) :
    activeS t parity a = activeS s parity a := by
  obtain ⟨heq, -⟩ := h
  rw [heq]; rfl

/-- The words of a page's header that PAGE_CTL and its events write are no word of the Device page's epoch status. -/
theorem epochSts_ne_header (page off : Nat) (ho : off < 0x40) : pa dev offEPOCH_STS ≠ pa page off := by
  simp only [pa, dev, offEPOCH_STS]; omega

theorem curEpoch_rebind (page : Nat) (b : Bool) (s : State) : curEpoch (rebind page b s) = curEpoch s := by
  obtain ⟨-, hregs⟩ := onlyRegs_rebind page b s
  rw [curEpoch, regF, hregs _ (by simpa using epochSts_ne_header page offCtl (by decide))]
  rfl

theorem commitPending_rebind (page : Nat) (b : Bool) (s : State) :
    commitPending (rebind page b s) page = commitPending s page := by
  obtain ⟨-, hregs⟩ := onlyRegs_rebind page b s
  rw [commitPending, regB, hregs _ (by simpa using pa_ne page _ _ (by decide))]
  rfl

/-- EPOCH_BIND written as it reads leaves the pacing of the page. -/
theorem epochPaced_rebind_self (page : Nat) (s : State) :
    epochPaced (rebind page (bindReq s page) s) page = epochPaced s page := by
  obtain ⟨heq, -⟩ := onlyRegs_rebind page (bindReq s page) s
  rw [epochPaced, bindReq_rebind_self, isBound, heq]
  rfl

/-- A command of PAGE_CTL is a write of one bit, applied bit by bit where nothing refuses it. -/
theorem reqCtl_setBit (s : State) (req page i : Nat) (b : Bool) (hr : reaches s req = true) (hp : hasHeader page = true)
    (hi : i < 8)
    (hsnap : capSnap page = true → (i = 5 ∨ i = 7) → b = true → regB s (pa page offSts) fPAGE_STS_SNAP_BUSY = false)
    (hbound : capStaged page = true → i = 3 → b = true → epochPaced s page = false)
    (hbusy : capEpoch page = true → i = 4 → b = bindReq s page ∨ commitPending s page = false) :
    reqCtl req page i b s = ctlBits req page (natSetBit (ctlNow s page) i b) s := by
  rw [reqCtl_eq s req page i b hr hp hi, ctlWrite_setBit s req page i b hsnap hbound hbusy]

/-- Settles O8: each command is a write of one bit of PAGE_CTL, or the event that ends it, and what the bit does is stated above. -/
theorem pageShadowsAndSnapshots : Obligations.PageShadowsAndSnapshots := by
  intro s req page hs hr hp
  obtain ⟨-, -, -, hcommit, hbind, hsnapBit, hdiscard, hclearBit⟩ := ctlBits_setBit s req page
  have hsts : pa page offCtl ≠ pa page offSts := pa_ne page _ _ (by decide)
  refine ⟨fun hcap hpaced => ?_, fun hpend hpaced => ?_, fun hcap hpaced => ?_, fun b hcap hbusy => ?_,
    fun hcap hfree => ?_, fun m hm => ?_⟩
  · have hf := reqCtl_setBit s req page 3 true hr hp (by decide) (by omega) (fun _ _ _ => hpaced) (by omega)
    have honly : OnlyRegs [pa page offCtl, pa page offSts] s (commit page s) := by
      rw [commit_eq s page hcap]; exact onlyRegs_refl.setRegB (by simp) _ _
    have hall : OnlyRegs [pa page offCtl, pa page offSts] s (rebind page (bindReq s page) (commit page s)) := by
      unfold rebind
      split_ifs
      · exact honly.setRegB (by simp) _ _
      · exact honly
    refine hall.gives hs rfl (hf.trans hcommit) ⟨?_, hall⟩
    rw [commitPending_rebind, commit_eq s page hcap]
    exact regB_setRegB_same s _ 3 true (by decide)
  · obtain ⟨hshadow, hactive, heq⟩ := forAll_promote s (stagedWords page)
    refine gives_act_eq hs rfl (shadowApply_eq s page hpend hpaced) ?_ ⟨?_, fun a ha => ?_, fun a ha => ?_, fun a ha => ?_, ?_⟩
    · rw [heq]; rfl
    · exact regB_setRegB_same _ _ 3 false (by decide)
    · exact ⟨(hactive a 0 (.inl rfl)).trans (if_pos ha), (hactive a 1 (.inr rfl)).trans (if_pos ha)⟩
    · exact ⟨(hactive a 0 (.inl rfl)).trans (if_neg ha), (hactive a 1 (.inr rfl)).trans (if_neg ha)⟩
    · rw [setRegB, Machine.setRegF, reg_setReg_other _ _ _ _ ha, heq]; rfl
    · rw [heq]; rfl
  · have hf := reqCtl_setBit s req page 6 true hr hp (by decide) (by omega) (by omega) (by omega)
    have honly := onlyRegs_rebind page (bindReq s page) s
    have heq' := discard_eq (rebind page (bindReq s page) s) page hcap
      (by rwa [commitPending_rebind, epochPaced_rebind_self])
    obtain ⟨hshadow, heq⟩ := forAll_demote (rebind page (bindReq s page) s) (stagedWords page)
    have ⟨hframe, hregs⟩ := honly
    refine gives_act_eq hs rfl (hf.trans (hdiscard.trans heq')) ?_ ⟨?_, fun a ha => ?_, fun a ha => ?_, fun a hctl ha => ?_, ?_⟩
    · rw [heq, hframe]; rfl
    · exact regB_setRegB_same _ _ 3 false (by decide)
    · refine (hshadow a).trans ((if_pos ha).trans ?_)
      rw [curEpoch_rebind, honly.activeS_eq]
    · exact (hshadow a).trans ((if_neg ha).trans (honly.shadowS_eq a))
    · rw [← hregs a (by simp [hctl]), setRegB, Machine.setRegF, reg_setReg_other _ _ _ _ ha, heq]; rfl
    · rw [heq, hframe]; rfl
  · have hf := reqCtl_setBit s req page 4 b hr hp (by decide) (by omega) (by omega) (fun _ _ => hbusy)
    have honly := onlyRegs_rebind page b s
    exact honly.gives hs rfl (hf.trans (hbind b))
      ⟨bindReq_rebind page b s hcap, enabled_rebind page b s, quiesceReq_rebind page b s, honly⟩
  · obtain ⟨hframe, hother⟩ := countedUp_frame page s
    have honly := onlyRegs_countedUp_rebind page (bindReq s page) s
    have hregs : ∀ a, reg (countedUp page s) a = reg s a := fun a => by rw [hframe]; rfl
    constructor
    · have hf := reqCtl_setBit s req page 5 true hr hp (by decide) (fun _ _ _ => hfree) (by omega) (by omega)
      obtain ⟨hbusy, htaking, hctr, hreg, heq, hsame⟩ := snapTaken_spec page false honly
      refine gives_act_eq hs rfl (hf.trans (hsnapBit.trans (snapshot_eq page false _ hcap))) ?_
        ⟨hbusy, htaking, fun a => ?_, fun a h1 h2 => (hreg a h1 h2).trans (hregs a), ?_⟩
      · rw [heq, hframe]; rfl
      · exact (hctr a).trans (by simp; rfl)
      · rw [hsame rfl] at heq
        exact heq
    · have hf := reqCtl_setBit s req page 7 true hr hp (by decide) (fun _ _ _ => hfree) (by omega) (by omega)
      obtain ⟨hbusy, htaking, hctr, hreg, heq, -⟩ := snapTaken_spec page true honly
      refine gives_act_eq hs rfl (hf.trans (hclearBit.trans (snapshot_eq page true _ hcap))) ?_
        ⟨hbusy, htaking, fun a => ?_, fun a h1 h2 => (hreg a h1 h2).trans (hregs a), heq⟩
      · rw [heq, hframe]; rfl
      · rw [hctr a]
        by_cases ha : pageOf a = page
        · simp [ha]
        · simp [ha, hother a ha]
  · refine gives_act_eq hs rfl (snapshotComplete_eq page s hm) rfl ⟨?_, ?_, mfind_mput_same _ _ _, fun a ha => ?_, rfl⟩
    · exact regB_setRegB_same _ _ 5 false (by decide)
    · exact (regB_setRegB_bit _ _ 5 6 false (by decide)).trans (regB_setRegB_same _ _ 6 true (by decide))
    · rw [setRegB, Machine.setRegF, reg_setReg_other _ _ _ _ ha, setRegB, Machine.setRegF, reg_setReg_other _ _ _ _ ha]; rfl

end Sys2Proof.Machine
end

section
/-!
PROOFS. Accesses to block registers: an accepted write of a word comes to its register's effect (R38), and the halves of 64-bit
registers and counters go through the requester's holding word (R34, R46, R47).
-/

namespace Sys2Proof.Machine
open Sys2Proof

/-! ### Addresses -/

theorem pa_pageOf_offOf (a : Nat) : pa (pageOf a) (offOf a) = a := by
  simp only [pa, pageOf, offOf]; omega

/-- A page with a row has a kind. -/
theorem kindOf_of_rowAt {a : Nat} {r : RegRow} (h : rowAt a = some r) : ∃ k, kindOf (pageOf a) = some k := by
  unfold rowAt at h
  split at h
  · exact absurd h (by simp)
  · exact ⟨_, by assumption⟩

theorem trueOff_of_unstaged {page : Nat} (off : Nat) (h : capStaged page = false) : trueOff page off = off := by
  simp [trueOff, h]

theorem trueOff_of_lt {page off : Nat} (h : off < 0x840) : trueOff page off = off := by
  simp only [trueOff, Bool.and_eq_true, decide_eq_true_eq]
  rw [if_neg (by omega)]

/-! ### An accepted write of one word -/

section
variable {s : State} {req a : Nat} {v : Word} {k : PageKind} {r : RegRow}

/-- A write of a word of a block register goes by its row. -/
theorem pageWrite_row (hk : kindOf (pageOf a) = some k) (hr : rowAt a = some r) (hoff : 0x40 ≤ offOf a)
    (hx : trueOff (pageOf a) (offOf a) = offOf a) :
    pageWrite req (pageOf a) (offOf a) v s =
      match r.half with
      | .single => writeBlock req k (pageOf a) (offOf a) [(a, r, v)] s
      | .low => putHold req a true v s
      | .high => highWrite req k (pageOf a) (offOf a) r v s := by
  have hheader : (hasHeader (pageOf a) && decide (offOf a < 0x40)) = false := by simp [hoff]
  simp only [pageWrite, hk, hheader, hx, pa_pageOf_offOf, hr]
  rfl

theorem reqWrite_page (hreach : reaches s req = true) (ha : isRegAddr a = true) :
    reqWrite req a v s = pageWrite req (pageOf a) (offOf a) v s := by
  simp [reqWrite, hreach, write32, ha]

/-- What the page of an accepted write says of it (R38, R39). -/
theorem accepts_iff (hk : kindOf (pageOf a) = some k) (hr : rowAt a = some r) :
    accepts s req a v = true ↔ reaches s req = true ∧ refusal req k (pageOf a) [(a, r, v)] s = none := by
  simp [accepts, hk, hr]

/-- An accepted write of a one-word register takes the register's effect. -/
theorem reqWrite_accepted (hacc : accepts s req a v = true) (ha : isRegAddr a = true) (hk : kindOf (pageOf a) = some k)
    (hr : rowAt a = some r) (hhalf : r.half = .single) (hoff : 0x40 ≤ offOf a) (hcap : capStaged (pageOf a) = false) :
    reqWrite req a v s =
      if ownJudge k (offOf a) then ownWrite k (offOf a) v s else regEffect req k (pageOf a) r a v s := by
  obtain ⟨hreach, hnone⟩ := (accepts_iff hk hr).mp hacc
  rw [reqWrite_page hreach ha, pageWrite_row hk hr hoff (trueOff_of_unstaged _ hcap), hhalf]
  simp only [writeBlock, hnone, forAll]

end

/-! ### Holding words (R46) -/

section
variable (s : State) (req : Nat) (a : Nat) (b : Bool) (v : Word)

theorem hold_putHold_same : mfind (putHold req a b v s).bus.hold req = some ⟨a, b, v⟩ := mfind_mput_same _ _ _

theorem hold_putHold_other (q : Nat) (h : q ≠ req) : mfind (putHold req a b v s).bus.hold q = mfind s.bus.hold q :=
  mfind_mput_other _ _ _ _ h

theorem hold_dropHold_same : mfind (dropHold req s).bus.hold req = none := mfind_mdel_same _ _

theorem heldWord_putHold_same : heldWord (putHold req a b v s) req a b = some v := by
  simp [heldWord, hold_putHold_same]

theorem heldWord_of_hold {s : State} {req a : Nat} {b : Bool} {w : Word} (h : mfind s.bus.hold req = some ⟨a, b, w⟩) :
    heldWord s req a b = some w := by
  simp [heldWord, h]

end

/-! ### Words stored (R40) -/

section
variable (r : RegRow) (a b : Nat) (v : Word) (s : State)

theorem reg_storeWord : reg (storeWord r a v s) b = if b = a then v else reg s b := reg_setReg s a b v

end

/-! ### Counters as read (R47) -/

/-- Counters lie 8 bytes apart. -/
theorem ctrFind_aligned {l : List (Nat × Nat × Nat)} (hl : l.all (fun e => e.1 % 8 == 0 && e.2.1 % 8 == 0) = true) {off : Nat}
    (h : ctrFind off l = true) : off % 8 = 0 := by
  induction l with
  | nil => exact absurd h (by simp [ctrFind])
  | cons e l ih =>
    obtain ⟨b, st, n⟩ := e
    simp only [List.all_cons, Bool.and_eq_true, beq_iff_eq] at hl
    obtain ⟨⟨hb, hst⟩, hl⟩ := hl
    simp only [ctrFind, Bool.or_eq_true] at h
    rcases h with h | h
    · split_ifs at h
      · rw [beq_iff_eq.mp h]; exact hb
      · simp only [Bool.and_eq_true, decide_eq_true_eq, beq_iff_eq] at h
        obtain ⟨⟨hle, -⟩, hmod⟩ := h
        obtain ⟨d, hd⟩ := Nat.dvd_of_mod_eq_zero hst
        obtain ⟨m, hm⟩ := Nat.dvd_of_mod_eq_zero hmod
        have hoff : off = b + 8 * (d * m) := by rw [← Nat.mul_assoc, ← hd, ← hm]; omega
        omega
    · exact ih hl h

theorem countersOf_aligned (k : PageKind) : (countersOf k).all (fun e => e.1 % 8 == 0 && e.2.1 % 8 == 0) = true := by
  cases k <;> decide

theorem isCounter_aligned {a : Nat} (h : isCounter a = true) : a % 8 = 0 := by
  unfold isCounter at h
  split at h
  · exact absurd h (by simp)
  · have hmod := ctrFind_aligned (countersOf_aligned _) h
    simp only [offOf] at hmod
    omega

theorem kindOf_of_isCounter {a : Nat} (h : isCounter a = true) : ∃ k, kindOf (pageOf a) = some k := by
  unfold isCounter at h
  split at h
  · exact absurd h (by simp)
  · exact ⟨_, by assumption⟩

section
variable {a : Nat} (haddr : a < aSub) (hlow : 0x40 ≤ offOf a) (hhigh : offOf a < 0x840) (hpage : pageOf a ≠ pgHmb)
  (hctr : isCounter a = true)
include haddr hlow hhigh hpage hctr

/-- A read of a counter's low word (R46, R47). -/
theorem read32_counter_low (s : State) (req : Nat) :
    read32 req a s = (BitVec.ofNat 32 (ctrRead s a), putHold req a false (BitVec.ofNat 32 (ctrRead s a / 2 ^ 32)) s) := by
  obtain ⟨k, hk⟩ := kindOf_of_isCounter hctr
  have hreg : isRegAddr a = true := by simp [isRegAddr, haddr]
  have hheader : (hasHeader (pageOf a) && decide (offOf a < 0x40)) = false := by simp [hlow]
  have hslot : (pageOf a = pgHmb) = False := eq_false hpage
  simp only [read32, hreg, if_true, pageRead, hk, hheader, hslot, trueOff_of_lt hhigh, pa_pageOf_offOf, hctr]
  simp [read64]

/-- A read of a counter's high word (R46, R47). -/
theorem read32_counter_high (s : State) (req : Nat) :
    read32 req (a + 4) s =
      ((heldWord s req a false).getD (BitVec.ofNat 32 (ctrRead s a / 2 ^ 32)), dropHold req s) := by
  obtain ⟨k, hk⟩ := kindOf_of_isCounter hctr
  have halign := isCounter_aligned hctr
  have hoff : offOf (a + 4) = offOf a + 4 := by simp only [offOf] at hhigh ⊢; omega
  have hpg : pageOf (a + 4) = pageOf a := by simp only [offOf] at hhigh; simp only [pageOf]; omega
  have hx : trueOff (pageOf a) (offOf a + 4) = offOf a + 4 := trueOff_of_lt (by simp only [offOf] at hhigh ⊢; omega)
  have hreg : isRegAddr (a + 4) = true := by
    have : a + 4 < aSub := by simp only [aSub] at haddr ⊢; omega
    simp [isRegAddr, this]
  have hheader : (hasHeader (pageOf a) && decide (offOf a + 4 < 0x40)) = false := by simp; omega
  have hslot : (pageOf a = pgHmb) = False := eq_false hpage
  have hpa : pa (pageOf a) (offOf a + 4) = a + 4 := by rw [← hoff, ← hpg, pa_pageOf_offOf]
  have hnot : isCounter (a + 4) = false := by
    rw [Bool.eq_false_iff]
    intro h
    have := isCounter_aligned h
    omega
  simp only [read32, hreg, if_true, pageRead, hpg, hoff, hk, hheader, hslot, hx, hpa, hnot, Nat.add_sub_cancel, hctr]
  simp [read64]

end

/-- The bytes of a word that a read of 8 or 16 bits addresses (R34). -/
theorem toNat_readBytes (a k n x : Nat) (ha : a % 8 = 0) (hk : k < 4) (hn : n = 1 ∨ n = 2) :
    (readBytes (a + k) n (BitVec.ofNat 32 x)).toNat = x % 2 ^ 32 / 2 ^ (8 * k) % 2 ^ (8 * n) := by
  have hmod : (a + k) % 4 = k := by omega
  have hle : 2 ^ (8 * n) ≤ 2 ^ 32 := Nat.pow_le_pow_right (by decide) (by omega)
  rw [readBytes, hmod, BitVec.toNat_ofNat, BitVec.toNat_ofNat]
  exact Nat.mod_eq_of_lt ((Nat.mod_lt _ (by positivity)).trans_le hle)

end Sys2Proof.Machine
end

section
/-!
PROOFS. 64-bit access and the reads that have an effect (R34, R46, R47, R290, R312).
-/

namespace Sys2Proof.Machine
open Sys2Proof

/-- A field of all 32 bits holds the word. -/
theorem fset_word (x v : Word) : fset x ⟨31, 0⟩ (fget v ⟨31, 0⟩) = v := by
  apply BitVec.eq_of_toNat_eq
  have hx := x.isLt
  have hv := v.isLt
  rw [fset_toNat x ⟨31, 0⟩ _ (by decide) (by decide)]
  simp only [fget, natField, fldWidth, Nat.shiftRight_zero]
  omega

/-- The rows of the two words of EPOCH_TIME (R231). -/
def rowEpochLow : RegRow := ⟨0x308, 0, 1, .low, [⟨31, 0, .rw, .live, 0, .range 0 999999999⟩]⟩
def rowEpochHigh : RegRow := ⟨0x30C, 0, 1, .high, [⟨31, 0, .rw, .live, 0, .any⟩]⟩

theorem rowAt_epochHigh : rowAt (pa dev offEPOCH_TIME + 4) = some rowEpochHigh := rfl

section
variable (s : State) (req : Nat) (v w : Word)

/-- A write of a word of EPOCH_TIME, beyond the checks, stores it. -/
theorem regEffect_epochLow : regEffect req .dev dev rowEpochLow (pa dev offEPOCH_TIME) v s =
    storeWord rowEpochLow (pa dev offEPOCH_TIME) v s := by
  change storeWord _ _ (fset _ ⟨31, 0⟩ (fget v ⟨31, 0⟩)) s = _
  rw [fset_word]

theorem regEffect_epochHigh : regEffect req .dev dev rowEpochHigh (pa dev offEPOCH_TIME + 4) v s =
    storeWord rowEpochHigh (pa dev offEPOCH_TIME + 4) v s := by
  change storeWord _ _ (fset _ ⟨31, 0⟩ (fget v ⟨31, 0⟩)) s = _
  rw [fset_word]

/-- Nothing refuses the seconds of EPOCH_TIME on a page that is not in reset. -/
theorem refusal_epochHigh (h : inReset s dev = false) :
    refusal req .dev dev [(pa dev offEPOCH_TIME + 4, rowEpochHigh, v)] s = none := by
  simp only [refusal, h, Bool.and_false]
  rfl

/-- Nothing refuses both words of EPOCH_TIME where the nanoseconds are below 10^9. -/
theorem refusal_epochBoth (h : inReset s dev = false) (hw : w.toNat ≤ 999999999) :
    refusal req .dev dev [(pa dev offEPOCH_TIME, rowEpochLow, w), (pa dev offEPOCH_TIME + 4, rowEpochHigh, v)] s = none := by
  have hlegal : rowLegal rowEpochLow w = true := by
    have hfield : fget w ⟨31, 0⟩ = w.toNat := by
      have := w.isLt
      simp only [fget, natField, Nat.shiftRight_zero]
      omega
    simp [rowLegal, rowEpochLow, legalVal, frFld, hfield, hw]
  simp only [refusal, h, Bool.and_false, List.all_cons, hlegal]
  rfl

/-- The high word of EPOCH_TIME with the low word held: both are stored as one write (R46). -/
theorem highWrite_epochTime_held {w : Word} (h : inReset s dev = false)
    (hheld : heldWord s req (pa dev offEPOCH_TIME) true = some w) (hw : w.toNat ≤ 999999999) :
    highWrite req .dev dev (offEPOCH_TIME + 4) rowEpochHigh v s =
      storeWord rowEpochHigh (pa dev offEPOCH_TIME + 4) v
        (storeWord rowEpochLow (pa dev offEPOCH_TIME) w (dropHold req s)) := by
  have hheld' : heldWord s req (pa dev (offEPOCH_TIME + 4) - 4) true = some w := hheld
  have hrow : rowAt (pa dev (offEPOCH_TIME + 4) - 4) = some rowEpochLow := rfl
  have hnone := refusal_epochBoth (dropHold req s) req v w h hw
  simp only [highWrite, hheld', hrow, writeBlock]
  erw [hnone]
  rw [← regEffect_epochLow (dropHold req s) req w, ← regEffect_epochHigh _ req v]
  rfl

/-- The high word of EPOCH_TIME alone (R46). -/
theorem highWrite_epochTime_alone (h : inReset s dev = false) (hheld : heldWord s req (pa dev offEPOCH_TIME) true = none) :
    highWrite req .dev dev (offEPOCH_TIME + 4) rowEpochHigh v s =
      storeWord rowEpochHigh (pa dev offEPOCH_TIME + 4) v (dropHold req s) := by
  have hheld' : heldWord s req (pa dev (offEPOCH_TIME + 4) - 4) true = none := hheld
  have hnone := refusal_epochHigh (dropHold req s) req v h
  simp only [highWrite, hheld', writeBlock]
  erw [hnone]
  rw [← regEffect_epochHigh (dropHold req s) req v]
  rfl

theorem reqWrite_epochHigh (hreach : reaches s req = true) :
    reqWrite req (pa dev offEPOCH_TIME + 4) v s = highWrite req .dev dev (offEPOCH_TIME + 4) rowEpochHigh v s := by
  rw [reqWrite_page hreach rfl, pageWrite_row rfl rowAt_epochHigh (by decide) rfl]
  rfl

/-- A read of RC_LAG shows the greatest lag and clears it (R290). -/
theorem busRead_rcLag : busRead req (pa pgRc offRC_LAG) 4 s =
    showRead (reg s (pa pgRc offRC_LAG), rcLagRead s) := rfl

/-- A read of TXTS_3 shows the seconds of the head entry and removes it (R312). -/
theorem busRead_txts3 : busRead req (pa pgPtp (offTXTS 3)) 4 s = showRead (txtsWord s 3, txts3 s) := rfl

end

/-- A read that reaches the device. -/
theorem reqRead_eq {s : State} {req : Nat} (a : Nat) (h : reaches s req = true) : reqRead req a s = busRead req a 4 s :=
  if_pos h

/-- Settles O12. -/
theorem sixtyFourBitAccessAndReadEffects : Obligations.SixtyFourBitAccessAndReadEffects := by
  intro s req v hs hreach
  refine ⟨fun a r haddr _ hoff hcap hr hhalf => ?_, ?_, fun a haddr hlow hhigh hpage hctr => ?_, ?_, fun e rest hfifo => ?_⟩
  · obtain ⟨k, hk⟩ := kindOf_of_rowAt hr
    have hf : reqWrite req a v s = putHold req a true v s := by
      rw [reqWrite_page hreach haddr, pageWrite_row hk hr hoff (trueOff_of_unstaged _ hcap), hhalf]
    exact gives_act_eq hs rfl hf rfl ⟨hold_putHold_same s req a true v, fun q hq => hold_putHold_other s req a true v q hq, rfl⟩
  · intro a hreset
    have hne : a ≠ a + 4 := by omega
    refine ⟨fun w hhold hw => ?_, fun hheld => ?_⟩
    · have hf := (reqWrite_epochHigh s req v hreach).trans
        (highWrite_epochTime_held s req v hreset (heldWord_of_hold hhold) hw)
      refine gives_act_eq hs rfl hf rfl ⟨?_, ?_, hold_dropHold_same s req, fun b hb hb' => ?_⟩
      · rw [reg_storeWord, if_neg hne, reg_storeWord, if_pos rfl]
      · rw [reg_storeWord, if_pos rfl]
      · rw [reg_storeWord, if_neg hb', reg_storeWord, if_neg hb]; rfl
    · have hf := (reqWrite_epochHigh s req v hreach).trans (highWrite_epochTime_alone s req v hreset hheld)
      refine gives_act_eq hs rfl hf rfl ⟨?_, hold_dropHold_same s req, fun b hb' => ?_⟩
      · rw [reg_storeWord, if_pos rfl]
      · rw [reg_storeWord, if_neg hb']; rfl
  · have halign := isCounter_aligned hctr
    have hlo := read32_counter_low haddr hlow hhigh hpage hctr
    have hhi := read32_counter_high haddr hlow hhigh hpage hctr
    have h4 : a / 4 * 4 = a := by omega
    have h8 : a / 8 * 8 = a := by omega
    refine ⟨?_, fun k n hk hn _ => ?_, ?_, ?_⟩
    · have hf : (if reaches s req then busRead req a 4 s else s) =
          showRead (BitVec.ofNat 32 (ctrRead s a), putHold req a false (BitVec.ofNat 32 (ctrRead s a / 2 ^ 32)) s) := by
        simp [hreach, busRead, h4, hlo]
      exact gives_act_eq hs rfl hf rfl ⟨rfl, hold_putHold_same s req a false _, rfl⟩
    · have h4k : (a + k) / 4 * 4 = a := by omega
      have hf : (if reaches s req then busRead req (a + k) n s else s) =
          showRead (readBytes (a + k) n (BitVec.ofNat 32 (ctrRead s a)),
            putHold req a false (BitVec.ofNat 32 (ctrRead s a / 2 ^ 32)) s) := by
        rcases hn with rfl | rfl <;> simp [hreach, busRead, h4k, hlo]
      exact gives_act_eq hs rfl hf rfl (toNat_readBytes a k n _ halign hk hn)
    · have hf : (if reaches s req then busRead req a 8 s else s) =
          showRead64 (BitVec.ofNat 32 (ctrRead s a)) (BitVec.ofNat 32 (ctrRead s a / 2 ^ 32))
            (dropHold req (putHold req a false (BitVec.ofNat 32 (ctrRead s a / 2 ^ 32)) s)) := by
        simp [hreach, busRead, h8, hlo, hhi, heldWord_putHold_same]
      exact gives_act_eq hs rfl hf rfl ⟨rfl, rfl, hold_dropHold_same _ req⟩
    · have h4' : (a + 4) / 4 * 4 = a + 4 := by omega
      have hf : reqRead req (a + 4) s =
          showRead ((heldWord s req a false).getD (BitVec.ofNat 32 (ctrRead s a / 2 ^ 32)), dropHold req s) := by
        rw [reqRead_eq (a + 4) hreach, busRead, h4', hhi]
        rfl
      exact gives_act_eq hs rfl hf rfl ⟨rfl, hold_dropHold_same s req, rfl⟩
  · refine gives_act_eq hs rfl ((reqRead_eq _ hreach).trans (busRead_rcLag s req)) rfl ⟨rfl, ?_, fun a ha => ?_, rfl⟩
    · change reg (rcLagRead s) _ = 0
      exact reg_setReg_same _ _ _
    · change reg (rcLagRead s) a = _
      exact reg_setReg_other _ _ _ _ ha
  · have hsec : txtsWord s 3 = BitVec.ofNat 32 e.ts.sec := by simp [txtsWord, hfifo]
    refine gives_act_eq hs rfl ((reqRead_eq _ hreach).trans (busRead_txts3 s req)) rfl ⟨hsec, ?_, rfl⟩
    change s.time.fifo.drop 1 = rest
    rw [hfifo]; rfl

end Sys2Proof.Machine
end

section
/-!
PROOFS. Two statements about the Table Access Engine that fail, each with the state that shows it: a completion that the store's
error changes (R51, R52, R131), and an answer to a TABLE_OP that finds no cell (R275, R349).
-/

namespace Sys2Proof.Machine
open Sys2Proof

/-- A device after its boot, PCIe trained. -/
def booted : State :=
  let s := setReg (pa pgHmb offHW_BOOT_STS) (mkWord [(fHW_BOOT_STS_BOOT_DONE, 1), (fHW_BOOT_STS_STEP, 6)]) State.reset
  { s with pin := { s.pin with pcieUp := true, verdict := true } }

/-- What a command's answer shows of a state. -/
def shown {α : Type} (f : State → α) : Host.Outcome State Fault Refusal → Option α
  | .next t => some (f t)
  | _ => none

/-- Two answers of one command agree in what they show. -/
theorem shown_of_exec {α : Type} {c : Instr} {s t : State} (f : State → α) (h : exec c s = .next t) :
    shown f (exec c s) = some (f t) := by rw [h]; rfl

/-! ### SET_MEMB with an uncorrectable error -/

/-- SET_MEMB with MEMB 0b00 of the all-zero key in exact-match table 0. -/
def zeroMembCmd : TaeCmd := ⟨mkTaeCmd opSetMemb 1 0 0 0 65 [], 0⟩

/-- Table 0 is enabled, with keys of 8 bytes and no entry, and the command waits in the Sapwood queue. -/
def zeroMembAsked : State :=
  setReg (pa pgEmt (offEMT_TBL_GEO 0)) (mkWord [(fEMT_TBL_GEO_ENABLE, 1), (fEMT_TBL_GEO_KEY_BYTES, 8)])
    { booted with tae := { booted.tae with sapQ := [zeroMembCmd] } }

theorem zeroMembAsked_meets :
    stopped zeroMembAsked = false ∧ taeNext zeroMembAsked 1 = some zeroMembCmd ∧ taeFormatOk zeroMembCmd.bytes = true ∧
    tcMemb zeroMembCmd.bytes = 0 ∧ tcSpace zeroMembCmd.bytes = 1 ∧ tcOp zeroMembCmd.bytes = opSetMemb ∧
    emtOn zeroMembAsked (tcTable zeroMembCmd.bytes) = true ∧ emtClearing zeroMembAsked (tcTable zeroMembCmd.bytes) = false ∧
    tcLen zeroMembCmd.bytes = 65 ∧
    emtPadOk zeroMembAsked (tcTable zeroMembCmd.bytes) (tcData zeroMembCmd.bytes) = true := by
  decide +kernel

/-- The row of the key's bucket holds an uncorrectable error: the completion is UNCORRECTABLE, that of a DELETE NOT_FOUND. -/
theorem zeroMembAsked_completion :
    shown (fun t => t.tae.sapC) (exec (.setMemb 1 true) zeroMembAsked) =
      some [completion zeroMembCmd.bytes (resPlain tsUncorrectable 0) 0] ∧
    (emtDelete (tcTable zeroMembCmd.bytes) 0 (tcData zeroMembCmd.bytes) zeroMembAsked).2 = resPlain tsNotFound 0 ∧
    completion zeroMembCmd.bytes (resPlain tsUncorrectable 0) 0 ≠ completion zeroMembCmd.bytes (resPlain tsNotFound 0) 0 := by
  decide +kernel

/-- Refutes O58: a SET_MEMB with MEMB 0b00 whose key's row holds an uncorrectable error (`ecc` is 1) completes with UNCORRECTABLE, not with the
completion of a DELETE (R51). -/
theorem not_membZeroInsertAndSetMemb : ¬ Obligations.MembZeroInsertAndSetMemb := by
  intro h
  obtain ⟨hrun, hnext, hformat, hmemb, hspace, hop, hon, hclear, hlen, hpad⟩ := zeroMembAsked_meets
  obtain ⟨hemt, -⟩ := h zeroMembAsked 1 zeroMembCmd true hrun (by decide) hnext hformat hmemb
  obtain ⟨-, hset⟩ := hemt hspace hon hclear hlen hpad
  obtain ⟨t, hexec, ⟨-, hdone⟩, -⟩ := hset hop
  obtain ⟨-, -, hsapC⟩ := hdone rfl
  obtain ⟨hshown, hdelete, hne⟩ := zeroMembAsked_completion
  rw [shown_of_exec _ hexec, hsapC, hdelete] at hshown
  exact hne (List.head_eq_of_cons_eq (Option.some.inj hshown)).symm

/-! ### A TABLE_OP whose answer finds no cell -/

/-- READ of counter pair 0. -/
def readPairCmd : TaeCmd := ⟨mkTaeCmdAt opRead 3 0 0 0 0 0 [], 0⟩

/-- A Canopy device with an empty Woodpile: READ of counter pair 0 waits in the host queue for the TABLE_OP of device 7, which is
reached over B-port 128, and drops are counted. -/
def relayedRead : State :=
  let regs : List (Nat × Word) :=
    [(pa pgRw offRW_ID, mkWord [(fRW_ID_MODE, 1), (fRW_ID_ID, 1)]), (pa pgRw (offRW_LINK_EN 0), 1),
     (pa (macPage 128) offMAC_STS, mkWord [(fMAC_STS_LINK, 1), (fMAC_STS_LSTATE, lsUp)]),
     (pa pgClr offCLR_CFG, mkWord [(fCLR_CFG_CNT_EN, 1)]), (pa pgTae offTAE_HSQ_TAIL, 1)]
  let s := regs.foldl (fun s e => setReg e.1 e.2 s) booted
  { s with tae := { s.tae with sub := [(0, 6), (1, 3)] },
           rw := { s.rw with tables := [⟨0, 7, 0⟩], route := [(7, 128)], link := [(128, { rwLinkReset 128 with up := true })] } }

theorem relayedRead_meets :
    stopped relayedRead = false ∧ taeNext relayedRead 0 = some readPairCmd ∧ taeFormatOk readPairCmd.bytes = true ∧
    tcSpace readPairCmd.bytes = 3 ∧ tcIndex readPairCmd.bytes = 0 ∧ tcOp readPairCmd.bytes = opRead ∧
    tcLen readPairCmd.bytes = 0 := by
  decide +kernel

/-- The answer is dropped for want of a cell, and its drop counted in a pair (R275). -/
theorem relayedRead_store :
    shown (fun t => t.store.pairs) (exec (.read 0 false) relayedRead) ≠ some relayedRead.store.pairs := by
  decide +kernel

/-- Refutes O45: a READ of a counter pair leaves the pairs as they are, but its completion answers the TABLE_OP of another device, and
an answer that finds no cell is counted as a drop in a pair. -/
theorem not_tableEngineOnIndexedSpaces : ¬ Obligations.TableEngineOnIndexedSpaces := by
  intro h
  obtain ⟨hrun, hnext, hformat, hspace, hindex, hop, hlen⟩ := relayedRead_meets
  obtain ⟨hspaces, -⟩ := h relayedRead 0 readPairCmd hrun (by decide) hnext hformat
  obtain ⟨-, -, -, hread, -, -⟩ := hspaces (by rw [hspace])
  obtain ⟨t, hexec, -, hstore, -⟩ := hread (by rw [hspace, hindex]; decide) hop hlen (by rw [hspace]; decide)
    (by rw [hspace]; decide)
  refine relayedRead_store ?_
  rw [shown_of_exec _ hexec, hstore]

end Sys2Proof.Machine
end

section
/-!
PROOFS. What the datapath leaves as it was: cells, copies, passes, threads and ports come and go beside the registers, the table
engine, the Thicket and the fragment table. A drop counted there touches one register alone, by its interrupt (R275, R398).
-/

namespace Sys2Proof.Machine
open Sys2Proof

/-! ### Operations that leave all of it -/

/-- The registers, what the blocks still hold of them, the table engine, the Thicket and the fragment table. -/
def aside (s : State) : Straps × NMap Word × NMap Word × TaeSt × ThkSt × NMap Nat :=
  (s.straps, s.bus.regs, s.bus.old, s.tae, s.thk, s.pgu.frag)

theorem aside_forAll {α : Type} {f : α → State → State} (hf : ∀ x s, aside (f x s) = aside s) (l : List α) (s : State) :
    aside (forAll f l s) = aside s :=
  forAll_rel (R := fun s t => aside t = aside s) (fun _ => rfl) (fun _ _ _ h1 h2 => h2.trans h1) hf l s

@[simp] theorem aside_setCtr (a v : Nat) (s : State) : aside (setCtr a v s) = aside s := rfl
@[simp] theorem aside_ctrAdd (page off n : Nat) (s : State) : aside (ctrAdd page off n s) = aside s := by
  unfold ctrAdd; rw [aside_setCtr]
@[simp] theorem aside_count (page off : Nat) (s : State) : aside (count page off s) = aside s := by
  unfold count; rw [aside_ctrAdd]
@[simp] theorem aside_setPort (p : Nat) (v : PortSt) (s : State) : aside (setPort p v s) = aside s := rfl
@[simp] theorem aside_setPass (k : Nat) (p : Pass) (s : State) : aside (setPass k p s) = aside s := rfl
@[simp] theorem aside_setThread (t : Nat) (v : Thread) (s : State) : aside (setThread t v s) = aside s := rfl
@[simp] theorem aside_setCell (c : Nat) (d : Bytes) (l : Nat) (s : State) : aside (setCell c d l s) = aside s := rfl
@[simp] theorem aside_setRwLink (l : Nat) (v : RwLink) (s : State) : aside (setRwLink l v s) = aside s := rfl
@[simp] theorem aside_store (x : StoreSt) (s : State) : aside { s with store := x } = aside s := rfl
@[simp] theorem aside_setPair (i n m : Nat) (s : State) : aside (setPair i n m s) = aside s := by
  unfold setPair
  exact aside_store _ s
@[simp] theorem aside_pairAdd (i n m : Nat) (s : State) : aside (pairAdd i n m s) = aside s := by
  unfold pairAdd; rw [aside_setPair]

theorem aside_onlyPortsClr {s t : State} (h : OnlyPortsClr s t) : aside t = aside s := by rw [h]; rfl

@[simp] theorem aside_fcUpdate (p : Nat) (s : State) : aside (fcUpdate p s) = aside s :=
  aside_onlyPortsClr (onlyPortsClr_fcUpdate p s)

@[simp] theorem aside_dropRefs (cs : List Nat) (s : State) : aside (dropRefs cs s) = aside s :=
  aside_onlyPortsClr (onlyPortsClr_dropRefs cs s)

@[simp] theorem aside_cutReception (k : Nat) (s : State) : aside (cutReception k s) = aside s :=
  aside_onlyPortsClr (onlyPortsClr_cutReception k s)

/-! #### Drops and cells -/

@[simp] theorem aside_dropPair (p k : Nat) (fl : FrameLen) (s : State) : aside (dropPair p k fl s) = aside s := by
  unfold dropPair oweDrop
  dsimp only
  split_ifs
  · split
    · exact aside_pairAdd _ _ _ s
    · refine (aside_forAll (fun o s => ?_) _ _).trans (aside_pairAdd _ _ _ _)
      split
      · split_ifs <;> rfl
      · rfl
  · rfl

theorem aside_popFrom {s : State} (v n b : Nat) {x y : Nat} {t : State} (h : popFrom s v n b = some (x, y, t)) :
    aside t = aside s := by
  induction n generalizing b with
  | zero => exact absurd h (by simp [popFrom])
  | succ n ih =>
    unfold popFrom at h
    split_ifs at h
    · exact ih _ h
    · split at h
      · next hpop =>
        obtain ⟨-, -, rfl⟩ : _ ∧ _ ∧ _ := by simpa using h
        unfold popList at hpop
        dsimp only at hpop
        split_ifs at hpop
        · obtain ⟨-, rfl⟩ : _ ∧ _ := by simpa using hpop
          rfl
        · split at hpop
          · exact absurd hpop (by simp)
          · obtain ⟨-, rfl⟩ : _ ∧ _ := by simpa using hpop
            rfl
      · exact ih _ h

theorem aside_popNext {s : State} {v b w x y : Nat} {t : State} (h : popNext s v b = some (w, x, y, t)) :
    aside t = aside s := by
  unfold popNext at h
  split at h
  · next hpop =>
    obtain ⟨-, rfl⟩ : _ ∧ _ := by simpa using h
    exact aside_popFrom _ _ _ hpop
  · obtain ⟨r, hpop, heq⟩ := Option.map_eq_some_iff.mp h
    obtain ⟨-, rfl⟩ : _ ∧ _ := by simpa using heq
    exact aside_popFrom _ _ _ hpop

theorem aside_cellReq {s t : State} {r port cls c : Nat} {b : Bool} (h : cellReq r b port cls s = .granted c t) :
    aside t = aside s := by
  unfold cellReq at h
  dsimp only at h
  split_ifs at h
  split at h
  · exact absurd h (by simp)
  · next hpop =>
    obtain ⟨-, rfl⟩ : _ ∧ _ := by simpa using h
    have hcell := aside_popNext hpop
    exact hcell

@[simp] theorem aside_cellsReq (r : Nat) (b : Bool) (port cls n : Nat) (got : List Nat) (s : State) :
    aside (cellsReq r b port cls n got s).2.1 = aside s := by
  induction n generalizing got s with
  | zero => rfl
  | succ n ih =>
    unfold cellsReq
    split
    · next h => exact (ih _ _).trans (aside_cellReq h)
    · rfl
    · rfl

@[simp] theorem aside_bodyCells (r : Nat) (b : Bool) (p cls n : Nat) (got : List Nat) (s : State) :
    aside (bodyCells r b p cls n got s).2.1 = aside s := by
  induction n generalizing got s with
  | zero => rfl
  | succ n ih =>
    unfold bodyCells
    split_ifs
    · rfl
    · split
      · next h => exact (ih _ _).trans ((aside_fcUpdate _ _).trans (aside_cellReq h))
      · rfl
      · rfl

@[simp] theorem aside_writeChain (cs : List Nat) (bs : Bytes) (s : State) : aside (writeChain cs bs s) = aside s := by
  induction cs generalizing bs s with
  | nil => rfl
  | cons c cs ih =>
    cases cs with
    | nil => rfl
    | cons d cs => exact (ih _ _).trans rfl

/-! #### Copies (R252, R269) -/

@[simp] theorem aside_addCopy (d : Desc) (s : State) : aside (addCopy d s).2 = aside s :=
  (aside_forAll (f := addRef) (fun _ _ => rfl) _ _).trans rfl

@[simp] theorem aside_removeCopy (id : Nat) (s : State) : aside (removeCopy id s) = aside s := by
  unfold removeCopy
  split
  · rfl
  · simp only [aside_dropRefs]; rfl

@[simp] theorem aside_countAdmit (p c : Nat) (fl : FrameLen) (s : State) : aside (countAdmit p c fl s) = aside s := by
  simp [countAdmit]

/-- A mirror copy, where what follows its admission leaves all of it. -/
theorem aside_mirCopy {after : Desc → State → State} (hafter : ∀ d s, aside (after d s) = aside s) (epoch : Nat)
    (fl : FrameLen) (k : Nat) (d : Desc) (s : State) : aside (mirCopy after epoch fl k d s) = aside s := by
  unfold mirCopy mirRefuse mirDrop
  dsimp only
  split_ifs <;> simp [hafter]

theorem aside_txMirrorsN (epoch : Nat) (fl : FrameLen) (n : Nat) (d : Desc) (s : State) :
    aside (txMirrorsN epoch fl n d s) = aside s := by
  induction n generalizing d s with
  | zero => rfl
  | succ n ih =>
    unfold txMirrorsN
    refine aside_forAll (fun k s => ?_) _ s
    dsimp only
    split_ifs
    · exact (aside_mirCopy ih _ _ _ _ _).trans rfl
    · rfl
    · rfl

@[simp] theorem aside_enqueueUni (epoch : Nat) (fl : FrameLen) (k : Nat) (d : Desc) (s : State) :
    aside (enqueueUni epoch fl k d s) = aside s := by
  have hadmit : aside (admitCopy epoch fl d s) = aside s := (aside_txMirrorsN _ _ _ _ _).trans (aside_addCopy d s)
  unfold enqueueUni
  split
  · dsimp only
    split_ifs <;> simp [hadmit]
  · simp [countDescEmpty]
  · simp

@[simp] theorem aside_unselect (id : Nat) (s : State) : aside (unselect id s) = aside s := by
  refine aside_forAll (fun o s => ?_) _ s
  split_ifs <;> rfl

@[simp] theorem aside_dropCopy (id : Nat) (s : State) : aside (dropCopy id s) = aside s := by
  unfold dropCopy
  split
  · rfl
  · rw [aside_removeCopy]
    unfold landCopy
    dsimp only
    split_ifs <;> rfl

/-! #### Passes and threads -/

@[simp] theorem aside_updPass (k : Nat) (f : Pass → Pass) (s : State) : aside (updPass k f s) = aside s := by
  rw [updPass_eq]; rfl

@[simp] theorem aside_leaveOrder (k : Nat) (s : State) : aside (leaveOrder k s) = aside s := by
  unfold leaveOrder; split <;> rfl

@[simp] theorem aside_leaveFlight (k : Nat) (s : State) : aside (leaveFlight k s) = aside s := by
  unfold leaveFlight
  split
  · rfl
  · split_ifs <;> rfl

@[simp] theorem aside_endPass (k : Nat) (s : State) : aside (endPass k s) = aside s := by
  unfold endPass
  split
  · rfl
  · next p _ =>
    have hgone : aside (dropRefs (passCells p) (leaveFlight k (leaveOrder k (cutReception k s)))) = aside s := by simp
    dsimp only
    split_ifs <;> exact hgone

@[simp] theorem aside_freeThread (t : Nat) (s : State) : aside (freeThread t s) = aside s := by
  unfold freeThread; split_ifs <;> rfl

@[simp] theorem aside_readyPass (k : Nat) (s : State) : aside (readyPass k s) = aside s := by
  unfold readyPass
  split
  · rfl
  · split_ifs <;> rfl

@[simp] theorem aside_unhold (k : Nat) (s : State) : aside (unhold k s) = aside s := by
  unfold unhold; rw [aside_updPass]; rfl

@[simp] theorem aside_unreserve (t : Nat) (s : State) : aside (unreserve t s) = aside s := by
  unfold unreserve
  dsimp only
  have hfree : aside (updPass (thread s t).pass (fun (p : Pass) => { p with tid := noThread })
      (releaseLocks (thread s t).pass (freeThread t s))) = aside s :=
    (aside_updPass _ _ _).trans ((show aside (releaseLocks _ _) = _ from rfl).trans (aside_freeThread t s))
  split
  · exact hfree
  · split_ifs <;> exact hfree

@[simp] theorem aside_moveHeld (g k : Nat) (s : State) : aside (moveHeld g k s) = aside s := by
  unfold moveHeld
  split
  · rfl
  · split_ifs
    · rfl
    · next p _ _ =>
      have hout : aside (updPass k (fun (q : Pass) => { q with tid := noThread }) (freeThread p.tid s)) = aside s := by simp
      dsimp only
      split
      · exact hout
      · split
        · exact hout
        · exact (aside_updPass _ _ _).trans hout

/-! #### Ports -/

@[simp] theorem aside_countLpi (p : Nat) (s : State) : aside (countLpi p s) = aside s := by
  unfold countLpi
  split_ifs <;> rfl

@[simp] theorem aside_countShed (p : Nat) (s : State) : aside (countShed p s) = aside s := by
  unfold countShed
  dsimp only
  split_ifs <;> rfl

@[simp] theorem aside_earlyFail (k : Nat) (s : State) : aside (earlyFail k s) = aside s := by
  unfold earlyFail
  refine (aside_forAll (fun e s => ?_) _ _).trans (aside_updPass _ _ _)
  split
  · rfl
  · simp

@[simp] theorem aside_rxFail (p : Nat) (r : RxFrame) (s : State) : aside (rxFail p r s) = aside s := by
  unfold rxFail
  dsimp only
  split <;> simp

@[simp] theorem aside_flushPort (p : Nat) (s : State) : aside (flushPort p s) = aside s := by
  unfold flushPort; split_ifs <;> rfl

@[simp] theorem aside_setAdvert (p l : Nat) (s : State) : aside (setAdvert p l s) = aside s := rfl

end Sys2Proof.Machine
end

section
/-!
PROOFS. What the datapath changes of the registers: a drop raises the Clearing's interrupt, a Rootway message finds no cell, a pass goes
to the exception queue (R227, R275, R342, R398). Each operation is a step of one relation, which names the words it may write.
-/

namespace Sys2Proof.Machine
open Sys2Proof

/-- The words that a drop counted anywhere may write: the Clearing's IRQ_STS, and what the host event page and the MSI-X pending
bits note of it. -/
def Noise (a : Nat) : Prop := a = pa pgClr offIRQ_STS ∨ pageOf a = pgPcie ∧ 0x40 ≤ offOf a ∨ pageOf a = pgPba

/-- No register changed but by a drop counted and those of `W`, and no value that a block still holds. -/
structure KeepsRegs (W : Nat → Prop) (s t : State) : Prop where
  straps : t.straps = s.straps
  old : t.bus.old = s.bus.old
  reg : ∀ a, ¬ Noise a → ¬ W a → reg t a = reg s a

/-- The table engine, the Thicket and the fragment table stayed as well. -/
structure Aside (W : Nat → Prop) (s t : State) : Prop extends KeepsRegs W s t where
  tae : t.tae = s.tae
  thk : t.thk = s.thk
  frag : t.pgu.frag = s.pgu.frag

section
variable {W : Nat → Prop} {s t u : State}

theorem KeepsRegs.refl (s : State) : KeepsRegs W s s := ⟨rfl, rfl, fun _ _ _ => rfl⟩

theorem KeepsRegs.trans (h : KeepsRegs W s t) (h' : KeepsRegs W t u) : KeepsRegs W s u :=
  ⟨h'.straps.trans h.straps, h'.old.trans h.old, fun a hn hw => (h'.reg a hn hw).trans (h.reg a hn hw)⟩

theorem KeepsRegs.mono {V : Nat → Prop} (h : KeepsRegs W s t) (hv : ∀ a, W a → V a) : KeepsRegs V s t :=
  ⟨h.straps, h.old, fun a hn hw => h.reg a hn (fun hwa => hw (hv a hwa))⟩

theorem KeepsRegs.live (h : KeepsRegs W s t) (a : Nat) (hn : ¬ Noise a) (hw : ¬ W a) : live t a = live s a := by
  rw [Machine.live, h.old, h.reg a hn hw]; rfl

theorem Aside.refl (s : State) : Aside W s s := ⟨KeepsRegs.refl s, rfl, rfl, rfl⟩

theorem Aside.trans (h : Aside W s t) (h' : Aside W t u) : Aside W s u :=
  ⟨h.toKeepsRegs.trans h'.toKeepsRegs, h'.tae.trans h.tae, h'.thk.trans h.thk, h'.frag.trans h.frag⟩

theorem KeepsRegs.forAll {α : Type} {f : α → State → State} (hf : ∀ x s, KeepsRegs W s (f x s)) (l : List α) (s : State) :
    KeepsRegs W s (forAll f l s) :=
  forAll_rel KeepsRegs.refl (fun _ _ _ h1 h2 => h1.trans h2) hf l s

theorem Aside.forAll {α : Type} {f : α → State → State} (hf : ∀ x s, Aside W s (f x s)) (l : List α) (s : State) :
    Aside W s (Machine.forAll f l s) :=
  forAll_rel Aside.refl (fun _ _ _ h1 h2 => h1.trans h2) hf l s

/-- Where nothing of the relation moves, it holds on. -/
theorem Aside.same (h : Aside W s t) (he : aside u = aside t) : Aside W s u := by
  simp only [aside, Prod.mk.injEq] at he
  obtain ⟨hstraps, hregs, hold, htae, hthk, hfrag⟩ := he
  refine ⟨⟨hstraps.trans h.straps, hold.trans h.old, fun a hn hw => ?_⟩, htae.trans h.tae, hthk.trans h.thk, hfrag.trans h.frag⟩
  rw [← h.reg a hn hw, Machine.reg, hstraps, hregs]
  rfl

theorem Aside.of_same (he : aside t = aside s) : Aside W s t := (Aside.refl s).same he

/-- One more word that may change. -/
theorem KeepsRegs.setReg (h : KeepsRegs W s t) {a : Nat} (ha : Noise a ∨ W a) (v : Word) : KeepsRegs W s (setReg a v t) :=
  ⟨h.straps, h.old, fun b hn hw => by
    have hne : b ≠ a := by rintro rfl; exact ha.elim hn hw
    rw [reg_setReg_other _ _ _ _ hne, h.reg b hn hw]⟩

theorem Aside.setReg (h : Aside W s t) {a : Nat} (ha : Noise a ∨ W a) (v : Word) : Aside W s (Machine.setReg a v t) :=
  ⟨h.toKeepsRegs.setReg ha v, h.tae, h.thk, h.frag⟩

theorem Aside.setRegF (h : Aside W s t) {a : Nat} (ha : Noise a ∨ W a) (f : Fld) (v : Nat) : Aside W s (setRegF a f v t) :=
  h.setReg ha _

/-! ### Interrupts (R387, R398) -/

theorem noise_hevSent (i : Nat) (h : i < 64) : Noise (pa pgPcie (offHEV_SENT + 4 * (i / 32))) := by
  have hlt : offHEV_SENT + 4 * (i / 32) < 0x1000 := by simp only [offHEV_SENT]; omega
  refine .inr (.inl ⟨pageOf_pa _ _ hlt, ?_⟩)
  rw [offOf_pa _ _ hlt]
  simp only [offHEV_SENT]
  omega

theorem noise_pba (i : Nat) (h : i < 64) : Noise (pa pgPba (4 * (i / 32))) :=
  .inr (.inr (pageOf_pa _ _ (by omega)))

theorem Aside.msixSend (h : Aside W s t) (i : Nat) (hi : i < 64) : Aside W s (msixSend i t) := by
  unfold Machine.msixSend
  split_ifs
  · exact h.setReg (.inl (noise_pba i hi)) _
  · exact h.same rfl

theorem Aside.hevSample (h : Aside W s t) (page : Nat) : Aside W s (hevSample page t) := by
  unfold Machine.hevSample
  dsimp only
  split_ifs
  · have hi := Nat.mod_lt (hevMap t (irqSource page)) (by decide : 64 > 0)
    exact (h.setReg (.inl (noise_hevSent _ hi)) _).msixSend _ hi
  · exact h

theorem Aside.lineRise (h : Aside W s t) (page : Nat) (was : Bool) : Aside W s (lineRise page was t) := by
  unfold Machine.lineRise icEdge
  dsimp only
  split_ifs
  · exact h.same rfl
  · exact h
  · exact h

theorem Aside.raiseIrq (h : Aside W s t) {page : Nat} (ha : Noise (pa page offIRQ_STS) ∨ W (pa page offIRQ_STS)) (bit : Nat) :
    Aside W s (raiseIrq page bit t) := by
  refine Aside.hevSample ?_ page
  unfold setIrq
  dsimp only
  refine Aside.lineRise ?_ page _
  split_ifs
  · exact (h.setReg ha _).same rfl
  · exact h.setReg ha _

/-- A raise of the Clearing's interrupt. -/
theorem Aside.raiseClr (h : Aside W s t) (bit : Nat) : Aside W s (Machine.raiseIrq pgClr bit t) :=
  h.raiseIrq (.inl (.inl rfl)) bit

/-! ### Drops (R275) -/

theorem Aside.countRefusal (h : Aside W s t) (g : Grant) (p : Nat) (fl : FrameLen) : Aside W s (countRefusal g p fl t) := by
  unfold Machine.countRefusal
  split
  · exact h
  · exact Aside.raiseClr (h.same (by simp)) 0
  · have hempty := Aside.raiseClr (W := W) (s := s)
      (t := count pgClr cClr_WOODPILE_EMPTY (dropPair p 10 fl t)) (h.same (by simp)) 1
    dsimp only
    split_ifs
    · exact hempty.same (by simp)
    · exact hempty

theorem Aside.countBody (h : Aside W s t) (why p : Nat) (fl : FrameLen) : Aside W s (countBody why p fl t) := by
  unfold Machine.countBody
  split
  · exact h.same (by simp [countRxLimit])
  · exact h.countRefusal _ _ _
  · exact h.countRefusal _ _ _
  · exact h

/-! ### Messages sent (R340 to R344) -/

theorem Aside.rwQueue (h : Aside W s t) (l : Nat) (f : Bytes) : Aside W s (rwQueue l f t) := by
  unfold Machine.rwQueue
  dsimp only
  split
  · next got u g hreq =>
    have hu : aside u = aside t := by rw [← aside_cellsReq _ _ _ _ _ [] t, hreq]
    exact Aside.countRefusal (h.same (by simp [hu])) _ _ _
  · next got u hreq =>
    have hu : aside u = aside t := by rw [← aside_cellsReq _ _ _ _ _ [] t, hreq]
    refine h.same ?_
    rw [aside_dropRefs, aside_enqueueUni]
    exact (aside_writeChain _ _ _).trans ((aside_writeChain _ _ _).trans hu)

theorem Aside.rwHead (h : Aside W s t) (f : Bytes) : Aside W s (rwHead f t) := by
  unfold Machine.rwHead
  dsimp only
  split
  · next got u why hreq =>
    have hu : aside u = aside t := by rw [← aside_bodyCells _ _ _ _ _ [] t, hreq]
    exact Aside.countBody (h.same (by simp [hu])) _ _ _
  · next got u hreq =>
    have hu : aside u = aside t := by rw [← aside_bodyCells _ _ _ _ _ [] t, hreq]
    exact h.same ((aside_writeChain _ _ _).trans hu)

theorem Aside.rwXmit (h : Aside W s t) (l : Nat) (m : Bytes) : Aside W s (rwXmit l m t) := by
  unfold Machine.rwXmit rwVirtual
  dsimp only
  split_ifs
  · exact h.rwHead _
  · exact h.same rfl
  · exact h.rwQueue _ _

theorem Aside.rwPump (h : Aside W s t) (l n : Nat) : Aside W s (rwPump l n t) := by
  induction n generalizing t with
  | zero => exact h
  | succ n ih =>
    unfold Machine.rwPump
    dsimp only
    split
    · exact h
    · split_ifs
      · exact h
      · exact ih (Aside.rwXmit (h.same (by simp)) _ _)

theorem Aside.rwSend (h : Aside W s t) (l : Nat) (m : Bytes) : Aside W s (rwSend l m t) := by
  unfold Machine.rwSend
  dsimp only
  split_ifs
  · exact h.same (by simp)
  · exact Aside.rwPump (h.same (by simp)) _ _

theorem Aside.rwFlood (h : Aside W s t) (links : List Nat) (src : Option Nat) (m : Bytes) : Aside W s (rwFlood links src m t) := by
  refine h.trans (Aside.forAll (fun l u => ?_) _ _)
  split_ifs
  · exact .refl u
  · exact (Aside.refl u).rwSend _ _

theorem Aside.rwToward (h : Aside W s t) (m : Bytes) : Aside W s (rwToward m t) := by
  have hlost : Aside W s (rwNoWay m t) := h.same (by simp [rwNoWay])
  unfold Machine.rwToward
  dsimp only
  split_ifs
  · exact h
  · exact h.rwFlood _ _ _
  · exact hlost
  · split
    · exact h.rwSend _ _
    · exact hlost
  · split
    · exact h.rwSend _ _
    · exact h.same (by simp)
  · split
    · exact h.rwSend _ _
    · exact h.rwFlood _ _ _

theorem Aside.rwOriginate (h : Aside W s t) (m : Bytes) : Aside W s (rwOriginate m t) := by
  have htodo : Aside W s (rwTodo 0 m t) := h.same rfl
  unfold Machine.rwOriginate
  split_ifs
  · exact h.rwToward _
  · exact htodo
  · exact htodo.rwToward _
  · exact h.rwToward _

theorem Aside.rwAnswer (h : Aside W s t) (ty src tag : Nat) (pay : Bytes) : Aside W s (rwAnswer ty src tag pay t) :=
  h.rwOriginate _

end

end Sys2Proof.Machine
end

section
/-!
PROOFS. The word that an accepted write leaves (R38, R40), field by field.
-/

namespace Sys2Proof.Machine
open Sys2Proof

theorem fget_lt (w : Word) (f : Fld) : fget w f < 2 ^ fldWidth f := by
  have h := natField_lt w.toNat f.hi f.lo
  rwa [show f.hi + 1 - f.lo = fldWidth f from rfl] at h

/-- A row whose fields lie apart from one another in the word, with no VALID bit that clears it whole. -/
def rowApart (r : RegRow) : Bool :=
  r.fields.all (fun f => f.lo ≤ f.hi && f.hi < 32 && !(f.hi == 31 && f.lo == 31 && f.acc == .w1c)) &&
  decide (r.fields.Pairwise (fun f g => f.hi < g.lo ∨ g.hi < f.lo))

/-- A field merges with bits of its own alone. -/
theorem fget_fieldMerge_other (v w : Word) {f g : FieldRow} (hf : f.lo ≤ f.hi ∧ f.hi < 32) (hg : g.lo ≤ g.hi)
    (hd : g.hi < f.lo ∨ f.hi < g.lo) : fget (fieldMerge v w f) (frFld g) = fget w (frFld g) := by
  obtain ⟨hle, h32⟩ := hf
  unfold fieldMerge
  split
  · exact fget_fset_other _ _ _ _ hle h32 hg hd
  · exact fget_fset_other _ _ _ _ hle h32 hg hd
  · rfl

theorem fget_fieldMerge_same (v w : Word) {f : FieldRow} (hf : f.lo ≤ f.hi ∧ f.hi < 32) (hacc : f.acc = .rw) :
    fget (fieldMerge v w f) (frFld f) = fget v (frFld f) := by
  obtain ⟨hle, h32⟩ := hf
  simp only [fieldMerge, hacc]
  rw [fget_fset_same _ _ _ hle h32]
  exact Nat.mod_eq_of_lt (fget_lt v _)

theorem fget_foldl_fieldMerge_other (v : Word) {g : FieldRow} (hg : g.lo ≤ g.hi) (l : List FieldRow)
    (hl : ∀ f ∈ l, (f.lo ≤ f.hi ∧ f.hi < 32) ∧ (g.hi < f.lo ∨ f.hi < g.lo)) (w : Word) :
    fget (l.foldl (fieldMerge v) w) (frFld g) = fget w (frFld g) := by
  induction l generalizing w with
  | nil => rfl
  | cons f l ih =>
    obtain ⟨hf, hd⟩ := hl f (by simp)
    rw [List.foldl_cons, ih (fun x hx => hl x (by simp [hx])), fget_fieldMerge_other v w hf hg hd]

/-- An RW field reads what was written to it. -/
theorem fget_foldl_fieldMerge (v : Word) {g : FieldRow} (hacc : g.acc = .rw) (l : List FieldRow) (hmem : g ∈ l)
    (hl : ∀ f ∈ l, f.lo ≤ f.hi ∧ f.hi < 32) (hp : l.Pairwise (fun f g => f.hi < g.lo ∨ g.hi < f.lo)) (w : Word) :
    fget (l.foldl (fieldMerge v) w) (frFld g) = fget v (frFld g) := by
  induction l generalizing w with
  | nil => simp at hmem
  | cons f l ih =>
    obtain ⟨hhead, htail⟩ := List.pairwise_cons.mp hp
    obtain hgf | hgl := List.mem_cons.mp hmem
    · rw [List.foldl_cons, hgf, fget_foldl_fieldMerge_other v (hl f (by simp)).1 l
        (fun x hx => ⟨hl x (by simp [hx]), hhead x hx⟩), fget_fieldMerge_same v w (hl f (by simp)) (hgf ▸ hacc)]
    · exact ih hgl (fun x hx => hl x (by simp [hx])) htail _

/-- After a write merged into any word every RW field holds what was written. -/
theorem fget_rowMerge {r : RegRow} (h : rowApart r = true) (old v : Word) {g : FieldRow} (hmem : g ∈ r.fields)
    (hacc : g.acc = .rw) : fget (rowMerge r old v) (frFld g) = fget v (frFld g) := by
  simp only [rowApart, Bool.and_eq_true, List.all_eq_true, decide_eq_true_eq, Bool.not_eq_true'] at h
  obtain ⟨hfields, hp⟩ := h
  have hvalid : r.fields.any (fun f => f.hi == 31 && f.lo == 31 && f.acc == .w1c) = false := by
    rw [List.any_eq_false]
    exact fun f hf => by simpa using (hfields f hf).2
  simp only [rowMerge, hvalid, Bool.false_and, Bool.false_eq_true, if_false]
  exact fget_foldl_fieldMerge v hacc _ hmem (fun f hf => (hfields f hf).1) hp old

/-- A state whose word at `a` is a write merged. -/
theorem written_of_reg {a : Nat} {r : RegRow} {old v : Word} {t : State} (hr : rowAt a = some r) (h : rowApart r = true)
    (ht : reg t a = rowMerge r old v) : Written a v t :=
  ⟨r, hr, fun f hf hacc => by rw [ht]; exact fget_rowMerge h old v hf hacc⟩

/-- A register whose write has no effect beyond its word: an accepted write stores it. -/
theorem gives_plainWrite {c : Instr} {s : State} {req a : Nat} {v : Word} {r : RegRow} (hs : stopped s = false)
    (hc : exec c s = act (reqWrite req a v) s) (hw : reqWrite req a v s = storeWord r a (rowMerge r (reg s a) v) s)
    (hr : rowAt a = some r) (h : rowApart r = true) :
    Gives c s (fun t => Written a v t ∧ (∀ b, b ≠ a → reg t b = reg s b) ∧
      t = { s with bus := { s.bus with regs := t.bus.regs, old := t.bus.old, oldAt := t.bus.oldAt } }) :=
  gives_act_eq hs hc hw rfl
    ⟨written_of_reg (old := reg s a) hr h ((reg_storeWord r a a _ s).trans (if_pos rfl)),
      fun b hb => (reg_storeWord r a b _ s).trans (if_neg hb), rfl⟩

end Sys2Proof.Machine
end

section
/-!
PROOFS. The registers by which a requester moves a pointer (R54, R143, R352, R376, R379, R380).
-/

namespace Sys2Proof.Machine
open Sys2Proof

/-! ### The host submission queue (R54) -/

/-- The stamps of the slots touch nothing but the instants. -/
theorem stampSlots_eq (k n : Nat) (s : State) :
    stampSlots k n s = { s with tae := { s.tae with hostAt := (stampSlots k n s).tae.hostAt } } := by
  induction n generalizing k s with
  | zero => rfl
  | succ n ih => exact (ih _ _).trans rfl

theorem reg_stampSlots (k n a : Nat) (s : State) : reg (stampSlots k n s) a = reg s a := by rw [stampSlots_eq]; rfl

/-- A raise of a bit of IRQ_STS leaves the bit set. -/
theorem testBit_raiseIrq (page bit : Nat) (s : State) (hb : bit < 32) :
    (reg (raiseIrq page bit s) (pa page offIRQ_STS)).toNat.testBit bit = true := by
  have hset : reg (setIrq page bit s) (pa page offIRQ_STS) =
      BitVec.ofNat 32 (natSetBit (reg s (pa page offIRQ_STS)).toNat bit true) := by
    unfold setIrq lineRise icEdge
    dsimp only
    split_ifs <;> exact reg_setReg_same _ _ _
  have hsample : reg (raiseIrq page bit s) (pa page offIRQ_STS) = reg (setIrq page bit s) (pa page offIRQ_STS) := by
    unfold raiseIrq hevSample msixSend setHevSent
    dsimp only
    split_ifs
    · rw [reg_setReg_other, reg_setReg_other]
      · simp only [pa, offIRQ_STS, offHEV_SENT] at *; omega
      · simp only [pa, offIRQ_STS] at *; omega
    · refine (reg_setReg_other _ _ _ _ ?_)
      simp only [pa, offIRQ_STS, offHEV_SENT] at *; omega
    · rfl
  rw [hsample, hset, BitVec.toNat_ofNat, Nat.testBit_mod_two_pow, testBit_natSetBit_same]
  simpa using hb

theorem reqWrite_hsqTail {s : State} {req v : Nat} (hv : v < 512)
    (hacc : accepts s req (pa pgTae offTAE_HSQ_TAIL) (BitVec.ofNat 32 v) = true) (hw : hsqWriter s req = true) :
    reqWrite req (pa pgTae offTAE_HSQ_TAIL) (BitVec.ofNat 32 v) s = hsqTailWrite v s := by
  have hmod : v % 2 ^ 32 % 512 = v := by omega
  refine (reqWrite_accepted hacc rfl rfl rfl rfl (by decide) rfl).trans ?_
  change (if hsqWriter s req then hsqTailWrite ((BitVec.ofNat 32 v).toNat % 512) s else s) = _
  rw [if_pos hw, BitVec.toNat_ofNat, hmod]

/-- A write within the free slots moves TAIL and stamps the slots it passes. -/
theorem hsqTailWrite_taken {s : State} {v : Nat} (hv : v < 512) (hfree : (v + 512 - hsqTail s) % 512 ≤ 256 - hsqFill s) :
    hsqTailWrite v s = stampSlots (hsqTail s) ((v + 512 - hsqTail s) % 512)
      (setRegF (pa pgTae offTAE_HSQ_TAIL) fTAE_HSQ_TAIL_TAIL v s) := by
  unfold hsqTailWrite
  dsimp only
  rw [Nat.mod_eq_of_lt hv, if_pos hfree]

/-- A write beyond the free slots raises IRQ_STS bit 1 alone. -/
theorem hsqTailWrite_ignored {s : State} {v : Nat} (hv : v < 512) (hover : 256 - hsqFill s < (v + 512 - hsqTail s) % 512) :
    hsqTailWrite v s = raiseIrq pgTae 1 s := by
  unfold hsqTailWrite
  dsimp only
  rw [Nat.mod_eq_of_lt hv, if_neg (by omega)]

/-! ### The Learn Queue (R143) -/

theorem reqWrite_lqHead {s : State} {req v : Nat} (hv : v < 131072)
    (hacc : accepts s req (pa pgEmt offLQ_HEAD) (BitVec.ofNat 32 v) = true) :
    reqWrite req (pa pgEmt offLQ_HEAD) (BitVec.ofNat 32 v) s = lqHeadWrite req v s := by
  refine (reqWrite_accepted hacc rfl rfl rfl rfl (by decide) rfl).trans ?_
  change lqHeadWrite req (BitVec.ofNat 32 v).toNat s = _
  rw [BitVec.toNat_ofNat, Nat.mod_eq_of_lt (by omega)]

/-- The consumer's write within the queue releases the notices it passes. -/
theorem lqHeadWrite_taken {s : State} {req v : Nat} (hv : v < 131072) (how : lqOwner s req = true)
    (hlen : (v + 131072 - (reg s (pa pgEmt offLQ_HEAD)).toNat) % 131072 ≤ s.emt.lq.length) :
    lqHeadWrite req v s = setReg (pa pgEmt offLQ_HEAD) (BitVec.ofNat 32 v)
      { s with emt := { s.emt with
        lq := s.emt.lq.drop ((v + 131072 - (reg s (pa pgEmt offLQ_HEAD)).toNat) % 131072) } } := by
  unfold lqHeadWrite
  dsimp only
  rw [Nat.mod_eq_of_lt hv, if_pos (by simp [how, hlen])]

/-! ### The Rootway transmit ring (R352) -/

theorem reqWrite_txrTail {s : State} {req v : Nat} (hv : v < 65536)
    (hacc : accepts s req (pa pgRw offRW_TXR_TAIL) (BitVec.ofNat 32 v) = true) :
    reqWrite req (pa pgRw offRW_TXR_TAIL) (BitVec.ofNat 32 v) s = txrTailWrite v s := by
  have hmod : v % 2 ^ 32 % 65536 = v := by omega
  refine (reqWrite_accepted hacc rfl rfl rfl rfl (by decide) rfl).trans ?_
  change txrTailWrite ((BitVec.ofNat 32 v).toNat % 65536) s = _
  rw [BitVec.toNat_ofNat, hmod]

/-- Sending what the ring holds moves its HEAD, and not its TAIL. -/
theorem aside_txrPump (n : Nat) (s : State) : Aside (· = pa pgRw offRW_TXR_HEAD) s (txrPump n s) := by
  induction n generalizing s with
  | zero => exact .refl s
  | succ n ih =>
    unfold txrPump
    dsimp only
    split_ifs
    · exact .refl s
    all_goals
      refine Aside.trans (Aside.rwOriginate ?_ _) (ih _)
      have hhead := (Aside.refl (W := (· = pa pgRw offRW_TXR_HEAD)) s).setRegF (a := pa pgRw offRW_TXR_HEAD) (.inr rfl)
        fRW_TXR_HEAD_POS ((regF s (pa pgRw offRW_TXR_HEAD) fRW_TXR_HEAD_POS + 1) % 65536)
    · exact hhead.same rfl
    · exact hhead

theorem not_noise_txrTail : ¬ Noise (pa pgRw offRW_TXR_TAIL) := by
  unfold Noise
  decide

theorem regF_txrTailWrite {v : Nat} (hv : v < 65536) (s : State) :
    regF (txrTailWrite v s) (pa pgRw offRW_TXR_TAIL) fRW_TXR_TAIL_POS = v := by
  have hkeep := (aside_txrPump (txrFill (setRegF (pa pgRw offRW_TXR_TAIL) fRW_TXR_TAIL_POS v s))
    (setRegF (pa pgRw offRW_TXR_TAIL) fRW_TXR_TAIL_POS v s)).reg _ not_noise_txrTail (by decide)
  rw [txrTailWrite, txrSend, regF, hkeep]
  exact (regF_setRegF_same s _ _ v (by decide) (by decide)).trans (Nat.mod_eq_of_lt hv)

/-! ### The rings of the host DMA (R379, R380) -/

/-- The row of the tails of the transmit rings, as of the receive rings. -/
def rowRingTail : RegRow := ⟨0xC, 256, 16, .single, [⟨12, 0, .rw, .live, 0, .any⟩]⟩

theorem rowAt_ringTail (recv : Bool) (i : Nat) (hi : i < 16) :
    rowAt (pa (if recv then pgRxr else pgTxr) (offTXR_TAIL i)) = some rowRingTail := by
  revert i
  cases recv <;> decide

/-- The tail of a ring takes the value modulo the ring's size. -/
theorem reqWrite_ringTail {s : State} {i v : Nat} (recv : Bool) (hr : reaches s 0 = true) (hi : i < 16) (hv : v < 2 ^ 32) :
    let pg := if recv then pgRxr else pgTxr
    reqWrite 0 (pa pg (offTXR_TAIL i)) (BitVec.ofNat 32 v) s =
      storeWord rowRingTail (pa pg (offTXR_TAIL i))
        (BitVec.ofNat 32 (v % 2 ^ (regF s (pa pg (offTXR_CFG i)) fTXR_CFG_LOG2 + 1))) s := by
  intro pg
  have hrow : rowAt (pa pg (offTXR_TAIL i)) = some rowRingTail := rowAt_ringTail recv i hi
  have hoff : offTXR_TAIL i < 0x1000 := by simp only [offTXR_TAIL]; omega
  have hpage : pageOf (pa pg (offTXR_TAIL i)) = pg := pageOf_pa _ _ hoff
  have hin : offOf (pa pg (offTXR_TAIL i)) = offTXR_TAIL i := offOf_pa _ _ hoff
  have hreg : isRegAddr (pa pg (offTXR_TAIL i)) = true := by
    cases recv <;> simp [isRegAddr, pg, pa, offTXR_TAIL, pgTxr, pgRxr, aSub, aBar2] <;> omega
  have hcfg : pa pg (offTXR_TAIL i) - 0x0C + 8 = pa pg (offTXR_CFG i) := by
    simp only [pa, offTXR_TAIL, offTXR_CFG]; omega
  have hmod : offTXR_TAIL i % 256 = 0x0C := by simp only [offTXR_TAIL]; omega
  obtain ⟨k, hk, hkind, hheader, htrue⟩ : ∃ k, kindOf pg = some k ∧ (k = .txr ∨ k = .rxr) ∧ hasHeader pg = false ∧
      capStaged pg = false := by
    cases recv
    · exact ⟨.txr, rfl, .inl rfl, rfl, by decide⟩
    · exact ⟨.rxr, rfl, .inr rfl, rfl, by decide⟩
  have hring : ∀ v', regEffect 0 k pg rowRingTail (pa pg (offTXR_TAIL i)) v' s =
      ringWrite rowRingTail (pa pg (offTXR_TAIL i)) v' s := by
    rcases hkind with rfl | rfl <;> exact fun _ => rfl
  have hnone : ∀ v', refusal 0 k pg [(pa pg (offTXR_TAIL i), rowRingTail, v')] s = none := by
    intro v'
    rcases hkind with rfl | rfl <;>
      simp [refusal, hheader, lockedAt, rowLegal, legalVal, rowRingTail, crossLegal, rowQuiet, rowStaged]
  rw [reqWrite_page hr hreg, hpage, hin]
  unfold pageWrite
  simp only [hk, hheader, Bool.false_and, trueOff_of_unstaged _ htrue, hrow]
  have hown : ownJudge k (offTXR_TAIL i) = false := by rcases hkind with rfl | rfl <;> rfl
  change writeBlock 0 k pg (offTXR_TAIL i) [(pa pg (offTXR_TAIL i), rowRingTail, _)] s = _
  simp only [writeBlock, hnone, forAll, hin, hown, Bool.false_eq_true, if_false, hring]
  unfold ringWrite
  simp only [hin, hmod, hcfg, BitVec.toNat_ofNat, Nat.mod_eq_of_lt hv]
  simp

/-- Settles O13: each write comes to the effect of its register, stated above. -/
theorem pointerRegisterWrites : Obligations.PointerRegisterWrites := by
  intro s req v hs
  refine ⟨fun hv hacc hw => ⟨fun hfree => ?_, fun hover => ?_⟩, fun hacc => ?_, fun hacc hv how _ hlen => ?_,
    fun hacc hv => ?_, fun recv i hi hr hv => ?_, fun hacc => ?_⟩
  · have hf := (reqWrite_hsqTail hv hacc hw).trans (hsqTailWrite_taken hv hfree)
    refine gives_act_eq hs rfl hf ?_ ⟨?_, fun a ha => ?_, ?_⟩
    · rw [stampSlots_eq]; rfl
    · rw [hsqTail, regF, reg_stampSlots]
      exact (regF_setRegF_same s _ _ v (by decide) (by decide)).trans (Nat.mod_eq_of_lt hv)
    · rw [reg_stampSlots]
      exact reg_setReg_other _ _ _ _ ha
    · rw [stampSlots_eq]; rfl
  · have hf := (reqWrite_hsqTail hv hacc hw).trans (hsqTailWrite_ignored hv hover)
    have hkeep : Aside (· = pa pgTae offIRQ_STS) s (raiseIrq pgTae 1 s) :=
      (Aside.refl (W := (· = pa pgTae offIRQ_STS)) s).raiseIrq (.inr rfl) 1
    refine gives_act hs rfl ?_
    rw [hf]
    refine ⟨?_, testBit_raiseIrq pgTae 1 s (by decide)⟩
    rw [hsqTail, regF, reg_boardKeeps, hkeep.reg _ (by unfold Noise; decide) (by decide)]
    rfl
  · exact gives_plainWrite hs rfl (reqWrite_accepted hacc rfl rfl rfl rfl (by decide) rfl) rfl (by decide)
  · have hf := (reqWrite_lqHead hv hacc).trans (lqHeadWrite_taken hv how hlen)
    refine gives_act_eq hs rfl hf rfl ⟨?_, rfl, fun a ha => ?_, rfl⟩
    · rw [reg_setReg_same, BitVec.toNat_ofNat, Nat.mod_eq_of_lt (by omega)]
    · exact reg_setReg_other _ _ _ _ ha
  · refine gives_act hs rfl ?_
    rw [reqWrite_txrTail hv hacc]
    exact regF_txrTailWrite hv s
  · have hexec : exec (.ringTail recv i v) s =
        act (reqWrite 0 (pa (if recv then pgRxr else pgTxr) (offTXR_TAIL i)) (BitVec.ofNat 32 v)) s := by
      conv_rhs => rw [← Nat.mod_eq_of_lt hi]
      rfl
    refine gives_act_eq hs hexec (reqWrite_ringTail recv hr hi hv) rfl ⟨?_, fun a ha => ?_, rfl⟩
    · rw [reg_storeWord, if_pos rfl, BitVec.toNat_ofNat]
      exact Nat.mod_eq_of_lt ((Nat.mod_le _ _).trans_lt hv)
    · rw [reg_storeWord, if_neg ha]
  · exact gives_plainWrite hs rfl (reqWrite_accepted hacc rfl rfl rfl rfl (by decide) rfl) rfl (by decide)

end Sys2Proof.Machine
end

section
/-!
PROOFS. What the state of a link writes (R60 to R71): MAC_STS and IRQ_STS of its port's page, and words of the SerDes pages.
-/

namespace Sys2Proof.Machine
open Sys2Proof

/-- The words that a change of a port's link may write. -/
def PortWord (p a : Nat) : Prop :=
  a = pa (macPage p) offMAC_STS ∨ a = pa (macPage p) offIRQ_STS ∨ 0x180 ≤ pageOf a

/-- The words that a change of some port's link may write. -/
def LinkWord (a : Nat) : Prop := ∃ p, PortWord p a

theorem le_quadPage (p : Nat) : 0x180 ≤ quadPage p := by unfold quadPage; split_ifs <;> omega

section
variable {p : Nat} {s t : State}

/-- A word of a SerDes page. -/
theorem aside_setQuad {page : Nat} (hp : 0x180 ≤ page) (off : Nat) (v : Word) (s : State) :
    Aside (PortWord p) s (setReg (pa page off) v s) :=
  (Aside.refl s).setReg (.inr (.inr (.inr (by simp only [pageOf, pa]; omega)))) v

theorem aside_setSts (p : Nat) (f : Fld) (v : Nat) (s : State) : Aside (PortWord p) s (setSts p f v s) :=
  (Aside.refl s).setReg (.inr (.inl rfl)) _

theorem aside_setStsAll (p : Nat) (l : List (Fld × Nat)) (s : State) :
    Aside (PortWord p) s (forAll (fun (e : Fld × Nat) => setSts p e.1 e.2) l s) := by
  refine Aside.forAll ?_ l s
  exact fun e u => aside_setSts p e.1 e.2 u

theorem aside_setLanes (p w : Nat) (f : Word → Word) (s : State) : Aside (PortWord p) s (setLanes p w f s) :=
  Aside.forAll (fun l u => aside_setQuad ((le_quadPage p).trans (Nat.le_succ _)) (offSDQ_LSTS l) _ u) _ s

theorem aside_raisePort (p bit : Nat) (s : State) : Aside (PortWord p) s (raiseIrq (macPage p) bit s) :=
  (Aside.refl s).raiseIrq (.inr (.inr (.inl rfl))) bit

/-! ### A link that falls (R70, R273) -/

theorem aside_dropRx {W : Nat → Prop} (q : Nat) (s : State) : Aside W s (dropRx q s) := by
  unfold dropRx
  split
  · exact .refl s
  · next r _ =>
    have hcount : Aside W s (rxRefused q r s) :=
      ((Aside.refl s).countBody _ _ _).trans (Aside.forAll (fun e u => .of_same (aside_pairAdd _ _ _ u)) _ _)
    exact hcount.same (aside_rxFail _ _ _)

theorem aside_endLpi (p : Nat) (s : State) : Aside (PortWord p) s (endLpi p s) := by
  unfold endLpi
  split_ifs
  · exact .refl s
  · exact (Aside.of_same (aside_countLpi p s)).trans (aside_setSts _ _ _ _)

theorem aside_takeDown (p lstate : Nat) (s : State) : Aside (PortWord p) s (takeDown p lstate s) := by
  have hrx : Aside (PortWord p) s (dropRx p (countShed p (endLpi p s))) :=
    ((aside_endLpi p s).same (aside_countShed _ _)).trans (aside_dropRx p _)
  have hfinal : ∀ u v, Aside (PortWord p) s u →
      Aside (PortWord p) s (setSts p fMAC_STS_LSTATE lstate (setLanes p (modeLanes (phyType s p)) (fun _ => 0)
        (setPort p v (forAll (fun f => setSts p f 0)
          [fMAC_STS_LINK, fMAC_STS_ACTIVE_LANES, fMAC_STS_RX_LPI, fMAC_STS_COPPICE_ACTIVE, fMAC_STS_EEE_ACTIVE] u)))) :=
    fun u v hu => (((hu.trans (Aside.forAll (fun f w => aside_setSts p f 0 w) _ u)).same (aside_setPort p v _)).trans
      (aside_setLanes _ _ _ _)).trans (aside_setSts _ _ _ _)
  unfold takeDown
  dsimp only
  split_ifs
  · exact ((hfinal _ _ hrx).trans (aside_raisePort p 1 _)).same (aside_flushPort _ _)
  · exact hfinal _ _ hrx

theorem aside_freePlls (p : Nat) (s : State) : Aside (PortWord p) s (freePlls (quadPage p) s) := by
  refine Aside.forAll (fun k u => ?_) _ s
  dsimp only
  split_ifs
  · exact .refl u
  · exact (aside_setQuad (le_quadPage p) _ _ u).trans (aside_setQuad (le_quadPage p) _ _ _)

theorem aside_portStop (p lstate err : Nat) (s : State) : Aside (PortWord p) s (portStop p lstate err s) := by
  have h := ((aside_takeDown p lstate s).trans (aside_setStsAll p
    [(fMAC_STS_RESOLVED, 0), (fMAC_STS_FEC, 0), (fMAC_STS_CFG_ERR, err)] _)).trans (aside_freePlls p _)
  exact (h.same (aside_setPort p _ _)).same (aside_setAdvert p lstate _)

/-! ### A link that is tried (R63, R66) -/

theorem aside_takePll (p fam w k : Nat) (s : State) : Aside (PortWord p) s (takePll p fam w k s) :=
  (aside_setQuad (le_quadPage p) _ _ s).trans (Aside.forAll (fun l u => aside_setQuad (le_quadPage p) (offSDQ_LANE l) _ u) _ _)

theorem aside_runType (p m : Nat) (neg : Option Nat) (s : State) : Aside (PortWord p) s (runType p m neg s) := by
  unfold runType
  split
  · exact aside_portStop _ _ _ s
  · dsimp only
    split_ifs
    · exact aside_portStop _ _ _ s
    all_goals exact (aside_takePll p _ _ _ s).trans (aside_setStsAll p _ _)

theorem aside_portStart (p : Nat) (s : State) : Aside (PortWord p) s (portStart p s) := by
  unfold portStart
  split_ifs
  · exact ((aside_setSts p _ _ s).trans (aside_setSts p _ _ _)).same (aside_setAdvert p lsNeg _)
  · exact aside_runType p _ _ s

theorem aside_portRefresh (p : Nat) (s : State) : Aside (PortWord p) s (portRefresh p s) := by
  unfold portRefresh
  dsimp only
  split_ifs
  · exact .refl s
  · exact aside_portStop _ _ _ s
  · exact .refl s
  · exact aside_portStop _ _ _ s
  · exact aside_portStart _ s
  · exact .refl s

theorem Aside.link (h : Aside (PortWord p) s t) : Aside LinkWord s t :=
  ⟨h.toKeepsRegs.mono (fun _ ha => ⟨p, ha⟩), h.tae, h.thk, h.frag⟩

theorem aside_quadRefresh (page : Nat) (s : State) : Aside LinkWord s (quadRefresh page s) :=
  Aside.forAll (fun q u => (aside_portRefresh q u).link) _ s

theorem aside_portRestart (p : Nat) (s : State) : Aside LinkWord s (portRestart p s) :=
  (aside_portStop p _ _ s).link.trans (aside_quadRefresh _ _)

/-- The mismatch of a link writes its RW_LINK_STS and the Rootway's IRQ_STS (R357). -/
theorem aside_rwMismatch (p : Nat) (s : State) : Aside (fun a => pageOf a = pgRw) s (rwMismatch p s) := by
  have hrefl := Aside.refl (W := fun a => pageOf a = pgRw) s
  unfold rwMismatch
  dsimp only
  split_ifs with hout
  · exact hrefl
  all_goals
    have hp : p < 256 := by
      simp only [Bool.or_eq_true, decide_eq_true_eq, Bool.not_eq_true', not_or, not_lt] at hout
      omega
    have hsts : pageOf (linkSts p) = pgRw := pageOf_pa _ _ (by simp only [offRW_LINK_STS]; omega)
    have hone := hrefl.setReg (.inr hsts)
  · exact Aside.raiseIrq (hone _) (.inr (pageOf_pa _ _ (by decide))) 3
  · exact hone _

end

/-- A word of a MAC page other than MAC_STS and IRQ_STS is no word of a link's state. -/
theorem not_linkWord_mac {p off : Nat} (hp : p < 256) (ho : off < 0x1000) (hsts : off ≠ offMAC_STS) (hirq : off ≠ offIRQ_STS) :
    ¬ LinkWord (pa (macPage p) off) := by
  rintro ⟨q, hq | hq | hq⟩
  · simp only [pa, macPage, offMAC_STS] at *; omega
  · simp only [pa, macPage, offIRQ_STS] at *; omega
  · rw [pageOf_pa _ _ ho] at hq
    simp only [macPage] at hq; omega

theorem not_noise_mac {p off : Nat} (hp : p < 256) (ho : off < 0x1000) : ¬ Noise (pa (macPage p) off) := by
  have hpage : pageOf (pa (macPage p) off) = macPage p := pageOf_pa _ _ ho
  rintro (hn | ⟨hn, -⟩ | hn)
  · simp only [pa, macPage, offIRQ_STS, pgClr] at *; omega
  · rw [hpage] at hn; simp only [macPage, pgPcie] at hn; omega
  · rw [hpage] at hn; simp only [macPage, pgPba] at hn; omega

end Sys2Proof.Machine
end

section
/-!
PROOFS. The fragments held for a record (R112 to R115), and the completion of a command of the table engine (R51, R54, R349): what they
leave as it was.
-/

namespace Sys2Proof.Machine
open Sys2Proof

section
variable {W : Nat → Prop}

/-! ### Passes that end a walk (R105, R227) -/

theorem aside_toException (k reason : Nat) (exc : Bytes) (s : State) : Aside W s (toException k reason exc s) := by
  unfold toException
  split
  · exact .refl s
  · split_ifs
    · exact .of_same (by simp)
    · split
      · next got u g hreq =>
        have hu : aside u = aside s := by rw [← aside_cellsReq _ _ _ _ _ [] s, hreq]
        exact Aside.same ((Aside.of_same (by simp [hu])).countRefusal _ _ _) (aside_endPass _ _)
      · next got u hreq =>
        have hu : aside u = aside s := by rw [← aside_cellsReq _ _ _ _ _ [] s, hreq]
        refine .of_same ?_
        refine Eq.trans (b := aside (updPass k _ _)) rfl ?_
        rw [aside_updPass, aside_leaveFlight, aside_leaveOrder, aside_fcUpdate, aside_writeChain, hu]

theorem aside_parseOutcome (k : Nat) (s : State) : Aside W s (parseOutcome k s) := by
  unfold parseOutcome
  split
  · exact .refl s
  · dsimp only
    split
    · exact .of_same (by simp)
    · exact .of_same (by simp)
    · exact .of_same (by simp)
    · exact (Aside.of_same (aside_freeThread _ s)).trans (aside_toException _ _ _ _)

/-! ### Held fragments (R112 to R115) -/

theorem aside_orphan (reason k : Nat) (s : State) : Aside W s (orphan reason k s) :=
  (Aside.of_same (by simp)).trans (aside_parseOutcome k _)

theorem aside_orphanHeld (i reason : Nat) (s : State) : Aside W s (orphanHeld i reason s) := by
  refine Aside.forAll (fun k u => ?_) _ s
  have hout : Aside W u (unhold k u) := .of_same (aside_unhold k u)
  split_ifs
  · exact hout.trans (aside_orphan _ _ _)
  · exact hout.trans (aside_orphan _ _ _)

/-- A record removed leaves the registers, and its own place empty. -/
theorem keepsRegs_fragRemove (i : Nat) (s : State) : KeepsRegs W s (fragRemove i s) := by
  have h : KeepsRegs W s { setFrag i none s with pgu := { (setFrag i none s).pgu with
      fragAt := mdel (setFrag i none s).pgu.fragAt i } } := ⟨rfl, rfl, fun _ _ _ => rfl⟩
  exact h.trans (aside_orphanHeld i 0x40 _).toKeepsRegs

theorem frag_fragRemove (i : Nat) (s : State) : (fragRemove i s).pgu.frag = mdel s.pgu.frag i :=
  (aside_orphanHeld (W := fun _ => False) i 0x40 _).frag

theorem keepsRegs_fragClear (s : State) : KeepsRegs W s (fragClear s) :=
  KeepsRegs.forAll (fun i u => keepsRegs_fragRemove i u) _ s

theorem mdel_eq_filter {α : Type} (m : NMap α) (q : Nat) : mdel m q = mfilter (fun k => k != q) m := by
  induction m with
  | nil => rfl
  | cons e m ih =>
    obtain ⟨k, v⟩ := e
    unfold mdel
    split_ifs with h
    · rw [ih]; simp [mfilter, h]
    · rw [ih]; simp [mfilter, Ne.symm h]

theorem frag_forAll_fragRemove (l : List Nat) (s : State) :
    (forAll fragRemove l s).pgu.frag = mfilter (fun k => !l.contains k) s.pgu.frag := by
  induction l generalizing s with
  | nil => simp [forAll, mfilter]
  | cons i l ih =>
    rw [forAll, ih, frag_fragRemove, mdel_eq_filter, mfilter, mfilter, List.filter_filter, mfilter]
    refine List.filter_congr fun e _ => ?_
    by_cases h : e.1 = i <;> simp [h]

/-- Clearing Fragment Memory removes every record (R115). -/
theorem frag_fragClear (s : State) : (fragClear s).pgu.frag = [] := by
  rw [fragClear, frag_forAll_fragRemove, mfilter, List.filter_eq_nil_iff]
  intro e he
  simpa [mkeys] using ⟨e.2, he⟩

end

/-! ### Completions (R51, R54) -/

/-- The words that the completion of a host command writes: the interrupt of its page, and HEAD of the completion queue where an answer to
another device takes it up (R349). -/
def CompWord (a : Nat) : Prop := a = pa pgTae offIRQ_STS ∨ a = pa pgTae offTAE_HCQ_HEAD

theorem aside_tableAnswer (k : Nat) (comp : Bytes) (s : State) : Aside CompWord s (tableAnswer k comp s) := by
  have htable : ∀ l, Aside CompWord s { s with rw := { s.rw with tables := l } } := fun _ => .of_same rfl
  unfold tableAnswer
  split
  · exact .refl s
  · refine Aside.rwAnswer ?_ _ _ _ _
    split_ifs
    · exact (htable _).setRegF (.inr (.inr rfl)) _ _
    · exact htable _

/-- Writes into the completion window touch nothing else. -/
theorem compWrite_eq (a : Nat) (bs : Bytes) (s : State) :
    compWrite a bs s = { s with tae := { s.tae with comp := (compWrite a bs s).tae.comp } } := by
  induction bs generalizing a s with
  | nil => rfl
  | cons b bs ih => exact (ih _ _).trans rfl

theorem comp_compWrite_below (a x : Nat) (bs : Bytes) (s : State) (h : x < a) :
    mget (fun _ => 0) (compWrite a bs s).tae.comp x = mget (fun _ => 0) s.tae.comp x := by
  induction bs generalizing a s with
  | nil => rfl
  | cons b bs ih =>
    rw [compWrite, ih (a + 1) _ (by omega)]
    exact mget_mset_other _ _ _ _ _ (by omega)

/-- The window reads the bytes written. -/
theorem comp_compWrite (a i : Nat) (bs : Bytes) (s : State) (h : i < bs.length) :
    mget (fun _ => 0) (compWrite a bs s).tae.comp (a + i) = byteAt bs i := by
  induction bs generalizing a i s with
  | nil => simp at h
  | cons b bs ih =>
    cases i with
    | zero =>
      rw [compWrite, comp_compWrite_below _ _ _ _ (by omega)]
      exact mget_mset_same _ _ _ _
    | succ i =>
      rw [compWrite, show a + (i + 1) = a + 1 + i by omega, ih (a + 1) i _ (by simpa using h)]
      rfl

/-- The state in which a host command's completion stands in the window. -/
def hostCompleted (c : Bytes) (r : TaeRes) (s : State) : State :=
  compWrite (s.tae.hostDone % 256 * 128) (completion c r s.tae.hostDone)
    { s with tae := { s.tae with hostDone := (s.tae.hostDone + 1) % 512 } }

theorem aside_taeFinish_host (c : Bytes) (r : TaeRes) (s : State) :
    Aside CompWord (hostCompleted c r s) (taeFinish 0 c r s) := by
  have hcomp : taeFinish 0 c r s = tableAnswer s.tae.hostDone (completion c r s.tae.hostDone)
      (if tcIrq c then raiseIrq pgTae 0 (hostCompleted c r s) else hostCompleted c r s) := rfl
  rw [hcomp]
  refine Aside.trans ?_ (aside_tableAnswer _ _ _)
  split_ifs
  · exact (Aside.refl _).raiseIrq (.inr (.inl rfl)) 0
  · exact .refl _

theorem hostCompleted_eq (c : Bytes) (r : TaeRes) (s : State) :
    hostCompleted c r s = { s with tae := { s.tae with
      hostDone := (s.tae.hostDone + 1) % 512, comp := (hostCompleted c r s).tae.comp } } :=
  compWrite_eq _ _ _

/-- A completion leaves the registers but for the words it writes. -/
theorem keepsRegs_taeFinish (q : Nat) (c : Bytes) (r : TaeRes) (s : State) : KeepsRegs CompWord s (taeFinish q c r s) := by
  by_cases hq : q = 0
  · subst hq
    have h : KeepsRegs CompWord s (hostCompleted c r s) := by
      rw [hostCompleted_eq]; exact ⟨rfl, rfl, fun _ _ _ => rfl⟩
    exact h.trans (aside_taeFinish_host c r s).toKeepsRegs
  · rw [taeFinish, if_neg hq]
    exact ⟨rfl, rfl, fun _ _ _ => rfl⟩

/-- It leaves the Thicket and the commands in execution. -/
theorem thk_taeFinish (q : Nat) (c : Bytes) (r : TaeRes) (s : State) :
    (taeFinish q c r s).thk = s.thk ∧ (taeFinish q c r s).tae.exec = s.tae.exec := by
  by_cases hq : q = 0
  · subst hq
    have h := aside_taeFinish_host c r s
    rw [h.thk, h.tae, hostCompleted_eq]
    exact ⟨rfl, rfl⟩
  · rw [taeFinish, if_neg hq]
    exact ⟨rfl, rfl⟩

end Sys2Proof.Machine
end

section
/-!
PROOFS. Configuration registers with an effect beyond their fields (R43, R62, R69, R115, R119, R120, R128, R129, R151, R152).
-/

namespace Sys2Proof.Machine
open Sys2Proof

/-! ### A refused write (R39) -/

theorem onlyRegs_refuse (page off reason : Nat) (s : State) :
    OnlyRegs [pa page offSts, pa page offWRITE_REFUSED] s (refuse page off reason s) := by
  unfold refuse
  dsimp only
  split_ifs
  · exact onlyRegs_refl.setRegB (by simp) _ _
  · exact (onlyRegs_refl.setReg (by simp) _).setRegB (by simp) _ _

theorem refused_refuse (page off reason : Nat) (s : State) :
    regB (refuse page off reason s) (pa page offSts) fPAGE_STS_REFUSED = true := by
  unfold refuse
  dsimp only
  split_ifs with h
  · rw [regB_setRegB_other _ _ _ _ _ _ (pa_ne page _ _ (by decide))]
    exact h
  · exact regB_setRegB_same _ _ 4 true (by decide)

/-- An accepted write finds its page out of reset (R44). -/
theorem inReset_of_accepts {s : State} {req a : Nat} {v : Word} (h : accepts s req a v = true)
    (hp : hasHeader (pageOf a) = true) : inReset s (pageOf a) = false := by
  simp only [accepts, Bool.and_eq_true] at h
  obtain ⟨-, hpage⟩ := h
  split at hpage
  · by_contra hreset
    rw [Bool.not_eq_false] at hreset
    simp [refusal, hp, hreset] at hpage
  · exact absurd hpage (by simp)

/-! ### MAC_CFG (R43, R62, R69) -/

/-- The rows of MAC_CFG on an L-port's page and on a B-port's. -/
theorem rowAt_macCfg {p : Nat} (hp : p < 256) :
    ∃ r, rowAt (pa (macPage p) offMAC_CFG) = some r ∧ r.half = .single ∧ rowApart r = true := by
  have hpage : pageOf (pa (macPage p) offMAC_CFG) = macPage p := pageOf_pa _ _ (by decide)
  have hoff : offOf (pa (macPage p) offMAC_CFG) = offMAC_CFG := offOf_pa _ _ (by decide)
  rcases kindOf_macPage p hp with hk | hk
  · have hrow : rowAt (pa (macPage p) offMAC_CFG) = rowFind offMAC_CFG rowsLmac := by
      simp only [rowAt, hpage, hoff, hk]
      simp [rowsOf]
    exact ⟨_, hrow.trans rfl, rfl, by decide⟩
  · have hrow : rowAt (pa (macPage p) offMAC_CFG) = rowFind offMAC_CFG rowsBmac := by
      simp only [rowAt, hpage, hoff, hk]
      simp [rowsOf]
    exact ⟨_, hrow.trans rfl, rfl, by decide⟩

/-- An accepted write of MAC_CFG stores the word, and brings the link up anew where a class Q field changed. -/
theorem reqWrite_macCfg {s : State} {req p : Nat} {v : Word} {r : RegRow} (hp : p < 256)
    (hacc : accepts s req (pa (macPage p) offMAC_CFG) v = true) (hr : rowAt (pa (macPage p) offMAC_CFG) = some r)
    (hhalf : r.half = .single) :
    reqWrite req (pa (macPage p) offMAC_CFG) v s =
      macCfgWrite p (rowQuiet r (reg s (pa (macPage p) offMAC_CFG)) v)
        (storeWord r (pa (macPage p) offMAC_CFG) (rowMerge r (reg s (pa (macPage p) offMAC_CFG)) v) s) := by
  have hpage : pageOf (pa (macPage p) offMAC_CFG) = macPage p := pageOf_pa _ _ (by decide)
  have hoff : offOf (pa (macPage p) offMAC_CFG) = offMAC_CFG := offOf_pa _ _ (by decide)
  have hreg : isRegAddr (pa (macPage p) offMAC_CFG) = true := by
    have : pa (macPage p) offMAC_CFG < aSub := by simp only [pa, macPage, offMAC_CFG, aSub]; omega
    simp [isRegAddr, this]
  have hport : macPage p - 0x080 = p := by simp only [macPage]; omega
  obtain ⟨k, hk, hkind⟩ : ∃ k, kindOf (macPage p) = some k ∧ (k = .lmac ∨ k = .bmac) := by
    rcases kindOf_macPage p hp with hk | hk
    · exact ⟨_, hk, .inl rfl⟩
    · exact ⟨_, hk, .inr rfl⟩
  have hstaged : capStaged (macPage p) = false := by
    rcases hkind with rfl | rfl <;> simp only [capStaged, capBits, hk] <;> decide
  rw [reqWrite_accepted hacc hreg (by rw [hpage]; exact hk) hr hhalf (by simp [hoff]) (by rw [hpage]; exact hstaged),
    hpage, hoff]
  rcases hkind with rfl | rfl <;> simp only [ownJudge, regEffect, hoff, hport] <;> rfl

/-- The link brought up anew leaves MAC_CFG as it was written. -/
theorem reg_macCfgWrite {p : Nat} (hp : p < 256) (changed : Bool) (s : State) :
    reg (macCfgWrite p changed s) (pa (macPage p) offMAC_CFG) = reg s (pa (macPage p) offMAC_CFG) := by
  have hnoise : ¬ Noise (pa (macPage p) offMAC_CFG) := not_noise_mac hp (by decide)
  have hlink : ¬ LinkWord (pa (macPage p) offMAC_CFG) := not_linkWord_mac hp (by decide) (by decide) (by decide)
  have hrw : ¬ pageOf (pa (macPage p) offMAC_CFG) = pgRw := by
    rw [pageOf_pa _ _ (by decide)]
    simp only [macPage, pgRw]; omega
  unfold macCfgWrite
  split_ifs
  · rw [(aside_rwMismatch p _).reg _ hnoise hrw, (aside_portRestart p s).reg _ hnoise hlink]
  · rfl

/-! ### FRAG_SEED (R115, R119) -/

theorem reqWrite_fragSeed {s : State} {req : Nat} {v : Word} (hacc : accepts s req (pa pgPgu offFRAG_SEED) v = true) :
    reqWrite req (pa pgPgu offFRAG_SEED) v s = fragClear (setReg (pa pgPgu offFRAG_SEED) v s) :=
  reqWrite_accepted hacc rfl rfl rfl rfl (by decide) rfl

theorem reg_fragSeed (v : Word) (s : State) : reg (fragSeed v s) (pa pgPgu offFRAG_SEED) = v := by
  have h := (keepsRegs_fragClear (W := fun _ => False) (setReg (pa pgPgu offFRAG_SEED) v s)).reg (pa pgPgu offFRAG_SEED)
    (by unfold Noise; decide) id
  exact h.trans (reg_setReg_same _ _ _)

/-! ### The parse-graph node access (R120) -/

theorem reqWrite_nodeCmd {s : State} {req : Nat} {v : Word} (hacc : accepts s req (pa pgPgu offPGU_NODE_CMD) v = true) :
    reqWrite req (pa pgPgu offPGU_NODE_CMD) v s = pguNodeCmd v s :=
  reqWrite_accepted hacc rfl rfl rfl rfl (by decide) rfl

/-- The fields of a command's word. -/
theorem nodeCmd_fields {op bank node : Nat} (ho : op < 2) (hb : bank < 2) (hn : node < 256) :
    fget (nodeCmd op bank node) fPGU_NODE_CMD_OP = op ∧ fget (nodeCmd op bank node) fPGU_NODE_CMD_BANK = bank ∧
      fget (nodeCmd op bank node) fPGU_NODE_CMD_NODE = node := by
  have hsame := fun w f v (h : f.lo ≤ f.hi ∧ f.hi < 32) (hv : v < 2 ^ fldWidth f) =>
    (fget_fset_same w f v h.1 h.2).trans (Nat.mod_eq_of_lt hv)
  have hother := fun w f g v (h : f.lo ≤ f.hi ∧ f.hi < 32) (hg : g.lo ≤ g.hi ∧ (g.hi < f.lo ∨ f.hi < g.lo)) =>
    fget_fset_other w f g v h.1 h.2 hg.1 hg.2
  simp only [nodeCmd, mkWord, List.foldl_cons, List.foldl_nil]
  refine ⟨?_, ?_, ?_⟩
  · rw [hother _ _ _ _ (by decide) (by decide), hother _ _ _ _ (by decide) (by decide), hsame _ _ _ (by decide) ho]
  · rw [hother _ _ _ _ (by decide) (by decide), hsame _ _ _ (by decide) hb]
  · rw [hsame _ _ _ (by decide) hn]

theorem pguNodeCmd_nodeCmd {op bank node : Nat} (ho : op < 2) (hb : bank < 2) (hn : node < 256) (s : State) :
    pguNodeCmd (nodeCmd op bank node) s =
      if op = 0 then pguNodeRead (bank * 256 + node) s else pguNodeWrite (bank * 256 + node) s := by
  obtain ⟨hop, hbank, hnode⟩ := nodeCmd_fields ho hb hn
  simp only [pguNodeCmd, hop, hbank, hnode]

theorem pguBusy_of_none {s : State} (h : s.pgu.cmd = none) : pguBusy s = false := by simp [pguBusy, h]

theorem pguBusy_of_ne_none {s : State} (h : s.pgu.cmd ≠ none) : pguBusy s = true := by
  simpa [pguBusy, Option.isSome_iff_ne_none] using h

/-- A write of a field touches its register alone. -/
theorem setRegB_eq (a : Nat) (f : Fld) (b : Bool) (s : State) :
    setRegB a f b s = { s with bus := { s.bus with regs := (setRegB a f b s).bus.regs } } := rfl

/-- A command started: BUSY reads 1, and nothing else of the registers changed. -/
theorem pguStart_spec (key : Nat) (w : Option Nat) (s : State) :
    let t := pguStart key w s
    regB t (pa pgPgu offPGU_NODE_CMD) fPGU_NODE_CMD_BUSY = true ∧ t.pgu.cmd = some (key, w, now s + 1 + freeNow s % 16) ∧
    (∀ a, a ≠ pa pgPgu offPGU_NODE_CMD → reg t a = reg s a) ∧
    t = { s with bus := { s.bus with regs := t.bus.regs }, freeCtr := s.freeCtr + 1, pgu := { s.pgu with cmd := t.pgu.cmd } } :=
  ⟨regB_setRegB_same _ _ 31 true (by decide), rfl, fun _ ha => (reg_setReg_other _ _ _ _ ha).trans rfl,
    (setRegB_eq _ _ _ _).trans rfl⟩

/-- D0 to D3 are not written while a command is in progress. -/
theorem reqWrite_nodeData_busy {s : State} {req n : Nat} {v : Word} (hn : n < 4) (hbusy : s.pgu.cmd ≠ none)
    (hacc : accepts s req (pa pgPgu (offPGU_NODE_D n)) v = true) : reqWrite req (pa pgPgu (offPGU_NODE_D n)) v s = s := by
  have hb := pguBusy_of_ne_none hbusy
  have hgeneral : ∀ r, rowAt (pa pgPgu (offPGU_NODE_D n)) = some r →
      regEffect req .pgu pgPgu r (pa pgPgu (offPGU_NODE_D n)) v s = s := by
    intro r _
    have hoff : offOf (pa pgPgu (offPGU_NODE_D n)) = offPGU_NODE_D n :=
      offOf_pa _ _ (by simp only [offPGU_NODE_D]; omega)
    simp only [regEffect, hoff, hb]
    rw [if_neg (by simp only [offPGU_NODE_D, offPGU_NODE_CMD]; omega),
      if_neg (by simp only [offPGU_NODE_D, offFRAG_SEED]; omega), if_pos]
    simp only [offPGU_NODE_D, Bool.true_and, Bool.and_eq_true, decide_eq_true_eq]
    omega
  obtain ⟨r, hr, hhalf⟩ : ∃ r, rowAt (pa pgPgu (offPGU_NODE_D n)) = some r ∧ r.half = .single := by
    interval_cases n <;> exact ⟨_, rfl, rfl⟩
  have hplace : pageOf (pa pgPgu (offPGU_NODE_D n)) = pgPgu ∧ 0x40 ≤ offOf (pa pgPgu (offPGU_NODE_D n)) ∧
      isRegAddr (pa pgPgu (offPGU_NODE_D n)) = true := by
    interval_cases n <;> exact ⟨rfl, by decide, rfl⟩
  obtain ⟨hpage, hoff, hreg⟩ := hplace
  refine (reqWrite_accepted hacc hreg (by rw [hpage]; rfl) hr hhalf hoff (by rw [hpage]; rfl)).trans ?_
  rw [hpage]
  exact hgeneral r hr

/-! #### Numbers in data registers -/

theorem reg_setDRegs_other (a v n b : Nat) (s : State) (h : ∀ i < n, b ≠ a + 4 * i) : reg (setDRegs a v n s) b = reg s b := by
  induction n generalizing a v s with
  | zero => rfl
  | succ n ih =>
    rw [setDRegs, ih _ _ _ (fun i hi => by have := h (i + 1) (by omega); omega)]
    exact reg_setReg_other _ _ _ _ (by simpa using h 0 (by omega))

/-- Data registers hold the number loaded, modulo their width. -/
theorem dRegs_setDRegs (a v n : Nat) (s : State) : dRegs (setDRegs a v n s) a n = v % 2 ^ (32 * n) := by
  induction n generalizing a v s with
  | zero => simp [dRegs, Nat.mod_one]
  | succ n ih =>
    rw [dRegs, setDRegs, ih, reg_setDRegs_other _ _ _ _ _ (fun i _ => by omega), reg_setReg_same, BitVec.toNat_ofNat,
      show 2 ^ (32 * (n + 1)) = 2 ^ 32 * 2 ^ (32 * n) by rw [← pow_add]; congr 1; omega, Nat.mod_mul]

theorem pgu_setDRegs (a v n : Nat) (s : State) : (setDRegs a v n s).pgu = s.pgu := by
  induction n generalizing a v s with
  | zero => rfl
  | succ n ih => exact (ih _ _ _).trans rfl

/-- The state in which the command has ended and its effect is still to come. -/
def nodeEnded (s : State) : State :=
  setRegB (pa pgPgu offPGU_NODE_CMD) fPGU_NODE_CMD_BUSY false { s with pgu := { s.pgu with cmd := none } }

theorem pguSettle_due {s : State} {key at_ : Nat} {w : Option Nat} (hcmd : s.pgu.cmd = some (key, w, at_)) (hdue : at_ ≤ now s) :
    pguSettle s = match w with
      | some x => setPguNode key x (nodeEnded s)
      | none => setDRegs (pa pgPgu (offPGU_NODE_D 0)) (pguNode (nodeEnded s) key) 4 (nodeEnded s) := by
  simp only [pguSettle, hcmd, Nat.not_lt.mpr hdue, if_false]
  cases w <;> rfl

theorem busy_nodeEnded (s : State) : regB (nodeEnded s) (pa pgPgu offPGU_NODE_CMD) fPGU_NODE_CMD_BUSY = false :=
  regB_setRegB_same _ _ 31 false (by decide)

theorem reg_nodeEnded {a : Nat} (ha : a ≠ pa pgPgu offPGU_NODE_CMD) (s : State) : reg (nodeEnded s) a = reg s a :=
  reg_setReg_other _ _ _ _ ha

/-- A node is read off the parse graph's memory alone. -/
theorem pguNode_congr {s t : State} (hnodes : t.pgu.nodes = s.pgu.nodes) (hrom : t.pgu.rom = s.pgu.rom) (key : Nat) :
    pguNode t key = pguNode s key := by
  have hreset : nodeWordReset t = nodeWordReset s := by funext k; simp only [nodeWordReset, hrom]
  simp only [pguNode, hreset, hnodes]

theorem pguNode_nodeEnded (key : Nat) (s : State) : pguNode (nodeEnded s) key = pguNode s key := by
  have h : (nodeEnded s).pgu = { s.pgu with cmd := none } := rfl
  exact pguNode_congr (by rw [h]) (by rw [h]) key

/-- A write of a node ends: the node holds its word. -/
theorem nodeWrite_ends (key x : Nat) (s : State) :
    let t := setPguNode key x (nodeEnded s)
    regB t (pa pgPgu offPGU_NODE_CMD) fPGU_NODE_CMD_BUSY = false ∧ t.pgu.cmd = none ∧
    (∀ k, k ≠ key → pguNode t k = pguNode s k) ∧ pguNode t key = x ∧
    ∀ a, a ≠ pa pgPgu offPGU_NODE_CMD → reg t a = reg s a :=
  ⟨busy_nodeEnded s, rfl, fun k hk => (mget_mset_other _ _ _ _ _ hk).trans (pguNode_nodeEnded k s), mget_mset_same _ _ _ _,
    fun _ ha => reg_nodeEnded ha s⟩

/-- A read of a node ends: D0 to D3 hold it. -/
theorem nodeRead_ends (key : Nat) (s : State) :
    let t := setDRegs (pa pgPgu (offPGU_NODE_D 0)) (pguNode (nodeEnded s) key) 4 (nodeEnded s)
    regB t (pa pgPgu offPGU_NODE_CMD) fPGU_NODE_CMD_BUSY = false ∧ t.pgu.cmd = none ∧ (∀ k, pguNode t k = pguNode s k) ∧
    dRegs t (pa pgPgu (offPGU_NODE_D 0)) 4 = pguNode s key % 2 ^ 128 ∧
    ∀ a, a ∉ pa pgPgu offPGU_NODE_CMD :: (List.range 4).map (fun n => pa pgPgu (offPGU_NODE_D n)) → reg t a = reg s a := by
  have hpgu := pgu_setDRegs (pa pgPgu (offPGU_NODE_D 0)) (pguNode (nodeEnded s) key) 4 (nodeEnded s)
  refine ⟨?_, by rw [hpgu]; rfl, fun k => (pguNode_congr (by rw [hpgu]) (by rw [hpgu]) k).trans (pguNode_nodeEnded k s),
    by rw [dRegs_setDRegs, pguNode_nodeEnded], fun a ha => ?_⟩
  · rw [regB, reg_setDRegs_other _ _ _ _ _ (fun i hi => by simp only [pa, offPGU_NODE_CMD, offPGU_NODE_D]; omega)]
    exact busy_nodeEnded s
  · simp only [List.mem_cons, List.mem_map, List.mem_range, not_or, not_exists, not_and] at ha
    obtain ⟨hcmd, hdata⟩ := ha
    rw [reg_setDRegs_other _ _ _ _ _ (fun i hi h => hdata i hi (by rw [h]; simp only [pa, offPGU_NODE_D]; omega))]
    exact reg_nodeEnded hcmd s

end Sys2Proof.Machine
end

section
/-!
PROOFS. The configuration words of the tables (R128, R129, R151, R152), and the configuration registers together.
-/

namespace Sys2Proof.Machine
open Sys2Proof

/-! ### EMT_TBL_GEO (R128, R129) -/

theorem exists_single {o : Option RegRow} (h : o.any (fun r => r.half == .single) = true) :
    ∃ r, o = some r ∧ r.half = .single := by
  cases o with
  | none => simp at h
  | some r => exact ⟨r, rfl, by simpa using h⟩

theorem rowAt_emtGeo : ∀ n < 64, (rowAt (pa pgEmt (offEMT_TBL_GEO n))).any (fun r => r.half == .single) = true := by
  decide +kernel

theorem rowAt_thkCfg : ∀ n < 64, (rowAt (pa pgThk (offTHK_TBL_CFG n))).any (fun r => r.half == .single) = true := by
  decide +kernel

theorem reqWrite_emtGeo {s : State} {req n : Nat} {v : Word} (hn : n < 64)
    (hacc : accepts s req (pa pgEmt (offEMT_TBL_GEO n)) v = true) :
    reqWrite req (pa pgEmt (offEMT_TBL_GEO n)) v s = emtGeoWrite n v s := by
  have hlt : offEMT_TBL_GEO n < 0x1000 := by simp only [offEMT_TBL_GEO]; omega
  have hpage : pageOf (pa pgEmt (offEMT_TBL_GEO n)) = pgEmt := pageOf_pa _ _ hlt
  have hoff : offOf (pa pgEmt (offEMT_TBL_GEO n)) = offEMT_TBL_GEO n := offOf_pa _ _ hlt
  have hreg : isRegAddr (pa pgEmt (offEMT_TBL_GEO n)) = true := by
    have : pa pgEmt (offEMT_TBL_GEO n) < aSub := by simp only [pa, pgEmt, offEMT_TBL_GEO, aSub]; omega
    simp [isRegAddr, this]
  obtain ⟨r, hr, hhalf⟩ := exists_single (rowAt_emtGeo n hn)
  have hown : ownJudge .emt (offEMT_TBL_GEO n) = true := by simp [ownJudge, offEMT_TBL_GEO]; omega
  have hindex : (offEMT_TBL_GEO n - 0x100) / 16 = n := by simp only [offEMT_TBL_GEO]; omega
  have hword : offEMT_TBL_GEO n % 16 = 0 := by simp only [offEMT_TBL_GEO]; omega
  rw [reqWrite_accepted hacc hreg (k := .emt) (by rw [hpage]; rfl) hr hhalf
    (by rw [hoff]; simp only [offEMT_TBL_GEO]; omega) (by rw [hpage]; decide), hoff, hown, if_pos rfl]
  simp only [ownWrite, hindex, hword, if_true]

/-- A legal geometry of a table that is off is stored, and ENABLE starts the clear. -/
theorem emtGeoWrite_legal {s : State} {n : Nat} {v : Word} (hreset : inReset s pgEmt = false) (hres : natField v.toNat 19 17 = 0)
    (hlegal : emtGeoIllegal v = false) (hoff : emtOn s n = false) (hroom : emtEnableRefused s n v = false) :
    emtGeoWrite n v s =
      if fbit v fEMT_TBL_GEO_ENABLE then
        setRegB (pa pgEmt (offEMT_TBL_STS n)) fEMT_TBL_STS_CLEARING true (setReg (pa pgEmt (offEMT_TBL_GEO n)) v s)
      else setReg (pa pgEmt (offEMT_TBL_GEO n)) v s := by
  simp [emtGeoWrite, hreset, hres, hlegal, hoff, hroom]

/-! ### THK_TBL_CFG (R151, R152) -/

theorem reqWrite_thkCfg {s : State} {req n : Nat} {v : Word} (hn : n < 64)
    (hacc : accepts s req (pa pgThk (offTHK_TBL_CFG n)) v = true) :
    reqWrite req (pa pgThk (offTHK_TBL_CFG n)) v s = shiftOff n (thkCfgWrite n v s) := by
  have hlt : offTHK_TBL_CFG n < 0x1000 := by simp only [offTHK_TBL_CFG]; omega
  have hpage : pageOf (pa pgThk (offTHK_TBL_CFG n)) = pgThk := pageOf_pa _ _ hlt
  have hoff : offOf (pa pgThk (offTHK_TBL_CFG n)) = offTHK_TBL_CFG n := offOf_pa _ _ hlt
  have hreg : isRegAddr (pa pgThk (offTHK_TBL_CFG n)) = true := by
    have : pa pgThk (offTHK_TBL_CFG n) < aSub := by simp only [pa, pgThk, offTHK_TBL_CFG, aSub]; omega
    simp [isRegAddr, this]
  obtain ⟨r, hr, hhalf⟩ := exists_single (rowAt_thkCfg n hn)
  have hown : ownJudge .thk0 (offTHK_TBL_CFG n) = true := by simp [ownJudge, offTHK_TBL_CFG]; omega
  have hindex : (offTHK_TBL_CFG n - 0x100) / 8 = n := by simp only [offTHK_TBL_CFG]; omega
  rw [reqWrite_accepted hacc hreg (k := .thk0) (by rw [hpage]; rfl) hr hhalf
    (by rw [hoff]; simp only [offTHK_TBL_CFG]; omega) (by rw [hpage]; decide), hoff, hown, if_pos rfl]
  simp only [ownWrite, hindex]

/-- A legal configuration of a table that is off is stored, and ENABLE starts the clear. -/
theorem thkCfgWrite_rising {s : State} {n : Nat} {v : Word} (hreset : inReset s pgThk = false) (h1 : natField v.toNat 28 23 = 0)
    (h2 : natField v.toNat 15 15 = 0) (h3 : natField v.toNat 7 6 = 0) (hlegal : thkCfgIllegal v = false)
    (hoff : thkOn s n = false) (hroom : thkEnableRefused s n v = false) :
    thkCfgWrite n v s =
      if fbit v fTHK_TBL_CFG_ENABLE then
        setRegB (pa pgThk (offTHK_TBL_STS n)) fTHK_TBL_STS_CLEARING true (setReg (pa pgThk (offTHK_TBL_CFG n)) v s)
      else setReg (pa pgThk (offTHK_TBL_CFG n)) v s := by
  simp [thkCfgWrite, hreset, h1, h2, h3, hlegal, hoff, hroom]

/-- ENABLE of a table that is on goes to 0, its other bits as they were. -/
theorem thkCfgWrite_falling {s : State} {n : Nat} {v : Word} (hreset : inReset s pgThk = false) (h1 : natField v.toNat 28 23 = 0)
    (h2 : natField v.toNat 15 15 = 0) (h3 : natField v.toNat 7 6 = 0) (hlegal : thkCfgIllegal v = false)
    (hen : fbit v fTHK_TBL_CFG_ENABLE = false) (hsame : natField v.toNat 30 0 = natField (thkCfg s n).toNat 30 0) :
    thkCfgWrite n v s = setReg (pa pgThk (offTHK_TBL_CFG n)) v s := by
  simp [thkCfgWrite, hreset, h1, h2, h3, hlegal, hen, hsame]

theorem thkShifting_setReg (a : Nat) (v : Word) (s : State) (n : Nat) : thkShifting (setReg a v s) n = thkShifting s n := rfl

/-- Without an insertion under way nothing ends (R152). -/
theorem shiftOff_idle {s : State} {n : Nat} (h : thkShifting s n = false) : shiftOff n s = s := by
  simp [shiftOff, h]

/-- The state in which the insertion of table `n` has stopped and the command of queue `q` is to complete. -/
def shiftStopped (n q : Nat) (s : State) : State :=
  { s with thk := { s.thk with shifts := s.thk.shifts.filter (fun y => y.table != n) },
           tae := { s.tae with exec := mdel s.tae.exec q } }

/-- An insertion under way in a table that is off completes its command with BAD_FORMAT (R152). -/
theorem shiftOff_shifting {s : State} {n q : Nat} {c : TaeCmd} (hon : thkOn s n = false) (hshift : thkShifting s n = true)
    (hexec : s.tae.exec.find? (fun e => tcSpace e.2.bytes == 2 && tcTable e.2.bytes == n) = some (q, c)) :
    shiftOff n s = taeFinish q c.bytes (resPlain tsBadFormat 0) (shiftStopped n q s) := by
  simp only [shiftOff, hon, hshift, Bool.not_true, Bool.or_self, Bool.false_eq_true, if_false, hexec]
  rfl

theorem length_leBytes (k n : Nat) : (leBytes k n).length = k := by
  induction k generalizing n with
  | zero => rfl
  | succ k ih => simp [leBytes, ih]

theorem length_padTo (n : Nat) (bs : Bytes) : (padTo n bs).length = n := by
  simp [padTo]

theorem length_completion (c : Bytes) (r : TaeRes) (k : Nat) : (completion c r k).length = 128 := by
  simp [completion, length_leBytes, length_padTo]

/-- What the completion of the stopped insertion leaves. -/
theorem shiftStopped_completes (s : State) (n q : Nat) (c : Bytes) (r : TaeRes) (hn : n < 64) :
    let t := taeFinish q c r (shiftStopped n q s)
    thkCfg t n = thkCfg s n ∧ thkShifting t n = false ∧ mfind t.tae.exec q = none ∧
    (q ≠ 0 → t.tae.sapC = s.tae.sapC ++ [completion c r s.tae.sapDone]) ∧
    (q = 0 → ∀ i, i < 128 → mget (fun _ => 0) t.tae.comp (s.tae.hostDone % 256 * 128 + i) =
      byteAt (completion c r s.tae.hostDone) i) := by
  obtain ⟨hthk, hexec⟩ := thk_taeFinish q c r (shiftStopped n q s)
  have hpage : pageOf (pa pgThk (offTHK_TBL_CFG n)) = pgThk := pageOf_pa _ _ (by simp only [offTHK_TBL_CFG]; omega)
  refine ⟨?_, ?_, ?_, fun hq => ?_, fun hq i hi => ?_⟩
  · refine ((keepsRegs_taeFinish q c r (shiftStopped n q s)).reg _ ?_ ?_).trans rfl
    · rw [Noise, hpage]
      simp only [pa, offIRQ_STS, pgClr, pgThk, pgPcie, pgPba, offTHK_TBL_CFG]; omega
    · simp only [CompWord, pa, offIRQ_STS, pgTae, pgThk, offTAE_HCQ_HEAD, offTHK_TBL_CFG]; omega
  · rw [thkShifting, hthk]
    simp [shiftStopped]
  · rw [hexec]
    exact mfind_mdel_same _ _
  · rw [taeFinish, if_neg hq]
    rfl
  · subst hq
    rw [(aside_taeFinish_host c r (shiftStopped n 0 s)).tae]
    exact comp_compWrite _ i _ _ (by rw [length_completion]; exact hi)

/-- A word stored, with the flag of another word set where ENABLE is: what R129 and R152 say of both. -/
theorem gives_tableEnabled {c : Instr} {s : State} {f : State → State} {a b : Nat} {v : Word} {on : Bool} {i : Nat}
    (hs : stopped s = false) (hc : exec c s = act f s) (hi : i < 32) (hab : a ≠ b)
    (hf : f s = if on then setRegB b ⟨i, i⟩ true (setReg a v s) else setReg a v s) :
    Gives c s (fun t => reg t a = v ∧ (on = true → regB t b ⟨i, i⟩ = true) ∧ OnlyRegs [a, b] s t) := by
  have hone : OnlyRegs [a, b] s (setReg a v s) := onlyRegs_refl.setReg (by simp) v
  cases on with
  | false => exact hone.gives hs hc hf ⟨reg_setReg_same _ _ _, by simp, hone⟩
  | true =>
    have hboth := hone.setRegB (a := b) (by simp) ⟨i, i⟩ true
    refine hboth.gives hs hc hf ⟨?_, fun _ => regB_setRegB_same _ _ i true hi, hboth⟩
    rw [Machine.setRegB, Machine.setRegF, reg_setReg_other _ _ _ _ hab, reg_setReg_same]

/-- Settles O14: each write comes to the effect of its register, stated above. -/
theorem configurationWritesTakeEffect : Obligations.ConfigurationWritesTakeEffect := by
  intro s req v hs
  refine ⟨fun p hp hacc => ?_, fun hacc => ?_, ⟨fun bank node hb hn hacc => ⟨fun hidle => ?_, fun hbusy => ?_⟩,
    fun bank node hb hn hacc => ⟨fun hidle hlegal => ?_, fun hidle hlegal => ?_, fun hbusy => ?_⟩,
    fun n hn hbusy hacc => ?_, fun key w at_ hcmd hdue => ?_⟩,
    fun n hn hacc hres hlegal hoff hroom => ?_,
    fun n hn hacc h1 h2 h3 hlegal hoff hroom hidle => ?_,
    fun n q c hn hacc h1 h2 h3 hlegal hon hen hsame hshift hexec => ?_⟩
  · obtain ⟨r, hr, hhalf, hapart⟩ := rowAt_macCfg hp
    have hf := reqWrite_macCfg hp hacc hr hhalf
    have hstored : reg (storeWord r (pa (macPage p) offMAC_CFG) (rowMerge r (reg s (pa (macPage p) offMAC_CFG)) v) s)
        (pa (macPage p) offMAC_CFG) = rowMerge r (reg s (pa (macPage p) offMAC_CFG)) v :=
      (reg_storeWord _ _ _ _ _).trans (if_pos rfl)
    refine gives_act hs rfl ?_
    rw [hf]
    refine ⟨written_of_reg (old := reg s (pa (macPage p) offMAC_CFG)) hr hapart ?_, fun hquiet => ?_⟩
    · rw [reg_boardKeeps, reg_macCfgWrite hp, hstored]
    · rw [hquiet r hr]
      exact ⟨fun a ha => (reg_storeWord r _ a _ s).trans (if_neg ha), rfl⟩
  · refine gives_act hs rfl ?_
    rw [reqWrite_fragSeed hacc]
    exact ⟨reg_fragSeed v s, frag_fragClear _⟩
  · have hf := (reqWrite_nodeCmd hacc).trans (pguNodeCmd_nodeCmd (by decide) hb hn s)
    rw [if_pos rfl, pguNodeRead, pguBusy_of_none hidle] at hf
    exact gives_act_eq hs rfl hf rfl (pguStart_spec _ _ s)
  · have hf := (reqWrite_nodeCmd hacc).trans (pguNodeCmd_nodeCmd (by decide) hb hn s)
    rw [if_pos rfl, pguNodeRead, pguBusy_of_ne_none hbusy, if_pos rfl] at hf
    exact gives_act_eq hs rfl hf rfl rfl
  · have hf := (reqWrite_nodeCmd hacc).trans (pguNodeCmd_nodeCmd (by decide) hb hn s)
    rw [if_neg (by decide), pguNodeWrite, pguBusy_of_none hidle, if_neg (by decide)] at hf
    dsimp only at hf
    rw [hlegal] at hf
    exact gives_act_eq hs rfl hf rfl (pguStart_spec _ _ s)
  · have hf := (reqWrite_nodeCmd hacc).trans (pguNodeCmd_nodeCmd (by decide) hb hn s)
    rw [if_neg (by decide), pguNodeWrite, pguBusy_of_none hidle, if_neg (by decide)] at hf
    dsimp only at hf
    rw [hlegal, if_pos rfl] at hf
    have honly := onlyRegs_refuse pgPgu offPGU_NODE_CMD reasonEncoding s
    exact honly.gives hs rfl hf ⟨refused_refuse _ _ _ s, honly⟩
  · have hf := (reqWrite_nodeCmd hacc).trans (pguNodeCmd_nodeCmd (by decide) hb hn s)
    rw [if_neg (by decide), pguNodeWrite, pguBusy_of_ne_none hbusy, if_pos rfl] at hf
    exact gives_act_eq hs rfl hf rfl rfl
  · have hreach : reaches s req = true := by
      simp only [accepts, Bool.and_eq_true] at hacc
      exact hacc.1
    have hf := reqWrite_nodeData_busy hn hbusy hacc
    refine gives_act_eq (u := s) hs rfl ?_ rfl rfl
    have halign : pa pgPgu (offPGU_NODE_D n) / 4 * 4 = pa pgPgu (offPGU_NODE_D n) := by
      simp only [pa, offPGU_NODE_D]; omega
    rw [if_pos hreach]
    rw [reqWrite, if_pos hreach] at hf
    simpa [busWrite, halign] using hf
  · rw [pguSettle_due hcmd hdue]
    cases w with
    | some x =>
      obtain ⟨hbusy, hnone, hother, hkey, hregs⟩ := nodeWrite_ends key x s
      refine ⟨hbusy, hnone, hother, fun y hy => ?_, by simp⟩
      obtain rfl : x = y := by simpa using hy
      exact ⟨hkey, hregs⟩
    | none =>
      obtain ⟨hbusy, hnone, hnodes, hdata, hregs⟩ := nodeRead_ends key s
      exact ⟨hbusy, hnone, fun k _ => hnodes k, by simp, fun _ => ⟨hdata, hnodes key, hregs⟩⟩
  · have hexec : exec (.emtTblGeo req n v) s = act (reqWrite req (pa pgEmt (offEMT_TBL_GEO n)) v) s := by
      conv_rhs => rw [← Nat.mod_eq_of_lt hn]
      rfl
    have hpage : pageOf (pa pgEmt (offEMT_TBL_GEO n)) = pgEmt := pageOf_pa _ _ (by simp only [offEMT_TBL_GEO]; omega)
    have hreset := inReset_of_accepts hacc (by rw [hpage]; rfl)
    rw [hpage] at hreset
    exact gives_tableEnabled hs hexec (by decide) (by simp only [pa, offEMT_TBL_GEO, offEMT_TBL_STS]; omega)
      ((reqWrite_emtGeo hn hacc).trans (emtGeoWrite_legal hreset hres hlegal hoff hroom))
  · have hexec : exec (.thkTblCfg req n v) s = act (reqWrite req (pa pgThk (offTHK_TBL_CFG n)) v) s := by
      conv_rhs => rw [← Nat.mod_eq_of_lt hn]
      rfl
    have hpage : pageOf (pa pgThk (offTHK_TBL_CFG n)) = pgThk := pageOf_pa _ _ (by simp only [offTHK_TBL_CFG]; omega)
    have hreset := inReset_of_accepts hacc (by rw [hpage]; rfl)
    rw [hpage] at hreset
    have hwrite := thkCfgWrite_rising hreset h1 h2 h3 hlegal hoff hroom
    have hstill : thkShifting (thkCfgWrite n v s) n = false := by
      rw [hwrite]
      split_ifs
      · exact (thkShifting_setReg _ _ _ _).trans ((thkShifting_setReg _ _ _ _).trans hidle)
      · exact (thkShifting_setReg _ _ _ _).trans hidle
    exact gives_tableEnabled hs hexec (by decide) (by simp only [pa, offTHK_TBL_CFG, offTHK_TBL_STS]; omega)
      ((reqWrite_thkCfg hn hacc).trans ((shiftOff_idle hstill).trans hwrite))
  · have hexec' : exec (.thkTblCfg req n v) s = act (reqWrite req (pa pgThk (offTHK_TBL_CFG n)) v) s := by
      conv_rhs => rw [← Nat.mod_eq_of_lt hn]
      rfl
    have hpage : pageOf (pa pgThk (offTHK_TBL_CFG n)) = pgThk := pageOf_pa _ _ (by simp only [offTHK_TBL_CFG]; omega)
    have hreset := inReset_of_accepts hacc (by rw [hpage]; rfl)
    rw [hpage] at hreset
    have hcfg : thkCfg (setReg (pa pgThk (offTHK_TBL_CFG n)) v s) n = v := reg_setReg_same _ _ _
    have hoff : thkOn (setReg (pa pgThk (offTHK_TBL_CFG n)) v s) n = false := by rw [thkOn, hcfg]; exact hen
    have hf := (reqWrite_thkCfg hn hacc).trans ((congrArg (shiftOff n)
      (thkCfgWrite_falling hreset h1 h2 h3 hlegal hen hsame)).trans (shiftOff_shifting hoff hshift hexec))
    obtain ⟨hcfg', hdone, hgone, hsap, hhost⟩ := shiftStopped_completes (setReg (pa pgThk (offTHK_TBL_CFG n)) v s) n q c.bytes
      (resPlain tsBadFormat 0) hn
    refine gives_act hs hexec' ?_
    rw [hf]
    refine ⟨?_, hdone, hgone, hsap, hhost⟩
    rw [thkCfg] at hcfg'
    rw [thkOn, thkCfg, reg_boardKeeps, hcfg', hcfg]
    exact hen

end Sys2Proof.Machine
end

section
/-!
PROOFS. What the closing and the reset of a block write of the registers: Groves and their loans (R201, R204), and the queues of the
table engine (R59, R169).
-/

namespace Sys2Proof.Machine
open Sys2Proof

section
variable {W : Nat → Prop} {s t u : State}

/-- Where registers and what blocks hold of them stay, so does the relation. -/
theorem KeepsRegs.same (h : KeepsRegs W s t) (hstraps : u.straps = t.straps) (hregs : u.bus.regs = t.bus.regs)
    (hold : u.bus.old = t.bus.old) : KeepsRegs W s u :=
  ⟨hstraps.trans h.straps, hold.trans h.old, fun a hn hw => by rw [← h.reg a hn hw, Machine.reg, hstraps, hregs]; rfl⟩

theorem KeepsRegs.of_aside (h : aside t = aside s) : KeepsRegs W s t := (Aside.of_same h).toKeepsRegs

theorem KeepsRegs.step (h : KeepsRegs W s t) (he : aside u = aside t) : KeepsRegs W s u := h.trans (.of_aside he)

theorem KeepsRegs.withTae (h : KeepsRegs W s t) (x : TaeSt) (y : RwSt) : KeepsRegs W s { t with tae := x, rw := y } :=
  ⟨h.straps, h.old, h.reg⟩

theorem KeepsRegs.withGrv (h : KeepsRegs W s t) (x : GrvSt) (c : NMap Nat) :
    KeepsRegs W s { t with grv := x, bus := { t.bus with ctr := c } } :=
  ⟨h.straps, h.old, h.reg⟩

/-! ### Passes abandoned (R224 to R227) -/

theorem keepsRegs_fragFail (p : Pass) (s : State) : KeepsRegs W s (fragFail p s) := by
  unfold fragFail
  split
  · exact .refl s
  · next i e _ =>
    have hfailed : KeepsRegs W s (setFrag i (some (fragWith e 3)) s) := ⟨rfl, rfl, fun _ _ _ => rfl⟩
    exact hfailed.trans (aside_orphanHeld i 0x41 _).toKeepsRegs

theorem keepsRegs_finalAbandon (k reason : Nat) (s : State) : KeepsRegs W s (finalAbandon k reason s) := by
  unfold finalAbandon
  split
  · exact .refl s
  · next p _ =>
    have hfail : KeepsRegs W s (fragFail p s) := keepsRegs_fragFail p s
    dsimp only
    split_ifs
    · exact hfail.trans (.of_aside (by simp))
    · have hexc := hfail.trans (aside_toException k reason (excRecord p reason) _).toKeepsRegs
      split
      · exact hexc.trans (.of_aside (by simp))
      · exact hexc

@[simp] theorem aside_releaseLocks (k : Nat) (s : State) : aside (releaseLocks k s) = aside s := rfl

theorem aside_polReturn (r : PolRes) (s : State) : aside (polReturn r s) = aside s := aside_store _ s

/-- An abandon for a drain raises no interrupt of the Grove (R224, R225). -/
theorem keepsRegs_abandonDrain (t : Nat) (s : State) : KeepsRegs W s (abandon t causeDrain 0 0 s) := by
  unfold abandon
  dsimp only
  split
  · exact .of_aside (aside_freeThread t s)
  · next p _ =>
    have hout : ∀ k p1 l, KeepsRegs W s (forAll polReturn l (releaseLocks k (setPass k p1 (freeThread t
        (count dev (causeCounter causeDrain) (count (grvPage (thGrove t)) cGrv_ABANDONS s)))))) := fun k p1 l =>
      .of_aside ((aside_forAll aside_polReturn _ _).trans (by simp))
    have hcause : ¬ causeDrain ≤ 5 ∧ ¬ causeDrain = causeWatchdog ∧ ¬ causeDrain = causeEdit := by decide
    simp only [hcause, if_false]
    split_ifs
    · exact (((hout _ _ _).trans (keepsRegs_fragFail _ _)).step (aside_endPass _ _)).step (aside_count _ _ _)
    · exact (hout _ _ _).same rfl rfl rfl
    · exact (hout _ _ _).trans (keepsRegs_finalAbandon _ _ _)

theorem keepsRegs_clearThread (t : Nat) (s : State) : KeepsRegs W s (clearThread causeDrain t s) := by
  unfold clearThread
  dsimp only
  split_ifs
  · exact .of_aside (aside_unreserve t s)
  · exact keepsRegs_abandonDrain t s
  · exact .refl s

theorem keepsRegs_clearThreads (l : List Nat) (s : State) : KeepsRegs W s (forAll (clearThread causeDrain) l s) :=
  KeepsRegs.forAll (fun t u => keepsRegs_clearThread t u) l s

end

/-! ### Loans (R201) -/

/-- The words that loans write: GRV_ENG_SVC and GRV_ENG_LOAN of the Groves. -/
def LoanWord (a : Nat) : Prop := ∃ g, a = pa (grvPage g) offGRV_ENG_SVC ∨ a = pa (grvPage g) offGRV_ENG_LOAN

/-- One engine is lent, or its loan ends. -/
theorem keepsRegs_lend (g e : Nat) (b : Bool) (s : State) :
    KeepsRegs LoanWord s (setEngBit offGRV_ENG_LOAN g e b (setEngBit offGRV_ENG_SVC g e b s)) :=
  ((KeepsRegs.refl s).setReg (.inr ⟨g, .inl rfl⟩) _).setReg (.inr ⟨g, .inr rfl⟩) _

theorem keepsRegs_startLoans (g : Nat) (s : State) : KeepsRegs LoanWord s (startLoans g s) := by
  refine KeepsRegs.forAll (fun x u => ?_) _ s
  split_ifs
  · exact .refl u
  · refine KeepsRegs.forAll (fun e w => ?_) _ u
    split_ifs
    · exact keepsRegs_lend x e true w
    · exact .refl w

theorem keepsRegs_endLoans (s : State) : KeepsRegs LoanWord s (endLoans s) := by
  unfold endLoans
  split_ifs
  · exact .refl s
  · refine KeepsRegs.forAll (fun x u => ?_) _ s
    refine KeepsRegs.forAll (fun e w => ?_) _ u
    split_ifs
    · exact keepsRegs_lend x e false w
    · exact .refl w

theorem keepsRegs_grvQuiesce (g : Nat) (s : State) : KeepsRegs LoanWord s (grvQuiesce g s) := by
  have hdrain : KeepsRegs LoanWord s { s with grv := { s.grv with drainAt := mput s.grv.drainAt g (now s) } } :=
    ⟨rfl, rfl, fun _ _ _ => rfl⟩
  exact (hdrain.trans (keepsRegs_startLoans g _)).trans
    (KeepsRegs.forAll (fun k u => .of_aside (aside_moveHeld g k u)) _ _)

theorem keepsRegs_grvDisable (g : Nat) (s : State) : KeepsRegs LoanWord s (grvDisable g s) :=
  (keepsRegs_clearThreads _ s).trans (keepsRegs_startLoans g _)

/-- What a Grove's soft reset writes (R204): the bits of its engines. -/
theorem keepsRegs_grvSoftReset (g : Nat) (s : State) :
    KeepsRegs (fun a => a = pa (grvPage g) offGRV_ENG_SVC ∨ a = pa (grvPage g) offGRV_ENG_FENCE ∨
      a = pa (grvPage g) offGRV_ENG_LOAN) s (grvSoftReset g s) := by
  refine KeepsRegs.withGrv ?_ _ _
  exact (((keepsRegs_clearThreads _ s).setReg (.inr (.inl rfl)) _).setReg (.inr (.inr (.inl rfl))) _).setReg
    (.inr (.inr (.inr rfl))) _

/-! ### The table engine's queues (R59, R169) -/

section
variable {W : Nat → Prop}

theorem keepsRegs_setThkEntry (t c x : Nat) (e : ThkRow) (s : State) : KeepsRegs W s (setThkEntry t c x e s) := by
  unfold setThkEntry
  dsimp only
  split_ifs <;> exact ⟨rfl, rfl, fun _ _ _ => rfl⟩

theorem keepsRegs_shiftsEnd (t : Nat) (h : ThkShift) (s : State) : KeepsRegs W s (shiftsEnd t h s) := by
  refine KeepsRegs.trans ?_ (KeepsRegs.forAll (fun c u => keepsRegs_setThkEntry t c h.pos _ u) _ _)
  refine KeepsRegs.same (t := forAll _ h.copies s) (KeepsRegs.forAll (fun c u => ?_) _ _) rfl rfl rfl
  refine KeepsRegs.forAll (fun m w => ?_) _ u
  exact (keepsRegs_setThkEntry t c.copy m.2 _ w).trans (.of_aside (aside_count _ _ _))

theorem keepsRegs_execEnd (q : Nat) (s : State) : KeepsRegs W s (execEnd q s).1 := by
  have hout : KeepsRegs W s { s with tae := { s.tae with exec := mdel s.tae.exec q } } := ⟨rfl, rfl, fun _ _ _ => rfl⟩
  unfold execEnd
  split
  · exact .refl s
  · dsimp only
    split
    · exact hout
    · split_ifs
      · exact hout.trans (keepsRegs_shiftsEnd _ _ _)
      · exact hout.same rfl rfl rfl

/-- A completion in the Sapwood queue writes no register. -/
theorem keepsRegs_taeFinish_sap (c : Bytes) (r : TaeRes) (s : State) : KeepsRegs W s (taeFinish 1 c r s) :=
  ⟨rfl, rfl, fun _ _ _ => rfl⟩

theorem keepsRegs_sapAbort (l : List TaeCmd) (s : State) : KeepsRegs W s (sapAbort l s) := by
  induction l generalizing s with
  | nil => exact .refl s
  | cons c l ih => exact (keepsRegs_taeFinish_sap _ _ s).trans (ih _)

theorem keepsRegs_sapQueueReset (s : State) : KeepsRegs W s (sapQueueReset s) := by
  have hend := keepsRegs_execEnd (W := W) 1 s
  unfold sapQueueReset
  dsimp only
  refine KeepsRegs.trans ?_ (keepsRegs_sapAbort _ _)
  refine KeepsRegs.trans (t := match (execEnd 1 s).2 with
    | .ended c x => taeFinish 1 c.bytes (resPlain tsOk x) (execEnd 1 s).1
    | .fresh c => taeFinish 1 c.bytes (resPlain tsAborted 0) (execEnd 1 s).1
    | .none => (execEnd 1 s).1) ?_ ⟨rfl, rfl, fun _ _ _ => rfl⟩
  split
  · exact hend.trans (keepsRegs_taeFinish_sap _ _ _)
  · exact hend.trans (keepsRegs_taeFinish_sap _ _ _)
  · exact hend

end

/-- The registers that the reset of the host queue writes (R59). -/
def QueueWord (a : Nat) : Prop :=
  a ∈ [pa pgTae offTAE_ABORT, pa pgTae offTAE_ABORT_TAG, pa pgTae offTAE_HSQ_TAIL, pa pgTae offTAE_HSQ_HEAD,
    pa pgTae offTAE_HCQ_HEAD]

theorem keepsRegs_hostQueueReset (s : State) : KeepsRegs QueueWord s (hostQueueReset s) := by
  have hword : ∀ a, QueueWord a → ∀ {t}, KeepsRegs QueueWord s t → ∀ v, KeepsRegs QueueWord s (setReg a v t) :=
    fun a ha _ h v => h.setReg (.inr ha) v
  unfold hostQueueReset
  dsimp only
  refine KeepsRegs.withTae ?_ _ _
  refine hword _ (by simp [QueueWord]) (hword _ (by simp [QueueWord]) (hword _ (by simp [QueueWord]) ?_ _) _) _
  exact hword _ (by simp [QueueWord]) (hword _ (by simp [QueueWord]) (keepsRegs_execEnd 0 s) _) _

theorem keepsRegs_taeSoftReset (s : State) : KeepsRegs QueueWord s (taeSoftReset s) :=
  (keepsRegs_sapQueueReset s).trans (keepsRegs_hostQueueReset _)

theorem keepsRegs_thkAbort (q : Nat) (s : State) : KeepsRegs CompWord s (thkAbort q s) := by
  unfold thkAbort
  split
  · exact .refl s
  · next c _ =>
    have hout : KeepsRegs CompWord s { s with tae := { s.tae with exec := mdel s.tae.exec q } } := ⟨rfl, rfl, fun _ _ _ => rfl⟩
    exact hout.trans (keepsRegs_taeFinish _ _ _ _)

theorem keepsRegs_thkSoftReset (s : State) : KeepsRegs CompWord s (thkSoftReset s) := by
  have hstop : KeepsRegs CompWord s { s with thk := { s.thk with shifts := [], repair := [] } } := ⟨rfl, rfl, fun _ _ _ => rfl⟩
  exact (hstop.trans (keepsRegs_thkAbort 0 _)).trans (keepsRegs_thkAbort 1 _)

end Sys2Proof.Machine
end

section
/-!
PROOFS. ENABLE, QUIESCE and SOFT_RESET (R37, R43, R44).
-/

namespace Sys2Proof.Machine
open Sys2Proof

/-! ### The words of a page's header -/

/-- A word of a page that has no part in the noting of a drop. -/
theorem not_noise_of_page {a : Nat} (hclr : pageOf a ≠ pgClr) (hpcie : pageOf a ≠ pgPcie) (hpba : pageOf a ≠ pgPba) :
    ¬ Noise a := by
  rintro (hn | ⟨hn, -⟩ | hn)
  · exact hclr (hn ▸ pageOf_pa _ _ (by decide))
  · exact hpcie hn
  · exact hpba hn

theorem groveOf_some {page g : Nat} (h : groveOf page = some g) : page = grvPage g ∧ g < 32 := by
  unfold groveOf at h
  split_ifs at h with hpage
  simp only [Bool.and_eq_true, decide_eq_true_eq, Option.some.injEq] at hpage h
  simp only [grvPage]
  omega

theorem pageOf_grv (g : Nat) {off : Nat} (ho : off < 0x1000) : pageOf (pa (grvPage g) off) = grvPage g := pageOf_pa _ _ ho

/-- A header word of a Grove's page is no word of a loan. -/
theorem not_loanWord_header (page : Nat) {off : Nat} (ho : off < 0x40) : ¬ LoanWord (pa page off) := by
  rintro ⟨x, hx | hx⟩
  · simp only [pa, offGRV_ENG_SVC] at hx; omega
  · simp only [pa, offGRV_ENG_LOAN] at hx; omega

theorem not_noise_grv {g off : Nat} (hg : g < 32) (ho : off < 0x1000) : ¬ Noise (pa (grvPage g) off) := by
  have hpage := pageOf_grv g ho
  refine not_noise_of_page ?_ ?_ ?_ <;> rw [hpage] <;> simp only [grvPage, pgClr, pgPcie, pgPba] <;> omega

/-! ### ENABLE and QUIESCE (R37, R43) -/

/-- ENABLE written, with what the Lookout notes of it (R408). -/
def enableNoted (page : Nat) (b echo : Bool) (s : State) : State :=
  let s1 := setRegB (pa page offCtl) fPAGE_CTL_ENABLE b s
  if b then
    (if s1.lko.disabled.contains page then
      echoAfter page { s1 with lko := { s1.lko with disabled := nsErase s1.lko.disabled page } } else s1)
  else if echo then { s1 with lko := { s1.lko with disabled := nsInsert s1.lko.disabled page } }
  else s1

/-- What the block of a page does as ENABLE changes. -/
def enableActs (page : Nat) (b : Bool) (s : State) : State :=
  match macPort page, groveOf page with
  | some p, _ => quadRefresh (quadPage p) s
  | none, some g => if b then endLoans s else grvDisable g s
  | none, none => s

theorem setEnable_change {s : State} {page : Nat} {b : Bool} (echo : Bool) (h : enabled s page ≠ b) :
    setEnable page b echo s = enableActs page b (enableNoted page b echo s) := by
  unfold setEnable
  rw [if_neg (by simpa using h)]
  rfl

theorem reg_enableNoted (page : Nat) (b echo : Bool) (s : State) (a : Nat) :
    reg (enableNoted page b echo s) a = reg (setRegB (pa page offCtl) fPAGE_CTL_ENABLE b s) a := by
  unfold enableNoted
  dsimp only
  generalize setRegB (pa page offCtl) fPAGE_CTL_ENABLE b s = t
  split_ifs <;> rfl

/-- What follows in a block leaves the header of its page, interrupts apart. -/
theorem reg_enableActs (page : Nat) (b : Bool) (s : State) : reg (enableActs page b s) (pa page offCtl) = reg s (pa page offCtl) := by
  unfold enableActs
  split
  · next p _ hport =>
    obtain ⟨rfl, hp⟩ := macPort_some hport
    exact (aside_quadRefresh _ s).reg _ (not_noise_mac hp (by decide))
      (not_linkWord_mac hp (by decide) (by decide) (by decide))
  · next g _ hgrove =>
    obtain ⟨rfl, hg⟩ := groveOf_some hgrove
    have hnoise : ¬ Noise (pa (grvPage g) offCtl) := not_noise_grv hg (by decide)
    have hloan : ¬ LoanWord (pa (grvPage g) offCtl) := not_loanWord_header _ (by decide)
    split_ifs
    · exact (keepsRegs_endLoans s).reg _ hnoise hloan
    · exact (keepsRegs_grvDisable g s).reg _ hnoise hloan
  · rfl

theorem setEnable_spec (s : State) (page : Nat) (b echo : Bool) :
    enabled (setEnable page b echo s) page = b ∧ quiesceReq (setEnable page b echo s) page = quiesceReq s page := by
  by_cases h : enabled s page = b
  · subst h
    rw [setEnable_self]
    exact ⟨rfl, rfl⟩
  · rw [setEnable_change echo h, enabled, quiesceReq, regB, regB, reg_enableActs, reg_enableNoted]
    exact ⟨regB_setRegB_same s _ 0 b (by decide), regB_setRegB_bit s _ 0 1 b (by decide)⟩

/-- QUIESCE written, and QUIESCED cleared where it is 0. -/
def quiesceNoted (page : Nat) (b : Bool) (s : State) : State :=
  let s1 := setRegB (pa page offCtl) fPAGE_CTL_QUIESCE b s
  if b then s1 else setRegB (pa page offSts) fPAGE_STS_QUIESCED false s1

/-- What the block of a page does as QUIESCE changes. -/
def quiesceActs (page : Nat) (b : Bool) (s : State) : State :=
  match groveOf page with
  | some g => if b then grvQuiesce g s else endLoans { s with grv := { s.grv with drainAt := mdel s.grv.drainAt g } }
  | none => s

theorem setQuiesce_change {s : State} {page : Nat} {b : Bool} (hcap : capQuiesce page = true) (h : quiesceReq s page ≠ b) :
    setQuiesce page b s = quiesceActs page b (quiesceNoted page b s) := by
  unfold setQuiesce quiesceActs quiesceNoted
  rw [if_neg (by simpa [hcap] using h)]
  dsimp only
  cases groveOf page with
  | none => cases b <;> rfl
  | some g => cases b <;> simp only [if_true, Bool.false_eq_true, if_false]

theorem reg_quiesceNoted (page : Nat) (b : Bool) (s : State) :
    reg (quiesceNoted page b s) (pa page offCtl) = reg (setRegB (pa page offCtl) fPAGE_CTL_QUIESCE b s) (pa page offCtl) := by
  unfold quiesceNoted
  dsimp only
  split_ifs
  · rfl
  · exact reg_setReg_other _ _ _ _ (pa_ne page _ _ (by decide))

theorem reg_quiesceActs (page : Nat) (b : Bool) (s : State) : reg (quiesceActs page b s) (pa page offCtl) = reg s (pa page offCtl) := by
  unfold quiesceActs
  split
  · next g hgrove =>
    obtain ⟨rfl, hg⟩ := groveOf_some hgrove
    have hnoise : ¬ Noise (pa (grvPage g) offCtl) := not_noise_grv hg (by decide)
    have hloan : ¬ LoanWord (pa (grvPage g) offCtl) := not_loanWord_header _ (by decide)
    split_ifs
    · exact (keepsRegs_grvQuiesce g s).reg _ hnoise hloan
    · exact (keepsRegs_endLoans { s with grv := { s.grv with drainAt := mdel s.grv.drainAt g } }).reg _ hnoise hloan
  · rfl

theorem setQuiesce_spec (s : State) (page : Nat) (b : Bool) (hcap : capQuiesce page = true) :
    quiesceReq (setQuiesce page b s) page = b ∧ enabled (setQuiesce page b s) page = enabled s page := by
  by_cases h : quiesceReq s page = b
  · subst h
    rw [setQuiesce_self]
    exact ⟨rfl, rfl⟩
  · rw [setQuiesce_change hcap h, enabled, quiesceReq, regB, regB, reg_quiesceActs, reg_quiesceNoted]
    exact ⟨regB_setRegB_same s _ 1 b (by decide), regB_setRegB_bit s _ 1 0 b (by decide)⟩

/-! ### SOFT_RESET (R44): the page's words -/

/-- A page with RESET has neither shadows nor an epoch binding at BL1 (R464). -/
theorem capReset_unstaged {page : Nat} (h : capReset page = true) : capEpoch page = false ∧ stagedWords page = [] := by
  have hmc : page ≠ pgMc := by rintro rfl; exact absurd h (by decide)
  have hpol : page ≠ pgPol := by rintro rfl; exact absurd h (by decide)
  refine ⟨?_, by simp [stagedWords, hmc, hpol]⟩
  unfold capReset capBits at h
  unfold capEpoch capBits
  generalize kindOf page = o at h ⊢
  cases o with
  | none => decide
  | some k => cases k <;> revert h <;> decide

/-- The header as a soft reset leaves it, with the block registers at their reset values. -/
def resetPage (page : Nat) (bound : Bool) (u : State) : State :=
  dropSnapshot page (setRegB (pa page offSts) fPAGE_STS_COMMIT_PENDING false
    (setRegB (pa page offCtl) fPAGE_CTL_EPOCH_BIND bound (resetRegs page u)))

/-- What a block does before its registers are reset (R59, R72, R115). -/
def resetBefore (page : Nat) (s : State) : State :=
  match macPort page with
  | some p => portStop p lsDown 0 s
  | none => if page = pgTae then taeSoftReset s else if page = pgPgu then fragClear s else s

/-- The state in which the block's own part of the reset begins: registers reset, IN_RESET set. -/
def resetMiddle (page : Nat) (s : State) : State :=
  resetPage page (isBound s page) (resetBefore page (setRegB (pa page offSts) fPAGE_STS_IN_RESET true s))

theorem softReset_eq {s : State} {page : Nat} (hcap : capReset page = true) (hin : inReset s page = false) :
    softReset page s = resetBlock page (resetMiddle page s) := by
  unfold softReset
  rw [if_neg (by simp [hcap, hin])]
  rfl

/-- A header word is none that a reset drops. -/
theorem resetDrops_header (page : Nat) {off : Nat} (ho : off < 0x40) : resetDrops page (pa page off) = false := by
  simp only [resetDrops, offOf_pa page off (by omega)]
  simp only [Bool.and_eq_false_iff, decide_eq_false_iff_not]
  exact .inl (.inr (by omega))

theorem reg_resetRegs (page a : Nat) (u : State) :
    reg (resetRegs page u) a = if resetDrops page a = true then regReset u.straps a else reg u a := by
  unfold reg resetRegs
  dsimp only
  rw [mget_mfilter]
  cases resetDrops page a <;> rfl

theorem reg_setRegB_other {a b : Nat} (f : Fld) (v : Bool) (s : State) (h : b ≠ a) : reg (setRegB a f v s) b = reg s b :=
  reg_setReg_other _ _ _ _ h

theorem old_setRegB (a : Nat) (f : Fld) (v : Bool) (s : State) : (setRegB a f v s).bus.old = s.bus.old := rfl

theorem reg_dropSnapshot_other {page a : Nat} (s : State) (h : a ≠ pa page offSts) : reg (dropSnapshot page s) a = reg s a := by
  unfold dropSnapshot
  rw [reg_setRegB_other _ _ _ h, reg_setRegB_other _ _ _ h]
  rfl

theorem bit_dropSnapshot (page j : Nat) (s : State) : regB (dropSnapshot page s) (pa page offSts) ⟨j, j⟩ =
    if j = 5 then false else if j = 6 then false else regB s (pa page offSts) ⟨j, j⟩ :=
  (regB_setRegB_bit _ _ 5 j false (by decide)).trans
    (if_congr Iff.rfl rfl (regB_setRegB_bit _ _ 6 j false (by decide)))

theorem old_dropSnapshot (page : Nat) (s : State) : (dropSnapshot page s).bus.old = s.bus.old := rfl

/-- Words of the page other than PAGE_CTL and PAGE_STS. -/
theorem reg_resetPage {page a : Nat} (bound : Bool) (u : State) (hctl : a ≠ pa page offCtl) (hsts : a ≠ pa page offSts) :
    reg (resetPage page bound u) a = if resetDrops page a = true then regReset u.straps a else reg u a := by
  rw [← reg_resetRegs, resetPage, reg_dropSnapshot_other _ hsts, reg_setRegB_other _ _ _ hsts, reg_setRegB_other _ _ _ hctl]

/-- Of a word that is dropped the block holds no other value. -/
theorem live_resetPage {page a : Nat} (bound : Bool) (u : State) (h : resetDrops page a = true) :
    live (resetPage page bound u) a = reg (resetPage page bound u) a := by
  have hold : mfind (resetPage page bound u).bus.old a = none := by
    rw [resetPage, old_dropSnapshot, old_setRegB, old_setRegB, resetRegs, mfind_mfilter]
    simp [h]
  rw [live, hold]
  rfl

/-- PAGE_CTL keeps ENABLE and QUIESCE, and EPOCH_BIND reads the binding in force. -/
theorem ctl_resetPage (page : Nat) (bound : Bool) (u : State) :
    enabled (resetPage page bound u) page = enabled u page ∧ quiesceReq (resetPage page bound u) page = quiesceReq u page ∧
    bindReq (resetPage page bound u) page = bound := by
  have hne : pa page offCtl ≠ pa page offSts := pa_ne page _ _ (by decide)
  have hctl : reg (resetPage page bound u) (pa page offCtl) =
      reg (setRegB (pa page offCtl) fPAGE_CTL_EPOCH_BIND bound (resetRegs page u)) (pa page offCtl) := by
    rw [resetPage, reg_dropSnapshot_other _ hne, reg_setRegB_other _ _ _ hne]
  have hkeep : reg (resetRegs page u) (pa page offCtl) = reg u (pa page offCtl) := by
    rw [reg_resetRegs, resetDrops_header page (by decide)]; rfl
  simp only [enabled, quiesceReq, bindReq, regB, hctl, ← hkeep]
  exact ⟨regB_setRegB_bit _ _ 4 0 bound (by decide), regB_setRegB_bit _ _ 4 1 bound (by decide),
    regB_setRegB_same _ _ 4 bound (by decide)⟩

/-- PAGE_STS keeps IN_RESET and QUIESCED, and no commit or snapshot is left. -/
theorem sts_resetPage (page : Nat) (bound : Bool) (u : State) :
    regB (resetPage page bound u) (pa page offSts) fPAGE_STS_IN_RESET = regB u (pa page offSts) fPAGE_STS_IN_RESET ∧
    quiesced (resetPage page bound u) page = quiesced u page ∧ commitPending (resetPage page bound u) page = false ∧
    regB (resetPage page bound u) (pa page offSts) fPAGE_STS_SNAP_VALID = false ∧
    regB (resetPage page bound u) (pa page offSts) fPAGE_STS_SNAP_BUSY = false := by
  have hkeep : reg (setRegB (pa page offCtl) fPAGE_CTL_EPOCH_BIND bound (resetRegs page u)) (pa page offSts) =
      reg u (pa page offSts) := by
    rw [reg_setRegB_other _ _ _ (pa_ne page _ _ (by decide)), reg_resetRegs, resetDrops_header page (by decide)]
    rfl
  have hbit : ∀ j, regB (resetPage page bound u) (pa page offSts) ⟨j, j⟩ =
      if j = 5 then false else if j = 6 then false else if j = 3 then false else regB u (pa page offSts) ⟨j, j⟩ := by
    intro j
    rw [resetPage, bit_dropSnapshot, regB_setRegB_bit _ _ 3 j false (by decide), regB, hkeep]
    rfl
  exact ⟨hbit 2, hbit 1, hbit 3, hbit 6, hbit 5⟩

end Sys2Proof.Machine
end

section
/-!
PROOFS. What the block of a page does at a soft reset (R44, R59, R72, R115, R204), and ENABLE, QUIESCE and SOFT_RESET (R37, R43, R44).
-/

namespace Sys2Proof.Machine
open Sys2Proof

/-! ### The words that the block leaves -/

/-- The header words of a page that a soft reset leaves: the end of a link may raise the page's interrupt. -/
def HeaderStays (page off : Nat) : Prop := off < 0x40 ∧ (macPort page ≠ none → off ≠ offIRQ_STS)

/-- The words of a page of which a soft reset says what they read: the header and the registers dropped. -/
def Settled (page a : Nat) : Prop := pageOf a = page ∧ (offOf a < 0x40 ∨ resetDrops page a = true)

/-- A page with RESET has no part in the noting of a drop. -/
theorem not_noise_of_capReset {page a : Nat} (hcap : capReset page = true) (ha : pageOf a = page) : ¬ Noise a := by
  refine not_noise_of_page ?_ ?_ ?_ <;> rw [ha] <;> rintro rfl <;> exact absurd hcap (by decide)

theorem settled_header (page : Nat) {off : Nat} (ho : off < 0x40) : Settled page (pa page off) :=
  ⟨pageOf_pa page off (by omega), .inl (by rwa [offOf_pa page off (by omega)])⟩

theorem settled_of_drops {page a : Nat} (h : resetDrops page a = true) : Settled page a := by
  refine ⟨?_, .inr h⟩
  simp only [resetDrops, Bool.and_eq_true, beq_iff_eq] at h
  exact h.1.1

/-- A word that the block's chapter keeps is not settled. -/
theorem not_settled_of_keeps {page off : Nat} (ho : off < 0x1000) (hoff : 0x40 ≤ off) (h : resetKeeps page off = true) :
    ¬ Settled page (pa page off) := by
  rintro ⟨-, hlt | hdrops⟩
  · rw [offOf_pa page off ho] at hlt; omega
  · simp [resetDrops, offOf_pa page off ho, h] at hdrops

/-! ### Before the registers are reset -/

/-- The end of a link, of the queues of the table engine or of held fragments leaves the header, a link's interrupt apart. -/
theorem reg_resetBefore {page off : Nat} (s : State) (hcap : capReset page = true) (h : HeaderStays page off) :
    reg (resetBefore page s) (pa page off) = reg s (pa page off) := by
  obtain ⟨ho, hirq⟩ := h
  have hnoise : ¬ Noise (pa page off) := not_noise_of_capReset hcap (pageOf_pa page off (by omega))
  unfold resetBefore
  split
  · next p hport =>
    have hne : off ≠ offIRQ_STS := hirq (by simp [hport])
    obtain ⟨rfl, hp⟩ := macPort_some hport
    exact (aside_portStop p lsDown 0 s).reg _ hnoise
      (fun hw => not_linkWord_mac hp (by omega) (by simp only [offMAC_STS]; omega) hne ⟨p, hw⟩)
  · split_ifs with htae hpgu
    · refine (keepsRegs_taeSoftReset s).reg _ hnoise ?_
      simp only [QueueWord, List.mem_cons, List.not_mem_nil, pa, htae, offTAE_ABORT, offTAE_ABORT_TAG, offTAE_HSQ_TAIL,
        offTAE_HSQ_HEAD, offTAE_HCQ_HEAD, or_false]
      omega
    · exact (keepsRegs_fragClear (W := fun _ => False) s).reg _ hnoise id
    · rfl

theorem straps_resetBefore (page : Nat) (s : State) : (resetBefore page s).straps = s.straps := by
  unfold resetBefore
  split
  · next p _ => exact (aside_portStop p lsDown 0 s).straps
  · split_ifs
    · exact (keepsRegs_taeSoftReset s).straps
    · exact (keepsRegs_fragClear (W := fun _ => False) s).straps
    · rfl

/-! ### After the registers are reset: a port stays down -/

/-- A port in reset whose link is down. -/
def PortAtRest (p : Nat) (s : State) : Prop :=
  regB s (pa (macPage p) offSts) fPAGE_STS_IN_RESET = true ∧ reg s (pa (macPage p) offMAC_STS) = 0

theorem portRefresh_atRest {p : Nat} {s : State} (h : PortAtRest p s) : portRefresh p s = s := by
  obtain ⟨hin, hsts⟩ := h
  have hoff : portEnabled s p = false := by simp [portEnabled, inReset, hin]
  have hzero : ∀ f, macSts s p f = 0 := fun f => by rw [macSts, regF, hsts]; simp [fget, natField]
  simp [portRefresh, hoff, hzero]

theorem macPage_inj {p q : Nat} (h : macPage p = macPage q) : p = q := by
  simp only [macPage] at h; omega

/-- The link of another port writes nothing of this port's page. -/
theorem portWord_other {p q a : Nat} (hp : p < 256) (hq : q ≠ p) (h : PortWord q a) : pageOf a ≠ macPage p := by
  rcases h with rfl | rfl | h
  · rw [pageOf_pa _ _ (by decide)]; exact fun e => hq (macPage_inj e)
  · rw [pageOf_pa _ _ (by decide)]; exact fun e => hq (macPage_inj e)
  · simp only [macPage]; omega

theorem PortAtRest.keeps {p : Nat} {s t : State} (h : PortAtRest p s) (hp : p < 256)
    (hk : KeepsRegs (fun a => pageOf a ≠ macPage p) s t) : PortAtRest p t := by
  obtain ⟨hin, hsts⟩ := h
  have hkeep : ∀ off, off < 0x1000 → reg t (pa (macPage p) off) = reg s (pa (macPage p) off) := fun off ho =>
    hk.reg _ (not_noise_mac hp ho) (fun hne => hne (pageOf_pa _ _ ho))
  exact ⟨by rwa [regB, hkeep _ (by decide)], by rwa [hkeep _ (by decide)]⟩

/-- The ports of a quad are brought up to date beside a port at rest. -/
theorem keepsRegs_refresh_atRest {p : Nat} (hp : p < 256) (l : List Nat) {s : State} (h : PortAtRest p s) :
    KeepsRegs (fun a => pageOf a ≠ macPage p) s (forAll portRefresh l s) := by
  induction l generalizing s with
  | nil => exact .refl s
  | cons q l ih =>
    have hone : KeepsRegs (fun a => pageOf a ≠ macPage p) s (portRefresh q s) := by
      by_cases hq : q = p
      · subst hq
        rw [portRefresh_atRest h]
        exact .refl s
      · exact (aside_portRefresh q s).mono (fun a ha => portWord_other hp hq ha)
    exact hone.trans (ih (h.keeps hp hone))

/-- MAC_STS is 0 after reset. -/
theorem regReset_macSts (st : Straps) {p : Nat} (hp : p < 256) : regReset st (pa (macPage p) offMAC_STS) = 0 := by
  have hpage : pageOf (pa (macPage p) offMAC_STS) = macPage p := pageOf_pa _ _ (by decide)
  have hoff : offOf (pa (macPage p) offMAC_STS) = offMAC_STS := offOf_pa _ _ (by decide)
  have hblock : (hasHeader (macPage p) && decide (offMAC_STS < 0x40)) = false := by simp [offMAC_STS]
  have hcfg : ¬ offMAC_STS = offMAC_CFG := by decide
  rcases kindOf_macPage p hp with hk | hk
  · obtain ⟨r, hrow, hzero⟩ : ∃ r, rowFind offMAC_STS (rowsOf .lmac) = some r ∧ rowReset r.fields = 0 := ⟨_, rfl, rfl⟩
    simp only [regReset, rowAt, hpage, hoff, hk, hblock, Bool.false_eq_true, if_false, hrow, hcfg]
    exact congrArg (BitVec.ofNat 32) hzero
  · obtain ⟨r, hrow, hzero⟩ : ∃ r, rowFind offMAC_STS (rowsOf .bmac) = some r ∧ rowReset r.fields = 0 := ⟨_, rfl, rfl⟩
    simp only [regReset, rowAt, hpage, hoff, hk, hblock, Bool.false_eq_true, if_false, hrow, hcfg]
    exact congrArg (BitVec.ofNat 32) hzero

/-! ### After the registers are reset: every block -/

/-- The block's own part of a soft reset writes none of the settled words. -/
theorem keepsRegs_resetBlock {page : Nat} {s : State} (hcap : capReset page = true)
    (hrest : ∀ p, macPort page = some p → PortAtRest p s) :
    KeepsRegs (fun a => ¬ Settled page a) s (resetBlock page s) := by
  unfold resetBlock
  split
  · next p hport =>
    have hatRest := hrest p hport
    obtain ⟨rfl, hp⟩ := macPort_some hport
    have hdrop : KeepsRegs (fun a => pageOf a ≠ macPage p) s (dropRx p s) := (aside_dropRx p s).toKeepsRegs
    have hquad := hdrop.trans (keepsRegs_refresh_atRest hp (quadPorts (quadPage p)) (hatRest.keeps hp hdrop))
    refine (hquad.trans (.of_aside ?_)).mono fun a hne hset => hne hset.1
    exact (aside_fcUpdate p _).trans (aside_setPort p _ _)
  · next g _ hgrove =>
    obtain ⟨rfl, hg⟩ := groveOf_some hgrove
    have hkeeps : ∀ off, off = offGRV_ENG_SVC ∨ off = offGRV_ENG_FENCE ∨ off = offGRV_ENG_LOAN →
        ¬ Settled (grvPage g) (pa (grvPage g) off) := by
      intro off hoff
      refine not_settled_of_keeps ?_ ?_ ?_
      · rcases hoff with rfl | rfl | rfl <;> decide
      · rcases hoff with rfl | rfl | rfl <;> decide
      · have htae : grvPage g ≠ pgTae := by simp only [grvPage, pgTae]; omega
        rcases hoff with rfl | rfl | rfl <;> simp [resetKeeps, htae, hgrove]
    refine (keepsRegs_grvSoftReset g s).mono fun a ha => ?_
    rcases ha with rfl | rfl | rfl
    · exact hkeeps _ (.inl rfl)
    · exact hkeeps _ (.inr (.inl rfl))
    · exact hkeeps _ (.inr (.inr rfl))
  · split_ifs with hemt hthk hpgu
    · exact (KeepsRegs.refl s).same rfl rfl rfl
    · subst hthk
      refine (keepsRegs_thkSoftReset s).mono fun a ha hset => ?_
      rcases ha with rfl | rfl
      · exact absurd hset.1 (by decide)
      · exact absurd hset.1 (by decide)
    · exact (KeepsRegs.refl s).same rfl rfl rfl
    · exact .refl s

/-! ### SOFT_RESET (R44) -/

/-- A register dropped reads its reset value, and the block holds no other. -/
theorem resetMiddle_drops {s : State} {page a : Nat} (h : resetDrops page a = true) :
    reg (resetMiddle page s) a = regReset s.straps a ∧ live (resetMiddle page s) a = regReset s.straps a := by
  have hne : ∀ off, off < 0x40 → a ≠ pa page off := by
    rintro off ho rfl
    rw [resetDrops_header page ho] at h
    exact absurd h (by decide)
  have hreg : reg (resetMiddle page s) a = regReset s.straps a := by
    rw [resetMiddle, reg_resetPage _ _ (hne _ (by decide)) (hne _ (by decide)), if_pos h, straps_resetBefore]
    rfl
  exact ⟨hreg, (live_resetPage _ _ h).trans hreg⟩

section
variable {s : State} {page : Nat} (hcap : capReset page = true)
include hcap

/-- A header word other than PAGE_CTL and PAGE_STS stays. -/
theorem resetMiddle_header {off : Nat} (h : HeaderStays page off) (hctl : off ≠ offCtl) (hsts : off ≠ offSts) :
    reg (resetMiddle page s) (pa page off) = reg s (pa page off) := by
  have hne : pa page off ≠ pa page offSts := pa_ne page _ _ hsts
  rw [resetMiddle, reg_resetPage _ _ (pa_ne page _ _ hctl) hne, resetDrops_header page h.1, if_neg (by decide),
    reg_resetBefore _ hcap h, reg_setRegB_other _ _ _ hne]

theorem reg_resetBefore_ctl : reg (resetBefore page (setRegB (pa page offSts) fPAGE_STS_IN_RESET true s)) (pa page offCtl) =
    reg s (pa page offCtl) := by
  rw [reg_resetBefore _ hcap ⟨by decide, fun _ => by decide⟩, reg_setRegB_other _ _ _ (pa_ne page _ _ (by decide))]

theorem resetMiddle_ctl : enabled (resetMiddle page s) page = enabled s page ∧
    quiesceReq (resetMiddle page s) page = quiesceReq s page ∧ bindReq (resetMiddle page s) page = isBound s page := by
  obtain ⟨hen, hq, hbind⟩ := ctl_resetPage page (isBound s page)
    (resetBefore page (setRegB (pa page offSts) fPAGE_STS_IN_RESET true s))
  refine ⟨hen.trans ?_, hq.trans ?_, hbind⟩
  · rw [enabled, regB, reg_resetBefore_ctl hcap]; rfl
  · rw [quiesceReq, regB, reg_resetBefore_ctl hcap]; rfl

theorem resetMiddle_sts : regB (resetMiddle page s) (pa page offSts) fPAGE_STS_IN_RESET = true ∧
    quiesced (resetMiddle page s) page = quiesced s page ∧ commitPending (resetMiddle page s) page = false ∧
    regB (resetMiddle page s) (pa page offSts) fPAGE_STS_SNAP_VALID = false ∧
    regB (resetMiddle page s) (pa page offSts) fPAGE_STS_SNAP_BUSY = false := by
  obtain ⟨hin, hq, hrest⟩ := sts_resetPage page (isBound s page)
    (resetBefore page (setRegB (pa page offSts) fPAGE_STS_IN_RESET true s))
  have hkeep := reg_resetBefore (setRegB (pa page offSts) fPAGE_STS_IN_RESET true s) hcap
    (show HeaderStays page offSts from ⟨by decide, fun _ => by decide⟩)
  refine ⟨hin.trans ?_, hq.trans ?_, hrest⟩
  · rw [regB, hkeep]; exact regB_setRegB_same s _ 2 true (by decide)
  · rw [quiesced, regB, hkeep]; exact regB_setRegB_bit s _ 2 1 true (by decide)

/-- Until its reset completes a port is at rest. -/
theorem portAtRest_resetMiddle (p : Nat) (hport : macPort page = some p) : PortAtRest p (resetMiddle page s) := by
  obtain ⟨hin, -⟩ := resetMiddle_sts (s := s) hcap
  obtain ⟨rfl, hp⟩ := macPort_some hport
  have hdrops : resetDrops (macPage p) (pa (macPage p) offMAC_STS) = true := by
    have htae : macPage p ≠ pgTae := by simp only [macPage, pgTae]; omega
    have hgrove : groveOf (macPage p) = none := by
      unfold groveOf macPage
      rw [if_neg (by simp only [Bool.and_eq_true, decide_eq_true_eq]; omega)]
    have hpage : pageOf (pa (macPage p) offMAC_STS) = macPage p := pageOf_pa _ _ (by decide)
    have hoff : offOf (pa (macPage p) offMAC_STS) = offMAC_STS := offOf_pa _ _ (by decide)
    simp [resetDrops, resetKeeps, htae, hgrove, hpage, hoff, offMAC_STS]
  exact ⟨hin, (resetMiddle_drops hdrops).1.trans (regReset_macSts _ hp)⟩

/-- After the block's own part, a settled word reads as before it, and the block holds the same of it. -/
theorem softReset_settled (hin : inReset s page = false) {a : Nat} (ha : Settled page a) :
    reg (softReset page s) a = reg (resetMiddle page s) a ∧ live (softReset page s) a = live (resetMiddle page s) a := by
  have hblock := keepsRegs_resetBlock hcap (portAtRest_resetMiddle (s := s) hcap)
  have hnoise := not_noise_of_capReset hcap ha.1
  rw [softReset_eq hcap hin]
  exact ⟨hblock.reg a hnoise (not_not_intro ha), hblock.live a hnoise (not_not_intro ha)⟩

end

/-- The end of a reset clears IN_RESET, and the port of the page comes up anew (R44, R63). -/
theorem softResetComplete_inReset {s : State} {page : Nat} (h : regB s (pa page offSts) fPAGE_STS_IN_RESET = true) :
    regB (softResetComplete page s) (pa page offSts) fPAGE_STS_IN_RESET = false := by
  have hclear : regB (echoAfter page (setRegB (pa page offSts) fPAGE_STS_IN_RESET false s)) (pa page offSts)
      fPAGE_STS_IN_RESET = false := regB_setRegB_same s _ 2 false (by decide)
  unfold softResetComplete
  rw [if_neg (by simp [h])]
  dsimp only
  generalize echoAfter page (setRegB (pa page offSts) fPAGE_STS_IN_RESET false s) = u at hclear ⊢
  split
  · next p hport =>
    obtain ⟨rfl, hp⟩ := macPort_some hport
    rwa [regB, (aside_quadRefresh (quadPage p) u).reg _ (not_noise_mac hp (by decide))
      (not_linkWord_mac hp (by decide) (by decide) (by decide))]
  · exact hclear

/-- Settles O9: each command is a write of one bit of PAGE_CTL, and a soft reset is the reset of the page's words between what
its block does before and after. -/
theorem enableQuiesceAndSoftReset : Obligations.EnableQuiesceAndSoftReset := by
  intro s req page hs hr hp
  obtain ⟨henBit, hqBit, hresetBit, -⟩ := ctlBits_setBit s req page
  refine ⟨fun b => ?_, fun b hcap => ?_, fun hcap hreq hidle => ?_, fun hcap hin => ?_, fun hin => ?_⟩
  · have hf := (reqCtl_setBit s req page 0 b hr hp (by decide) (by omega) (by omega) (by omega)).trans (henBit b)
    obtain ⟨hen, hq⟩ := setEnable_spec s page b (req == hostReq s)
    refine gives_act hs rfl ?_
    dsimp only at hf
    rw [← hq, setQuiesce_self] at hf
    simp only [enabled, quiesceReq, regB, reg_boardKeeps, hf]
    exact ⟨(enabled_rebind _ _ _).trans hen, (quiesceReq_rebind _ _ _).trans hq⟩
  · have hf := (reqCtl_setBit s req page 1 b hr hp (by decide) (by omega) (by omega) (by omega)).trans (hqBit b)
    obtain ⟨hq, hen⟩ := setQuiesce_spec s page b hcap
    refine gives_act hs rfl ?_
    simp only [enabled, quiesceReq, regB, reg_boardKeeps, hf]
    exact ⟨(quiesceReq_rebind _ _ _).trans hq, (enabled_rebind _ _ _).trans hen⟩
  · have hf : quiesceComplete page s = setRegB (pa page offSts) fPAGE_STS_QUIESCED true s :=
      if_pos (by simp [hcap, hreq, hidle])
    have honly : OnlyRegs [pa page offSts] s (setRegB (pa page offSts) fPAGE_STS_QUIESCED true s) :=
      onlyRegs_refl.setRegB (by simp) _ _
    exact honly.gives hs rfl hf ⟨regB_setRegB_same s _ 1 true (by decide), honly⟩
  · obtain ⟨hepoch, hstaged⟩ := capReset_unstaged hcap
    have hf : reqCtl req page 2 true s = softReset page s := by
      rw [reqCtl_setBit s req page 2 true hr hp (by decide) (by omega) (by omega) (by omega), hresetBit, rebind, hepoch]
      rfl
    obtain ⟨hen, hq, hbind⟩ := resetMiddle_ctl (s := s) hcap
    obtain ⟨hinM, hquiesced, hpending, hvalid, hbusy⟩ := resetMiddle_sts (s := s) hcap
    have hctl := (softReset_settled hcap hin (settled_header page (off := offCtl) (by decide))).1
    have hsts := (softReset_settled hcap hin (settled_header page (off := offSts) (by decide))).1
    refine gives_act hs rfl ?_
    rw [hf]
    simp only [inReset, enabled, quiesceReq, quiesced, bindReq, commitPending, regB, reg_boardKeeps, live_boardKeeps,
      hctl, hsts]
    refine ⟨Bool.or_eq_true_iff.mpr (.inl hinM), hen, hq, hquiesced, hbind, hpending, hvalid, hbusy, fun a ha => ?_,
      by simp [hstaged], fun off ho hctl' hsts' hirq => ?_⟩
    · obtain ⟨hreg, hlive⟩ := softReset_settled hcap hin (settled_of_drops ha)
      obtain ⟨hregM, hliveM⟩ := resetMiddle_drops (s := s) ha
      exact ⟨hreg.trans hregM, hlive.trans hliveM⟩
    · have hstays : HeaderStays page off := ⟨ho, fun hport => hirq.resolve_right fun hno => hport hno.1⟩
      exact (softReset_settled hcap hin (settled_header page ho)).1.trans (resetMiddle_header hcap hstays hctl' hsts')
  · refine gives_act hs rfl ?_
    rw [regB, reg_boardKeeps]
    exact softResetComplete_inReset hin

end Sys2Proof.Machine
end

section
/-!
PROOFS. Rules of the ports: counters that go up, the fields of MAC_STS, what an interrupt leaves as it was, and the flow-control timers
(R47, R70, R77, R82, R398).
-/

namespace Sys2Proof.Machine
open Sys2Proof

/-! ### Counters (R47) -/

section
variable {l : List (Nat × Nat)} {s t u : State}

theorem counts_refl (s : State) : Counts [] s s := fun _ => rfl

/-- Where the counters stay, so does what they count. -/
theorem Counts.same (h : Counts l s t) (hc : u.bus.ctr = t.bus.ctr) : Counts l s u := fun a => by
  rw [← h a, ctr, hc]
  rfl

theorem mfind_concat (l : List (Nat × Nat)) (k n a : Nat) (hk : mfind l k = none) :
    mfind (l ++ [(k, n)]) a = if a = k then some n else mfind l a := by
  induction l with
  | nil => rfl
  | cons e l ih =>
    obtain ⟨x, v⟩ := e
    have hx : ¬ k = x := by rintro rfl; simp [mfind] at hk
    have hl : mfind l k = none := by simpa [mfind, hx] using hk
    by_cases ha : a = x
    · subst ha; simp [mfind, Ne.symm hx]
    · simp [mfind, ha, ih hl]

/-- One more counter goes up, in whatever order the list names them. -/
theorem Counts.addTo {l' : List (Nat × Nat)} (h : Counts l s t) {page off n : Nat} (hnew : mfind l (pa page off) = none)
    (hl : ∀ a, mfind l' a = if a = pa page off then some n else mfind l a) : Counts l' s (ctrAdd page off n t) := by
  intro a
  rw [hl a]
  by_cases ha : a = pa page off
  · have hold := h (pa page off)
    rw [hnew] at hold
    rw [if_pos ha, ha, ctrAdd, ctr_setCtr_same, hold]
  · rw [if_neg ha, ctrAdd, ctr_setCtr_other _ _ _ _ ha, h a]

theorem Counts.ctrAdd (h : Counts l s t) {page off : Nat} (n : Nat) (hnew : mfind l (pa page off) = none) :
    Counts (l ++ [(pa page off, n)]) s (ctrAdd page off n t) :=
  h.addTo hnew fun a => mfind_concat l _ n a hnew

theorem Counts.count (h : Counts l s t) {page off : Nat} (hnew : mfind l (pa page off) = none) :
    Counts (l ++ [(pa page off, 1)]) s (count page off t) :=
  h.ctrAdd 1 hnew

/-- A counter not listed stays. -/
theorem Counts.other (h : Counts l s t) {a : Nat} (ha : mfind l a = none) : ctr t a = ctr s a := by
  rw [h a, ha]

end

/-- Counters at two offsets of a page are two counters. -/
theorem mfind_pa_cons (page off off' n : Nat) (l : List (Nat × Nat)) (h : off ≠ off') :
    mfind ((pa page off', n) :: l) (pa page off) = mfind l (pa page off) := by
  rw [mfind, if_neg (pa_ne page _ _ h)]

/-- A frame that passed the checks is counted with its bytes (R75). -/
theorem counts_rxCountGood (p n : Nat) (s : State) :
    Counts [(pa (macPage p) cMac_RX_FRAMES, 1), (pa (macPage p) cMac_RX_BYTES, n)] s (rxCountGood p n s) :=
  ((counts_refl s).count rfl).ctrAdd n (mfind_pa_cons _ _ _ _ _ (by decide))

/-! ### Fields of MAC_STS (R70) -/

section
variable (s : State) (p : Nat)

theorem macSts_setSts_same (f : Fld) (v : Nat) (h : f.lo ≤ f.hi) (h32 : f.hi < 32) :
    macSts (setSts p f v s) p f = v % 2 ^ fldWidth f :=
  regF_setRegF_same s _ f v h h32

theorem macSts_setSts_field (f g : Fld) (v : Nat) (h : f.lo ≤ f.hi ∧ f.hi < 32 ∧ g.lo ≤ g.hi ∧ (g.hi < f.lo ∨ f.hi < g.lo)) :
    macSts (setSts p f v s) p g = macSts s p g :=
  regF_setRegF_field s _ f g v h.1 h.2.1 h.2.2.1 h.2.2.2

@[simp] theorem macSts_setPort (q : Nat) (v : PortSt) (f : Fld) : macSts (setPort q v s) p f = macSts s p f := rfl
@[simp] theorem macSts_ctrAdd (page off n : Nat) (f : Fld) : macSts (ctrAdd page off n s) p f = macSts s p f := rfl
@[simp] theorem macSts_count (page off : Nat) (f : Fld) : macSts (count page off s) p f = macSts s p f := rfl
@[simp] theorem macSts_rxCountGood (q n : Nat) (f : Fld) : macSts (rxCountGood q n s) p f = macSts s p f := rfl
@[simp] theorem macSts_boardKeeps (t : State) (f : Fld) : macSts (boardKeeps s t) p f = macSts t p f := rfl

theorem macSts_of_reg {s t : State} {p : Nat} (h : reg t (pa (macPage p) offMAC_STS) = reg s (pa (macPage p) offMAC_STS))
    (f : Fld) : macSts t p f = macSts s p f := by
  rw [macSts, regF, h]
  rfl

end

/-! ### Interrupts (R398) -/

/-- Only register words changed, and what the interrupt controller, the host and the Rootway note of an interrupt. -/
def OnlyNoted (s t : State) : Prop :=
  t = { s with bus := { s.bus with regs := t.bus.regs }, rw := { s.rw with evtPend := t.rw.evtPend }, host := t.host, ic := t.ic }

section
variable {s t u : State}

theorem onlyNoted_refl (s : State) : OnlyNoted s s := rfl

theorem OnlyNoted.trans (h : OnlyNoted s t) (h' : OnlyNoted t u) : OnlyNoted s u :=
  Eq.trans h' (by rw [h])

theorem onlyNoted_setReg (a : Nat) (v : Word) (s : State) : OnlyNoted s (setReg a v s) := rfl

theorem onlyNoted_hevSample (page : Nat) (s : State) : OnlyNoted s (hevSample page s) := by
  unfold hevSample
  dsimp only
  split_ifs
  · unfold msixSend
    split_ifs <;> rfl
  · rfl

theorem onlyNoted_lineRise (page : Nat) (was : Bool) (s : State) : OnlyNoted s (lineRise page was s) := by
  unfold lineRise icEdge
  dsimp only
  split_ifs <;> rfl

theorem onlyNoted_raiseIrq (page bit : Nat) (s : State) : OnlyNoted s (raiseIrq page bit s) := by
  refine OnlyNoted.trans ?_ (onlyNoted_hevSample page _)
  refine OnlyNoted.trans ?_ (onlyNoted_lineRise page _ _)
  split_ifs <;> rfl

end

section
variable (page bit : Nat) (s : State)

@[simp] theorem raiseIrq_pending : (raiseIrq page bit s).pending = s.pending := by rw [onlyNoted_raiseIrq]
@[simp] theorem raiseIrq_pin : (raiseIrq page bit s).pin = s.pin := by rw [onlyNoted_raiseIrq]
@[simp] theorem raiseIrq_time : (raiseIrq page bit s).time = s.time := by rw [onlyNoted_raiseIrq]
@[simp] theorem raiseIrq_ports : (raiseIrq page bit s).ports = s.ports := by rw [onlyNoted_raiseIrq]
@[simp] theorem raiseIrq_disp : (raiseIrq page bit s).disp = s.disp := by rw [onlyNoted_raiseIrq]
@[simp] theorem raiseIrq_clr : (raiseIrq page bit s).clr = s.clr := by rw [onlyNoted_raiseIrq]
@[simp] theorem raiseIrq_gate : (raiseIrq page bit s).gate = s.gate := by rw [onlyNoted_raiseIrq]
@[simp] theorem raiseIrq_lko : (raiseIrq page bit s).lko = s.lko := by rw [onlyNoted_raiseIrq]
@[simp] theorem raiseIrq_ctr : (raiseIrq page bit s).bus.ctr = s.bus.ctr := by rw [onlyNoted_raiseIrq]
@[simp] theorem raiseIrq_old : (raiseIrq page bit s).bus.old = s.bus.old := by rw [onlyNoted_raiseIrq]
@[simp] theorem port_raiseIrq (p : Nat) : port (raiseIrq page bit s) p = port s p := by rw [port, raiseIrq_ports, port]
@[simp] theorem ctr_raiseIrq (a : Nat) : ctr (raiseIrq page bit s) a = ctr s a := by rw [ctr, raiseIrq_ctr, ctr]

end

/-! ### Ports and counters alone -/

/-- Only ports changed. -/
def OnlyPorts (s t : State) : Prop := t = { s with ports := t.ports }

/-- Only counters changed. -/
def OnlyCtr (s t : State) : Prop := t = { s with bus := { s.bus with ctr := t.bus.ctr } }

/-- Only ports and counters changed. -/
def OnlyPortsCtr (s t : State) : Prop := t = { s with bus := { s.bus with ctr := t.bus.ctr }, ports := t.ports }

section
variable {s t u : State}

theorem onlyPorts_refl (s : State) : OnlyPorts s s := rfl
theorem onlyPorts_setPort (p : Nat) (v : PortSt) (s : State) : OnlyPorts s (setPort p v s) := rfl

theorem OnlyPorts.trans (h : OnlyPorts s t) (h' : OnlyPorts t u) : OnlyPorts s u := Eq.trans h' (by rw [h])

theorem OnlyPorts.boardKeeps (h : OnlyPorts s t) : boardKeeps s t = t := boardKeeps_eq_self (by rw [h]) (by rw [h])

theorem OnlyPorts.bus (h : OnlyPorts s t) : t.bus = s.bus := by rw [h]

theorem OnlyPorts.withCtr (h : OnlyPorts s t) : OnlyPortsCtr s t := by rw [h]; rfl

theorem onlyPortsCtr_refl (s : State) : OnlyPortsCtr s s := rfl

theorem OnlyPortsCtr.trans (h : OnlyPortsCtr s t) (h' : OnlyPortsCtr t u) : OnlyPortsCtr s u := Eq.trans h' (by rw [h])

theorem onlyCtr_refl (s : State) : OnlyCtr s s := rfl

theorem onlyCtr_ctrAdd (page off n : Nat) (s : State) : OnlyCtr s (ctrAdd page off n s) := rfl

theorem onlyCtr_count (page off : Nat) (s : State) : OnlyCtr s (count page off s) := onlyCtr_ctrAdd page off 1 s

theorem OnlyCtr.trans (h : OnlyCtr s t) (h' : OnlyCtr t u) : OnlyCtr s u := Eq.trans h' (by rw [h])

theorem onlyCtr_rxCountGood (p n : Nat) (s : State) : OnlyCtr s (rxCountGood p n s) :=
  (onlyCtr_count _ _ s).trans (onlyCtr_ctrAdd _ _ _ _)

theorem OnlyCtr.port (h : OnlyCtr s t) (p : Nat) : port t p = port s p := by rw [h]; rfl

theorem OnlyCtr.withPorts (h : OnlyCtr s t) : OnlyPortsCtr s t := by rw [h]; rfl

theorem OnlyCtr.boardKeeps (h : OnlyCtr s t) : boardKeeps s t = t := boardKeeps_eq_self (by rw [h]) (by rw [h])

theorem onlyPortsCtr_setPort (p : Nat) (v : PortSt) (s : State) : OnlyPortsCtr s (setPort p v s) := rfl

theorem onlyPortsCtr_sendOut (p : Nat) (f : Bytes) (s : State) : OnlyPortsCtr s (sendOut p f s) :=
  (onlyPortsCtr_setPort p _ s).trans ((onlyCtr_count _ _ _).trans (onlyCtr_ctrAdd _ _ _ _)).withPorts

theorem OnlyPortsCtr.boardKeeps (h : OnlyPortsCtr s t) : boardKeeps s t = t := boardKeeps_eq_self (by rw [h]) (by rw [h])

theorem OnlyPortsCtr.reg (h : OnlyPortsCtr s t) (a : Nat) : reg t a = reg s a := by rw [h]; rfl
theorem OnlyPortsCtr.live (h : OnlyPortsCtr s t) (a : Nat) : live t a = live s a := by rw [h]; rfl
theorem OnlyPortsCtr.now (h : OnlyPortsCtr s t) : now t = now s := by rw [h]; rfl
theorem OnlyPortsCtr.quantaUnits (h : OnlyPortsCtr s t) (p q : Nat) : quantaUnits t p q = quantaUnits s p q := by rw [h]; rfl
theorem OnlyPortsCtr.macSts (h : OnlyPortsCtr s t) (p : Nat) (f : Fld) : macSts t p f = macSts s p f :=
  macSts_of_reg (h.reg _) f

end

@[simp] theorem port_ctrAdd (page off n q : Nat) (s : State) : port (ctrAdd page off n s) q = port s q := rfl
@[simp] theorem port_count (page off q : Nat) (s : State) : port (count page off s) q = port s q := rfl
@[simp] theorem port_rxCountGood (p n q : Nat) (s : State) : port (rxCountGood p n s) q = port s q := rfl

theorem port_sendOut_same (p : Nat) (f : Bytes) (s : State) : port (sendOut p f s) p =
    { port s p with lastTx := f, winBytes := (port s p).winBytes + f.length, idleSince := now s } :=
  port_setPort_same s p _

theorem otherPorts_setPort (p : Nat) (v : PortSt) (s : State) : OtherPorts p s (setPort p v s) :=
  fun _ hq => port_setPort_other s p _ v hq

theorem otherPorts_sendOut (p : Nat) (f : Bytes) (s : State) : OtherPorts p s (sendOut p f s) :=
  otherPorts_setPort p _ s

end Sys2Proof.Machine
end


section
/-!
PROOFS. Partner violations (R82), and the raise of an interrupt of a MAC page beside the page's other words.
-/

namespace Sys2Proof.Machine
open Sys2Proof

/-! ### Words of a MAC page beside its interrupt -/

section
variable {p : Nat} (hp : p < 256) (s : State)
include hp

/-- A raise of a MAC page's interrupt leaves the page's other words. -/
theorem reg_raiseMac {off : Nat} (bit : Nat) (ho : off < 0x1000) (hirq : off ≠ offIRQ_STS) :
    reg (raiseIrq (macPage p) bit s) (pa (macPage p) off) = reg s (pa (macPage p) off) :=
  ((Aside.refl (W := (· = pa (macPage p) offIRQ_STS)) s).raiseIrq (.inr rfl) bit).reg _ (not_noise_mac hp ho)
    (pa_ne _ _ _ hirq)

theorem macSts_raiseMac (bit : Nat) (f : Fld) : macSts (raiseIrq (macPage p) bit s) p f = macSts s p f :=
  macSts_of_reg (reg_raiseMac hp s bit (by decide) (by decide)) f

/-- A second interrupt of the page leaves the first standing. -/
theorem testBit_raiseIrq_other {bit b : Nat} (hb : b < 32)
    (h : (reg s (pa (macPage p) offIRQ_STS)).toNat.testBit b = true) :
    (reg (raiseIrq (macPage p) bit s) (pa (macPage p) offIRQ_STS)).toNat.testBit b = true := by
  have hsample : reg (raiseIrq (macPage p) bit s) (pa (macPage p) offIRQ_STS) =
      reg (setIrq (macPage p) bit s) (pa (macPage p) offIRQ_STS) :=
    ((Aside.refl (W := fun _ => False) (setIrq (macPage p) bit s)).hevSample (macPage p)).reg _ (not_noise_mac hp (by decide)) id
  have hset : reg (setIrq (macPage p) bit s) (pa (macPage p) offIRQ_STS) =
      BitVec.ofNat 32 (natSetBit (reg s (pa (macPage p) offIRQ_STS)).toNat bit true) := by
    unfold setIrq lineRise icEdge
    dsimp only
    split_ifs <;> exact reg_setReg_same _ _ _
  rw [hsample, hset, BitVec.toNat_ofNat, Nat.testBit_mod_two_pow, testBit_natSetBit, h]
  simp [hb]

end

/-! ### Partner violations (R82) -/

/-- The words in which a port's violation is recorded. -/
def ViolationWord (p a : Nat) : Prop :=
  a = pa (macPage p) offPV_STS ∨ a = pa (macPage p) offPV_LAST ∨ a = pa (macPage p) offIRQ_STS

theorem onlyNoted_pvRecord (p t : Nat) (s : State) : OnlyNoted s (pvRecord p t s) := by
  refine OnlyNoted.trans ?_ (onlyNoted_raiseIrq (macPage p) 2 _)
  exact (onlyNoted_setReg _ _ s).trans (onlyNoted_setReg _ _ _)

theorem aside_pvRecord (p t : Nat) (s : State) : Aside (ViolationWord p) s (pvRecord p t s) :=
  (((Aside.refl s).setReg (.inr (.inl rfl)) _).setReg (.inr (.inr (.inl rfl))) _).raiseIrq (.inr (.inr (.inr rfl))) 2

@[simp] theorem port_pvRecord (p t q : Nat) (s : State) : port (pvRecord p t s) q = port s q := by
  rw [port, onlyNoted_pvRecord]; rfl

@[simp] theorem ports_pvRecord (p t : Nat) (s : State) : (pvRecord p t s).ports = s.ports := by rw [onlyNoted_pvRecord]

@[simp] theorem time_pvRecord (p t : Nat) (s : State) : (pvRecord p t s).time = s.time := by rw [onlyNoted_pvRecord]

@[simp] theorem ctr_pvRecord (p t a : Nat) (s : State) : ctr (pvRecord p t s) a = ctr s a := by
  rw [ctr, onlyNoted_pvRecord]; rfl

section
variable {p : Nat} (hp : p < 256) (s : State)
include hp

/-- The violation is shown in PV_STS. -/
theorem testBit_pvRecord {t : Nat} (ht : t < 32) : (reg (pvRecord p t s) (pa (macPage p) offPV_STS)).toNat.testBit t = true := by
  unfold pvRecord
  dsimp only
  rw [reg_raiseMac hp _ _ (by decide) (by decide), reg_setReg_other _ _ _ _ (pa_ne _ _ _ (by decide)), reg_setReg_same,
    BitVec.toNat_ofNat, Nat.testBit_mod_two_pow, testBit_natSetBit_same]
  simpa using ht

omit hp in
/-- Its record raises bit 2 of the page's IRQ_STS. -/
theorem testBit_pvRecord_irq (t : Nat) : (reg (pvRecord p t s) (pa (macPage p) offIRQ_STS)).toNat.testBit 2 = true :=
  testBit_raiseIrq (macPage p) 2 _ (by decide)

theorem macSts_pvRecord (t : Nat) (f : Fld) : macSts (pvRecord p t s) p f = macSts s p f := by
  refine macSts_of_reg ((aside_pvRecord p t s).reg _ (not_noise_mac hp (by decide)) ?_) f
  rintro (h | h | h) <;> exact absurd h (pa_ne _ _ _ (by decide))

theorem live_pvRecord_macCfg (t : Nat) :
    live (pvRecord p t s) (pa (macPage p) offMAC_CFG) = live s (pa (macPage p) offMAC_CFG) := by
  refine (aside_pvRecord p t s).live _ (not_noise_mac hp (by decide)) ?_
  rintro (h | h | h) <;> exact absurd h (pa_ne _ _ _ (by decide))

end

end Sys2Proof.Machine
end

section
/-!
PROOFS. Flow control received and sent (R77 to R82, R69).
-/

namespace Sys2Proof.Machine
open Sys2Proof

/-! ### Timers (R77, R78, R81) -/

section
variable (s : State) (p i : Nat) (v : FcTimer)

@[simp] theorem fcTimer_setFcTimer_same : fcTimer (setFcTimer p i v s) p i = v := by simp [fcTimer, setFcTimer]

theorem otherTimers_setFcTimer : OtherTimers p i s (setFcTimer p i v s) := by
  intro j hj
  simp [fcTimer, setFcTimer, mget_mset_other _ _ _ _ _ hj]

theorem otherPorts_setFcTimer : OtherPorts p s (setFcTimer p i v s) := otherPorts_setPort p _ s

theorem onlyPorts_setFcTimer : OnlyPorts s (setFcTimer p i v s) := rfl

end

/-- What a load of a timer with `q` quanta makes of it while it is not ignored (R77, R81). -/
def timerLoaded (s : State) (p q : Nat) (t : FcTimer) : FcTimer :=
  if q = 0 then { t with fin := 0, holdStart := 0 }
  else { t with fin := now s + quantaUnits s p q, holdStart := if now s < t.fin then t.holdStart else now s }

theorem loadTimer_open {s : State} {p i : Nat} (q : Nat) (h : (fcTimer s p i).ignEnd ≤ now s) :
    loadTimer p i q s = setFcTimer p i (timerLoaded s p q (fcTimer s p i)) s := by
  unfold loadTimer timerLoaded
  dsimp only
  rw [if_neg (by omega)]
  split_ifs <;> rfl

theorem fin_timerLoaded (s : State) (p q : Nat) (t : FcTimer) :
    (timerLoaded s p q t).fin = if q = 0 then 0 else now s + quantaUnits s p q := by
  unfold timerLoaded; split_ifs <;> rfl

theorem ignEnd_timerLoaded (s : State) (p q : Nat) (t : FcTimer) : (timerLoaded s p q t).ignEnd = t.ignEnd := by
  unfold timerLoaded; split_ifs <;> rfl

/-! ### PAUSE and PFC received (R77, R78, R82) -/

section
variable {s : State} {p : Nat}

/-- The timers of port `p` after the priorities of a list are loaded from a PFC frame (R78): each one enabled in the frame takes its
quanta, and nothing else changes. -/
structure PfcLoaded (p en : Nat) (qs : List Nat) (l : List Nat) (s t : State) : Prop where
  loaded : ∀ i ∈ l, (fcTimer t p i).fin = if en.testBit i then
    (if qs.getD i 0 % 65536 = 0 then 0 else now s + quantaUnits s p (qs.getD i 0 % 65536)) else (fcTimer s p i).fin
  others : ∀ i, i ∉ l → fcTimer t p i = fcTimer s p i
  otherPorts : OtherPorts p s t
  only : OnlyPorts s t

/-- One priority of a PFC frame. -/
def pfcStep (p en : Nat) (qs : List Nat) (i : Nat) (s : State) : State :=
  if en.testBit i then loadTimer p i (qs.getD i 0 % 65536) s else s

theorem pfcLoaded_step {en : Nat} {qs : List Nat} {i : Nat} (h : (fcTimer s p i).ignEnd ≤ now s) :
    PfcLoaded p en qs [i] s (pfcStep p en qs i s) := by
  unfold pfcStep
  by_cases hen : en.testBit i = true
  · rw [if_pos hen, loadTimer_open _ h]
    refine ⟨fun j hj => ?_, fun j hj => ?_, otherPorts_setFcTimer s p i _, rfl⟩
    · obtain rfl := List.mem_singleton.mp hj
      rw [fcTimer_setFcTimer_same, fin_timerLoaded, if_pos hen]
    · exact otherTimers_setFcTimer s p i _ j (by simpa using hj)
  · rw [if_neg hen]
    refine ⟨fun j hj => ?_, fun _ _ => rfl, fun _ _ => rfl, rfl⟩
    obtain rfl := List.mem_singleton.mp hj
    rw [if_neg hen]

theorem pfcLoaded_forAll {en : Nat} {qs : List Nat} (l : List Nat) (hl : l.Nodup)
    (h : ∀ i ∈ l, (fcTimer s p i).ignEnd ≤ now s) : PfcLoaded p en qs l s (forAll (pfcStep p en qs) l s) := by
  induction l generalizing s with
  | nil => exact ⟨fun _ hi => absurd hi (by simp), fun _ _ => rfl, fun _ _ => rfl, rfl⟩
  | cons i l ih =>
    obtain ⟨hi, hl⟩ := List.nodup_cons.mp hl
    have hone := pfcLoaded_step (en := en) (qs := qs) (h i (by simp))
    have hother : ∀ j ∈ l, j ∉ [i] := fun j hj he => hi (List.mem_singleton.mp he ▸ hj)
    obtain ⟨hloaded, hothers, hports, honly⟩ := ih (s := pfcStep p en qs i s) hl fun j hj => by
      rw [hone.others j (hother j hj), hone.only]
      exact h j (by simp [hj])
    have hq : ∀ q, quantaUnits (pfcStep p en qs i s) p q = quantaUnits s p q := fun q => by rw [hone.only]; rfl
    have hnow : now (pfcStep p en qs i s) = now s := by rw [hone.only]; rfl
    refine ⟨fun j hj => ?_, fun j hj => ?_, fun q hne => (hports q hne).trans (hone.otherPorts q hne),
      hone.only.trans honly⟩
    · by_cases hmem : j ∈ l
      · change (fcTimer (forAll _ l _) p j).fin = _
        rw [hloaded j hmem, hnow, hq, hone.others j (hother j hmem)]
      · have hji : j = i := by simpa [hmem] using hj
        subst hji
        change (fcTimer (forAll _ l _) p j).fin = _
        rw [hothers j hi]
        exact hone.loaded j (by simp)
    · have hnot : j ∉ l ∧ j ∉ [i] := by simp_all
      exact (hothers j hnot.1).trans (hone.others j hnot.2)

end

/-- The state in which a control frame of 64 bytes is counted. -/
@[irreducible] def controlCounted (p off : Nat) (s : State) : State := count (macPage p) off (rxCountGood p 64 s)

theorem onlyCtr_controlCounted (p off : Nat) (s : State) : OnlyCtr s (controlCounted p off s) := by
  unfold controlCounted
  exact (onlyCtr_rxCountGood p 64 s).trans (onlyCtr_count _ _ _)

/-- A PAUSE or PFC frame received is counted with its 64 bytes before it acts (R75). -/
theorem counts_controlCounted {off : Nat} (p : Nat) (s : State) (h1 : off ≠ cMac_RX_FRAMES) (h2 : off ≠ cMac_RX_BYTES) :
    Counts [(pa (macPage p) off, 1), (pa (macPage p) cMac_RX_FRAMES, 1), (pa (macPage p) cMac_RX_BYTES, 64)] s
      (controlCounted p off s) := by
  unfold controlCounted
  exact (counts_rxCountGood p 64 s).addTo (by rw [mfind_pa_cons _ _ _ _ _ h1, mfind_pa_cons _ _ _ _ _ h2]; rfl) fun _ => rfl

@[simp] theorem port_controlCounted (p off q : Nat) (s : State) : port (controlCounted p off s) q = port s q :=
  (onlyCtr_controlCounted p off s).port q

@[simp] theorem fcTimer_controlCounted (p off q i : Nat) (s : State) : fcTimer (controlCounted p off s) q i = fcTimer s q i := by
  rw [fcTimer, port_controlCounted, fcTimer]

/-- The timers take no part in a violation (R82). -/
@[simp] theorem fcTimer_pvRecord (p t q i : Nat) (s : State) : fcTimer (pvRecord p t s) q i = fcTimer s q i := by
  simp [fcTimer]

section
variable {s : State} {p : Nat}

theorem pauseEvent_eq (q : Nat) (hrx : rxAccepts s p = true) : pauseEvent p q s =
    if pauseRxEn s p then loadTimer p 8 q (controlCounted p cMac_RX_PAUSE s)
    else if pfcRxEn s p then pvRecord p 3 (controlCounted p cMac_RX_PAUSE s) else controlCounted p cMac_RX_PAUSE s := by
  unfold controlCounted
  rw [pauseEvent, if_pos hrx]
  rfl

theorem pfcEvent_eq (en : Nat) (qs : List Nat) (hrx : rxAccepts s p = true) : pfcEvent p en qs s =
    if pfcRxEn s p then forAll (pfcStep p en qs) (List.range 8) (controlCounted p cMac_RX_PFC s)
    else if pauseRxEn s p then pvRecord p 3 (controlCounted p cMac_RX_PFC s) else controlCounted p cMac_RX_PFC s := by
  unfold controlCounted
  rw [pfcEvent, if_pos hrx]
  rfl

end

/-! ### Flow-control frames (R79, R69) -/

/-- The counter of a flow-control frame of condition `i`. -/
theorem fcCounter_cases (i : Nat) : (if i = 8 then cMac_TX_PAUSE else cMac_TX_PFC) = cMac_TX_PAUSE ∨
    (if i = 8 then cMac_TX_PAUSE else cMac_TX_PFC) = cMac_TX_PFC := by
  split_ifs
  · exact .inl rfl
  · exact .inr rfl

/-- A frame sent is counted with its bytes (R75). -/
theorem Counts.sendOut {l : List (Nat × Nat)} {s t : State} (h : Counts l s t) (p : Nat) (f : Bytes)
    (hframe : mfind l (pa (macPage p) cMac_TX_FRAMES) = none) (hbytes : mfind l (pa (macPage p) cMac_TX_BYTES) = none) :
    Counts (l ++ [(pa (macPage p) cMac_TX_FRAMES, 1)] ++ [(pa (macPage p) cMac_TX_BYTES, f.length)]) s (sendOut p f t) := by
  have hport : Counts l s (setPort p { port t p with
      lastTx := f, winBytes := (port t p).winBytes + f.length, idleSince := now t } t) := h.same rfl
  refine (hport.count hframe).ctrAdd _ ?_
  rw [mfind_concat _ _ _ _ hframe, if_neg (pa_ne _ _ _ (by decide)), hbytes]

section
variable {s : State} {p i : Nat} {on : Bool} {rest : List (Nat × Bool)}

/-- The state in which the first flow-control frame owed is about to leave its port. -/
@[irreducible] def fcTaken (s : State) (p i : Nat) (rest : List (Nat × Bool)) : State :=
  setPort p { port s p with fcOwed := rest, fcLast := mset (fun _ => 0) (port s p).fcLast i (now s),
                            macFree := Nat.max (now s) (port s p).macFree + wireTime s p 64 } s

/-- The state in which it has left. -/
@[irreducible] def fcSent (s : State) (p i : Nat) (on : Bool) (rest : List (Nat × Bool)) : State :=
  sendOut p (withFcs false (fcFrame s p i on))
    (count (macPage p) (if i = 8 then cMac_TX_PAUSE else cMac_TX_PFC) (fcTaken s p i rest))

theorem onlyPorts_fcTaken : OnlyPorts s (fcTaken s p i rest) := by
  unfold fcTaken
  exact onlyPorts_setPort p _ s

theorem onlyPortsCtr_fcSent : OnlyPortsCtr s (fcSent s p i on rest) := by
  unfold fcSent
  exact (onlyPorts_fcTaken.withCtr.trans (onlyCtr_count _ _ _).withPorts).trans (onlyPortsCtr_sendOut _ _ _)

theorem fcFrameSend_owed (howed : (port s p).fcOwed = (i, on) :: rest) (hopen : ownOpen s p = true) (hgate : fcGateOk s p = true) :
    fcFrameSend p s = startNext p (if macSts s p fMAC_STS_LSTATE = lsLoop then
      frameReceive p (withFcs false (fcFrame s p i on)) true (fcSent s p i on rest) else fcSent s p i on rest) := by
  have hloop : macSts (fcSent s p i on rest) p fMAC_STS_LSTATE = macSts s p fMAC_STS_LSTATE := onlyPortsCtr_fcSent.macSts p _
  rw [← hloop]
  unfold fcSent fcTaken
  simp only [fcFrameSend, howed, hopen, hgate, Bool.not_true, Bool.or_self, Bool.false_eq_true, if_false]
  rfl

theorem port_fcSent : port (fcSent s p i on rest) p =
    { port (fcTaken s p i rest) p with
      lastTx := withFcs false (fcFrame s p i on),
      winBytes := (port (fcTaken s p i rest) p).winBytes + (withFcs false (fcFrame s p i on)).length, idleSince := now s } := by
  have hnow : now (count (macPage p) (if i = 8 then cMac_TX_PAUSE else cMac_TX_PFC) (fcTaken s p i rest)) = now s :=
    (onlyPorts_fcTaken.withCtr.trans (onlyCtr_count _ _ _).withPorts).now
  unfold fcSent
  rw [port_sendOut_same, hnow, port_count]

theorem port_fcTaken : port (fcTaken s p i rest) p =
    { port s p with fcOwed := rest, fcLast := mset (fun _ => 0) (port s p).fcLast i (now s),
                    macFree := Nat.max (now s) (port s p).macFree + wireTime s p 64 } := by
  unfold fcTaken
  exact port_setPort_same s p _

theorem otherPorts_fcSent : OtherPorts p s (fcSent s p i on rest) := fun q hq => by
  unfold fcSent fcTaken
  rw [otherPorts_sendOut p _ _ q hq, port_count, otherPorts_setPort p _ s q hq]

theorem counts_fcSent : Counts [(pa (macPage p) (if i = 8 then cMac_TX_PAUSE else cMac_TX_PFC), 1), (pa (macPage p) cMac_TX_FRAMES, 1),
    (pa (macPage p) cMac_TX_BYTES, (withFcs false (fcFrame s p i on)).length)] s (fcSent s p i on rest) := by
  have htaken : Counts [] s (fcTaken s p i rest) := (counts_refl s).same (congrArg BusSt.ctr onlyPorts_fcTaken.bus)
  have hkind := htaken.count (page := macPage p) (off := if i = 8 then cMac_TX_PAUSE else cMac_TX_PFC) rfl
  unfold fcSent
  refine hkind.sendOut p _ (mfind_pa_cons _ _ _ _ _ ?_) (mfind_pa_cons _ _ _ _ _ ?_)
  · rcases fcCounter_cases i with h | h <;> rw [h] <;> decide
  · rcases fcCounter_cases i with h | h <;> rw [h] <;> decide

/-- The next frame of X9 that starts changes its port alone. -/
theorem onlyPorts_startNext (p : Nat) (s : State) : OnlyPorts s (startNext p s) := by
  unfold startNext
  dsimp only
  split
  · split_ifs
    · exact (onlyPorts_setPort _ _ s).trans (onlyPorts_setPort _ _ _)
    · exact onlyPorts_refl s
  · exact onlyPorts_refl s

end

/-! ### The commands -/

section
variable {s : State} {p : Nat}

/-- A PAUSE frame on a port that takes them loads the PAUSE timer (R77). -/
theorem pauseEvent_loads (q : Nat) (hrx : rxAccepts s p = true) (hen : pauseRxEn s p = true)
    (hign : (fcTimer s p 8).ignEnd ≤ now s) :
    pauseEvent p q s = setFcTimer p 8 (timerLoaded s p q (fcTimer s p 8)) (controlCounted p cMac_RX_PAUSE s) := by
  have honly := (onlyCtr_controlCounted p cMac_RX_PAUSE s).withPorts
  have hloaded : timerLoaded (controlCounted p cMac_RX_PAUSE s) p q (fcTimer s p 8) = timerLoaded s p q (fcTimer s p 8) := by
    rw [timerLoaded, honly.quantaUnits, honly.now, timerLoaded]
  rw [pauseEvent_eq q hrx, if_pos hen, loadTimer_open q (by rw [honly.now, fcTimer_controlCounted]; exact hign),
    fcTimer_controlCounted, hloaded]

/-- A PFC frame on a port that takes them loads the timers of the priorities it enables (R78). -/
theorem pfcEvent_loads (en : Nat) (qs : List Nat) (hrx : rxAccepts s p = true) (hen : pfcRxEn s p = true)
    (hign : ∀ i, i < 8 → (fcTimer s p i).ignEnd ≤ now s) :
    PfcLoaded p en qs (List.range 8) (controlCounted p cMac_RX_PFC s) (pfcEvent p en qs s) := by
  rw [pfcEvent_eq en qs hrx, if_pos hen]
  refine pfcLoaded_forAll (List.range 8) List.nodup_range fun i hi => ?_
  rw [(onlyCtr_controlCounted p cMac_RX_PFC s).withPorts.now, fcTimer_controlCounted]
  exact hign i (List.mem_range.mp hi)

/-- A pause storm ends the hold, and ignores the timer from then on (R81). -/
theorem pauseStorm_ends {i : Nat} (hhold : fget (live s (pa (macPage p) offPAUSE_WD)) fPAUSE_WD_HOLD_MS ≠ 0)
    (hrun : now s < (fcTimer s p i).fin)
    (hstorm : (fcTimer s p i).holdStart + fget (live s (pa (macPage p) offPAUSE_WD)) fPAUSE_WD_HOLD_MS * tMs < now s) :
    pauseStorm p i s = raiseIrq (macPage p) 3 (pvRecord p 4 (setFcTimer p i
      ⟨0, 0, now s + fget (live s (pa (macPage p) offPAUSE_WD)) fPAUSE_WD_IGNORE_MS * tMs⟩ s)) := by
  unfold pauseStorm
  simp [hhold, Nat.not_le.mpr hrun, Nat.not_le.mpr hstorm]

/-- While a condition stands and no frame of it is owed, one is owed again when its time has come (R79). -/
theorem fcRefresh_due {i : Nat} (hcond : (port s p).cond.contains i = true)
    (howed : (port s p).fcOwed.any (fun e => e.1 == i) = false)
    (hdue : mget (fun _ => 0) (port s p).fcLast i + quantaUnits s p (liveF s (pa (macPage p) offFC_CFG) fFC_CFG_QUANTA) / 2 ≤ now s) :
    fcRefresh p i s = setPort p { port s p with fcOwed := (port s p).fcOwed ++ [(i, true)] } s := by
  unfold fcRefresh
  dsimp only
  rw [if_pos]
  rw [hcond, howed, decide_eq_true hdue]
  rfl

end

/-- Settles O30: a control frame received is counted and acts on its timers, whose rules say what they hold; a frame owed is sent
and counted before anything follows it. -/
theorem flowControlReceivedAndSent : Obligations.FlowControlReceivedAndSent := by
  intro s p hs hp
  have hcounted : ∀ off, OnlyPortsCtr s (controlCounted p off s) := fun off => (onlyCtr_controlCounted p off s).withPorts
  refine ⟨fun hrx => ⟨fun q _ hen hign => ?_, fun q hoff hpfc => ?_, fun q hoff hpfc => ?_, fun en qs hen hign => ?_,
    fun en qs hoff hpause => ?_⟩, fun i _ hfin => ?_, fun i _ hhold hrun hstorm => ?_, fun i _ hign => ?_,
    fun i on rest howed hopen hgate => ?_, fun i hcond howed hdue => ?_⟩
  · have honly := (hcounted cMac_RX_PAUSE).trans (onlyPorts_setFcTimer _ p 8 (timerLoaded s p q (fcTimer s p 8))).withCtr
    refine gives_act_eq hs rfl (pauseEvent_loads q hrx hen hign) honly.boardKeeps
      ⟨(counts_controlCounted p s (by decide) (by decide)).same (by rw [(onlyPorts_setFcTimer _ p 8 _).bus]), ?_, ?_,
        fun j hj => (otherTimers_setFcTimer _ p 8 _ j hj).trans (fcTimer_controlCounted p _ p j s),
        fun q hq => (otherPorts_setFcTimer _ p 8 _ q hq).trans (port_controlCounted p _ q s), honly⟩
    · rw [fcTimer_setFcTimer_same, fin_timerLoaded]
    · rw [fcTimer_setFcTimer_same, ignEnd_timerLoaded]
  · refine gives_act hs rfl ?_
    rw [pauseEvent_eq q hrx, if_neg (by simp [hoff]), if_pos hpfc]
    exact ⟨testBit_pvRecord hp _ (by decide), fun i =>
      (fcTimer_pvRecord p 3 p i _).trans (fcTimer_controlCounted p _ p i s)⟩
  · have hf : pauseEvent p q s = controlCounted p cMac_RX_PAUSE s := by
      rw [pauseEvent_eq q hrx, if_neg (by simp [hoff]), if_neg (by simp [hpfc])]
    refine gives_act_eq hs rfl hf (hcounted _).boardKeeps ⟨counts_controlCounted p s (by decide) (by decide),
      onlyCtr_controlCounted p cMac_RX_PAUSE s⟩
  · obtain ⟨hloaded, hothers, hports, honly⟩ := pfcEvent_loads en qs hrx hen hign
    have hall := (hcounted cMac_RX_PFC).trans honly.withCtr
    have hcounts := (counts_controlCounted (off := cMac_RX_PFC) p s (by decide) (by decide)).same (congrArg BusSt.ctr honly.bus)
    refine gives_act_eq hs rfl rfl hall.boardKeeps ⟨hcounts, fun i hi => ?_,
      (hothers 8 (by simp)).trans (fcTimer_controlCounted p _ p 8 s),
      fun q hq => (hports q hq).trans (port_controlCounted p _ q s), hall⟩
    rw [hloaded i (List.mem_range.mpr hi), (hcounted _).now, (hcounted _).quantaUnits, fcTimer_controlCounted]
  · refine gives_act hs rfl ?_
    rw [pfcEvent_eq en qs hrx, if_neg (by simp [hoff]), if_pos hpause]
    exact ⟨testBit_pvRecord hp _ (by decide), fun i =>
      (fcTimer_pvRecord p 3 p i _).trans (fcTimer_controlCounted p _ p i s)⟩
  · have hf : pauseTimerExpire p i s = setFcTimer p i { fcTimer s p i with fin := 0, holdStart := 0 } s := if_pos hfin
    exact gives_act_eq hs rfl hf rfl ⟨by rw [fcTimer_setFcTimer_same], by rw [fcTimer_setFcTimer_same],
      otherTimers_setFcTimer s p i _, otherPorts_setFcTimer s p i _, rfl⟩
  · refine gives_act hs rfl ?_
    rw [pauseStorm_ends hhold hrun hstorm]
    have hport : ∀ q u, port (boardKeeps s (raiseIrq (macPage p) 3 (pvRecord p 4 u))) q = port u q := fun q u => by
      rw [port, boardKeeps_ports, raiseIrq_ports, ports_pvRecord, port]
    have hstays : ∀ j u, fcTimer (boardKeeps s (raiseIrq (macPage p) 3 (pvRecord p 4 u))) p j = fcTimer u p j := fun j u => by
      rw [fcTimer, hport, fcTimer]
    refine ⟨?_, ?_, testBit_raiseIrq _ 3 _ (by decide), fun j hj => ?_, fun q hq => ?_⟩
    · exact (hstays i _).trans (fcTimer_setFcTimer_same s p i _)
    · rw [reg_boardKeeps, reg_raiseMac hp _ _ (by decide) (by decide)]
      exact testBit_pvRecord hp _ (by decide)
    · exact (hstays j _).trans (otherTimers_setFcTimer s p i _ j hj)
    · exact (hport q _).trans (otherPorts_setFcTimer s p i _ q hq)
  · have hf : ignoreExpire p i s = setFcTimer p i { fcTimer s p i with ignEnd := 0 } s := if_pos hign
    exact gives_act_eq hs rfl hf rfl ⟨by rw [fcTimer_setFcTimer_same], by rw [fcTimer_setFcTimer_same],
      otherTimers_setFcTimer s p i _, otherPorts_setFcTimer s p i _, rfl⟩
  · refine gives_act hs rfl ⟨fcSent s p i on rest, ?_, ?_, ?_, otherPorts_fcSent, counts_fcSent, onlyPortsCtr_fcSent, fun hup => ?_,
      fun hloop => ?_⟩
    · rw [port_fcSent, port_fcTaken]
    · rw [port_fcSent]
    · rw [port_fcSent, port_fcTaken]
      exact mget_mset_same _ _ _ _
    · rw [fcFrameSend_owed howed hopen hgate, if_neg hup]
      exact (onlyPortsCtr_fcSent.trans (onlyPorts_startNext p _).withCtr).boardKeeps
    · rw [fcFrameSend_owed howed hopen hgate, if_pos hloop]
  · exact gives_act_eq hs rfl (fcRefresh_due hcond howed hdue) rfl
      ⟨by rw [port_setPort_same], by rw [port_setPort_same], otherPorts_setPort p _ s, rfl⟩

end Sys2Proof.Machine
end

section
/-!
PROOFS. Energy efficient ethernet (R70, R82, R83).
-/

namespace Sys2Proof.Machine
open Sys2Proof

section
variable {s : State} {p : Nat}

@[simp] theorem ctr_setSts (f : Fld) (v : Nat) (s : State) (a : Nat) : ctr (setSts p f v s) a = ctr s a := rfl
@[simp] theorem port_setSts (q : Nat) (f : Fld) (v : Nat) (s : State) : port (setSts p f v s) q = port s q := rfl

/-- A write of a field of MAC_STS after ports alone changed. -/
theorem OnlyPorts.onlyRegs_setSts {t : State} (h : OnlyPorts s t) (f : Fld) (v : Nat) :
    OnlyRegs [pa (macPage p) offMAC_STS] { s with ports := (setSts p f v t).ports } (setSts p f v t) := by
  have hports : { s with ports := (setSts p f v t).ports } = t := h.symm
  rw [hports]
  exact onlyRegs_refl.setRegF (by simp) _ _

theorem OnlyPortsCtr.keeps_setSts {t : State} (h : OnlyPortsCtr s t) (f : Fld) (v : Nat) :
    Machine.boardKeeps s (setSts p f v t) = setSts p f v t :=
  boardKeeps_eq_self (t := setSts p f v t) (show t.pending = s.pending by rw [h]) (show t.pin = s.pin by rw [h])

/-- A port idle for its time enters LPI (R83). -/
theorem lpiEnter_idle (heee : macSts s p fMAC_STS_EEE_ACTIVE = 1) (hlpi : macSts s p fMAC_STS_TX_LPI = 0)
    (hgate : gateEn s p = false) (htx : (port s p).tx = none) (hwants : txWants s p = false)
    (hidle : (port s p).idleSince + liveF s (pa (macPage p) offEEE_CFG) fEEE_CFG_LPI_IDLE_US * tUs ≤ now s) :
    lpiEnter p s = setSts p fMAC_STS_TX_LPI 1 (setPort p { port s p with lpiSince := now s } s) := by
  simp [lpiEnter, heee, hlpi, hgate, htx, hwants, Nat.not_lt.mpr hidle]

/-- A port in LPI with a frame waiting leaves it, its time in LPI counted (R75, R83). -/
theorem lpiWake_waiting (hlpi : macSts s p fMAC_STS_TX_LPI = 1) (hwants : txWants s p = true) :
    lpiWake p s = setSts p fMAC_STS_TX_LPI 0 (countLpi p s) := by
  simp [lpiWake, endLpi, hlpi, hwants]

/-- The time a port spent in LPI is counted in whole µs (R75). -/
theorem ctr_countLpi (hlpi : macSts s p fMAC_STS_TX_LPI = 1) : ctr (countLpi p s) (pa (macPage p) cMac_LPI_TX_US) =
    Nat.min maxCtr (ctr s (pa (macPage p) cMac_LPI_TX_US) + ((port s p).lpiRem + (now s - (port s p).lpiSince)) / tUs) := by
  unfold countLpi
  rw [if_neg (by omega)]
  exact ctr_setCtr_same _ _ _

theorem onlyPortsCtr_countLpi (p : Nat) (s : State) : OnlyPortsCtr s (countLpi p s) := by
  unfold countLpi
  split_ifs
  · exact onlyPortsCtr_refl s
  · exact (onlyPortsCtr_setPort p _ s).trans (onlyCtr_ctrAdd _ _ _ _).withPorts

/-- The partner's LPI is shown where EEE is active. -/
theorem rxLpi_active (on : Bool) (hlink : macSts s p fMAC_STS_LINK = 1) (heee : macSts s p fMAC_STS_EEE_ACTIVE = 1) :
    rxLpi p on s = setSts p fMAC_STS_RX_LPI (if on then 1 else 0) s := by
  simp [rxLpi, hlink, heee]

/-- Where EEE is not active, the partner's entry into LPI is a violation. -/
theorem rxLpi_inactive (on : Bool) (hlink : macSts s p fMAC_STS_LINK = 1) (heee : macSts s p fMAC_STS_EEE_ACTIVE = 0) :
    rxLpi p on s = if on then pvRecord p 7 s else s := by
  simp [rxLpi, hlink, heee]

end

/-- Settles O27: each command is one write of a field of MAC_STS, with the port's time in LPI begun or counted, or one violation. -/
theorem energyEfficientEthernet : Obligations.EnergyEfficientEthernet := by
  intro s p hs hp
  refine ⟨fun heee hlpi hgate htx hwants hidle => ?_, fun hlpi hwants => ?_,
    fun on hlink => ⟨fun heee => ?_, fun heee => ⟨?_, ?_⟩⟩⟩
  · refine gives_act_eq hs rfl (lpiEnter_idle heee hlpi hgate htx hwants hidle)
      ((onlyPorts_setPort p _ s).withCtr.keeps_setSts _ _)
      ⟨macSts_setSts_same _ p fMAC_STS_TX_LPI 1 (by decide) (by decide), ?_, fun q hq => ?_, ?_⟩
    · rw [port_setSts, port_setPort_same]
    · rw [port_setSts, port_setPort_other _ _ _ _ hq]
    · exact (onlyPorts_setPort p _ s).onlyRegs_setSts _ _
  · have hcount := onlyPortsCtr_countLpi p s
    refine gives_act_eq hs rfl (lpiWake_waiting hlpi hwants)
      (hcount.keeps_setSts _ _)
      ⟨macSts_setSts_same _ p fMAC_STS_TX_LPI 0 (by decide) (by decide), ?_, fun a ha => ?_⟩
    · rw [ctr_setSts, ctr_countLpi hlpi]
    · exact (reg_setReg_other _ _ _ _ ha).trans (hcount.reg a)
  · have hwrite : OnlyRegs [pa (macPage p) offMAC_STS] s (setSts p fMAC_STS_RX_LPI (if on then 1 else 0) s) :=
      onlyRegs_refl.setRegF (by simp) _ _
    refine hwrite.gives hs rfl (rxLpi_active on hlink heee) ⟨?_, hwrite⟩
    rw [macSts_setSts_same s p fMAC_STS_RX_LPI _ (by decide) (by decide)]
    cases on <;> rfl
  · refine gives_act hs rfl ?_
    rw [rxLpi_inactive true hlink heee, if_pos rfl]
    exact ⟨testBit_pvRecord hp s (by decide), macSts_pvRecord hp s 7 fMAC_STS_RX_LPI⟩
  · exact gives_act_eq hs rfl (rxLpi_inactive false hlink heee) rfl rfl

end Sys2Proof.Machine
end

section
/-!
PROOFS. The words of the SerDes pages beside a port's own, and the time beside a frame that is dropped (R60, R63, R71).
-/

namespace Sys2Proof.Machine
open Sys2Proof

/-! ### Words of the SerDes pages -/

/-- The words of the SerDes pages, and of whatever follows them. -/
def QuadWord (a : Nat) : Prop := 0x180 ≤ pageOf a

theorem quadWord_pa {page off : Nat} (hp : 0x180 ≤ page) : QuadWord (pa page off) := by
  simp only [QuadWord, pageOf, pa]; omega

/-- A word of a MAC page is none of them. -/
theorem not_quadWord_mac {p off : Nat} (hp : p < 256) (ho : off < 0x1000) : ¬ QuadWord (pa (macPage p) off) := by
  rw [QuadWord, pageOf_pa _ _ ho]
  simp only [macPage]; omega

section
variable (p : Nat) (s : State)

theorem quadOnly_setLanes (w : Nat) (f : Word → Word) : Aside QuadWord s (setLanes p w f s) :=
  Aside.forAll (fun _ u => (Aside.refl u).setReg (.inr (quadWord_pa ((le_quadPage p).trans (Nat.le_succ _)))) _) _ s

theorem quadOnly_freePlls : Aside QuadWord s (freePlls (quadPage p) s) := by
  refine Aside.forAll (fun k u => ?_) _ s
  dsimp only
  split_ifs
  · exact .refl u
  · exact ((Aside.refl u).setReg (.inr (quadWord_pa (le_quadPage p))) _).setReg (.inr (quadWord_pa (le_quadPage p))) _

theorem quadOnly_takePll (fam w k : Nat) : Aside QuadWord s (takePll p fam w k s) :=
  ((Aside.refl s).setReg (.inr (quadWord_pa (le_quadPage p))) _).trans
    (Aside.forAll (fun _ u => (Aside.refl u).setReg (.inr (quadWord_pa (le_quadPage p))) _) _ _)

end

/-- A change of words of the SerDes pages leaves a MAC page. -/
theorem Aside.mac {p off : Nat} {s t : State} (h : Aside QuadWord s t) (hp : p < 256) (ho : off < 0x1000) :
    reg t (pa (macPage p) off) = reg s (pa (macPage p) off) :=
  h.reg _ (not_noise_mac hp ho) (not_quadWord_mac hp ho)

theorem Aside.quadMacSts {p : Nat} {s t : State} (h : Aside QuadWord s t) (hp : p < 256) (f : Fld) : macSts t p f = macSts s p f :=
  macSts_of_reg (h.mac hp (by decide)) f

theorem Aside.quadTryState {p : Nat} {s t : State} (h : Aside QuadWord s t) (hp : p < 256) : tryState t p = tryState s p := by
  rw [tryState, liveF, h.live _ (not_noise_mac hp (by decide)) (not_quadWord_mac hp (by decide))]
  rfl

/-! ### The time beside a frame that is dropped -/

theorem time_forAll {α : Type} {f : α → State → State} (hf : ∀ x s, (f x s).time = s.time) (l : List α) (s : State) :
    (forAll f l s).time = s.time :=
  forAll_rel (R := fun s t => t.time = s.time) (fun _ => rfl) (fun _ _ _ h1 h2 => h2.trans h1) hf l s

theorem OnlyPortsClr.time {s t : State} (h : OnlyPortsClr s t) : t.time = s.time := by rw [h]

section
variable (s : State)

@[simp] theorem setPair_time (i n m : Nat) : (setPair i n m s).time = s.time := by unfold setPair; rfl
@[simp] theorem pairAdd_time (i n m : Nat) : (pairAdd i n m s).time = s.time := setPair_time s i _ _
@[simp] theorem ctrAdd_time (page off n : Nat) : (ctrAdd page off n s).time = s.time := setCtr_time s _ _
@[simp] theorem count_time (page off : Nat) : (count page off s).time = s.time := ctrAdd_time s page off 1
@[simp] theorem setSts_time (p : Nat) (f : Fld) (v : Nat) : (setSts p f v s).time = s.time := setRegF_time s _ f v
@[simp] theorem setQueueList_time (q : Nat) (l : List Nat) : (setQueueList q l s).time = s.time := rfl
@[simp] theorem dropRefs_time (cs : List Nat) : (dropRefs cs s).time = s.time := (onlyPortsClr_dropRefs cs s).time

@[simp] theorem setLanes_time (p w : Nat) (f : Word → Word) : (setLanes p w f s).time = s.time :=
  time_forAll (fun l u => setReg_time u (pa (quadPage p + 1) (offSDQ_LSTS l)) _) _ s

@[simp] theorem flushPort_time (p : Nat) : (flushPort p s).time = s.time := by
  unfold flushPort; split_ifs <;> rfl

@[simp] theorem updPass_time (k : Nat) (f : Pass → Pass) : (updPass k f s).time = s.time := by
  unfold updPass
  split
  · rfl
  · exact setPass_time s k _

@[simp] theorem dropPair_time (p k : Nat) (fl : FrameLen) : (dropPair p k fl s).time = s.time := by
  unfold dropPair oweDrop
  dsimp only
  split_ifs
  · split
    · exact pairAdd_time s _ _ _
    · refine (time_forAll (fun o u => ?_) _ _).trans (pairAdd_time s _ _ _)
      split
      · split_ifs
        · exact setPort_time u _ _
        · rfl
      · rfl
  · rfl

@[simp] theorem countBody_time (why p : Nat) (fl : FrameLen) : (countBody why p fl s).time = s.time := by
  unfold countBody
  split
  · simp [countRxLimit]
  · simp [countRefusal]
  · unfold countRefusal
    dsimp only
    split_ifs <;> simp
  · rfl

@[simp] theorem rxRefused_time (p : Nat) (r : RxFrame) : (rxRefused p r s).time = s.time :=
  (time_forAll (fun (e : Nat × Nat) u => pairAdd_time u e.1 0 (r.bytes.length - e.2)) _ _).trans (countBody_time s _ _ _)

@[simp] theorem removeCopy_time (id : Nat) : (removeCopy id s).time = s.time := by
  unfold removeCopy
  split
  · rfl
  · simp only [dropRefs_time, setQueueList_time]

@[simp] theorem landCopy_time (d : Desc) : (landCopy d s).time = s.time := by
  unfold landCopy
  dsimp only
  split_ifs <;> rfl

@[simp] theorem dropCopy_time (id : Nat) : (dropCopy id s).time = s.time := by
  unfold dropCopy
  split
  · rfl
  · simp

@[simp] theorem unselect_time (id : Nat) : (unselect id s).time = s.time := by
  refine time_forAll (fun o u => ?_) _ s
  split_ifs
  · exact setPort_time u _ _
  · rfl

@[simp] theorem earlyFail_time (k : Nat) : (earlyFail k s).time = s.time := by
  unfold earlyFail
  refine (time_forAll (fun e u => ?_) _ _).trans (updPass_time s _ _)
  split
  · rfl
  · simp

@[simp] theorem dropRx_time (p : Nat) : (dropRx p s).time = s.time := by
  unfold dropRx rxFail
  split
  · rfl
  · dsimp only
    split <;> simp

@[simp] theorem countLpi_time (p : Nat) : (countLpi p s).time = s.time := by
  unfold countLpi; split_ifs <;> simp

@[simp] theorem countShed_time (p : Nat) : (countShed p s).time = s.time := by
  unfold countShed
  dsimp only
  split_ifs <;> simp

@[simp] theorem endLpi_time (p : Nat) : (endLpi p s).time = s.time := by
  unfold endLpi; split_ifs <;> simp

theorem clearSts_time (p : Nat) (l : List Fld) : (forAll (fun f => setSts p f 0) l s).time = s.time :=
  time_forAll (fun f u => setSts_time u p f 0) l s

end

/-! ### A link that falls (R70) -/

/-- The fields of MAC_STS that fall with the link. -/
def fallenSts : List Fld := [fMAC_STS_LINK, fMAC_STS_ACTIVE_LANES, fMAC_STS_RX_LPI, fMAC_STS_COPPICE_ACTIVE, fMAC_STS_EEE_ACTIVE]

/-- The state in which the frame in reception is dropped and those fields have fallen. -/
@[irreducible] def stsFallen (p : Nat) (s : State) : State :=
  forAll (fun f => setSts p f 0) fallenSts (dropRx p (countShed p (endLpi p s)))

/-- The state in which the port waits for a new link, before its fall is reported. -/
@[irreducible] def linkFallen (p lstate : Nat) (s : State) : State :=
  setSts p fMAC_STS_LSTATE lstate (setLanes p (modeLanes (phyType s p)) (fun _ => 0)
    (setPort p { port (stsFallen p s) p with copReq := none, copLowSince := none, copSent := none } (stsFallen p s)))

section
variable (p lstate : Nat) (s : State)

/-- The fall of a link that was up is reported, and its MACs are flushed. -/
theorem takeDown_eq : takeDown p lstate s = if macSts s p fMAC_STS_LINK = 1 then
    flushPort p (raiseIrq (macPage p) 1 (linkFallen p lstate s)) else linkFallen p lstate s := by
  unfold linkFallen stsFallen fallenSts
  rfl

@[simp] theorem stsFallen_time : (stsFallen p s).time = s.time := by
  unfold stsFallen
  rw [clearSts_time, dropRx_time, countShed_time, endLpi_time]

@[simp] theorem linkFallen_time : (linkFallen p lstate s).time = s.time := by
  unfold linkFallen
  rw [setSts_time, setLanes_time, setPort_time, stsFallen_time]

/-- A link that falls takes no time. -/
@[simp] theorem takeDown_time : (takeDown p lstate s).time = s.time := by
  rw [takeDown_eq]
  split_ifs <;> simp

end

end Sys2Proof.Machine
end

section
/-!
PROOFS. The links of the ports: negotiation, training, links up and down, and PLLs (R63 to R71, R457).
-/

namespace Sys2Proof.Machine
open Sys2Proof

/-! ### Negotiation (R64, R66, R68) -/

theorem foldl_highest {ty : Nat} (l : List Nat) (b : Option Nat) (hl : ∀ u ∈ l, u ≤ ty) (hb : b.getD 0 ≤ ty)
    (hty : b = some ty ∨ ty ∈ l) : l.foldl (fun b u => some (Nat.max (b.getD 0) u)) b = some ty := by
  induction l generalizing b with
  | nil => simpa using hty
  | cons u l ih =>
    have hu : u ≤ ty := hl u (by simp)
    refine ih _ (fun v hv => hl v (by simp [hv])) (Nat.max_le.mpr ⟨hb, hu⟩) ?_
    rcases hty with rfl | hmem
    · exact .inl (congrArg some (Nat.max_eq_left hu))
    · rcases List.mem_cons.mp hmem with rfl | hmem
      · exact .inl (congrArg some (Nat.max_eq_right hb))
      · exact .inr hmem

section
variable {s : State} {p : Nat}

@[simp] theorem port_boardKeeps (t : State) (q : Nat) : port (boardKeeps s t) q = port t q := rfl

theorem highestCommon_some {types ty : Nat} (hty : ty ∈ advertised s p) (hbit : types.testBit (ty - 0x10) = true)
    (hmax : ∀ u ∈ advertised s p, types.testBit (u - 0x10) = true → u ≤ ty) : highestCommon s p types = some ty := by
  refine foldl_highest _ none (fun u hu => ?_) (Nat.zero_le _) (.inr (List.mem_filter.mpr ⟨hty, hbit⟩))
  obtain ⟨hu, hb⟩ := List.mem_filter.mp hu
  exact hmax u hu hb

theorem highestCommon_none {types : Nat} (h : ∀ ty ∈ advertised s p, types.testBit (ty - 0x10) = false) :
    highestCommon s p types = none := by
  have hnil : (advertised s p).filter (fun ty => types.testBit (ty - 0x10)) = [] :=
    List.filter_eq_nil_iff.mpr fun ty hty => by simp [h ty hty]
  rw [highestCommon, hnil]
  rfl

/-- A type that a port advertises is one of the ten of ANMASK. -/
theorem advertised_lt {ty : Nat} (h : ty ∈ advertised s p) : ty < 32 := by
  unfold advertised anPossible anTypes at h
  split at h <;> simp at h <;> omega

theorem fecDefault_lt (m : Nat) : fecDefault m < 8 := by unfold fecDefault; split <;> decide

theorem resolvedFec_lt (s : State) (p ty fec : Nat) : resolvedFec s p ty fec < 8 := by
  unfold resolvedFec
  dsimp only
  split_ifs <;> simp [fecDefault_lt ty]

theorem tryState_lt (s : State) (p : Nat) : tryState s p < 8 := by unfold tryState; split_ifs <;> decide

/-- A port whose resolved type runs: its PLL is taken, and its state says type, FEC and what is tried. -/
@[irreducible] def typeRun (p m fec k : Nat) (s : State) : State :=
  setSts p fMAC_STS_LSTATE (tryState s p) (setSts p fMAC_STS_CFG_ERR 0 (setSts p fMAC_STS_FEC fec
    (setSts p fMAC_STS_RESOLVED m (takePll p (modeFamily m) (modeLanes m) k s))))

theorem runType_run {m fec k : Nat} (hp : p < 256) (hk : pllFor s (quadPage p) (modeFamily m) = some k) (hf : fecMode s p = 0) :
    runType p m (some fec) s = typeRun p m fec k s := by
  have htry := (quadOnly_takePll p s (modeFamily m) (modeLanes m) k).quadTryState hp
  unfold runType typeRun
  rw [hk]
  simp only [hf, ne_eq, not_true_eq_false, decide_false, Bool.false_and, Bool.false_eq_true, if_false, Option.getD_some, htry,
    forAll]

theorem takePll_ports (fam w k : Nat) : (takePll p fam w k s).ports = s.ports :=
  forAll_rel (R := fun s t => t.ports = s.ports) (fun _ => rfl) (fun _ _ _ h h' => h'.trans h)
    (fun l u => setRegF_ports u (pa (quadPage p) (offSDQ_LANE l)) fSDQ_LANE_PLL_SEL k) _ _

theorem setSts_ports (f : Fld) (v : Nat) : (setSts p f v s).ports = s.ports := setRegF_ports s _ f v

theorem typeRun_ports (m fec k : Nat) : (typeRun p m fec k s).ports = s.ports := by
  unfold typeRun
  simp only [setSts_ports, takePll_ports]

/-- What MAC_STS shows of a type that runs. -/
theorem macSts_typeRun {m fec k : Nat} (hm : m < 32) (hfec : fec < 8) :
    macSts (typeRun p m fec k s) p fMAC_STS_RESOLVED = m ∧ macSts (typeRun p m fec k s) p fMAC_STS_FEC = fec ∧
      macSts (typeRun p m fec k s) p fMAC_STS_CFG_ERR = 0 ∧ macSts (typeRun p m fec k s) p fMAC_STS_LSTATE = tryState s p := by
  unfold typeRun
  simp (disch := decide) only [macSts_setSts_field, macSts_setSts_same]
  exact ⟨Nat.mod_eq_of_lt hm, Nat.mod_eq_of_lt hfec, rfl, Nat.mod_eq_of_lt (tryState_lt s p)⟩

/-- A type that Clause 73 resolved runs on the PLL it finds. -/
theorem runResolved_run {ty fec k : Nat} (eee : Bool) (hp : p < 256) (hk : pllFor s (quadPage p) (modeFamily ty) = some k)
    (hf : fecMode s p = 0) : runResolved p ty fec eee s =
      setPort p { port s p with partnerEee := eee, resolvedAt := some (now (typeRun p ty fec k s)) } (typeRun p ty fec k s) := by
  have hport : port (typeRun p ty fec k s) p = port s p := by rw [port, typeRun_ports, port]
  unfold runResolved
  dsimp only
  rw [if_pos (by rw [hk]; rfl), runType_run hp hk hf, hport]

theorem autoNegotiation_some {types fec ty : Nat} {eee : Bool} (hneg : macSts s p fMAC_STS_LSTATE = lsNeg)
    (hen : portEnabled s p = true) (hty : highestCommon s p types = some ty) :
    autoNegotiation p types fec eee s = runResolved p ty (resolvedFec s p ty fec) eee s := by
  unfold autoNegotiation
  rw [if_neg (by simp [hneg, hen]), hty]

theorem autoNegotiation_none {types fec : Nat} {eee : Bool} (hneg : macSts s p fMAC_STS_LSTATE = lsNeg)
    (hen : portEnabled s p = true) (hty : highestCommon s p types = none) :
    autoNegotiation p types fec eee s = pvRecord p 5 s := by
  unfold autoNegotiation
  rw [if_neg (by simp [hneg, hen]), hty]

end

/-! ### Training (R67, R457) -/

/-- A tap of either sign has its magnitude (R457). -/
theorem natAbs_tap {m : Nat} (hm : m ≤ 32) (neg : Bool) :
    (signed 6 ((if m = 32 || neg then (64 - m) % 64 else m) % 64)).natAbs = m := by
  unfold signed
  split_ifs <;> omega

/-- The taps that training names are legal ones (R457). -/
theorem txeqLegal_tapWord (v : Nat) : txeqLegal (tapWord v) = true := by
  have ha : v % 33 ≤ 32 := by omega
  have hb : v / 33 % (33 - v % 33) < 33 - v % 33 := Nat.mod_lt _ (by omega)
  have hc : v / 1089 % (33 - v % 33 - v / 33 % (33 - v % 33)) < 33 - v % 33 - v / 33 % (33 - v % 33) := Nat.mod_lt _ (by omega)
  unfold txeqLegal tapWord
  simp (disch := decide) only [fget_fset_same, fget_fset_other]
  generalize v % 33 = a at *
  generalize v / 33 % (33 - a) = b at *
  generalize v / 1089 % (33 - a - b) = c at *
  have hsum : ∀ x y z : Bool, (signed 6 ((if c = 32 || x then (64 - c) % 64 else c) % 64)).natAbs +
      (signed 6 ((if b = 32 || y then (64 - b) % 64 else b) % 64)).natAbs +
      (signed 6 ((if a = 32 || z then (64 - a) % 64 else a) % 64)).natAbs ≤ 32 := fun x y z => by
    rw [natAbs_tap (by omega), natAbs_tap (by omega), natAbs_tap ha]
    omega
  exact decide_eq_true (hsum _ _ _)

section
variable {s : State} {p : Nat}

/-- The taps of one lane as training leaves them. -/
def trainLane (p l : Nat) (s : State) : State := freeNext (setReg (pa (quadPage p) (offSDQ_TXEQ l)) (tapWord (freeNow s)) s)

theorem reg_freeNext (a : Nat) : reg (freeNext s) a = reg s a := by
  rw [reg, freeNext_bus, freeNext_straps, reg]

theorem reg_trainLane (l a : Nat) : reg (trainLane p l s) a =
    if a = pa (quadPage p) (offSDQ_TXEQ l) then tapWord (freeNow s) else reg s a := by
  unfold trainLane
  split_ifs with h
  · rw [reg_freeNext, h, reg_setReg_same]
  · rw [reg_freeNext, reg_setReg_other _ _ _ _ h]

/-- Legal taps stay legal while other lanes are trained. -/
theorem txeqLegal_trainLanes (ls : List Nat) {a : Nat} (h : txeqLegal (reg s a) = true) :
    txeqLegal (reg (forAll (trainLane p) ls s) a) = true := by
  induction ls generalizing s with
  | nil => exact h
  | cons l ls ih =>
    rw [forAll]
    refine ih ?_
    rw [reg_trainLane]
    split_ifs
    · exact txeqLegal_tapWord _
    · exact h

theorem txeqLegal_of_trained (ls : List Nat) {l : Nat} (hl : l ∈ ls) :
    txeqLegal (reg (forAll (trainLane p) ls s) (pa (quadPage p) (offSDQ_TXEQ l))) = true := by
  induction ls generalizing s with
  | nil => exact absurd hl (by simp)
  | cons k ls ih =>
    rw [forAll]
    by_cases hmem : l ∈ ls
    · exact ih hmem
    · obtain rfl : l = k := by simpa [hmem] using hl
      refine txeqLegal_trainLanes ls ?_
      rw [reg_trainLane, if_pos rfl]
      exact txeqLegal_tapWord _

/-- Training that succeeds leads to alignment. -/
theorem linkTraining_ok (htrain : macSts s p fMAC_STS_LSTATE = lsTrain) (hlock : portLocked s p = true) :
    linkTraining p true s = setSts p fMAC_STS_LSTATE lsAlign (trainTaps p (modeLanes (phyType s p))
      (setLanes p (modeLanes (phyType s p)) (fun w => fset w fSDQ_LSTS_TRAINED 1) s)) := by
  simp [linkTraining, htrain, hlock]

/-- Training that fails is a violation; a port of a fixed type trains on. -/
theorem linkTraining_failed (hp : p < 256) (htrain : macSts s p fMAC_STS_LSTATE = lsTrain) (hlock : portLocked s p = true)
    (hfix : portMode s p ≠ 0x1F) : linkTraining p false s = pvRecord p 6 s := by
  have hmode : portMode (pvRecord p 6 s) p ≠ 0x1F := by rwa [portMode, liveF, live_pvRecord_macCfg hp]
  simp [linkTraining, htrain, hlock, hmode]

end

/-! ### A link that comes up (R70) -/

section
variable {s : State} {p : Nat}

/-- The state in which a link is up, before it is reported. -/
@[irreducible] def linkRaised (p snr : Nat) (s : State) : State :=
  let s1 := setSts p fMAC_STS_EEE_ACTIVE (if fbit (live s (pa (macPage p) offMAC_CFG)) fMAC_CFG_EEE_EN &&
      regB s (pa (macPage p) offANMASK) fANMASK_EEE_ADV && (port s p).partnerEee && eeeType (phyType s p) then 1 else 0)
    (setSts p fMAC_STS_ACTIVE_LANES (modeLanes (phyType s p)) (setSts p fMAC_STS_LINK 1 (setSts p fMAC_STS_LSTATE
      (if fget (live s (pa (macPage p) offMAC_CFG)) fMAC_CFG_LOOPBACK ≠ 0 then lsLoop else lsUp) s)))
  setPort p { port s1 p with idleSince := now s1 } (setLanes p (modeLanes (phyType s p))
    (fun x => fset (fset (fset x fSDQ_LSTS_SIGNAL 1) fSDQ_LSTS_CDR_LOCK 1) fSDQ_LSTS_SNR snr) s1)

theorem linkUpEvent_up {snr : Nat} (halign : macSts s p fMAC_STS_LSTATE = lsAlign) (hlock : portLocked s p = true)
    (hen : portEnabled s p = true) : linkUpEvent p snr s = raiseIrq (macPage p) 0 (linkRaised p snr s) := by
  unfold linkUpEvent linkRaised
  rw [if_neg (by simp [halign, hlock, hen])]
  rfl

theorem modeLanes_lt (m : Nat) : modeLanes m < 8 := by unfold modeLanes; split <;> decide

theorem macSts_linkRaised (snr : Nat) (hp : p < 256) : macSts (linkRaised p snr s) p fMAC_STS_LINK = 1 ∧
    macSts (linkRaised p snr s) p fMAC_STS_ACTIVE_LANES = modeLanes (phyType s p) ∧
    macSts (linkRaised p snr s) p fMAC_STS_LSTATE =
      (if liveF s (pa (macPage p) offMAC_CFG) fMAC_CFG_LOOPBACK = 0 then lsUp else lsLoop) := by
  unfold linkRaised
  dsimp only
  simp only [macSts_setPort, (quadOnly_setLanes p _ _ _).quadMacSts hp]
  simp (disch := decide) only [macSts_setSts_field, macSts_setSts_same]
  refine ⟨rfl, Nat.mod_eq_of_lt (modeLanes_lt _), ?_⟩
  change (if liveF s (pa (macPage p) offMAC_CFG) fMAC_CFG_LOOPBACK ≠ 0 then lsLoop else lsUp) % 8 = _
  by_cases h : liveF s (pa (macPage p) offMAC_CFG) fMAC_CFG_LOOPBACK = 0
  · rw [if_pos h, if_neg (not_not.mpr h)]
    rfl
  · rw [if_neg h, if_pos h]
    rfl

end

theorem forAll_map {α β : Type} (f : β → State → State) (g : α → β) (l : List α) (s : State) :
    forAll f (l.map g) s = forAll (fun x => f (g x)) l s := by
  induction l generalizing s with
  | nil => rfl
  | cons x l ih => exact ih (f (g x) s)

/-! ### A link that falls (R70) -/

section
variable {s t : State} {p : Nat}

/-- A port's link is down, with no lane active, and its fall is reported. -/
structure LinkFell (p : Nat) (s : State) : Prop where
  link : macSts s p fMAC_STS_LINK = 0
  lanes : macSts s p fMAC_STS_ACTIVE_LANES = 0
  irq : (reg s (pa (macPage p) offIRQ_STS)).toNat.testBit 1 = true

theorem LinkFell.of_regs (h : LinkFell p s) (hsts : reg t (pa (macPage p) offMAC_STS) = reg s (pa (macPage p) offMAC_STS))
    (hirq : reg t (pa (macPage p) offIRQ_STS) = reg s (pa (macPage p) offIRQ_STS)) : LinkFell p t :=
  ⟨(macSts_of_reg hsts _).trans h.link, (macSts_of_reg hsts _).trans h.lanes, by rw [hirq]; exact h.irq⟩

theorem LinkFell.same (h : LinkFell p s) (hp : p < 256) (he : aside t = aside s) : LinkFell p t :=
  have hkeep : Aside (fun _ => False) s t := .of_same he
  h.of_regs (hkeep.reg _ (not_noise_mac hp (by decide)) id) (hkeep.reg _ (not_noise_mac hp (by decide)) id)

theorem LinkFell.quad (h : LinkFell p s) (hp : p < 256) (hq : Aside QuadWord s t) : LinkFell p t :=
  h.of_regs (hq.mac hp (by decide)) (hq.mac hp (by decide))

/-- The other fields of MAC_STS take no part. -/
theorem LinkFell.setSts (h : LinkFell p s) {f : Fld} (v : Nat) (hlink : f.lo ≤ f.hi ∧ f.hi < 32 ∧ 0 < f.lo)
    (hlanes : f.hi < 17 ∨ 19 < f.lo) : LinkFell p (setSts p f v s) := by
  obtain ⟨hle, h32, hpos⟩ := hlink
  refine ⟨?_, ?_, ?_⟩
  · rw [macSts_setSts_field _ _ _ _ _ ⟨hle, h32, by decide, .inl hpos⟩, h.link]
  · rw [macSts_setSts_field _ _ _ _ _ ⟨hle, h32, by decide, hlanes.symm⟩, h.lanes]
  · rw [Machine.setSts, setRegF, reg_setReg_other _ _ _ _ (pa_ne _ _ _ (by decide))]
    exact h.irq

/-- The words that change while a link falls, before that is reported: the port's MAC_STS, and its quad's lane states. -/
def FallWord (p a : Nat) : Prop := a = pa (macPage p) offMAC_STS ∨ pageOf a = quadPage p + 1

theorem aside_setLanesFall (w : Nat) (f : Word → Word) (s : State) : Aside (FallWord p) s (setLanes p w f s) := by
  unfold setLanes lanesOf
  rw [forAll_map]
  refine Aside.forAll (fun i u => (Aside.refl u).setReg (.inr (.inr ?_)) _) _ s
  refine pageOf_pa _ _ ?_
  show 0x40 + 4 * ((p + i) % 8) < 0x1000
  omega

theorem aside_linkFallen (lstate : Nat) (s : State) : Aside (FallWord p) s (linkFallen p lstate s) := by
  have hlpi : Aside (FallWord p) s (endLpi p s) := by
    unfold endLpi
    split_ifs
    · exact .refl s
    · exact (Aside.of_same (aside_countLpi p s)).setReg (.inr (.inl rfl)) _
  have hrx := (hlpi.same (aside_countShed p _)).trans (aside_dropRx p _)
  have hsts : Aside (FallWord p) s (stsFallen p s) := by
    unfold stsFallen
    exact hrx.trans (Aside.forAll (fun f u => (Aside.refl u).setReg (.inr (.inl rfl)) _) _ _)
  unfold linkFallen
  exact ((hsts.same (aside_setPort p _ _)).trans (aside_setLanesFall _ _ _)).setReg (.inr (.inl rfl)) _

theorem macSts_clearSts (s : State) : macSts (forAll (fun f => setSts p f 0) fallenSts s) p fMAC_STS_LINK = 0 ∧
    macSts (forAll (fun f => setSts p f 0) fallenSts s) p fMAC_STS_ACTIVE_LANES = 0 := by
  unfold fallenSts
  simp (disch := decide) only [forAll, macSts_setSts_field, macSts_setSts_same]
  exact ⟨rfl, rfl⟩

theorem macSts_linkFallen (lstate : Nat) (hp : p < 256) : macSts (linkFallen p lstate s) p fMAC_STS_LINK = 0 ∧
    macSts (linkFallen p lstate s) p fMAC_STS_ACTIVE_LANES = 0 := by
  have hlow : ∀ f : Fld, f.lo ≤ f.hi ∧ (f.hi < 3 ∨ 5 < f.lo) →
      macSts (linkFallen p lstate s) p f = macSts (stsFallen p s) p f := fun f hf => by
    unfold linkFallen
    rw [macSts_setSts_field _ _ _ _ _ ⟨by decide, by decide, hf.1, hf.2⟩, (quadOnly_setLanes p _ _ _).quadMacSts hp,
      macSts_setPort]
  rw [hlow _ (by decide), hlow _ (by decide)]
  unfold stsFallen
  exact macSts_clearSts _

/-- Taking a link down leaves it down and reported, where it was up or reported before. -/
theorem linkFell_takeDown (lstate : Nat) (hp : p < 256)
    (h : macSts s p fMAC_STS_LINK = 1 ∨ (reg s (pa (macPage p) offIRQ_STS)).toNat.testBit 1 = true) :
    LinkFell p (takeDown p lstate s) := by
  obtain ⟨hlink, hlanes⟩ := macSts_linkFallen (s := s) lstate hp
  rw [takeDown_eq]
  split_ifs with hup
  · exact LinkFell.same ⟨(macSts_raiseMac hp _ 1 _).trans hlink, (macSts_raiseMac hp _ 1 _).trans hlanes,
      testBit_raiseIrq _ 1 _ (by decide)⟩ hp (aside_flushPort p _)
  · refine ⟨hlink, hlanes, ?_⟩
    have hirq : reg (linkFallen p lstate s) (pa (macPage p) offIRQ_STS) = reg s (pa (macPage p) offIRQ_STS) := by
      refine (aside_linkFallen lstate s).reg _ (not_noise_mac hp (by decide)) ?_
      rintro (h | h)
      · exact absurd h (pa_ne _ _ _ (by decide))
      · rw [pageOf_pa _ _ (by decide)] at h
        have := le_quadPage p
        simp only [macPage] at h
        omega
    rw [hirq]
    exact h.resolve_left hup

theorem linkFell_portStop (lstate err : Nat) (hp : p < 256)
    (h : macSts s p fMAC_STS_LINK = 1 ∨ (reg s (pa (macPage p) offIRQ_STS)).toNat.testBit 1 = true) :
    LinkFell p (portStop p lstate err s) := by
  have hfell := (((linkFell_takeDown lstate hp h).setSts (f := fMAC_STS_RESOLVED) 0 (by decide) (by decide)).setSts
    (f := fMAC_STS_FEC) 0 (by decide) (by decide)).setSts (f := fMAC_STS_CFG_ERR) err (by decide) (by decide)
  exact ((hfell.quad hp (quadOnly_freePlls p _)).same hp (aside_setPort p _ _)).same hp (aside_setAdvert p lstate _)

theorem LinkFell.portStop (h : LinkFell p s) (hp : p < 256) (lstate err : Nat) : LinkFell p (portStop p lstate err s) :=
  linkFell_portStop lstate err hp (.inr h.irq)

theorem LinkFell.runType (h : LinkFell p s) (hp : p < 256) (m : Nat) (neg : Option Nat) : LinkFell p (runType p m neg s) := by
  unfold Machine.runType
  split
  · exact h.portStop hp _ _
  · dsimp only
    have hrun := fun k fec lstate => ((((h.quad hp (quadOnly_takePll p s (modeFamily m) (modeLanes m) k)).setSts
      (f := fMAC_STS_RESOLVED) m (by decide) (by decide)).setSts (f := fMAC_STS_FEC) fec (by decide) (by decide)).setSts
      (f := fMAC_STS_CFG_ERR) 0 (by decide) (by decide)).setSts (f := fMAC_STS_LSTATE) lstate (by decide) (by decide)
    split_ifs
    · exact h.portStop hp _ _
    all_goals exact hrun _ _ _

theorem LinkFell.portStart (h : LinkFell p s) (hp : p < 256) : LinkFell p (portStart p s) := by
  unfold Machine.portStart
  split_ifs
  · exact ((h.setSts (f := fMAC_STS_LSTATE) _ (by decide) (by decide)).setSts (f := fMAC_STS_CFG_ERR) 0 (by decide)
      (by decide)).same hp (aside_setAdvert p lsNeg _)
  · exact h.runType hp _ _

theorem LinkFell.portRefresh (h : LinkFell p s) (hp : p < 256) (q : Nat) : LinkFell p (portRefresh q s) := by
  by_cases hq : q = p
  · subst hq
    unfold Machine.portRefresh
    dsimp only
    split_ifs
    · exact h
    · exact h.portStop hp _ _
    · exact h
    · exact h.portStop hp _ _
    · exact h.portStart hp
    · exact h
  · have hmac : ∀ off, off < 0x1000 → reg (Machine.portRefresh q s) (pa (macPage p) off) = reg s (pa (macPage p) off) :=
      fun off ho => (aside_portRefresh q s).reg _ (not_noise_mac hp ho) fun ha =>
        portWord_other hp hq ha (pageOf_pa _ _ ho)
    exact h.of_regs (hmac _ (by decide)) (hmac _ (by decide))

theorem LinkFell.quadRefresh (h : LinkFell p s) (hp : p < 256) (page : Nat) : LinkFell p (quadRefresh page s) :=
  forAll_rel (R := fun s t => LinkFell p s → LinkFell p t) (fun _ => id) (fun _ _ _ h1 h2 => h2 ∘ h1)
    (fun q _ hu => hu.portRefresh hp q) _ s h

theorem linkFell_linkDownEvent (hp : p < 256) (hup : macSts s p fMAC_STS_LINK = 1) : LinkFell p (linkDownEvent p s) := by
  unfold linkDownEvent
  rw [if_neg (by omega)]
  split_ifs
  · exact (linkFell_portStop lsNeg 0 hp (.inl hup)).quadRefresh hp _
  · exact linkFell_takeDown _ hp (.inl hup)

end

/-! ### PLLs (R63, R71) -/

section
variable {s : State} {p : Nat}

/-- A quad page is even, its lane-status page odd; both lie among the SerDes pages. -/
theorem quadPage_even (p : Nat) : quadPage p % 2 = 0 := by unfold quadPage; split_ifs <;> omega

theorem quadPage_lt (hp : p < 256) : quadPage p < 0x1C0 := by unfold quadPage; split_ifs <;> omega

theorem not_noise_quad {off : Nat} (hp : p < 256) (ho : off < 0x1000) : ¬ Noise (pa (quadPage p) off) := by
  have hlt := quadPage_lt hp
  have hle := le_quadPage p
  have hpage : pageOf (pa (quadPage p) off) = quadPage p := pageOf_pa _ _ ho
  rintro (hn | ⟨hn, -⟩ | hn)
  · have := congrArg pageOf hn
    rw [hpage, pageOf_pa _ _ (by decide)] at this
    simp only [pgClr] at this; omega
  · rw [hpage] at hn; simp only [pgPcie] at hn; omega
  · rw [hpage] at hn; simp only [pgPba] at hn; omega

/-- The fall of a link leaves the PLLs of every quad. -/
theorem reg_takeDown_pll (q lstate : Nat) (hp : p < 256) (s : State) :
    reg (takeDown q lstate s) (pa (quadPage p) offSDQ_PLL) = reg s (pa (quadPage p) offSDQ_PLL) := by
  have hne : ∀ off, off < 0x1000 → off ≠ offSDQ_PLL → pa (quadPage p) offSDQ_PLL ≠ pa (macPage q) off := fun off ho hoff h => by
    have := congrArg offOf h
    rw [offOf_pa _ _ (by decide), offOf_pa _ _ ho] at this
    exact hoff this.symm
  have hfall : reg (linkFallen q lstate s) (pa (quadPage p) offSDQ_PLL) = reg s (pa (quadPage p) offSDQ_PLL) := by
    refine (aside_linkFallen lstate s).reg _ (not_noise_quad hp (by decide)) ?_
    rintro (h | h)
    · exact hne _ (by decide) (by decide) h
    · rw [pageOf_pa _ _ (by decide)] at h
      have hpe := quadPage_even p
      have hqe := quadPage_even q
      omega
  have hraise : Aside (· = pa (macPage q) offIRQ_STS) (linkFallen q lstate s)
      (flushPort q (raiseIrq (macPage q) 1 (linkFallen q lstate s))) :=
    ((Aside.refl (W := (· = pa (macPage q) offIRQ_STS)) (linkFallen q lstate s)).raiseIrq (.inr rfl) 1).same (aside_flushPort q _)
  rw [takeDown_eq]
  split_ifs
  · rw [hraise.reg _ (not_noise_quad hp (by decide)) (hne _ (by decide) (by decide)), hfall]
  · exact hfall

/-- The links that fall with their PLL change no PLL, and take no time. -/
theorem pllDrop_keeps (k : Nat) (hp : p < 256) (s : State) :
    reg (pllDrop (quadPage p) k s) (pa (quadPage p) offSDQ_PLL) =
        reg (setPllLock (quadPage p) k false s) (pa (quadPage p) offSDQ_PLL) ∧
      (pllDrop (quadPage p) k s).time = s.time := by
  have hstep : ∀ (ports : List Nat) (u : State), let v := forAll (fun p s =>
      let l := macSts s p fMAC_STS_LSTATE
      if l = lsUp || l = lsLoop || l = lsAlign || l = lsTrain then takeDown p (tryState s p) s else s) ports u
      reg v (pa (quadPage p) offSDQ_PLL) = reg u (pa (quadPage p) offSDQ_PLL) ∧ v.time = u.time := fun ports u => by
    refine forAll_rel (R := fun u v => reg v (pa (quadPage p) offSDQ_PLL) = reg u (pa (quadPage p) offSDQ_PLL) ∧
      v.time = u.time) (fun _ => ⟨rfl, rfl⟩) (fun _ _ _ h h' => ⟨h'.1.trans h.1, h'.2.trans h.2⟩) (fun q u => ?_) ports u
    dsimp only
    split_ifs
    · exact ⟨reg_takeDown_pll q _ hp u, takeDown_time q _ u⟩
    · exact ⟨rfl, rfl⟩
  obtain ⟨hreg, htime⟩ := hstep (pllPorts s (quadPage p) k) (setPllLock (quadPage p) k false s)
  exact ⟨hreg, htime.trans (setRegB_time s _ _ _)⟩

theorem pllLocked_setPllLock (page k : Nat) (b : Bool) (s : State) : pllLocked (setPllLock page k b s) page k = b := by
  have hfld : ∀ f : Fld, f.lo ≤ f.hi ∧ f.hi < 32 → fldWidth f = 1 →
      regB (setRegB (pa page offSDQ_PLL) f b s) (pa page offSDQ_PLL) f = b := by
    intro f hf hw
    rw [regB, setRegB, fbit, ← regF, regF_setRegF_same _ _ _ _ hf.1 hf.2, hw]
    cases b <;> rfl
  unfold pllLocked setPllLock
  split_ifs
  · exact hfld _ (by decide) (by decide)
  · exact hfld _ (by decide) (by decide)

/-- The quad page of a port tells its side. -/
theorem quadPage_lt_iff (hp : p < 256) : quadPage p < 0x1A0 ↔ p < 128 := by unfold quadPage; split_ifs <;> omega

end

/-- Settles O26: each event comes to the state written above for it; a link's fall is kept through all that its quad does next. -/
theorem portLinkEvents : Obligations.PortLinkEvents := by
  intro s p hs hp
  refine ⟨fun hneg hen types fec eee => ⟨fun ty hty hbit hmax hfec hpll => ?_, fun hnone => ?_⟩,
    fun htrain hlock => ⟨?_, fun hmode => ?_⟩, fun halign hlock hen snr => ?_, fun hup => ?_, fun k hk hfam hlock => ?_,
    fun k hk hfam hlost => ?_⟩
  · obtain ⟨k, hk⟩ := Option.isSome_iff_exists.mp hpll
    have hports := typeRun_ports (s := s) (p := p) ty (resolvedFec s p ty fec) k
    obtain ⟨hres, hshown, herr, hstate⟩ :=
      macSts_typeRun (s := s) (p := p) (k := k) (advertised_lt hty) (resolvedFec_lt s p ty fec)
    refine gives_act hs rfl ?_
    rw [autoNegotiation_some hneg hen (highestCommon_some hty hbit hmax), runResolved_run eee hp hk hfec]
    rw [macSts_boardKeeps, macSts_boardKeeps, macSts_boardKeeps, macSts_boardKeeps, port_boardKeeps,
      macSts_setPort, macSts_setPort, macSts_setPort, macSts_setPort, port_setPort_same]
    refine ⟨hres, hshown, herr, hstate, rfl, fun q hq => ?_⟩
    rw [port_boardKeeps, port_setPort_other _ _ _ _ hq, port, hports, port]
  · refine gives_act hs rfl ?_
    rw [autoNegotiation_none hneg hen (highestCommon_none hnone)]
    exact ⟨testBit_pvRecord hp s (by decide), testBit_pvRecord_irq s 5, ports_pvRecord p 5 s⟩
  · refine gives_act hs rfl ?_
    rw [linkTraining_ok htrain hlock, macSts_boardKeeps]
    refine ⟨macSts_setSts_same _ p _ _ (by decide) (by decide), fun h128 l hl => ?_⟩
    have hne : pa (quadPage p) (offSDQ_TXEQ l) ≠ pa (macPage p) offMAC_STS := fun h => by
      have := le_quadPage p
      simp only [pa, macPage, offSDQ_TXEQ, offMAC_STS] at h
      omega
    rw [reg_boardKeeps, setSts, setRegF, reg_setReg_other _ _ _ _ hne, trainTaps, if_neg (by omega)]
    exact txeqLegal_of_trained _ hl
  · refine gives_act hs rfl ?_
    rw [linkTraining_failed hp htrain hlock hmode]
    exact testBit_pvRecord hp s (by decide)
  · obtain ⟨hlink, hlanes, hstate⟩ := macSts_linkRaised (s := s) snr hp
    refine gives_act hs rfl ?_
    rw [linkUpEvent_up halign hlock hen, macSts_boardKeeps, macSts_boardKeeps, macSts_boardKeeps]
    exact ⟨(macSts_raiseMac hp _ 0 _).trans hlink, (macSts_raiseMac hp _ 0 _).trans hlanes,
      (macSts_raiseMac hp _ 0 _).trans hstate, testBit_raiseIrq _ 0 _ (by decide)⟩
  · obtain ⟨hlink, hlanes, hirq⟩ := linkFell_linkDownEvent hp hup
    exact gives_act hs rfl ⟨hlink, hlanes, hirq⟩
  · obtain ⟨hreg, htime⟩ := pllDrop_keeps k hp s
    have hf : pllLoss (quadPage p) k s = capture (quadPage p) k clsUC false 0 (pllDrop (quadPage p) k s) := by
      simp [pllLoss, hfam, hlock]
    have hexec : exec (.pllLossOfLock (quadPage p) k) s = act (pllLoss (quadPage p) k) s := by
      conv_rhs => rw [← Nat.mod_eq_of_lt hk]
      rfl
    refine gives_act hs hexec ?_
    rw [hf]
    refine ⟨?_, (pllDrop (quadPage p) k s).lko.cap, ?_⟩
    · have hlocked : pllLocked (pllDrop (quadPage p) k s) (quadPage p) k = false := by
        rw [pllLocked, regB, hreg]
        exact pllLocked_setPllLock (quadPage p) k false s
      exact hlocked
    · rw [boardKeeps_lko, kNow, ← htime]
      rfl
  · have hside : (if quadPage p < 0x1A0 then 2 else 3) = if p < 128 then 2 else 3 := by simp only [quadPage_lt_iff hp]
    have hf : pllLock (quadPage p) k s = setPllLock (quadPage p) k true s := by
      unfold pllLock
      rw [if_neg (by rw [hside, hlost]; simp [hfam])]
    have hwrite : OnlyRegs [pa (quadPage p) offSDQ_PLL] s (setPllLock (quadPage p) k true s) :=
      onlyRegs_refl.setRegB (by simp) _ _
    have hexec : exec (.pllLock (quadPage p) k) s = act (pllLock (quadPage p) k) s := by
      conv_rhs => rw [← Nat.mod_eq_of_lt hk]
      rfl
    exact hwrite.gives hs hexec hf ⟨pllLocked_setPllLock _ _ _ _, hwrite⟩

end Sys2Proof.Machine
end

section
/-!
PROOFS. Coppice: its frames, the lanes it switches and its commands (R84 to R88, R69).
-/

namespace Sys2Proof.Machine
open Sys2Proof

/-! ### What ports and counters leave of a port's state -/

section
variable {s t : State} (h : OnlyPortsCtr s t)
include h

theorem OnlyPortsCtr.time : t.time = s.time := by rw [h]
theorem OnlyPortsCtr.hw : t.hw = s.hw := by rw [h]

theorem OnlyPortsCtr.regB (a : Nat) (f : Fld) : regB t a f = regB s a f := by rw [Machine.regB, h.reg, Machine.regB]
theorem OnlyPortsCtr.regF (a : Nat) (f : Fld) : regF t a f = regF s a f := by rw [Machine.regF, h.reg, Machine.regF]
theorem OnlyPortsCtr.liveB (a : Nat) (f : Fld) : liveB t a f = liveB s a f := by rw [Machine.liveB, h.live, Machine.liveB]
theorem OnlyPortsCtr.liveF (a : Nat) (f : Fld) : liveF t a f = liveF s a f := by rw [Machine.liveF, h.live, Machine.liveF]

theorem OnlyPortsCtr.phyType (p : Nat) : phyType t p = phyType s p := h.regF _ _

theorem OnlyPortsCtr.inReset (page : Nat) : inReset t page = inReset s page := by
  unfold Machine.inReset notStarted bootDone
  rw [h.regB, h.regB, h.regF, h.hw, h.time]

theorem OnlyPortsCtr.rxAccepts (p : Nat) : rxAccepts t p = rxAccepts s p := by
  unfold Machine.rxAccepts running enabled quiesceReq safe
  rw [h.regB, h.regB, h.regB, h.inReset, h.macSts]

theorem OnlyPortsCtr.copOn (p : Nat) : copOn t p = copOn s p := by
  unfold Machine.copOn gateEn
  rw [h.liveB, h.phyType, h.macSts, h.reg]

theorem OnlyPortsCtr.copActive (p : Nat) : copActive t p = copActive s p := by
  rw [Machine.copActive, h.copOn, h.macSts, Machine.copActive]

theorem OnlyPortsCtr.activeLanes (p : Nat) : activeLanes t p = activeLanes s p := h.macSts p _

theorem OnlyPortsCtr.fullLanes (p : Nat) : fullLanes t p = fullLanes s p := by
  rw [Machine.fullLanes, h.phyType, Machine.fullLanes]

theorem OnlyPortsCtr.copHold (p : Nat) : copHold t p = copHold s p := by rw [Machine.copHold, h.liveF, Machine.copHold]

end

section
variable {s t : State} (h : OnlyCtr s t)
include h

theorem OnlyCtr.copPending (p : Nat) : copPending t p = copPending s p := by
  rw [Machine.copPending, h.port, h.withPorts.now, Machine.copPending]

theorem OnlyCtr.shedLow (p target : Nat) : shedLow t p target = shedLow s p target := by
  unfold Machine.shedLow utilBelow portRate
  rw [h.port, h.withPorts.liveF, h.withPorts.fullLanes, h.withPorts.phyType]

end

/-! ### Coppice frames (R85) -/

section
variable (p target seq nonce : Nat)

theorem isEmpty_copFrame (ty : Nat) : (withFcs false (copFrame p ty target seq nonce)).isEmpty = false := rfl

theorem byteAt_copFrame_version (ty : Nat) : byteAt (withFcs false (copFrame p ty target seq nonce)) 14 = 1 := rfl

theorem beAt_copFrame_type (ty : Nat) : beAt (withFcs false (copFrame p ty target seq nonce)) 15 1 = ty % 256 := by
  have hbyte : beAt (withFcs false (copFrame p ty target seq nonce)) 15 1 = beNat [BitVec.ofNat 8 ty] := rfl
  rw [hbyte]
  simp [beNat, leNat]

variable {p} {s : State}

theorem copReceive_hello : copReceive p (withFcs false (copFrame p 1 target seq nonce)) s = helloRecv p s := by
  unfold copReceive
  rw [if_neg (by rw [byteAt_copFrame_version]; simp), beAt_copFrame_type]
  rfl

theorem copReceive_shedAck : copReceive p (withFcs false (copFrame p 3 target seq nonce)) s = shedAck p s := by
  unfold copReceive
  rw [if_neg (by rw [byteAt_copFrame_version]; simp), beAt_copFrame_type]
  rfl

theorem copReceive_shedNak : copReceive p (withFcs false (copFrame p 4 target seq nonce)) s = shedNak p s := by
  unfold copReceive
  rw [if_neg (by rw [byteAt_copFrame_version]; simp), beAt_copFrame_type]
  rfl

theorem copReceive_wakeAck : copReceive p (withFcs false (copFrame p 6 target seq nonce)) s = wakeAck p s := by
  unfold copReceive
  rw [if_neg (by rw [byteAt_copFrame_version]; simp), beAt_copFrame_type]
  rfl

end

/-! ### Frames sent and received (R69, R85) -/

section
variable {s : State} {p : Nat}

theorem copEmit_none (p n : Nat) (s : State) : copEmit p n (copNone s) = s := by cases n <;> rfl

/-- A frame that goes out, and returns to the port's own receiver in loopback. -/
theorem copEmit_frame {b : Bytes} (hb : b.isEmpty = false) (n : Nat) (s : State) : copEmit p (n + 1) (b, s) =
    if macSts s p fMAC_STS_LSTATE = lsLoop ∧ rxAccepts s p = true then
      copEmit p n (copReceive p b (rxCountGood p b.length (sendOut p b s))) else sendOut p b s := by
  have hout := onlyPortsCtr_sendOut p b s
  rw [copEmit]
  simp only [hb, Bool.false_eq_true, if_false, hout.macSts, hout.rxAccepts, Bool.and_eq_true, decide_eq_true_eq]

theorem copEmit_line {b : Bytes} (hb : b.isEmpty = false) (hline : ¬ macSts s p fMAC_STS_LSTATE = lsLoop) :
    copEmit p 2 (b, s) = sendOut p b s := by
  rw [copEmit_frame hb, if_neg fun h => hline h.1]

/-- An answer without effect where it returns leaves the port as it was sent. -/
theorem copEmit_answer {b : Bytes} (hb : b.isEmpty = false)
    (hrecv : ∀ v, OnlyCtr (sendOut p b s) v → copReceive p b v = copNone v) : OnlyCtr (sendOut p b s) (copEmit p 2 (b, s)) := by
  rw [copEmit_frame hb]
  split_ifs
  · have hcount := onlyCtr_rxCountGood p b.length (sendOut p b s)
    rw [hrecv _ hcount, copEmit_none]
    exact hcount
  · exact onlyCtr_refl _

/-- A Coppice frame that a port with Coppice receives is counted with its 64 bytes, and acts (R72, R85). -/
theorem copArrive_open {f : State → CopOut} (h128 : 128 ≤ p) (hrx : rxAccepts s p = true) (hon : copOn s p = true) :
    copArrive p f s = copEmit p 2 (f (rxCountGood p 64 s)) := by
  have hen : liveB s (pa (macPage p) offMAC_CFG) fMAC_CFG_COPPICE_EN = true := by
    simp only [copOn, Bool.and_eq_true] at hon
    obtain ⟨⟨⟨⟨-, hen⟩, -⟩, -⟩, -⟩ := hon
    exact hen
  unfold copArrive
  rw [if_pos (by simp [hrx, hen, h128])]
  rfl

end

/-! ### Lanes (R86, R87) -/

section
variable {s : State} {p : Nat}

/-- Counting the time with fewer lanes keeps the port's request. -/
theorem copReq_countShed (p : Nat) (s : State) : (port (countShed p s) p).copReq = (port s p).copReq := by
  unfold countShed
  dsimp only
  split_ifs
  · rfl
  · rw [port_ctrAdd, port_setPort_same]

/-- The state of a port whose lane count is to change: its times are measured anew. -/
@[irreducible] def shedMeasured (p n : Nat) (s : State) : State :=
  let s1 := setPort p { port (countShed p s) p with copLowSince := none } (countShed p s)
  if n < fullLanes s p then setPort p { port s1 p with copShedSince := now s1 } s1 else s1

/-- The state in which its lanes beyond `n` are quiet. -/
@[irreducible] def lanesQuieted (p n : Nat) (s : State) : State :=
  forAll (fun i s => setRegB (pa (quadPage p + 1) (offSDQ_LSTS ((p + i) % 8))) fSDQ_LSTS_QUIET_WARM (decide (n ≤ i)) s)
    (List.range (fullLanes s p)) (shedMeasured p n s)

theorem switchLanes_eq (p n : Nat) (s : State) : switchLanes p n s =
    if activeLanes s p = n then s
    else raiseIrq (macPage p) 4 (setSts p fMAC_STS_ACTIVE_LANES n (lanesQuieted p n s)) := by
  unfold lanesQuieted shedMeasured
  rfl

theorem activeLanes_switchLanes {n : Nat} (hp : p < 256) (hn : n < 8) : activeLanes (switchLanes p n s) p = n := by
  rw [switchLanes_eq]
  split_ifs with h
  · exact h
  · rw [activeLanes, macSts_raiseMac hp, macSts_setSts_same _ _ _ _ (by decide) (by decide)]
    exact Nat.mod_eq_of_lt hn

theorem copReq_switchLanes (p n : Nat) (s : State) : (port (switchLanes p n s) p).copReq = (port s p).copReq := by
  have hmeasured : (port (shedMeasured p n s) p).copReq = (port s p).copReq := by
    unfold shedMeasured
    dsimp only
    split_ifs
    · rw [port_setPort_same, port_setPort_same]
      exact copReq_countShed p s
    · rw [port_setPort_same]
      exact copReq_countShed p s
  have hports : (lanesQuieted p n s).ports = (shedMeasured p n s).ports := by
    unfold lanesQuieted
    exact forAll_rel (R := fun s t => t.ports = s.ports) (fun _ => rfl) (fun _ _ _ h h' => h'.trans h)
      (fun i u => setRegB_ports u (pa (quadPage p + 1) (offSDQ_LSTS ((p + i) % 8))) fSDQ_LSTS_QUIET_WARM _) _ _
  rw [switchLanes_eq]
  split_ifs
  · rfl
  · rw [port_raiseIrq, port_setSts, port, hports, ← port, hmeasured]

theorem aside_switchLanes (p n : Nat) (s : State) : Aside (PortWord p) s (switchLanes p n s) := by
  have hmeasured : aside (shedMeasured p n s) = aside s := by
    unfold shedMeasured
    dsimp only
    split_ifs
    · rw [aside_setPort, aside_setPort, aside_countShed]
    · rw [aside_setPort, aside_countShed]
  have hquiet : Aside (PortWord p) s (lanesQuieted p n s) := by
    unfold lanesQuieted
    exact (Aside.of_same hmeasured).trans
      (Aside.forAll (fun i u => aside_setQuad ((le_quadPage p).trans (Nat.le_succ _)) _ _ u) _ _)
  rw [switchLanes_eq]
  split_ifs
  · exact .refl s
  · exact (hquiet.trans (aside_setSts p _ n _)).trans (aside_raisePort p 4 _)

end

/-! ### Violations beside Coppice (R86, R87) -/

section
variable {s : State} {p : Nat}

theorem aside_copSend (p ty target nonce : Nat) (answer : Option Nat) (s : State) :
    aside (copSend p ty target nonce answer s).2 = aside s := by
  unfold copSend
  dsimp only
  split_ifs
  · rfl
  · rw [aside_setPort]

theorem aside_helloRecv (p : Nat) (s : State) : Aside (PortWord p) s (helloRecv p s).2 := by
  unfold helloRecv
  dsimp only
  split_ifs
  · exact .refl s
  · exact (Aside.of_same (aside_setPort p _ s)).trans (aside_setSts p _ _ _)
  · exact (Aside.of_same ((aside_setPort p _ _).trans (aside_setPort p _ s))).trans (aside_setSts p _ _ _)

theorem aside_shedAnswer (p target seq nonce : Nat) (s : State) : Aside (PortWord p) s (shedAnswer p target seq nonce s).2 := by
  unfold shedAnswer
  split_ifs
  · exact ((Aside.of_same (aside_setPort p _ s)).trans (aside_switchLanes p target _)).same (aside_copSend _ _ _ _ _ _)
  · exact Aside.of_same ((aside_copSend _ _ _ _ _ _).trans (aside_setPort p _ s))

theorem aside_shedRecv (p target seq nonce : Nat) (s : State) : Aside (PortWord p) s (shedRecv p target seq nonce s).2 := by
  unfold shedRecv
  split_ifs
  · exact .refl s
  · split
    · split_ifs
      · exact .refl s
      · exact aside_shedAnswer p target seq nonce s
      · exact .of_same (aside_setPort p _ s)
      · exact .refl s
    · exact aside_shedAnswer p target seq nonce s

theorem aside_shedAck (p : Nat) (s : State) : Aside (PortWord p) s (shedAck p s).2 := by
  unfold shedAck
  split
  · split_ifs
    · exact (Aside.of_same (aside_setPort p _ s)).trans (aside_switchLanes p _ _)
    · exact .refl s
  · exact .refl s

theorem aside_shedNak (p : Nat) (s : State) : Aside (PortWord p) s (shedNak p s).2 := by
  unfold shedNak
  split
  · split_ifs
    · exact .of_same (aside_setPort p _ s)
    · exact .refl s
  · exact .refl s

theorem aside_wakeRecv (p seq nonce : Nat) (s : State) : Aside (PortWord p) s (wakeRecv p seq nonce s).2 := by
  unfold wakeRecv
  split_ifs
  · exact .refl s
  · exact ((Aside.of_same (aside_setPort p _ s)).trans (aside_switchLanes p _ _)).same (aside_copSend _ _ _ _ _ _)

theorem aside_wakeAck (p : Nat) (s : State) : Aside (PortWord p) s (wakeAck p s).2 := by
  unfold wakeAck
  split
  · split_ifs
    · exact (Aside.of_same (aside_setPort p _ s)).trans (aside_switchLanes p _ _)
    · exact .refl s
  · exact .refl s

/-- What a Coppice frame does stays beside all but the words of its port's link. -/
theorem aside_copReceive (p : Nat) (f : Bytes) (s : State) : Aside (PortWord p) s (copReceive p f s).2 := by
  unfold copReceive
  dsimp only
  split_ifs
  · exact .refl s
  · split
    · exact aside_helloRecv p s
    · exact aside_shedRecv p _ _ _ s
    · exact aside_shedAck p s
    · exact aside_shedNak p s
    · exact aside_wakeRecv p _ _ s
    · exact aside_wakeAck p s
    · exact .refl s

theorem aside_onlyPortsCtr {s t : State} (h : OnlyPortsCtr s t) : aside t = aside s := by rw [h]; rfl

theorem aside_copEmit (p n : Nat) (r : CopOut) : Aside (PortWord p) r.2 (copEmit p n r) := by
  have hout : ∀ r : CopOut, aside (sendOut p r.1 r.2) = aside r.2 := fun r => aside_onlyPortsCtr (onlyPortsCtr_sendOut p _ _)
  induction n generalizing r with
  | zero =>
    unfold copEmit
    split_ifs
    · exact .refl _
    · exact .of_same (hout r)
  | succ n ih =>
    unfold copEmit
    dsimp only
    split_ifs
    · exact .refl _
    · refine Aside.trans ?_ (ih _)
      refine Aside.trans (Aside.of_same ?_) (aside_copReceive p _ _)
      exact (aside_onlyPortsCtr (onlyCtr_rxCountGood p _ _).withPorts).trans (hout r)
    · exact .of_same (hout r)

theorem testBit_violation_of_aside {t : State} {b : Nat} (hp : p < 256) (h : Aside (PortWord p) s t)
    (hb : (reg s (pa (macPage p) offPV_STS)).toNat.testBit b = true) :
    (reg t (pa (macPage p) offPV_STS)).toNat.testBit b = true := by
  rw [h.reg _ (not_noise_mac hp (by decide)) fun hw => not_linkWord_mac hp (by decide) (by decide) (by decide) ⟨p, hw⟩]
  exact hb

end

end Sys2Proof.Machine
end

section
/-!
PROOFS. The commands of Coppice (R84 to R88, R69).
-/

namespace Sys2Proof.Machine
open Sys2Proof

/-! ### Frames of the port's own (R84, R86, R87) -/

section
variable {s : State} {p : Nat}

/-- The state in which a port has taken the next sequence number for a frame of its own. -/
@[irreducible] def seqTaken (p : Nat) (s : State) : State := setPort p { port s p with copSeq := ((port s p).copSeq + 1) % 256 } s

theorem copSend_own (p ty target nonce : Nat) (s : State) : copSend p ty target nonce none s =
    (withFcs false (copFrame p ty target (port s p).copSeq nonce), seqTaken p s) := by
  unfold seqTaken
  rfl

theorem onlyPorts_seqTaken (p : Nat) (s : State) : OnlyPorts s (seqTaken p s) := by
  unfold seqTaken
  exact onlyPorts_setPort p _ s

theorem port_seqTaken (p : Nat) (s : State) :
    port (seqTaken p s) p = { port s p with copSeq := ((port s p).copSeq + 1) % 256 } := by
  unfold seqTaken
  exact port_setPort_same s p _

theorem otherPorts_seqTaken (p : Nat) (s : State) : OtherPorts p s (seqTaken p s) := by
  unfold seqTaken
  exact otherPorts_setPort p _ s

/-- The state in which a port that took value `v` is to send a frame of its own. -/
@[irreducible] def ownFrame (p : Nat) (v : PortSt) (s : State) : State := seqTaken p (setPort p v s)

theorem copSend_setPort (p ty target nonce : Nat) (v : PortSt) (s : State) : copSend p ty target nonce none (setPort p v s) =
    (withFcs false (copFrame p ty target v.copSeq nonce), ownFrame p v s) := by
  unfold ownFrame
  rw [copSend_own, port_setPort_same]

theorem onlyPorts_ownFrame (p : Nat) (v : PortSt) (s : State) : OnlyPorts s (ownFrame p v s) := by
  unfold ownFrame
  exact (onlyPorts_setPort p v s).trans (onlyPorts_seqTaken p _)

/-- What a frame of the port's own leaves of the port. -/
theorem port_sendOut_ownFrame (p : Nat) (v : PortSt) (b : Bytes) (s : State) :
    let u := port (sendOut p b (ownFrame p v s)) p
    u.lastTx = b ∧ u.copSeq = (v.copSeq + 1) % 256 ∧ u.copReq = v.copReq ∧ u.copSent = v.copSent := by
  have hport : port (ownFrame p v s) p = { v with copSeq := (v.copSeq + 1) % 256 } := by
    unfold ownFrame
    rw [port_seqTaken, port_setPort_same]
  rw [port_sendOut_same, hport]
  exact ⟨rfl, rfl, rfl, rfl⟩

theorem otherPorts_sendOut_ownFrame (p : Nat) (v : PortSt) (b : Bytes) (s : State) :
    OtherPorts p s (sendOut p b (ownFrame p v s)) := fun q hq => by
  rw [otherPorts_sendOut p b _ q hq]
  unfold ownFrame
  rw [otherPorts_seqTaken p _ q hq, port_setPort_other _ _ _ _ hq]

/-- A first HELLO is due at once. -/
theorem helloSend_first (hon : copOn s p = true) (hopen : copOpen s p = true) (hsent : (port s p).copSent = none) :
    helloSend p s = (withFcs false (copFrame p 1 0 (port s p).copSeq 0),
      ownFrame p { port s p with copSent := some (now s) } s) := by
  unfold helloSend
  simp only [hon, hopen, hsent, Bool.not_true, Bool.or_self, Bool.false_eq_true, if_false, if_true]
  exact copSend_setPort p 1 0 0 _ s

theorem shedSend_due {since nonce : Nat} (hact : copActive s p = true) (hopen : copOpen s p = true)
    (hpend : copPending s p = none) (hlow : (port s p).copLowSince = some since) (hhold : since + copHold s p ≤ now s)
    (hnak : (port s p).copNakUntil ≤ now s) (hlanes : 2 ≤ activeLanes s p) :
    shedSend p nonce s = (withFcs false (copFrame p 2 (activeLanes s p / 2) (port s p).copSeq (nonce % 65536)),
      ownFrame p { port s p with copReq := some ⟨false, activeLanes s p / 2, nonce % 65536, now s, false⟩ } s) := by
  unfold shedSend
  simp only [hact, hopen, hpend, hlow, hhold, hnak, hlanes, decide_true, Bool.and_self, Option.isNone_none, if_true]
  exact copSend_setPort p 2 _ _ _ s

theorem wakeTrigger_wanted {nonce : Nat} (hact : copActive s p = true) (hopen : copOpen s p = true)
    (hlanes : activeLanes s p < fullLanes s p) (hwant : wakeWanted s p = true) :
    wakeTrigger p nonce s = (withFcs false (copFrame p 5 (fullLanes s p) (port s p).copSeq (nonce % 65536)),
      ownFrame p { port s p with copReq := some ⟨true, fullLanes s p, nonce % 65536, now s, false⟩ } s) := by
  unfold wakeTrigger
  simp only [hact, hopen, hlanes, hwant, decide_true, Bool.and_self, if_true]
  exact copSend_setPort p 5 _ _ _ s

end

/-! ### Frames of the partner (R84, R86, R87) -/

section
variable {s : State} {p : Nat}

/-- The state of a port that starts its windows anew, where its partner was not known. -/
@[irreducible] def partnerMet (p : Nat) (s : State) : State :=
  if copActive s p then s
  else setPort p { port s p with winStart := now s, winBytes := 0, winLast := 0, copLowSince := none } s

/-- The state in which a port has its partner's HELLO. -/
@[irreducible] def helloHeard (p : Nat) (s : State) : State :=
  setSts p fMAC_STS_COPPICE_ACTIVE 1 (setPort p { port (partnerMet p s) p with copHello := now (partnerMet p s) } (partnerMet p s))

theorem helloRecv_on (hon : copOn s p = true) : helloRecv p s = copNone (helloHeard p s) := by
  unfold helloRecv helloHeard partnerMet
  rw [if_neg (by simp [hon])]

theorem onlyPorts_partnerMet (p : Nat) (s : State) : OnlyPorts s (partnerMet p s) := by
  unfold partnerMet
  split_ifs
  · exact onlyPorts_refl s
  · exact onlyPorts_setPort p _ s

theorem otherPorts_partnerMet (p : Nat) (s : State) : OtherPorts p s (partnerMet p s) := by
  unfold partnerMet
  split_ifs
  · exact fun _ _ => rfl
  · exact otherPorts_setPort p _ s

theorem macSts_helloHeard (p : Nat) (s : State) : macSts (helloHeard p s) p fMAC_STS_COPPICE_ACTIVE = 1 := by
  unfold helloHeard
  exact macSts_setSts_same _ p _ 1 (by decide) (by decide)

theorem copHello_helloHeard (p : Nat) (s : State) : (port (helloHeard p s) p).copHello = now s := by
  unfold helloHeard
  rw [port_setSts, port_setPort_same]
  exact (onlyPorts_partnerMet p s).withCtr.now

theorem otherPorts_helloHeard (p : Nat) (s : State) : OtherPorts p s (helloHeard p s) := fun q hq => by
  unfold helloHeard
  rw [port_setSts, port_setPort_other _ _ _ _ hq, otherPorts_partnerMet p s q hq]

theorem ctr_helloHeard (p : Nat) (s : State) (a : Nat) : ctr (helloHeard p s) a = ctr s a := by
  unfold helloHeard
  rw [ctr_setSts, ctr, setPort_bus, (onlyPorts_partnerMet p s).bus, ctr]

theorem copReq_sendOut (p : Nat) (b : Bytes) (s : State) : (port (sendOut p b s) p).copReq = (port s p).copReq := by
  rw [port_sendOut_same]

theorem lastTx_sendOut (p : Nat) (b : Bytes) (s : State) : (port (sendOut p b s) p).lastTx = b := by
  rw [port_sendOut_same]

/-- An answer to a request that no longer stands has no effect. -/
theorem shedNak_none (h : (port s p).copReq = none) : shedNak p s = copNone s := by
  unfold shedNak
  rw [h]

theorem shedAck_acked {q : CopReq} (h : (port s p).copReq = some q) (hack : q.acked = true) : shedAck p s = copNone s := by
  unfold shedAck
  rw [h]
  simp [hack]

theorem wakeAck_acked {q : CopReq} (h : (port s p).copReq = some q) (hack : q.acked = true) : wakeAck p s = copNone s := by
  unfold wakeAck
  rw [h]
  simp [hack]

/-- The state of a port that has an answer for its partner, of which it waits for nothing more. -/
structure CopAnswered (p : Nat) (b : Bytes) (u t : State) : Prop where
  lastTx : (port t p).lastTx = b
  copReq : (port t p).copReq = (port u p).copReq
  lanes : activeLanes t p = activeLanes u p

theorem answered_copEmit {b : Bytes} (hb : b.isEmpty = false)
    (hrecv : ∀ v, (port v p).copReq = (port s p).copReq → copReceive p b v = copNone v) :
    CopAnswered p b s (copEmit p 2 (b, s)) := by
  have hsent := copEmit_answer (s := s) hb fun v hv => hrecv v (by rw [hv.port, copReq_sendOut])
  refine ⟨?_, ?_, ?_⟩
  · rw [hsent.port, lastTx_sendOut]
  · rw [hsent.port, copReq_sendOut]
  · rw [hsent.withPorts.activeLanes, (onlyPortsCtr_sendOut p b s).activeLanes]

/-- A SHED_REQ that the port's window does not allow is refused. -/
theorem answered_shedNak {target seq nonce : Nat} (h : shedLow s p target = false ∨ 2 * target ≠ activeLanes s p) :
    CopAnswered p (withFcs false (copFrame p 4 target seq nonce)) (setPort p { port s p with copReq := none } s)
      (copEmit p 2 (shedAnswer p target seq nonce s)) := by
  have hf : shedAnswer p target seq nonce s =
      (withFcs false (copFrame p 4 target seq nonce), setPort p { port s p with copReq := none } s) := by
    unfold shedAnswer
    rw [if_neg (by rcases h with h | h <;> simp [h])]
    rfl
  rw [hf]
  refine answered_copEmit (isEmpty_copFrame p target seq nonce 4) fun v hv => ?_
  rw [port_setPort_same] at hv
  exact (copReceive_shedNak target seq nonce).trans (shedNak_none hv)

/-- The state of a port that switches its lanes for a request it acknowledges. -/
@[irreducible] def lanesAcked (p n : Nat) (q : CopReq) (s : State) : State :=
  switchLanes p n (setPort p { port s p with copReq := some q } s)

theorem copReq_lanesAcked (p n : Nat) (q : CopReq) (s : State) : (port (lanesAcked p n q s) p).copReq = some q := by
  unfold lanesAcked
  rw [copReq_switchLanes, port_setPort_same]

theorem activeLanes_lanesAcked {n : Nat} (hp : p < 256) (hn : n < 8) (q : CopReq) : activeLanes (lanesAcked p n q s) p = n := by
  unfold lanesAcked
  exact activeLanes_switchLanes hp hn

theorem fullLanes_lt (s : State) (p : Nat) : fullLanes s p < 8 := modeLanes_lt _

theorem activeLanes_lt (s : State) (p : Nat) : activeLanes s p < 8 := fget_lt _ _

/-- A SHED_REQ for half the lanes that the port's window allows is acknowledged. -/
theorem answered_shedAck {target seq nonce : Nat} (hlow : shedLow s p target = true) (hhalf : 2 * target = activeLanes s p) :
    CopAnswered p (withFcs false (copFrame p 3 target seq nonce)) (lanesAcked p target ⟨false, target, nonce, now s, true⟩ s)
      (copEmit p 2 (shedAnswer p target seq nonce s)) := by
  have hf : shedAnswer p target seq nonce s =
      (withFcs false (copFrame p 3 target seq nonce), lanesAcked p target ⟨false, target, nonce, now s, true⟩ s) := by
    unfold shedAnswer lanesAcked
    rw [if_pos (by simp [hlow, hhalf])]
    rfl
  rw [hf]
  refine answered_copEmit (isEmpty_copFrame p target seq nonce 3) fun v hv => ?_
  rw [copReq_lanesAcked] at hv
  exact (copReceive_shedAck target seq nonce).trans (shedAck_acked hv rfl)

/-- A WAKE_REQ is answered with all lanes. -/
theorem answered_wakeReq {seq nonce : Nat} (htype : copType (phyType s p) = true) (hlink : macSts s p fMAC_STS_LINK = 1) :
    CopAnswered p (withFcs false (copFrame p 6 (fullLanes s p) seq nonce))
      (lanesAcked p (fullLanes s p) ⟨true, fullLanes s p, nonce, now s, true⟩ s)
      (copEmit p 2 (wakeRecv p seq nonce s)) := by
  have hf : wakeRecv p seq nonce s = (withFcs false (copFrame p 6 (fullLanes s p) seq nonce),
      lanesAcked p (fullLanes s p) ⟨true, fullLanes s p, nonce, now s, true⟩ s) := by
    unfold wakeRecv lanesAcked
    rw [if_neg (by simp [htype, hlink])]
    rfl
  rw [hf]
  refine answered_copEmit (isEmpty_copFrame p _ seq nonce 6) fun v hv => ?_
  rw [copReq_lanesAcked] at hv
  exact (copReceive_wakeAck _ seq nonce).trans (wakeAck_acked hv rfl)

theorem shedRecv_none {target seq nonce : Nat} (hact : copActive s p = true) (hpend : copPending s p = none) :
    shedRecv p target seq nonce s = shedAnswer p target seq nonce s := by
  unfold shedRecv
  rw [if_neg (by simp [hact]), hpend]

/-- Of two crossing requests a wake and the larger nonce stand (R86). -/
theorem shedRecv_stands {q : CopReq} {target seq nonce : Nat} (hact : copActive s p = true) (hpend : copPending s p = some q)
    (hack : q.acked = false) (h : q.wake = true ∨ nonce < q.nonce) : shedRecv p target seq nonce s = copNone s := by
  unfold shedRecv
  rw [if_neg (by simp [hact]), hpend]
  dsimp only
  split_ifs with hw hless heq
  · rfl
  · have := h.resolve_left hw
    simp only [hack, Bool.false_or, decide_eq_true_eq] at hless
    omega
  · have := h.resolve_left hw
    omega
  · rfl

/-- Equal nonces withdraw both requests (R86). -/
theorem shedRecv_equal {q : CopReq} {target seq : Nat} (hact : copActive s p = true) (hpend : copPending s p = some q)
    (hack : q.acked = false) (hw : q.wake = false) :
    shedRecv p target seq q.nonce s = copNone (setPort p { port s p with copReq := none } s) := by
  unfold shedRecv
  rw [if_neg (by simp [hact]), hpend]
  simp [hw, hack]

theorem shedAck_open {q : CopReq} (hreq : (port s p).copReq = some q) (hact : copActive s p = true) (hw : q.wake = false)
    (hack : q.acked = false) :
    shedAck p s = copNone (lanesAcked p q.target { q with acked := true, t0 := now s } s) := by
  unfold shedAck lanesAcked
  rw [hreq]
  simp [hact, hw, hack]

theorem shedNak_open {q : CopReq} (hreq : (port s p).copReq = some q) (hact : copActive s p = true) (hw : q.wake = false)
    (hack : q.acked = false) :
    shedNak p s = copNone (setPort p { port s p with copReq := none, copNakUntil := now s + copHold s p } s) := by
  unfold shedNak
  rw [hreq]
  simp [hact, hw, hack]

theorem wakeAck_open {q : CopReq} (hreq : (port s p).copReq = some q) (hw : q.wake = true) (hack : q.acked = false) :
    wakeAck p s = copNone (lanesAcked p (fullLanes s p) { q with acked := true } s) := by
  unfold wakeAck lanesAcked
  rw [hreq]
  simp [hw, hack]

/-- A frame of the partner that needs no answer. -/
theorem copArrive_quiet {f : State → CopOut} {v : State} (h128 : 128 ≤ p) (hrx : rxAccepts s p = true) (hon : copOn s p = true)
    (hf : f (rxCountGood p 64 s) = copNone v) : copArrive p f s = v := by
  rw [copArrive_open h128 hrx hon, hf, copEmit_none]

/-- A change that is late is a violation, whatever is then done about it (R86, R87). -/
theorem aside_coppiceTimeout {q : CopReq} {nonce : Nat} (hlink : macSts s p fMAC_STS_LINK = 1) (hreq : (port s p).copReq = some q)
    (hlate : q.t0 + 20 * tUs ≤ now s) (hopen : q.wake = true ∨ (q.acked = true ∧ copActive s p = true)) :
    Aside (PortWord p) (pvRecord p 8 s) (copEmit p 2 (coppiceTimeout p nonce s)) := by
  have hlive : ¬ (macSts s p fMAC_STS_LINK ≠ 1 || now s < q.t0 + 20 * tUs) = true := by
    simp [hlink, Nat.not_lt.mpr hlate]
  unfold coppiceTimeout
  rw [hreq]
  dsimp only
  rw [if_neg hlive]
  split_ifs with hw hact hmac
  · rw [copEmit_none]
    exact aside_takeDown p _ _
  · refine Aside.trans (Aside.of_same ?_) (aside_copEmit p 2 _)
    exact (aside_copSend p 5 _ _ _ _).trans (aside_setPort p _ _)
  · rw [copEmit_none]
    exact .refl _
  · obtain ⟨hack, hon⟩ := hopen.resolve_left hw
    exact absurd (by simp [hack, hon]) hact

theorem onlyPortsCtr_ownSent (p : Nat) (v : PortSt) (b : Bytes) (s : State) : OnlyPortsCtr s (sendOut p b (ownFrame p v s)) :=
  (onlyPorts_ownFrame p v s).withCtr.trans (onlyPortsCtr_sendOut p b _)

/-- A frame of the port's own goes out on the line. -/
theorem coppice_line {f : State → CopOut} {v : PortSt} {ty target seq nonce : Nat}
    (hline : ¬ macSts s p fMAC_STS_LSTATE = lsLoop)
    (hf : f s = (withFcs false (copFrame p ty target seq nonce), ownFrame p v s)) :
    coppice p f s = sendOut p (withFcs false (copFrame p ty target seq nonce)) (ownFrame p v s) := by
  rw [coppice, hf, copEmit_line (isEmpty_copFrame p target seq nonce ty)]
  rwa [(onlyPorts_ownFrame p v s).withCtr.macSts]

/-- A HELLO of the port's own comes to its receiver in loopback (R69). -/
theorem hello_loop (hopen : copOpen s p = true) (hon : copOn s p = true) (hsent : (port s p).copSent = none)
    (hown : macSts s p fMAC_STS_LSTATE = lsLoop) (hrx : rxAccepts s p = true) :
    ∃ u, OnlyPortsCtr s u ∧ hello p false s = helloHeard p u := by
  have hown' := (onlyPorts_ownFrame p { port s p with copSent := some (now s) } s).withCtr
  have hout := onlyPortsCtr_ownSent p { port s p with copSent := some (now s) }
    (withFcs false (copFrame p 1 0 (port s p).copSeq 0)) s
  have hall := hout.trans (onlyCtr_rxCountGood p (withFcs false (copFrame p 1 0 (port s p).copSeq 0)).length _).withPorts
  refine ⟨_, hall, ?_⟩
  change copEmit p 2 (helloSend p s) = _
  rw [helloSend_first hon hopen hsent, copEmit_frame (isEmpty_copFrame p _ _ _ 1),
    if_pos ⟨(hown'.macSts p _).trans hown, (hown'.rxAccepts p).trans hrx⟩, copReceive_hello,
    helloRecv_on ((hall.copOn p).trans hon), copEmit_none]

theorem utilisationWindow_ended (hact : copActive s p = true) (hwin : (port s p).winStart + 100 * tUs ≤ now s) :
    utilisationWindow p s = setPort p { port s p with
      winLast := (port s p).winBytes, winBytes := 0, winStart := now s,
      copLowSince := if utilBelow s p (port s p).winBytes (liveF s (pa (macPage p) offCOP_CFG) fCOP_CFG_SHED_PCT) (activeLanes s p / 2)
        then some ((port s p).copLowSince.getD (port s p).winStart) else none } s := by
  unfold utilisationWindow
  dsimp only
  rw [if_neg (by simp [hact, Nat.not_lt.mpr hwin])]

theorem activeLanes_boardKeeps (t : State) : activeLanes (boardKeeps s t) p = activeLanes t p := macSts_boardKeeps s p t _

end

/-- Settles O28: a frame received acts on the state in which it is counted, a frame sent goes out of the state in which its request is
noted; an answer that returns to its own sender finds nothing left to do. -/
theorem coppiceCommands : Obligations.CoppiceCommands := by
  intro s p hs h128 hp hon
  have hcount : OnlyCtr s (rxCountGood p 64 s) := onlyCtr_rxCountGood p 64 s
  have hframe := counts_rxCountGood p 64 s
  have hon' : copOn (rxCountGood p 64 s) p = true := by rw [hcount.withPorts.copOn, hon]
  have hlink : macSts s p fMAC_STS_LINK = 1 := by
    simp only [copOn, Bool.and_eq_true, decide_eq_true_eq] at hon
    obtain ⟨⟨-, hlink⟩, -⟩ := hon
    exact hlink
  have htype : copType (phyType s p) = true := by
    simp only [copOn, Bool.and_eq_true, decide_eq_true_eq] at hon
    obtain ⟨⟨⟨-, htype⟩, -⟩, -⟩ := hon
    exact htype
  have hshed : rxAccepts s p = true → ∀ target seq nonce, copPending s p = none → copActive s p = true →
      shedReq p true target seq nonce s = copEmit p 2 (shedAnswer p target seq nonce (rxCountGood p 64 s)) :=
    fun hrx target seq nonce hpend hact => by
      rw [← shedRecv_none (by rwa [hcount.withPorts.copActive]) (by rwa [hcount.copPending])]
      exact copArrive_open h128 hrx hon
  refine ⟨fun hopen hsent => ⟨fun hline => ?_, fun hown hrx => ?_⟩, fun hopen hact hline target seq nonce =>
    ⟨fun since hpend hlow hhold hnak hlanes => ?_, fun hlanes hwant => ?_⟩, fun hrx => ⟨?_, fun seq nonce => ?_,
    fun q hreq hw hack => ?_, fun hact => ⟨fun target seq nonce hpend => ⟨fun hno => ?_, fun hlow hhalf => ?_⟩,
    fun q target seq nonce hpend hack => ⟨fun hstands => ?_, fun hw heq => ?_⟩,
      fun q hreq hw hack => ⟨fun htarget => ?_, ?_⟩⟩⟩,
    fun hact hwin => ?_, fun q nonce hreq hlate hopen => ?_⟩
  · obtain ⟨hlast, hseq, -, hsentAt⟩ := port_sendOut_ownFrame p { port s p with copSent := some (now s) }
      (withFcs false (copFrame p 1 0 (port s p).copSeq 0)) s
    exact gives_act_eq hs rfl (coppice_line hline (helloSend_first hon hopen hsent)) (onlyPortsCtr_ownSent p _ _ s).boardKeeps
      ⟨hsentAt, hlast, hseq, otherPorts_sendOut_ownFrame p _ _ s⟩
  · obtain ⟨u, hu, hf⟩ := hello_loop hopen hon hsent hown hrx
    refine gives_act hs rfl ?_
    rw [hf, macSts_boardKeeps, port_boardKeeps]
    exact ⟨macSts_helloHeard p u, (copHello_helloHeard p u).trans hu.now⟩
  · obtain ⟨hlast, -, hreq, -⟩ := port_sendOut_ownFrame p
      { port s p with copReq := some ⟨false, activeLanes s p / 2, nonce % 65536, now s, false⟩ }
      (withFcs false (copFrame p 2 (activeLanes s p / 2) (port s p).copSeq (nonce % 65536))) s
    exact gives_act_eq hs rfl (coppice_line hline (shedSend_due hact hopen hpend hlow hhold hnak hlanes))
      (onlyPortsCtr_ownSent p _ _ s).boardKeeps ⟨hreq, hlast⟩
  · obtain ⟨hlast, -, hreq, -⟩ := port_sendOut_ownFrame p
      { port s p with copReq := some ⟨true, fullLanes s p, nonce % 65536, now s, false⟩ }
      (withFcs false (copFrame p 5 (fullLanes s p) (port s p).copSeq (nonce % 65536))) s
    exact gives_act_eq hs rfl (coppice_line hline (wakeTrigger_wanted hact hopen hlanes hwant))
      (onlyPortsCtr_ownSent p _ _ s).boardKeeps ⟨hreq, hlast⟩
  · have hf : hello p true s = helloHeard p (rxCountGood p 64 s) :=
      copArrive_quiet h128 hrx hon (helloRecv_on hon')
    refine gives_act hs rfl ?_
    rw [hf, macSts_boardKeeps, port_boardKeeps]
    refine ⟨macSts_helloHeard p _, (copHello_helloHeard p _).trans hcount.withPorts.now, fun q hq => ?_, fun a => ?_⟩
    · rw [port_boardKeeps, otherPorts_helloHeard p _ q hq, port_rxCountGood]
    · rw [ctr_boardKeeps, ctr_helloHeard]
      exact hframe a
  · obtain ⟨hlast, hreq, hlanes⟩ := answered_wakeReq (s := rxCountGood p 64 s) (seq := seq) (nonce := nonce)
      (by rw [hcount.withPorts.phyType, htype]) ((hcount.withPorts.macSts p _).trans hlink)
    have hf : wakeReq p true seq nonce s = copEmit p 2 (wakeRecv p seq nonce (rxCountGood p 64 s)) :=
      copArrive_open h128 hrx hon
    rw [activeLanes_lanesAcked hp (fullLanes_lt _ p)] at hlanes
    rw [copReq_lanesAcked] at hreq
    rw [hcount.withPorts.fullLanes] at hlast hreq hlanes
    rw [hcount.withPorts.now] at hreq
    refine gives_act hs rfl ?_
    rw [hf, activeLanes_boardKeeps, port_boardKeeps]
    exact ⟨hlanes, hlast, hreq⟩
  · have hf := copArrive_quiet h128 hrx hon (f := wakeAck p) (wakeAck_open (by rw [port_rxCountGood]; exact hreq) hw hack)
    refine gives_act hs rfl ?_
    rw [hf, activeLanes_boardKeeps, port_boardKeeps, activeLanes_lanesAcked hp (fullLanes_lt _ p), copReq_lanesAcked]
    exact ⟨hcount.withPorts.fullLanes p, rfl⟩
  · obtain ⟨hlast, hreq, hlanes⟩ := answered_shedNak (s := rxCountGood p 64 s) (target := target) (seq := seq) (nonce := nonce)
      (by rwa [hcount.shedLow, hcount.withPorts.activeLanes])
    have hf := hshed hrx target seq nonce hpend hact
    refine gives_act hs rfl ?_
    rw [hf, activeLanes_boardKeeps, port_boardKeeps]
    refine ⟨hlast, hreq.trans ?_, hlanes.trans ?_⟩
    · rw [port_setPort_same]
    · exact (onlyPorts_setPort p _ _).withCtr.activeLanes p |>.trans (hcount.withPorts.activeLanes p)
  · obtain ⟨hlast, -, hlanes⟩ := answered_shedAck (s := rxCountGood p 64 s) (target := target) (seq := seq) (nonce := nonce)
      (by rwa [hcount.shedLow]) (by rwa [hcount.withPorts.activeLanes])
    have hf := hshed hrx target seq nonce hpend hact
    have hlt := activeLanes_lt s p
    rw [activeLanes_lanesAcked hp (by omega)] at hlanes
    refine gives_act hs rfl ?_
    rw [hf, activeLanes_boardKeeps, port_boardKeeps]
    exact ⟨hlast, hlanes⟩
  · have hf := copArrive_quiet h128 hrx hon (f := shedRecv p target seq nonce)
      (shedRecv_stands (by rwa [hcount.withPorts.copActive]) (by rwa [hcount.copPending]) hack hstands)
    exact gives_act_eq hs rfl hf hcount.boardKeeps ⟨by rw [hcount], hframe⟩
  · subst heq
    have hf := copArrive_quiet h128 hrx hon (f := shedRecv p target seq q.nonce)
      (shedRecv_equal (by rwa [hcount.withPorts.copActive]) (by rwa [hcount.copPending]) hack hw)
    refine gives_act_eq hs rfl hf (hcount.withPorts.trans (onlyPortsCtr_setPort p _ _)).boardKeeps
      ⟨by rw [port_setPort_same], fun r hr => ?_, hframe.same (by rw [setPort_bus])⟩
    rw [port_setPort_other _ _ _ _ hr, port_rxCountGood]
  · have hf := copArrive_quiet h128 hrx hon (f := shedAck p)
      (shedAck_open (by rw [port_rxCountGood]; exact hreq) (by rwa [hcount.withPorts.copActive]) hw hack)
    refine gives_act hs rfl ?_
    rw [hf, activeLanes_boardKeeps, activeLanes_lanesAcked hp (by omega)]
  · have hf := copArrive_quiet h128 hrx hon (f := shedNak p)
      (shedNak_open (by rw [port_rxCountGood]; exact hreq) (by rwa [hcount.withPorts.copActive]) hw hack)
    have honly := hcount.withPorts.trans (onlyPortsCtr_setPort p { port (rxCountGood p 64 s) p with
      copReq := none, copNakUntil := now (rxCountGood p 64 s) + copHold (rxCountGood p 64 s) p } _)
    refine gives_act_eq hs rfl hf honly.boardKeeps ⟨by rw [port_setPort_same], ?_, fun r hr => ?_,
      hframe.same (by rw [setPort_bus]), honly⟩
    · rw [port_setPort_same, hcount.withPorts.now, hcount.withPorts.copHold]
    · rw [port_setPort_other _ _ _ _ hr, port_rxCountGood]
  · have hf := utilisationWindow_ended hact hwin
    exact gives_act_eq hs rfl hf (onlyPorts_setPort p _ s).boardKeeps ⟨by rw [port_setPort_same], by rw [port_setPort_same],
      by rw [port_setPort_same], otherPorts_setPort p _ s, rfl⟩
  · refine gives_act hs rfl ?_
    rw [reg_boardKeeps]
    exact testBit_violation_of_aside hp (aside_coppiceTimeout hlink hreq hlate hopen) (testBit_pvRecord hp s (by decide))

end Sys2Proof.Machine
end

section
/-!
PROOFS. What the end of a transmission leaves as it was (R74, R302).
-/

namespace Sys2Proof.Machine
open Sys2Proof

/-! ### Charges (R284, R285) -/

/-- Only the scheduler and the indexed stores changed. -/
def OnlyCharged (s t : State) : Prop := t = { s with store := t.store, sch := t.sch }

section
variable {s t u : State}

theorem onlyCharged_refl (s : State) : OnlyCharged s s := rfl

theorem OnlyCharged.trans (h : OnlyCharged s t) (h' : OnlyCharged t u) : OnlyCharged s u := Eq.trans h' (by rw [h])

theorem onlyCharged_setDyn (k : Nat) (v : Dyn) (s : State) : OnlyCharged s (setDyn k v s) := rfl

theorem onlyCharged_setQueueList (q : Nat) (l : List Nat) (s : State) : OnlyCharged s (setQueueList q l s) := rfl

theorem onlyCharged_wheelAdd (e : WheelEntry) (s : State) : OnlyCharged s (wheelAdd e s) := rfl

theorem onlyCharged_forAll {α : Type} {f : α → State → State} (hf : ∀ x s, OnlyCharged s (f x s)) (l : List α) (s : State) :
    OnlyCharged s (forAll f l s) :=
  forAll_rel onlyCharged_refl (fun _ _ _ h h' => h.trans h') hf l s

theorem onlyCharged_shaperMore (k l : Nat) (s : State) : OnlyCharged s (shaperMore k l s) := by
  unfold shaperMore shaperAdd
  dsimp only
  split_ifs
  · exact onlyCharged_refl s
  · exact (onlyCharged_setDyn _ _ s).trans (onlyCharged_wheelAdd _ _)
  · exact onlyCharged_setDyn _ _ s

theorem onlyCharged_chargeRest (p : Nat) (d : Desc) (s : State) : OnlyCharged s (chargeRest p d s) := by
  unfold chargeRest
  dsimp only
  split_ifs
  · exact onlyCharged_refl s
  · exact (onlyCharged_forAll (fun k u => onlyCharged_setDyn k _ u) _ s).trans
      (onlyCharged_forAll (fun k u => onlyCharged_shaperMore k _ u) _ _)

theorem onlyCharged_store (x : StoreSt) (s : State) : OnlyCharged s { s with store := x } := rfl

theorem onlyCharged_setPair (i a b : Nat) (s : State) : OnlyCharged s (setPair i a b s) := by
  unfold setPair
  exact onlyCharged_store _ s

theorem onlyCharged_countQueue (d : Desc) (len : Nat) (s : State) : OnlyCharged s (countQueue d len s) := by
  unfold countQueue pairAdd
  split_ifs
  · exact onlyCharged_setPair _ _ _ s
  · exact onlyCharged_refl s

end

/-! ### Copies and their ports -/

/-- What a port transmits, what waits behind it, what it last sent, and what it receives. -/
def lineView (s : State) (p : Nat) : Option Nat × List TxSel × Bytes × Option RxFrame :=
  ((port s p).tx, (port s p).next, (port s p).lastTx, (port s p).rx)

/-- No copy came or went, and each port transmits and receives what it did. -/
structure KeepsCopies (s t : State) : Prop where
  desc : t.clr.desc = s.clr.desc
  view : ∀ p, lineView t p = lineView s p

section
variable {s t u : State}

theorem keepsCopies_refl (s : State) : KeepsCopies s s := ⟨rfl, fun _ => rfl⟩

theorem KeepsCopies.trans (h : KeepsCopies s t) (h' : KeepsCopies t u) : KeepsCopies s u :=
  ⟨h'.desc.trans h.desc, fun p => (h'.view p).trans (h.view p)⟩

theorem keepsCopies_of_same (hports : t.ports = s.ports) (hdesc : t.clr.desc = s.clr.desc) : KeepsCopies s t :=
  ⟨hdesc, fun p => by rw [lineView, port, hports]; rfl⟩

theorem keepsCopies_setPort {v : PortSt} {p : Nat} (h : (v.tx, v.next, v.lastTx, v.rx) = lineView s p) :
    KeepsCopies s (setPort p v s) := by
  refine ⟨by rw [setPort_clr], fun q => ?_⟩
  by_cases hq : q = p
  · rw [hq, lineView, port_setPort_same, h]
  · rw [lineView, port_setPort_other _ _ _ _ hq, lineView]

theorem keepsCopies_forAll {α : Type} {f : α → State → State} (hf : ∀ x s, KeepsCopies s (f x s)) (l : List α) (s : State) :
    KeepsCopies s (forAll f l s) :=
  forAll_rel keepsCopies_refl (fun _ _ _ h h' => h.trans h') hf l s

theorem keepsCopies_fcUpdate (p : Nat) (s : State) : KeepsCopies s (fcUpdate p s) := by
  have hone : ∀ i s, KeepsCopies s (fcCompare p i s) := fun i s => by
    unfold fcCompare
    dsimp only
    generalize (if i = 8 then pauseTxEn s p else pfcTxEn s p) = en
    generalize (if i = 8 then rxc s p else rxcC s p i) = acct
    generalize (if i = 8 then limit s p 10 else limit s p (12 + i)) = xoff
    generalize (if i = 8 then limit s p 11 else limit s p (20 + i)) = xon
    split_ifs
    · exact keepsCopies_setPort rfl
    · exact keepsCopies_refl s
    · exact keepsCopies_setPort rfl
    · exact keepsCopies_setPort rfl
    · exact keepsCopies_refl s
  unfold fcUpdate
  split_ifs
  · exact keepsCopies_forAll hone _ s
  · exact keepsCopies_refl s

theorem keepsCopies_dropRefs (cs : List Nat) (s : State) : KeepsCopies s (dropRefs cs s) := by
  refine keepsCopies_forAll (fun c s => ?_) cs s
  have hinfo : ∀ m, KeepsCopies s (setCellInfo c m s) := fun m => keepsCopies_of_same rfl rfl
  unfold dropRef
  dsimp only
  split_ifs
  · exact (hinfo _).trans (keepsCopies_fcUpdate _ _)
  · refine ((hinfo (infoReset c)).trans ?_).trans (keepsCopies_fcUpdate _ _)
    exact keepsCopies_of_same rfl rfl
  · exact hinfo _

theorem OnlyCharged.keepsCopies (h : OnlyCharged s t) : KeepsCopies s t := keepsCopies_of_same (by rw [h]) (by rw [h])

theorem OnlyCtr.keepsCopies (h : OnlyCtr s t) : KeepsCopies s t := keepsCopies_of_same (by rw [h]) (by rw [h])

/-- A copy removed is gone, and the ports transmit what they did. -/
theorem removeCopy_gone (id : Nat) (s : State) :
    mfind (removeCopy id s).clr.desc id = none ∧ ∀ p, lineView (removeCopy id s) p = lineView s p := by
  unfold removeCopy
  split
  · next h => exact ⟨h, fun _ => rfl⟩
  · next d _ =>
    have hdrop : ∀ u : State, KeepsCopies u (dropRefs (copyCells d) u) := fun u => keepsCopies_dropRefs _ u
    refine ⟨?_, fun p => ?_⟩
    · dsimp only
      rw [(hdrop _).desc, (onlyCharged_setQueueList _ _ _).keepsCopies.desc]
      exact mfind_mdel_same _ _
    · dsimp only
      rw [(hdrop _).view, (onlyCharged_setQueueList _ _ _).keepsCopies.view]
      rfl

end

/-! ### The transmitter is free (R74, R302) -/

/-- Only ports, counters, the Clearing, the scheduler, its gates and the indexed stores changed. -/
def OnlyTx (s t : State) : Prop :=
  t = { s with bus := { s.bus with ctr := t.bus.ctr }, ports := t.ports, store := t.store, clr := t.clr, sch := t.sch,
               gate := t.gate }

/-- What the end of a transmission may touch beside copies: of the counters, the gates' alone. -/
structure TxSide (s t : State) : Prop where
  only : OnlyTx s t
  ctr : ∀ a, pageOf a ≠ pgGate → ctr t a = ctr s a

section
variable {s t u : State}

theorem OnlyTx.trans (h : OnlyTx s t) (h' : OnlyTx t u) : OnlyTx s u := Eq.trans h' (by rw [h])

theorem OnlyTx.reg (h : OnlyTx s t) (a : Nat) : reg t a = reg s a := by rw [h]; rfl

theorem OnlyTx.macSts (h : OnlyTx s t) (p : Nat) (f : Fld) : macSts t p f = macSts s p f := macSts_of_reg (h.reg _) f

theorem OnlyTx.disp (h : OnlyTx s t) : t.disp = s.disp := by rw [h]

theorem OnlyTx.rw_eq (h : OnlyTx s t) : t.rw = s.rw := by rw [h]

theorem OnlyPortsCtr.onlyTx (h : OnlyPortsCtr s t) : OnlyTx s t := by rw [h]; rfl

theorem txSide_refl (s : State) : TxSide s s := ⟨rfl, fun _ _ => rfl⟩

theorem TxSide.trans (h : TxSide s t) (h' : TxSide t u) : TxSide s u :=
  ⟨h.only.trans h'.only, fun a ha => (h'.ctr a ha).trans (h.ctr a ha)⟩

theorem OnlyPortsClr.txSide (h : OnlyPortsClr s t) : TxSide s t := ⟨by rw [h]; rfl, fun a _ => by rw [h]; rfl⟩

theorem OnlyCharged.txSide (h : OnlyCharged s t) : TxSide s t := ⟨by rw [h]; rfl, fun a _ => by rw [h]; rfl⟩

theorem OnlyPorts.txSide (h : OnlyPorts s t) : TxSide s t := ⟨by rw [h]; rfl, fun a _ => by rw [h]; rfl⟩

theorem txSide_setGatePort (p : Nat) (g : GatePort) (s : State) : TxSide s (setGatePort p g s) := ⟨rfl, fun _ _ => rfl⟩

theorem keepsCopies_setGatePort (p : Nat) (g : GatePort) (s : State) : KeepsCopies s (setGatePort p g s) :=
  keepsCopies_of_same rfl rfl

theorem txSide_countGate {off : Nat} (ho : off < 0x1000) (s : State) : TxSide s (count pgGate off s) :=
  ⟨(onlyCtr_count pgGate off s).withPorts.onlyTx, fun a ha =>
    ctr_setCtr_other _ _ _ _ fun h => ha (by rw [h, pageOf_pa _ _ ho])⟩

theorem endDefer_quiet (p : Nat) (s : State) : TxSide s (endDefer p s) ∧ KeepsCopies s (endDefer p s) := by
  unfold endDefer
  dsimp only
  split
  · exact ⟨txSide_setGatePort p _ s, keepsCopies_setGatePort p _ s⟩
  · exact ⟨txSide_refl s, keepsCopies_refl s⟩

/-- With no frame in transmission the gates of an entry take effect at once. -/
theorem applyGates_idle {p gates : Nat} (htx : (port s p).tx = none) :
    applyGates p gates s = setGatePort p { gatePort s p with gates := gates, deferred := none } s := by
  unfold applyGates txClass
  rw [htx]

theorem gateAdvance_quiet {p : Nat} (htx : (port s p).tx = none) :
    TxSide s (gateAdvance p s) ∧ KeepsCopies s (gateAdvance p s) := by
  have hstep : ∀ g g' u, TxSide s u → KeepsCopies s u → (port u p).tx = none →
      TxSide s (applyGates p g (setGatePort p g' u)) ∧ KeepsCopies s (applyGates p g (setGatePort p g' u)) :=
    fun g g' u hside hkeep hu => by
      rw [applyGates_idle (s := setGatePort p g' u) hu]
      exact ⟨(hside.trans (txSide_setGatePort p g' u)).trans (txSide_setGatePort p _ _),
        (hkeep.trans (keepsCopies_setGatePort p g' u)).trans (keepsCopies_setGatePort p _ _)⟩
  unfold gateAdvance
  dsimp only
  split
  · exact ⟨txSide_refl s, keepsCopies_refl s⟩
  · split_ifs
    · exact ⟨txSide_refl s, keepsCopies_refl s⟩
    · exact ⟨txSide_refl s, keepsCopies_refl s⟩
    · exact hstep _ _ _ (txSide_countGate (by decide) s) (onlyCtr_count pgGate _ s).keepsCopies (by rw [port_count]; exact htx)
    · exact hstep _ _ _ (txSide_refl s) (keepsCopies_refl s) htx

theorem txSide_removeCopy (id : Nat) (s : State) : TxSide s (removeCopy id s) := by
  unfold removeCopy
  split
  · exact txSide_refl s
  · next d _ =>
    have hdesc : ∀ x y, OnlyPortsClr s { s with clr := { s.clr with desc := x, residue := y } } := fun _ _ => rfl
    exact ((hdesc _ _).txSide.trans (onlyCharged_setQueueList _ _ _).txSide).trans (onlyPortsClr_dropRefs _ _).txSide

/-- The copy in transmission has left its port. -/
structure TxEnded (p id : Nat) (s t : State) : Prop where
  side : TxSide s t
  gone : mfind t.clr.desc id = none
  last : (port t p).lastTx = (port s p).lastTx
  free : (port s p).next = [] → (port t p).tx = none

theorem startNext_none {p : Nat} (h : (port s p).next = []) : startNext p s = s := by
  unfold startNext
  dsimp only
  rw [h]
  split
  · next hx => exact absurd hx (by simp)
  · rfl

theorem startNext_busy {p id : Nat} (h : (port s p).tx = some id) : startNext p s = s := by
  unfold startNext
  dsimp only
  rw [h]

theorem lastTx_startNext (p : Nat) (s : State) : (port (startNext p s) p).lastTx = (port s p).lastTx := by
  unfold startNext
  dsimp only
  split
  · split_ifs
    · unfold startTx
      dsimp only
      rw [port_setPort_same, port_setPort_same]
    · rfl
  · rfl

/-- The state of a port whose frame has ended, its copy still in the store. -/
@[irreducible] def txIdle (p : Nat) (s : State) : State :=
  setPort p { port s p with tx := none, txStomp := false, idleSince := now s, macFree := now s + wireTime s p 0 } s

theorem txDone_eq (p id : Nat) (s : State) :
    txDone p id s = startNext p (gateAdvance p (endDefer p (removeCopy id (txIdle p s)))) := by
  unfold txIdle
  rfl

theorem onlyPorts_txIdle (p : Nat) (s : State) : OnlyPorts s (txIdle p s) := by
  unfold txIdle
  exact onlyPorts_setPort p _ s

theorem lineView_txIdle (p : Nat) (s : State) : lineView (txIdle p s) p = (none, (port s p).next, (port s p).lastTx, (port s p).rx) := by
  unfold txIdle
  rw [lineView, port_setPort_same]

/-- The end of a transmission removes its copy, and frees the port for what waits behind. -/
theorem txEnded_txDone (p id : Nat) (s : State) : TxEnded p id s (txDone p id s) := by
  obtain ⟨hgone, hview⟩ := removeCopy_gone id (txIdle p s)
  obtain ⟨hdefer, hdeferKeeps⟩ := endDefer_quiet p (removeCopy id (txIdle p s))
  have hidle : lineView (endDefer p (removeCopy id (txIdle p s))) p = (none, (port s p).next, (port s p).lastTx, (port s p).rx) := by
    rw [hdeferKeeps.view, hview, lineView_txIdle]
  obtain ⟨hgate, hgateKeeps⟩ := gateAdvance_quiet (p := p) (congrArg Prod.fst hidle)
  have hfree : lineView (gateAdvance p (endDefer p (removeCopy id (txIdle p s)))) p =
      (none, (port s p).next, (port s p).lastTx, (port s p).rx) := by rw [hgateKeeps.view, hidle]
  simp only [lineView, Prod.mk.injEq] at hfree
  obtain ⟨htx, hnext, hlast, -⟩ := hfree
  have hside := (((onlyPorts_txIdle p s).txSide.trans (txSide_removeCopy id _)).trans hdefer).trans hgate
  have hstart := onlyPorts_startNext p (gateAdvance p (endDefer p (removeCopy id (txIdle p s))))
  rw [txDone_eq]
  refine ⟨hside.trans hstart.txSide, ?_, ?_, fun hnil => ?_⟩
  · have hclr : (startNext p (gateAdvance p (endDefer p (removeCopy id (txIdle p s))))).clr =
        (gateAdvance p (endDefer p (removeCopy id (txIdle p s)))).clr := by rw [hstart]
    rw [hclr, hgateKeeps.desc, hdeferKeeps.desc, hgone]
  · rw [lastTx_startNext, hlast]
  · rw [startNext_none (hnext.trans hnil), htx]

end

end Sys2Proof.Machine
end

section
/-!
PROOFS. Frames transmitted (R74, R253, R273, R356, R17).
-/

namespace Sys2Proof.Machine
open Sys2Proof

/-! ### Ports with a MAC (R74, R356) -/

section
variable {s : State} {p id : Nat} {d : Desc}

/-- A copy of no PTP event leaves as it is; a Trail term not used is counted (R309). -/
theorem ptpAction_plain {h : Bytes} (f : Bytes) (hev : hEvent h = false) : ∃ u, ptpAction p d h f s = (f, false, u) ∧ OnlyCtr s u ∧
    ∀ a, pageOf a ≠ pgPtp → ctr u a = ctr s a := by
  have hcount : ∀ a, pageOf a ≠ pgPtp → ctr (count pgPtp cPtp_PTP_NOCORR s) a = ctr s a := fun a ha =>
    ctr_setCtr_other _ _ _ _ fun h => ha (by rw [h, pageOf_pa _ _ (by decide)])
  unfold ptpAction
  simp only [hev, Bool.not_false, if_true]
  split_ifs
  · exact ⟨s, rfl, onlyCtr_refl s, fun _ _ => rfl⟩
  · exact ⟨_, rfl, onlyCtr_count _ _ s, hcount⟩
  · exact ⟨s, rfl, onlyCtr_refl s, fun _ _ => rfl⟩

theorem ctr_sendOut_frames (p : Nat) (f : Bytes) (s : State) : ctr (sendOut p f s) (pa (macPage p) cMac_TX_FRAMES) =
    Nat.min maxCtr (ctr s (pa (macPage p) cMac_TX_FRAMES) + 1) := by
  have h := (counts_refl s).sendOut p f rfl rfl (pa (macPage p) cMac_TX_FRAMES)
  simpa [mfind] using h

theorem ctr_sendOut_other (p : Nat) (f : Bytes) {off : Nat} (s : State) (hf : off ≠ cMac_TX_FRAMES) (hb : off ≠ cMac_TX_BYTES) :
    ctr (sendOut p f s) (pa (macPage p) off) = ctr s (pa (macPage p) off) := by
  refine ((counts_refl s).sendOut p f rfl rfl).other ?_
  rw [List.nil_append, List.singleton_append, mfind_pa_cons _ _ _ _ _ hf, mfind_pa_cons _ _ _ _ _ hb]
  rfl

/-- The frame a copy of no PTP event sends, its Trail header after the addresses where the port has one (R356). -/
def macFrame (s : State) (p : Nat) (d : Desc) : Bytes :=
  if trailEn s p && !d.rootway then
    (copyBytesOf s d).take 12 ++ trailHeader s d (pktHeader s d.headCells) false ++ (copyBytesOf s d).drop 12
  else copyBytesOf s d

/-- The length of that frame with its FCS. -/
def macLen (s : State) (p : Nat) (d : Desc) : Nat := Nat.max (d.len + (if trailEn s p && !d.rootway then 16 else 0)) 60 + 4

/-- The copy has left its port as a frame. -/
structure MacSent (p id : Nat) (stomp : Bool) (f : Bytes) (s t : State) : Prop where
  free : (port s p).next = [] → (port t p).tx = none
  gone : mfind t.clr.desc id = none
  last : (port t p).lastTx = withFcs stomp f
  frames : ctr t (pa (macPage p) cMac_TX_FRAMES) = Nat.min maxCtr (ctr s (pa (macPage p) cMac_TX_FRAMES) + 1)
  stomped : ctr t (pa (macPage p) cMac_TX_STOMPED) =
    (if stomp then Nat.min maxCtr (ctr s (pa (macPage p) cMac_TX_STOMPED) + 1) else ctr s (pa (macPage p) cMac_TX_STOMPED))

/-- The state in which a copy is about to leave, its stomp counted. -/
@[irreducible] def stompCounted (p : Nat) (stomp : Bool) (s : State) : State :=
  if stomp then count (macPage p) cMac_TX_STOMPED s else s

theorem onlyCtr_stompCounted (p : Nat) (stomp : Bool) (s : State) : OnlyCtr s (stompCounted p stomp s) := by
  unfold stompCounted
  split_ifs
  · exact onlyCtr_count _ _ s
  · exact onlyCtr_refl s

theorem ctr_stompCounted (p : Nat) (stomp : Bool) (s : State) :
    ctr (stompCounted p stomp s) (pa (macPage p) cMac_TX_STOMPED) =
        (if stomp then Nat.min maxCtr (ctr s (pa (macPage p) cMac_TX_STOMPED) + 1) else ctr s (pa (macPage p) cMac_TX_STOMPED)) ∧
      ctr (stompCounted p stomp s) (pa (macPage p) cMac_TX_FRAMES) = ctr s (pa (macPage p) cMac_TX_FRAMES) := by
  unfold stompCounted
  split_ifs
  · exact ⟨ctr_setCtr_same _ _ _, ctr_setCtr_other _ _ _ _ (pa_ne _ _ _ (by decide))⟩
  · exact ⟨rfl, rfl⟩

theorem macPage_ne {p page : Nat} (hp : p < 256) (h : page < 0x080 ∨ 0x180 ≤ page) : macPage p ≠ page := by
  unfold macPage; omega

/-- A frame sent once its copy has gone. -/
theorem macSent_sendOut {v w x : State} {stomp : Bool} {f : Bytes} (hp : p < 256) (hv : OnlyCtr s v)
    (hstomped : ctr v (pa (macPage p) cMac_TX_STOMPED) =
      (if stomp then Nat.min maxCtr (ctr s (pa (macPage p) cMac_TX_STOMPED) + 1) else ctr s (pa (macPage p) cMac_TX_STOMPED)))
    (hframes : ctr v (pa (macPage p) cMac_TX_FRAMES) = ctr s (pa (macPage p) cMac_TX_FRAMES))
    (hw : OnlyCharged v w) (hx : TxEnded p id w x) : MacSent p id stomp f s (sendOut p (withFcs stomp f) x) := by
  obtain ⟨hside, hgone, -, hfree⟩ := hx
  have hport : port w p = port s p := by rw [port, hw, ← hv.port p, port]
  have hctr : ∀ off, off < 0x1000 → ctr x (pa (macPage p) off) = ctr v (pa (macPage p) off) := fun off ho => by
    have hcw : ctr w (pa (macPage p) off) = ctr v (pa (macPage p) off) := by rw [ctr, hw, ctr]
    rw [hside.ctr _ (by rw [pageOf_pa _ _ ho]; exact macPage_ne hp (by decide)), hcw]
  rw [hport] at hfree
  refine ⟨fun hnil => ?_, ?_, ?_, ?_, ?_⟩
  · rw [port_sendOut_same]
    exact hfree hnil
  · rw [onlyPortsCtr_sendOut p (withFcs stomp f) x]
    exact hgone
  · rw [port_sendOut_same]
  · rw [ctr_sendOut_frames, hctr _ (by decide), hframes]
  · rw [ctr_sendOut_other _ _ _ (by decide) (by decide), hctr _ (by decide), hstomped]

theorem emit_line {f : Bytes} (h : macSts s p fMAC_STS_LSTATE ≠ lsLoop) : emit p f s = sendOut p f s := by
  unfold emit
  dsimp only
  rw [(onlyPortsCtr_sendOut p f s).macSts, if_neg h]

/-- A copy that has a frame's length leaves its port (R74). -/
theorem macSent_macTransmit (hp : p < 256) (hev : hEvent (pktHeader s d.headCells) = false)
    (htrail : (trailEn s p && !d.rootway) = true → hTrail (pktHeader s d.headCells) = false)
    (hlen : macLen s p d ≤ (port s p).txMax) (hline : macSts s p fMAC_STS_LSTATE ≠ lsLoop) :
    MacSent p id ((port s p).txStomp || d.broken) (macFrame s p d) s (macTransmit p id d false s) := by
  obtain ⟨u, hptp, hu, hctr⟩ := ptpAction_plain (p := p) (d := d) (s := s) (copyBytesOf s d) hev
  have hmac : ∀ off, off < 0x1000 → ctr u (pa (macPage p) off) = ctr s (pa (macPage p) off) := fun off ho =>
    hctr _ (by rw [pageOf_pa _ _ ho]; exact macPage_ne hp (by decide))
  have hstomp := onlyCtr_stompCounted p ((port s p).txStomp || d.broken) u
  obtain ⟨hstomped, hframes⟩ := ctr_stompCounted p ((port s p).txStomp || d.broken) u
  rw [hmac _ (by decide)] at hstomped hframes
  have hcharged := (onlyCharged_chargeRest p d (stompCounted p ((port s p).txStomp || d.broken) u)).trans
    (onlyCharged_countQueue d (macLen s p d) _)
  have hended := txEnded_txDone p id
    (countQueue d (macLen s p d) (chargeRest p d (stompCounted p ((port s p).txStomp || d.broken) u)))
  have hloop := ((hu.trans hstomp).withPorts.macSts p fMAC_STS_LSTATE).symm.trans
    ((hcharged.txSide.trans hended.side).only.macSts p fMAC_STS_LSTATE).symm
  have hf : macTransmit p id d false s = emit p (withFcs ((port s p).txStomp || d.broken) (macFrame s p d)) (txDone p id
      (countQueue d (macLen s p d) (chargeRest p d (stompCounted p ((port s p).txStomp || d.broken) u)))) := by
    have hhop : (trailEn s p && !d.rootway && hTrail (pktHeader s d.headCells)) = false := by
      cases h : (trailEn s p && !d.rootway)
      · rfl
      · rw [htrail h]; rfl
    unfold macTransmit macLen stompCounted macFrame
    unfold macLen at hlen
    dsimp only
    rw [hhop, Bool.false_and, if_neg Bool.false_ne_true, if_neg (Nat.not_lt.mpr hlen), hptp]
    simp
  rw [hf, emit_line (by rw [← hloop]; exact hline)]
  exact macSent_sendOut hp (hu.trans hstomp) hstomped hframes hcharged hended

/-- A copy of no Trail port longer than its frame may be is counted and not sent. -/
theorem macTransmit_oversize (htrail : trailEn s p = false) (hlen : (port s p).txMax < Nat.max d.len 60 + 4) (under : Bool) :
    macTransmit p id d under s = txDone p id (count (macPage p) cMac_TX_OVERSIZE s) := by
  unfold macTransmit
  dsimp only
  rw [htrail, Bool.false_and, Bool.false_and, Bool.false_and, if_neg Bool.false_ne_true, if_neg Bool.false_ne_true,
    Nat.add_zero d.len, if_pos hlen]

/-! ### The command -/

section
variable (htx : (port s p).tx = some id) (hd : mfind s.clr.desc id = some d) (hrx : d.rxPass = none) (hsafe : safe s = false)
  (under : Bool)
include htx hd hrx hsafe

theorem frameTransmit_mac (hp : p < 256) : frameTransmit p under s = macTransmit p id d false s := by
  unfold frameTransmit
  dsimp only
  rw [startNext_busy htx, htx]
  dsimp only
  rw [hd]
  dsimp only
  rw [hrx, hsafe]
  simp [hp, Nat.ne_of_lt hp]

/-- A full queue of heads withholds the frame (R17). -/
theorem frameTransmit_withheld (hp : 256 < p) (hwait : 32 ≤ headsWaiting s p) : frameTransmit p under s = s := by
  unfold frameTransmit
  dsimp only
  rw [startNext_busy htx, htx]
  dsimp only
  rw [hd]
  dsimp only
  rw [hrx, hsafe]
  simp [Nat.ne_of_gt hp, Nat.not_lt.mpr hp.le, hwait]

theorem frameTransmit_inside (hp : 256 < p) (hb : d.broken = false) (hwait : headsWaiting s p < 32) :
    frameTransmit p under s = if p = 259 then
      setRwLink 259 { rwLink s 259 with inbox := (rwLink s 259).inbox ++ [copyBytesOf s d] }
        (txDone p id (countQueue d (txLen s d) s))
    else recirculate p id d (countQueue d (txLen s d) s) := by
  unfold frameTransmit
  dsimp only
  rw [startNext_busy htx, htx]
  dsimp only
  rw [hd]
  dsimp only
  rw [hrx, hsafe, hb]
  simp [Nat.ne_of_gt hp, Nat.not_lt.mpr hp.le, Nat.not_le.mpr hwait]

end

/-! ### The bytes of a copy -/

section
variable {t : State} (hcell : ∀ c, cell t c = cell s c)
include hcell

theorem segBytes_congr (gs : List Seg) : segBytes t gs = segBytes s gs := by
  induction gs with
  | nil => rfl
  | cons g gs ih => rw [segBytes, segBytes, hcell, ih]

theorem pktHeader_congr (cells : List Nat) : pktHeader t cells = pktHeader s cells := by
  cases cells with
  | nil => rfl
  | cons c cs => rw [pktHeader, pktHeader, hcell]

theorem copyBytesOf_congr (d : Desc) : copyBytesOf t d = copyBytesOf s d := by
  unfold copyBytesOf headBytes
  simp only [hcell, segBytes_congr hcell]

end

theorem OnlyCharged.cell {t : State} (h : OnlyCharged s t) (c : Nat) : cell t c = cell s c := by
  rw [Machine.cell, h, Machine.cell]

/-! ### Recirculation (R253) -/

/-- The pass of a frame that comes back as a head. -/
def recircPass (p : Nat) (d : Desc) (s : State) : Pass :=
  { passReset with
    src := p, rxPort := p, raw := (copyBytesOf s d).take 256,
    segs := takeSegs ((copyBytesOf s d).length - 256) (dropSegs 256 (headSegs d.headCells 48 d.headLen ++ d.segs)),
    flen := (copyBytesOf s d).length + 4, recirc := true, prev := copyCells d, rxTime := hRxTime (pktHeader s d.headCells),
    epoch := copyEpoch s d, inflight := copyInFlight s d }

theorem recirculate_eq (p id : Nat) (d : Desc) (s : State) :
    recirculate p id d s = (newPass (recircPass p d s) (txDone p id (forAll addRef (copyCells d) s))).2 := rfl

theorem keepsCopies_addRefs (cs : List Nat) (s : State) : KeepsCopies s (forAll addRef cs s) :=
  keepsCopies_forAll (f := addRef) (fun _ _ => keepsCopies_of_same rfl rfl) cs s

theorem onlyPortsClr_addRefs (cs : List Nat) (s : State) : OnlyPortsClr s (forAll addRef cs s) :=
  forAll_rel (f := addRef) onlyPortsClr_refl onlyPortsClr_trans (fun _ _ => rfl) cs s

theorem newPass_ports (ps : Pass) (s : State) : (newPass ps s).2.ports = s.ports := setPass_ports (s := s) s.disp.nextPass ps

theorem port_newPass (ps : Pass) (s : State) (q : Nat) : port (newPass ps s).2 q = port s q := by
  rw [port, newPass_ports, port]

theorem newPass_clr (ps : Pass) (s : State) : (newPass ps s).2.clr = s.clr := setPass_clr (s := s) s.disp.nextPass ps

theorem pass_newPass (ps : Pass) (s : State) : pass? (newPass ps s).2 s.disp.nextPass = some ps :=
  pass_setPass_same (s := s) s.disp.nextPass ps

theorem order_newPass (ps : Pass) (s : State) :
    mget (fun _ => []) (newPass ps s).2.disp.order ps.src = mget (fun _ => []) s.disp.order ps.src ++ [s.disp.nextPass] :=
  mget_mset_same _ _ _ _

/-- What is left of a copy that comes back as a head (R253). -/
structure Recirculated (p id : Nat) (d : Desc) (s t : State) : Prop where
  free : (port s p).next = [] → (port t p).tx = none
  gone : mfind t.clr.desc id = none
  head : ∃ q, pass? t s.disp.nextPass = some q ∧ q.recirc = true ∧ q.rxPort = p ∧
    q.raw = (copyBytesOf s d).take 256 ∧ q.epoch = copyEpoch s d ∧ q.rxTime = hRxTime (pktHeader s d.headCells)
  order : mget (fun _ => []) t.disp.order p = mget (fun _ => []) s.disp.order p ++ [s.disp.nextPass]

theorem recirculated (p id : Nat) (d : Desc) {u : State} (h : OnlyCharged s u) :
    Recirculated p id d s (recirculate p id d u) := by
  obtain ⟨hside, hgone, -, hfree⟩ := txEnded_txDone p id (forAll addRef (copyCells d) u)
  have hview : lineView (forAll addRef (copyCells d) u) p = lineView s p := by
    rw [(keepsCopies_addRefs (copyCells d) u).view, h.keepsCopies.view]
  have hnext : (port (forAll addRef (copyCells d) u) p).next = (port s p).next := congrArg (fun v => v.2.1) hview
  have hdisp : (txDone p id (forAll addRef (copyCells d) u)).disp = s.disp := by
    rw [hside.only.disp, onlyPortsClr_addRefs (copyCells d) u, h]
  rw [hnext] at hfree
  rw [recirculate_eq]
  refine ⟨?_, ?_, ⟨recircPass p d u, ?_, rfl, rfl, ?_, ?_, ?_⟩, ?_⟩
  · rw [port_newPass]
    exact hfree
  · rw [newPass_clr]
    exact hgone
  · rw [← hdisp]
    exact pass_newPass _ _
  · rw [← copyBytesOf_congr h.cell]
    rfl
  · rw [copyEpoch, ← pktHeader_congr h.cell]
    rfl
  · rw [← pktHeader_congr h.cell]
    rfl
  · rw [← hdisp]
    exact order_newPass (recircPass p d u) _

end

theorem rwLink_setRwLink_same (l : Nat) (v : RwLink) (s : State) : rwLink (setRwLink l v s) l = v := by simp [rwLink, setRwLink]

theorem rwLink_boardKeeps (s t : State) (l : Nat) : rwLink (boardKeeps s t) l = rwLink t l := by rw [rwLink, boardKeeps_rw, rwLink]

/-- Settles O31: the transmitter comes free in one state whatever becomes of the frame; what the frame itself does is added to it. -/
theorem framesTransmittedLeaveTheirPort : Obligations.FramesTransmittedLeaveTheirPort := by
  intro s p id d hs hsafe htx hd hrx
  refine ⟨fun hp htrail hev => ⟨fun hlen hline under => ?_, fun hlen under => ?_⟩,
    fun hp htrail hrw hmir hev hhop hlen hline under => ?_, fun hp hb hwait under => ?_, fun hp hwait under => ?_,
    fun hp hb hwait under => ?_⟩
  · have hlen' : macLen s p d ≤ (port s p).txMax := by simpa [macLen, htrail] using hlen
    have hframe : macFrame s p d = copyBytesOf s d := by simp [macFrame, htrail]
    obtain ⟨hfree, hgone, hlast, hframes, hstomped⟩ :=
      macSent_macTransmit (id := id) hp hev (fun h => absurd h (by simp [htrail])) hlen' hline
    rw [hframe] at hlast
    refine gives_act hs rfl ?_
    rw [frameTransmit_mac htx hd hrx hsafe under hp, port_boardKeeps, boardKeeps_clr, ctr_boardKeeps, ctr_boardKeeps]
    exact ⟨hfree, hgone, hlast, hframes, hstomped⟩
  · obtain ⟨hside, hgone, hlast, hfree⟩ := txEnded_txDone p id (count (macPage p) cMac_TX_OVERSIZE s)
    have hctr := hside.ctr (pa (macPage p) cMac_TX_OVERSIZE) (by rw [pageOf_pa _ _ (by decide)]; exact macPage_ne hp (by decide))
    refine gives_act hs rfl ?_
    rw [frameTransmit_mac htx hd hrx hsafe under hp, macTransmit_oversize htrail hlen, port_boardKeeps, boardKeeps_clr,
      ctr_boardKeeps, hctr]
    exact ⟨hfree, hgone, hlast, ctr_setCtr_same _ _ _⟩
  · have hlen' : macLen s p d ≤ (port s p).txMax := by simpa [macLen, htrail, hrw] using hlen
    obtain ⟨hfree, -, hlast, -, -⟩ := macSent_macTransmit (id := id) hp hev (fun _ => hhop) hlen' hline
    have hframe : macFrame s p d = (copyBytesOf s d).take 12 ++ trailHeader s d (pktHeader s d.headCells) false ++
        (copyBytesOf s d).drop 12 := by simp [macFrame, htrail, hrw]
    rw [hframe] at hlast
    refine gives_act hs rfl ?_
    rw [frameTransmit_mac htx hd hrx hsafe under hp, port_boardKeeps]
    exact ⟨hfree, hlast⟩
  · have hcharged := onlyCharged_countQueue d (txLen s d) s
    obtain ⟨hside, hgone, -, -⟩ := txEnded_txDone p id (countQueue d (txLen s d) s)
    refine gives_act hs rfl ?_
    rw [frameTransmit_inside htx hd hrx hsafe under (by omega) hb hwait, if_pos hp, boardKeeps_clr, boardKeeps_disp,
      rwLink_boardKeeps, rwLink_setRwLink_same, setRwLink_clr, setRwLink_disp]
    exact ⟨hgone, (hcharged.txSide.trans hside).only.disp, rfl⟩
  · refine gives_act_eq hs rfl (frameTransmit_withheld htx hd hrx hsafe under (by omega) hwait) rfl rfl
  · obtain ⟨hfree, hgone, hhead, horder⟩ := recirculated p id d (onlyCharged_countQueue d (txLen s d) s)
    refine gives_act hs rfl ?_
    rw [frameTransmit_inside htx hd hrx hsafe under (by omega) hb hwait, if_neg (by omega), port_boardKeeps, boardKeeps_clr,
      boardKeeps_disp]
    exact ⟨hfree, hgone, hhead, horder⟩

end Sys2Proof.Machine
end

section
/-!
PROOFS. What a frame in reception reads and takes: registers that stay, cells granted for its body, and the bytes stored in them
(R73, R251, R257, R277).
-/

namespace Sys2Proof.Machine
open Sys2Proof

/-! ### The registers a reception reads -/

/-- Registers show, and blocks hold, what they did. -/
structure SameView (s t : State) : Prop where
  reg : ∀ a, reg t a = reg s a
  live : ∀ a, live t a = live s a

section
variable {s t u : State}

theorem SameView.trans (h : SameView s t) (h' : SameView t u) : SameView s u :=
  ⟨fun a => (h'.reg a).trans (h.reg a), fun a => (h'.live a).trans (h.live a)⟩

theorem OnlyPortsCtr.view (h : OnlyPortsCtr s t) : SameView s t := ⟨h.reg, h.live⟩

section
variable (h : SameView s t)
include h

theorem SameView.regB (a : Nat) (f : Fld) : regB t a f = regB s a f := by rw [Machine.regB, h.reg, Machine.regB]
theorem SameView.regF (a : Nat) (f : Fld) : regF t a f = regF s a f := by rw [Machine.regF, h.reg, Machine.regF]
theorem SameView.liveB (a : Nat) (f : Fld) : liveB t a f = liveB s a f := by rw [Machine.liveB, h.live, Machine.liveB]
theorem SameView.liveF (a : Nat) (f : Fld) : liveF t a f = liveF s a f := by rw [Machine.liveF, h.live, Machine.liveF]

theorem SameView.macSts (p : Nat) (f : Fld) : macSts t p f = macSts s p f := h.regF _ f

theorem SameView.safe : safe t = safe s := h.regB _ _

theorem SameView.maxLen (p : Nat) : maxLen t p = maxLen s p := by rw [Machine.maxLen, h.liveF, Machine.maxLen]

theorem SameView.rxBody (p : Nat) (b : Bytes) : rxBody t p b = rxBody s p b := by rw [Machine.rxBody, h.maxLen, Machine.rxBody]

theorem SameView.limit (p w : Nat) : limit t p w = limit s p w := by
  unfold Machine.limit
  rw [h.live, h.liveF]

theorem SameView.isCoppice (p : Nat) (b : Bytes) : isCoppice t p b = isCoppice s p b := by
  rw [Machine.isCoppice, h.liveB, Machine.isCoppice]

theorem SameView.isRootway (p : Nat) (b : Bytes) : isRootway t p b = isRootway s p b := by
  unfold Machine.isRootway isRwLink linkUp
  rw [h.liveF, h.live, h.regB]

theorem SameView.consumed (p : Nat) (b : Bytes) : consumed t p b = consumed s p b := by
  rw [Machine.consumed, h.isCoppice, h.isRootway, Machine.consumed]

end

/-! ### Cells granted (R255 to R257) -/

/-- Only ports, the Clearing and the Lookout changed. -/
def OnlyCells (s t : State) : Prop := t = { s with ports := t.ports, clr := t.clr, lko := t.lko }

theorem onlyCells_refl (s : State) : OnlyCells s s := rfl

theorem OnlyCells.trans (h : OnlyCells s t) (h' : OnlyCells t u) : OnlyCells s u := Eq.trans h' (by rw [h])

theorem OnlyPortsClr.cells (h : OnlyPortsClr s t) : OnlyCells s t := by rw [h]; rfl

theorem OnlyPorts.cells (h : OnlyPorts s t) : OnlyCells s t := by rw [h]; rfl

theorem OnlyCells.view (h : OnlyCells s t) : SameView s t :=
  ⟨fun a => by rw [h]; rfl, fun a => by rw [h]; rfl⟩

theorem OnlyCells.disp (h : OnlyCells s t) : t.disp = s.disp := by rw [h]
theorem OnlyCells.ctrs (h : OnlyCells s t) : t.bus.ctr = s.bus.ctr := by rw [h]

theorem onlyCells_setCellInfo (c : Nat) (m : CellMeta) (s : State) : OnlyCells s (setCellInfo c m s) := rfl

theorem onlyCells_popList {b v c : Nat} (h : popList b v s = some (c, t)) : OnlyCells s t := by
  unfold popList at h
  dsimp only at h
  split_ifs at h
  · obtain ⟨-, rfl⟩ : _ ∧ _ := by simpa using h
    rfl
  · split at h
    · exact absurd h (by simp)
    · obtain ⟨-, rfl⟩ : _ ∧ _ := by simpa using h
      rfl

theorem onlyCells_popFrom {v n b x y : Nat} (h : popFrom s v n b = some (x, y, t)) : OnlyCells s t := by
  induction n generalizing b with
  | zero => exact absurd h (by simp [popFrom])
  | succ n ih =>
    unfold popFrom at h
    split_ifs at h
    · exact ih h
    · split at h
      · next hpop =>
        obtain ⟨-, -, rfl⟩ : _ ∧ _ ∧ _ := by simpa using h
        exact onlyCells_popList hpop
      · exact ih h

theorem onlyCells_popNext {v b w x y : Nat} (h : popNext s v b = some (w, x, y, t)) : OnlyCells s t := by
  unfold popNext at h
  split at h
  · next hpop =>
    obtain ⟨-, rfl⟩ : _ ∧ _ := by simpa using h
    exact onlyCells_popFrom hpop
  · obtain ⟨r, hpop, heq⟩ := Option.map_eq_some_iff.mp h
    obtain ⟨-, rfl⟩ : _ ∧ _ := by simpa using heq
    exact onlyCells_popFrom hpop

theorem onlyCells_cellReq {r port cls c : Nat} {b : Bool} (h : cellReq r b port cls s = .granted c t) : OnlyCells s t := by
  unfold cellReq at h
  dsimp only at h
  split_ifs at h
  split at h
  · exact absurd h (by simp)
  · next v b' c' s1 hpop =>
    obtain ⟨-, rfl⟩ : _ ∧ _ := by simpa using h
    have hnote : ∀ x y, OnlyCells s1 { s1 with clr := x, lko := y } := fun _ _ => rfl
    exact ((onlyCells_popNext hpop).trans (hnote _ _)).trans (onlyCells_setCellInfo _ _ _)

/-- The body cells of a frame leave all but the cells, their accounts and the flow-control conditions. -/
theorem onlyCells_bodyCells (r : Nat) (b : Bool) (p cls n : Nat) (got : List Nat) (s : State) :
    OnlyCells s (bodyCells r b p cls n got s).2.1 := by
  induction n generalizing got s with
  | zero => rfl
  | succ n ih =>
    unfold bodyCells
    split_ifs
    · exact onlyCells_refl s
    · split
      · next h => exact ((onlyCells_cellReq h).trans (onlyPortsClr_fcUpdate p _).cells).trans (ih _ _)
      · exact onlyCells_refl s
      · exact onlyCells_refl s

/-- Where none is refused, as many cells come as are asked for. -/
theorem length_bodyCells {r : Nat} {b : Bool} {p cls n : Nat} {got : List Nat} {s : State}
    (h : (bodyCells r b p cls n got s).2.2 = 0) : (bodyCells r b p cls n got s).1.length = got.length + n := by
  induction n generalizing got s with
  | zero => rfl
  | succ n ih =>
    by_cases hlim : limit s p 9 ≤ rxc s p
    · rw [bodyCells, if_pos hlim] at h
      exact absurd h one_ne_zero
    · rw [bodyCells, if_neg hlim] at h ⊢
      cases hreq : cellReq r b p cls s with
      | granted c s1 =>
        rw [hreq] at h
        dsimp only at h ⊢
        rw [ih h, List.length_append, List.length_singleton]
        omega
      | nobuf =>
        rw [hreq] at h
        exact absurd h two_ne_zero
      | empty =>
        rw [hreq] at h
        exact absurd h three_ne_zero

theorem onlyCells_writeChain (cs : List Nat) (bs : Bytes) (s : State) : OnlyCells s (writeChain cs bs s) := by
  have hcell : ∀ c d l (s : State), OnlyCells s (setCell c d l s) := fun _ _ _ _ => rfl
  induction cs generalizing bs s with
  | nil => rfl
  | cons c cs ih =>
    cases cs with
    | nil => exact hcell _ _ _ s
    | cons d cs => exact (hcell _ _ _ s).trans (ih _ _)

/-! ### The bytes of a body (R250, R251) -/

/-- The first bytes of a cell's row are the bytes written to it. -/
theorem slice_padTo {bs : Bytes} (h : bs.length ≤ 256) : slice (padTo 256 bs) 0 bs.length = bs := by
  simp [slice, padTo, List.take_of_length_le h]

/-- The first cell of a chain. -/
theorem cell_writeChain_head {c : Nat} {cs : List Nat} (bs : Bytes) (s : State) (h : c ∉ cs) :
    (cell (writeChain (c :: cs) bs s) c).data = padTo 256 (bs.take 256) := by
  cases cs with
  | nil => rw [writeChain, cell_setCell_same]
  | cons d cs => rw [writeChain, cell_writeChain_other _ _ _ _ h, cell_setCell_same]

/-- The cells after it. -/
theorem segBytes_writeChain_tail {c : Nat} {cs : List Nat} (bs : Bytes) (s : State)
    (ih : ∀ bs s, bs.length ≤ 256 * cs.length → segBytes (writeChain cs bs s) (bodySegs cs bs.length) = bs)
    (hlen : bs.length ≤ 256 * (c :: cs).length) :
    segBytes (writeChain (c :: cs) bs s) (bodySegs cs (bs.length - 256)) = bs.drop 256 := by
  rw [List.length_cons] at hlen
  have hdrop : (bs.drop 256).length = bs.length - 256 := List.length_drop
  cases cs with
  | nil =>
    rw [bodySegs, segBytes]
    exact (List.drop_eq_nil_of_le (by simpa using hlen)).symm
  | cons d cs =>
    rw [writeChain, ← hdrop]
    exact ih _ _ (by rw [hdrop]; omega)

/-- A chain of distinct cells holds the bytes stored in it. -/
theorem segBytes_writeChain (cs : List Nat) (bs : Bytes) (s : State) (hnd : cs.Nodup) (hlen : bs.length ≤ 256 * cs.length) :
    segBytes (writeChain cs bs s) (bodySegs cs bs.length) = bs := by
  induction cs generalizing bs s with
  | nil =>
    rw [bodySegs, segBytes]
    exact (List.eq_nil_of_length_eq_zero (by simpa using hlen)).symm
  | cons c cs ih =>
    obtain ⟨hc, hnd⟩ := List.nodup_cons.mp hnd
    rw [bodySegs]
    split_ifs with hnil
    · exact (List.eq_nil_of_length_eq_zero hnil).symm
    · have htake : (bs.take 256).length = Nat.min 256 bs.length := List.length_take
      rw [segBytes, cell_writeChain_head bs s hc, ← htake, slice_padTo (by rw [htake]; exact Nat.min_le_left _ _),
        segBytes_writeChain_tail bs s (fun bs s => ih bs s hnd) hlen, List.take_append_drop]

end

end Sys2Proof.Machine
end

section
/-!
PROOFS. A frame in reception: its parts, what is stored of it, and its end (R72, R73, R257, R271).
-/

namespace Sys2Proof.Machine
open Sys2Proof

/-! ### The parts of a frame (R72, R73) -/

/-- A frame that opens on port `p`. -/
def rxFresh (p : Nat) (s : State) : RxFrame :=
  { bytes := [], cells := [], ignore := !rxAccepts s p, discard := false, why := 0, owed := [], cls := 8, broken := false,
    cut := none, ts := rxStamp s p, pass := none }

/-- The frame in reception on port `p`, or the one that opens. -/
def Receiving (p : Nat) (r : RxFrame) (s : State) : Prop := (port s p).rx = some r ∨ ((port s p).rx = none ∧ r = rxFresh p s)

/-- A refusal releases what the frame holds (R257). -/
def rxSettled (r : RxFrame) (q : RxFrame × State) : RxFrame × State :=
  if q.1.discard && !r.discard then
    match q.1.pass with
    | some k => ({ q.1 with pass := none, cells := [] }, earlyFail k (dropRefs (q.1.cells.drop r.cells.length) q.2))
    | none => ({ q.1 with cells := [] }, dropRefs q.1.cells q.2)
  else q

/-- The state in which a port receives a frame. -/
@[irreducible] def rxHeld (p : Nat) (r : RxFrame) (s : State) : State := setPort p { port s p with rx := some r } s

/-- The state in which it receives none. -/
@[irreducible] def rxClosed (p : Nat) (s : State) : State := setPort p { port s p with rx := none } s

/-- The frame ends, or goes on. -/
def rxLast (p : Nat) (last : Bool) (q : RxFrame × State) : State :=
  if last then rxEnd p q.1 (rxHeld p q.1 q.2) else rxHeld p (rxEarly p q.1 q.2).1 (rxEarly p q.1 q.2).2

/-- What port `p` makes of a frame with the bytes it now has. -/
def rxNext (p : Nat) (last : Bool) (r : RxFrame) (s : State) : State :=
  rxLast p last (rxSettled r (if r.ignore || r.discard then (r, s) else rxStore p r s))

section
variable {s t u : State} {p : Nat} {r : RxFrame}

theorem frameReceive_eq {f : Bytes} {last : Bool} (h : Receiving p r s) (hi : (r.ignore || safe s) = r.ignore) :
    frameReceive p f last s = rxNext p last { r with bytes := r.bytes ++ f } s := by
  have hopen : ∀ r : RxFrame, (r.ignore || safe s) = r.ignore →
      ({ r with bytes := r.bytes ++ f, ignore := r.ignore || safe s } : RxFrame) = { r with bytes := r.bytes ++ f } := fun r hr => by
    rw [hr]
  unfold rxNext rxLast rxHeld
  rw [← hopen r hi]
  unfold frameReceive
  rcases h with h | ⟨h, rfl⟩
  · rw [h]
    rfl
  · rw [h]
    rfl

theorem rxNext_ignored {last : Bool} (hi : r.ignore = true) : rxNext p last r s = rxLast p last (r, s) := by
  have hsame : rxSettled r (r, s) = (r, s) := by simp [rxSettled]
  rw [rxNext, hi, Bool.true_or, if_pos rfl, hsame]

theorem rxNext_kept {last : Bool} {q : RxFrame × State} (hi : r.ignore = false) (hd : r.discard = false) (hq : rxStore p r s = q)
    (hk : q.1.discard = false) : rxNext p last r s = rxLast p last q := by
  rw [rxNext, hi, hd, Bool.or_self, if_neg Bool.false_ne_true, hq, rxSettled, hk, Bool.false_and, if_neg Bool.false_ne_true]

theorem rxNext_refused {last : Bool} {q : RxFrame × State} (hi : r.ignore = false) (hd : r.discard = false)
    (hq : rxStore p r s = q) (hk : q.1.discard = true) (hpass : q.1.pass = none) :
    rxNext p last r s = rxLast p last ({ q.1 with cells := [] }, dropRefs q.1.cells q.2) := by
  rw [rxNext, hi, hd, Bool.or_self, if_neg Bool.false_ne_true, hq, rxSettled, hk, hd, hpass]
  rfl

theorem onlyPorts_rxHeld (p : Nat) (r : RxFrame) (s : State) : OnlyPorts s (rxHeld p r s) := by
  unfold rxHeld
  exact onlyPorts_setPort p _ s

theorem onlyPorts_rxClosed (p : Nat) (s : State) : OnlyPorts s (rxClosed p s) := by
  unfold rxClosed
  exact onlyPorts_setPort p _ s

theorem port_rxHeld (p : Nat) (r : RxFrame) (s : State) : port (rxHeld p r s) p = { port s p with rx := some r } := by
  unfold rxHeld
  rw [port_setPort_same]

theorem port_rxClosed (p : Nat) (s : State) : port (rxClosed p s) p = { port s p with rx := none } := by
  unfold rxClosed
  rw [port_setPort_same]

theorem otherPorts_rxHeld (p : Nat) (r : RxFrame) (s : State) : OtherPorts p s (rxHeld p r s) := by
  unfold rxHeld
  exact otherPorts_setPort p _ s

theorem otherPorts_rxClosed (p : Nat) (s : State) : OtherPorts p s (rxClosed p s) := by
  unfold rxClosed
  exact otherPorts_setPort p _ s

/-! ### What is stored (R73, R257) -/

/-- The cells that the body of a frame with no cells yet asks for. -/
def rxGot (s : State) (p : Nat) (r : RxFrame) : List Nat × State × Nat :=
  bodyCells (p / 8) false p r.cls (((rxBody s p r.bytes).length + 255) / 256) [] s

/-- A frame of which nothing is stored and nothing is refused, its head still to be dispatched. -/
structure RxOpen (r : RxFrame) : Prop where
  ignore : r.ignore = false
  discard : r.discard = false
  pass : r.pass = none
  cells : r.cells = []
  why : r.why = 0
  owed : r.owed = []

theorem rxStore_consumed (h : consumed s p r.bytes = true) : rxStore p r s = (r, s) := by
  unfold rxStore
  dsimp only
  rw [if_pos h]

theorem rxCells_first (hcells : r.cells = []) :
    rxCells p (((rxBody s p r.bytes).length + 255) / 256 - r.cells.length) r s =
      ({ r with cells := (rxGot s p r).1, discard := r.discard || (rxGot s p r).2.2 ≠ 0, why := (rxGot s p r).2.2 },
        (rxGot s p r).2.1) := by
  unfold rxCells rxGot
  rw [hcells]
  rfl

theorem rxStore_stored (h : RxOpen r) (hc : consumed s p r.bytes = false) (hgot : (rxGot s p r).2.2 = 0) :
    rxStore p r s = ({ r with cells := (rxGot s p r).1 }, writeChain (rxGot s p r).1 (rxBody s p r.bytes) (rxGot s p r).2.1) := by
  have hframe : ({ r with cells := (rxGot s p r).1, discard := r.discard || (rxGot s p r).2.2 ≠ 0, why := (rxGot s p r).2.2 } :
      RxFrame) = { r with cells := (rxGot s p r).1 } := by
    obtain ⟨-, hd, -, -, hwhy, -⟩ := h
    simp [hgot, hd, hwhy]
  unfold rxStore
  dsimp only
  rw [hc, if_neg Bool.false_ne_true, rxCells_first h.cells, hframe]
  dsimp only
  rw [h.discard, if_neg Bool.false_ne_true, h.pass]

theorem rxStore_refused (h : RxOpen r) (hc : consumed s p r.bytes = false) (hgot : (rxGot s p r).2.2 ≠ 0) :
    rxStore p r s = ({ r with cells := (rxGot s p r).1, discard := true, why := (rxGot s p r).2.2 }, (rxGot s p r).2.1) := by
  have hframe : (r.discard || decide ((rxGot s p r).2.2 ≠ 0)) = true := by simp [hgot]
  unfold rxStore
  dsimp only
  rw [hc, if_neg Bool.false_ne_true, rxCells_first h.cells, hframe]
  rfl

/-- A frame whose cells are not refused keeps all but its cells. -/
theorem rxStore_kept (h : RxOpen r) (hgot : consumed s p r.bytes = true ∨ (rxGot s p r).2.2 = 0) :
    ∃ cs w, rxStore p r s = ({ r with cells := cs }, w) ∧ OnlyCells s w := by
  cases hc : consumed s p r.bytes with
  | true => exact ⟨r.cells, s, rxStore_consumed hc, onlyCells_refl s⟩
  | false =>
    rw [hc] at hgot
    have hgot := hgot.resolve_left Bool.false_ne_true
    exact ⟨_, _, rxStore_stored h hc hgot, (onlyCells_bodyCells _ _ _ _ _ _ s).trans (onlyCells_writeChain _ _ _)⟩

theorem rxBody_short (h : r.bytes.length ≤ 260) : rxBody s p r.bytes = [] := by
  unfold rxBody
  refine List.drop_eq_nil_of_le ?_
  rw [List.length_take]
  omega

theorem rxGot_short (h : r.bytes.length ≤ 260) : rxGot s p r = ([], s, 0) := by
  rw [rxGot, rxBody_short h]
  rfl

/-- Of a frame no longer than a head nothing is stored. -/
theorem rxStore_short (h : RxOpen r) (hn : r.bytes.length ≤ 260) : rxStore p r s = (r, s) := by
  cases hc : consumed s p r.bytes with
  | true => exact rxStore_consumed hc
  | false =>
    rw [rxStore_stored h hc (by rw [rxGot_short hn]), rxGot_short hn]
    obtain ⟨-, -, -, hcells, -, -⟩ := h
    cases r
    subst hcells
    rfl

/-! ### The end of a frame (R73) -/

theorem rxRefused_none (hwhy : r.why = 0) (howed : r.owed = []) : rxRefused p r s = s := by
  unfold rxRefused
  rw [hwhy, howed]
  rfl

/-- A frame that fails takes its cells with it. -/
theorem rxFail_none (hpass : r.pass = none) : rxFail p r s = dropRefs r.cells (rxClosed p s) := by
  unfold rxFail rxClosed
  rw [hpass]

/-- The state in which a good frame is counted, its port free for the next. -/
@[irreducible] def rxCounted (p n : Nat) (s : State) : State := rxCountGood p n (rxClosed p s)

/-- The FCS of a frame is right. -/
abbrev FcsGood (b : Bytes) : Prop := leAt b (b.length - 4) 4 = crc32 (b.take (b.length - 4))

theorem rxEnd_ignored (h : r.ignore = true) : rxEnd p r s = rxFail p r (rxRefused p r s) := by
  unfold rxEnd
  dsimp only
  rw [if_pos h]

section
variable (h : r.ignore = false)
include h

theorem rxEnd_runt (hn : r.bytes.length < 64) : rxEnd p r s = count (macPage p) cMac_RX_RUNT (rxFail p r (rxRefused p r s)) := by
  unfold rxEnd
  dsimp only
  rw [h, if_neg Bool.false_ne_true, if_pos hn]

variable (hn : 64 ≤ r.bytes.length)
include hn

theorem rxEnd_oversize (hmax : maxLen (rxRefused p r s) p < r.bytes.length) :
    rxEnd p r s = count (macPage p) cMac_RX_OVERSIZE (rxFail p r (rxRefused p r s)) := by
  unfold rxEnd
  dsimp only
  rw [h, if_neg Bool.false_ne_true, if_neg (Nat.not_lt.mpr hn), if_pos hmax]

variable (hmax : r.bytes.length ≤ maxLen (rxRefused p r s) p)
include hmax

theorem rxEnd_fcs (hfcs : ¬ FcsGood r.bytes) :
    rxEnd p r s = count (macPage p) cMac_RX_FCS_ERR (rxFail p r (rxRefused p r s)) := by
  unfold rxEnd
  dsimp only
  rw [h, if_neg Bool.false_ne_true, if_neg (Nat.not_lt.mpr hn), if_neg (Nat.not_lt.mpr hmax), if_pos hfcs]

theorem rxEnd_consumed (hfcs : FcsGood r.bytes) (hc : consumed (rxRefused p r s) p r.bytes = true) :
    rxEnd p r s = consume p r.bytes (rxCounted p r.bytes.length (rxRefused p r s)) := by
  unfold rxEnd rxCounted rxClosed
  dsimp only
  rw [h, if_neg Bool.false_ne_true, if_neg (Nat.not_lt.mpr hn), if_neg (Nat.not_lt.mpr hmax), if_neg (not_not.mpr hfcs), if_pos hc]

variable (hfcs : FcsGood r.bytes) (hc : consumed (rxRefused p r s) p r.bytes = false)
include hfcs hc

theorem rxEnd_discarded (hd : r.discard = true) : rxEnd p r s = rxCounted p r.bytes.length (rxRefused p r s) := by
  unfold rxEnd rxCounted rxClosed
  dsimp only
  rw [h, if_neg Bool.false_ne_true, if_neg (Nat.not_lt.mpr hn), if_neg (Nat.not_lt.mpr hmax), if_neg (not_not.mpr hfcs), hc,
    if_neg Bool.false_ne_true, hd, if_pos rfl]

/-- The end of a good frame whose head was dispatched early. -/
theorem rxEnd_early (hd : r.discard = false) {k : Nat} (hpass : r.pass = some k) :
    rxEnd p r s = rxComplete k r.bytes.length (rxCounted p r.bytes.length (rxRefused p r s)) := by
  unfold rxEnd rxCounted rxClosed
  dsimp only
  rw [h, if_neg Bool.false_ne_true, if_neg (Nat.not_lt.mpr hn), if_neg (Nat.not_lt.mpr hmax), if_neg (not_not.mpr hfcs), hc,
    if_neg Bool.false_ne_true, hd, if_neg Bool.false_ne_true, hpass]

/-- The end of a good frame whose head is dispatched now. -/
theorem rxEnd_head (hd : r.discard = false) (hpass : r.pass = none) :
    rxEnd p r s = (newPass (rxPass p r (rxSegs r (rxBody (rxRefused p r s) p r.bytes).length) true)
      (rxCounted p r.bytes.length (rxRefused p r s))).2 := by
  unfold rxEnd rxCounted rxClosed
  dsimp only
  rw [h, if_neg Bool.false_ne_true, if_neg (Nat.not_lt.mpr hn), if_neg (Nat.not_lt.mpr hmax), if_neg (not_not.mpr hfcs), hc,
    if_neg Bool.false_ne_true, hd, if_neg Bool.false_ne_true, hpass]

end

end

end Sys2Proof.Machine
end

section
/-!
PROOFS. What becomes of a frame received (R73, R75, R257, R271).
-/

namespace Sys2Proof.Machine
open Sys2Proof

/-! ### Frames that fail -/

/-- A frame is lost, and one counter of its port says why. -/
structure FrameLost (p off : Nat) (s t : State) : Prop where
  counts : Counts [(pa (macPage p) off, 1)] s t
  rx : (port t p).rx = none
  disp : t.disp = s.disp
  view : SameView s t

section
variable {s t v w : State} {p : Nat} {r : RxFrame}

theorem Counts.ofCells {l : List (Nat × Nat)} (h : Counts l v t) (hv : OnlyCells s v) : Counts l s t := fun a => by
  rw [h a, ctr, hv.ctrs]
  rfl

theorem frameLost_rxFail {off : Nat} (hv : OnlyCells s v) (hpass : r.pass = none) :
    FrameLost p off s (count (macPage p) off (rxFail p r v)) := by
  rw [rxFail_none hpass]
  have hdrop := hv.trans ((onlyPorts_rxClosed p v).cells.trans (onlyPortsClr_dropRefs r.cells (rxClosed p v)).cells)
  have hcount := onlyCtr_count (macPage p) off (dropRefs r.cells (rxClosed p v))
  have hrx : (port (dropRefs r.cells (rxClosed p v)) p).rx = none := by
    have hview := congrArg (fun x => x.2.2.2) ((keepsCopies_dropRefs r.cells (rxClosed p v)).view p)
    refine hview.trans ?_
    dsimp only [lineView]
    rw [port_rxClosed]
  refine ⟨(counts_refl s |>.same hdrop.ctrs).count rfl, ?_, ?_, hdrop.view.trans hcount.withPorts.view⟩
  · rw [port_count]
    exact hrx
  · rw [hcount]
    exact hdrop.disp

/-- The end of a frame with its bytes, after what was stored of it. -/
theorem rxNext_whole (h : RxOpen r) (hgot : consumed s p r.bytes = true ∨ (rxGot s p r).2.2 = 0) : ∃ cs v,
    rxNext p true r s = rxEnd p { r with cells := cs } v ∧ OnlyCells s v ∧ rxRefused p { r with cells := cs } v = v := by
  obtain ⟨cs, w, hstore, hw⟩ := rxStore_kept h hgot
  refine ⟨cs, rxHeld p { r with cells := cs } w, ?_, hw.trans (onlyPorts_rxHeld p _ w).cells, rxRefused_none h.why h.owed⟩
  rw [rxNext_kept h.ignore h.discard hstore h.discard]
  rfl

/-- A runt is lost, and leaves its port as it was before it (R73). -/
theorem rxNext_runt (h : RxOpen r) (hn : r.bytes.length < 64) :
    rxNext p true r s = count (macPage p) cMac_RX_RUNT (rxClosed p (rxHeld p r s)) := by
  have hfail : rxFail p r (rxHeld p r s) = rxClosed p (rxHeld p r s) := by
    rw [rxFail_none h.pass, h.cells]
    rfl
  rw [rxNext_kept h.ignore h.discard (rxStore_short h (by omega)) h.discard, rxLast, if_pos rfl, rxEnd_runt h.ignore hn,
    rxRefused_none h.why h.owed, hfail]

theorem frameLost_oversize (h : RxOpen r) (hgot : consumed s p r.bytes = true ∨ (rxGot s p r).2.2 = 0)
    (hn : 64 ≤ r.bytes.length) (hmax : maxLen s p < r.bytes.length) :
    FrameLost p cMac_RX_OVERSIZE s (rxNext p true r s) := by
  obtain ⟨cs, v, hend, hv, href⟩ := rxNext_whole h hgot
  rw [hend, rxEnd_oversize (r := { r with cells := cs }) h.ignore hn (by rw [href, hv.view.maxLen]; exact hmax), href]
  exact frameLost_rxFail hv h.pass

theorem frameLost_fcs (h : RxOpen r) (hgot : consumed s p r.bytes = true ∨ (rxGot s p r).2.2 = 0)
    (hn : 64 ≤ r.bytes.length) (hmax : r.bytes.length ≤ maxLen s p) (hfcs : ¬ FcsGood r.bytes) :
    FrameLost p cMac_RX_FCS_ERR s (rxNext p true r s) := by
  obtain ⟨cs, v, hend, hv, href⟩ := rxNext_whole h hgot
  rw [hend, rxEnd_fcs (r := { r with cells := cs }) h.ignore hn (by rw [href, hv.view.maxLen]; exact hmax) hfcs, href]
  exact frameLost_rxFail hv h.pass

/-! ### Frames that are good -/

theorem onlyPortsCtr_rxCounted (p n : Nat) (s : State) : OnlyPortsCtr s (rxCounted p n s) := by
  unfold rxCounted
  exact (onlyPorts_rxClosed p s).withCtr.trans (onlyCtr_rxCountGood p n _).withPorts

theorem counts_rxCounted (p n : Nat) (s : State) :
    Counts [(pa (macPage p) cMac_RX_FRAMES, 1), (pa (macPage p) cMac_RX_BYTES, n)] s (rxCounted p n s) := by
  unfold rxCounted
  intro a
  rw [counts_rxCountGood p n (rxClosed p s) a, ctr, (onlyPorts_rxClosed p s).bus]
  rfl

theorem rx_rxCounted (p n : Nat) (s : State) : (port (rxCounted p n s) p).rx = none := by
  unfold rxCounted
  rw [port_rxCountGood, port_rxClosed]

theorem OnlyPortsCtr.disp (h : OnlyPortsCtr s t) : t.disp = s.disp := by rw [h]
theorem OnlyPortsCtr.clr (h : OnlyPortsCtr s t) : t.clr = s.clr := by rw [h]
theorem OnlyPortsCtr.rw_eq (h : OnlyPortsCtr s t) : t.rw = s.rw := by rw [h]

theorem newPass_bus (ps : Pass) (s : State) : (newPass ps s).2.bus = s.bus := setPass_bus (s := s) s.disp.nextPass ps
theorem newPass_straps (ps : Pass) (s : State) : (newPass ps s).2.straps = s.straps := setPass_straps (s := s) s.disp.nextPass ps

theorem view_newPass (ps : Pass) (s : State) : SameView s (newPass ps s).2 := by
  have hreg : ∀ a, reg (newPass ps s).2 a = reg s a := fun a => by rw [reg, newPass_bus, newPass_straps, reg]
  exact ⟨hreg, fun a => by rw [live, newPass_bus, hreg, live]⟩

theorem ctr_newPass (ps : Pass) (s : State) (a : Nat) : ctr (newPass ps s).2 a = ctr s a := by
  rw [ctr, newPass_bus, ctr]

theorem pass_newPass_other (ps : Pass) (s : State) {k : Nat} (hk : k ≠ s.disp.nextPass) :
    pass? (newPass ps s).2 k = pass? s k :=
  pass_setPass_other (s := s) s.disp.nextPass k ps hk

/-- A head of port `p` has come from a frame: the newest in the port's order. -/
structure HeadCame (p : Nat) (ps : Pass) (s t : State) : Prop where
  head : pass? t s.disp.nextPass = some ps
  order : mget (fun _ => []) t.disp.order p = mget (fun _ => []) s.disp.order p ++ [s.disp.nextPass]
  others : ∀ k, k ≠ s.disp.nextPass → pass? t k = pass? s k

theorem headCame_newPass {ps : Pass} (hdisp : v.disp = s.disp) (hsrc : ps.src = p) : HeadCame p ps s (newPass ps v).2 := by
  rw [← hsrc]
  refine ⟨?_, ?_, fun k hk => ?_⟩
  · rw [← hdisp]
    exact pass_newPass ps v
  · rw [← hdisp]
    exact order_newPass ps v
  · rw [pass_newPass_other ps v (by rw [hdisp]; exact hk), pass?, hdisp, pass?]

/-- The head of a good frame, its body in the cells that came for it. -/
def goodHead (s : State) (p : Nat) (r : RxFrame) : Pass :=
  rxPass p { r with cells := (rxGot s p r).1 } (rxSegs { r with cells := (rxGot s p r).1 } (rxBody s p r.bytes).length) true

/-- The state in which a good frame is stored and counted. -/
@[irreducible] def goodStored (s : State) (p : Nat) (r : RxFrame) : State :=
  rxCounted p r.bytes.length (rxHeld p { r with cells := (rxGot s p r).1 }
    (writeChain (rxGot s p r).1 (rxBody s p r.bytes) (rxGot s p r).2.1))

theorem rxNext_good (h : RxOpen r) (hn : 64 ≤ r.bytes.length) (hmax : r.bytes.length ≤ maxLen s p) (hfcs : FcsGood r.bytes)
    (hc : consumed s p r.bytes = false) (hgot : (rxGot s p r).2.2 = 0) :
    rxNext p true r s = (newPass (goodHead s p r) (goodStored s p r)).2 := by
  have hw := ((onlyCells_bodyCells (p / 8) false p r.cls _ [] s).trans (onlyCells_writeChain (rxGot s p r).1
    (rxBody s p r.bytes) (rxGot s p r).2.1)).trans (onlyPorts_rxHeld p { r with cells := (rxGot s p r).1 } _).cells
  have href := rxRefused_none (s := rxHeld p { r with cells := (rxGot s p r).1 }
    (writeChain (rxGot s p r).1 (rxBody s p r.bytes) (rxGot s p r).2.1)) (p := p) (r := { r with cells := (rxGot s p r).1 })
    h.why h.owed
  rw [rxNext_kept h.ignore h.discard (rxStore_stored h hc hgot) h.discard, rxLast, if_pos rfl,
    rxEnd_head (r := { r with cells := (rxGot s p r).1 }) h.ignore hn (by rw [href, hw.view.maxLen]; exact hmax) hfcs
      (by rw [href, hw.view.consumed]; exact hc) h.discard h.pass, href, hw.view.rxBody]
  unfold goodStored
  rfl

/-- What is stored of a good frame. -/
theorem goodStored_facts (s : State) (p : Nat) (r : RxFrame) :
    Counts [(pa (macPage p) cMac_RX_FRAMES, 1), (pa (macPage p) cMac_RX_BYTES, r.bytes.length)] s (goodStored s p r) ∧
      (port (goodStored s p r) p).rx = none ∧ (goodStored s p r).disp = s.disp ∧ SameView s (goodStored s p r) := by
  have hw := ((onlyCells_bodyCells (p / 8) false p r.cls (((rxBody s p r.bytes).length + 255) / 256) [] s).trans
    (onlyCells_writeChain (rxGot s p r).1 (rxBody s p r.bytes) (rxGot s p r).2.1)).trans
      (onlyPorts_rxHeld p { r with cells := (rxGot s p r).1 } _).cells
  unfold goodStored
  exact ⟨(counts_rxCounted p _ _).ofCells hw, rx_rxCounted p _ _, (onlyPortsCtr_rxCounted p _ _).disp.trans hw.disp,
    hw.view.trans (onlyPortsCtr_rxCounted p _ _).view⟩

/-- The cells of a good frame hold its body. -/
theorem segBytes_goodStored (hgot : (rxGot s p r).2.2 = 0) (hnd : (rxGot s p r).1.Nodup) :
    segBytes (goodStored s p r) (bodySegs (rxGot s p r).1 (rxBody s p r.bytes).length) = rxBody s p r.bytes := by
  have hlen : (rxGot s p r).1.length = 0 + ((rxBody s p r.bytes).length + 255) / 256 := length_bodyCells hgot
  have hclr : (goodStored s p r).clr = (writeChain (rxGot s p r).1 (rxBody s p r.bytes) (rxGot s p r).2.1).clr := by
    unfold goodStored
    rw [(onlyPortsCtr_rxCounted p _ _).clr, (onlyPorts_rxHeld p _ _).withCtr.clr]
  have hcell : ∀ c, cell (goodStored s p r) c = cell (writeChain (rxGot s p r).1 (rxBody s p r.bytes) (rxGot s p r).2.1) c :=
    fun c => by rw [cell, hclr, cell]
  rw [segBytes_congr hcell]
  refine segBytes_writeChain _ _ _ hnd ?_
  omega

/-! ### Frames beyond RX_LIMIT (R260) -/

theorem onlyCharged_dropPair (p k n : Nat) (s : State) : OnlyCharged s (dropPair p k (wholeLen n) s) := by
  unfold dropPair pairAdd
  dsimp only
  split_ifs
  · exact onlyCharged_setPair _ _ _ s
  · exact onlyCharged_refl s

/-- The state in which a refusal by RX_LIMIT is counted. -/
@[irreducible] def limitCounted (p n : Nat) (s : State) : State := count pgClr cClr_RX_LIMIT_DROP (dropPair p 8 (wholeLen n) s)

theorem limitCounted_facts (p n : Nat) (s : State) : SameView s (limitCounted p n s) ∧ (limitCounted p n s).disp = s.disp ∧
    (limitCounted p n s).clr = s.clr ∧
    ctr (limitCounted p n s) (pa pgClr cClr_RX_LIMIT_DROP) = Nat.min maxCtr (ctr s (pa pgClr cClr_RX_LIMIT_DROP) + 1) := by
  have hpair := onlyCharged_dropPair p 8 n s
  have hcount := onlyCtr_count pgClr cClr_RX_LIMIT_DROP (dropPair p 8 (wholeLen n) s)
  have hview : SameView s (dropPair p 8 (wholeLen n) s) := ⟨fun a => by rw [hpair]; rfl, fun a => by rw [hpair]; rfl⟩
  have hctr : ctr (dropPair p 8 (wholeLen n) s) (pa pgClr cClr_RX_LIMIT_DROP) = ctr s (pa pgClr cClr_RX_LIMIT_DROP) := by
    rw [ctr, hpair, ctr]
  unfold limitCounted
  refine ⟨hview.trans hcount.withPorts.view, ?_, ?_, ?_⟩
  · rw [hcount.withPorts.disp, hpair]
  · rw [hcount.withPorts.clr, hpair]
  · rw [← hctr]
    exact ctr_setCtr_same _ _ _

theorem rxGot_limited (hn : 260 < r.bytes.length) (hmax : r.bytes.length ≤ maxLen s p) (hlim : limit s p 9 ≤ rxc s p) :
    rxGot s p r = ([], s, 1) := by
  have hlen : (rxBody s p r.bytes).length = r.bytes.length - 260 := by
    simp only [rxBody, List.length_drop, List.length_take]
    omega
  obtain ⟨m, hm⟩ : ∃ m, ((rxBody s p r.bytes).length + 255) / 256 = m + 1 := ⟨_, (Nat.succ_pred (by omega)).symm⟩
  rw [rxGot, hm, bodyCells, if_pos hlim]

/-- A frame beyond RX_LIMIT ends with its refusal counted, and no head of it comes. -/
theorem rxNext_limited (h : RxOpen r) (hn : 260 < r.bytes.length) (hmax : r.bytes.length ≤ maxLen s p)
    (hc : consumed s p r.bytes = false) (hlim : limit s p 9 ≤ rxc s p) : ∃ v, OnlyPorts s v ∧
    OnlyPortsCtr (limitCounted p r.bytes.length v) (rxNext p true r s) ∧ (port (rxNext p true r s) p).rx = none ∧
    ctr (rxNext p true r s) (pa pgClr cClr_RX_LIMIT_DROP) =
      ctr (limitCounted p r.bytes.length v) (pa pgClr cClr_RX_LIMIT_DROP) := by
  have hgot := rxGot_limited hn hmax hlim
  have hstore := rxStore_refused h hc (by rw [hgot]; exact one_ne_zero)
  rw [hgot] at hstore
  have hend : rxNext p true r s = rxEnd p { r with cells := [], discard := true, why := 1 }
      (rxHeld p { r with cells := [], discard := true, why := 1 } s) :=
    rxNext_refused h.ignore h.discard hstore rfl h.pass
  have hheld := onlyPorts_rxHeld p { r with cells := [], discard := true, why := 1 } s
  generalize hv : rxHeld p { r with cells := [], discard := true, why := 1 } s = v at hend hheld
  have href : rxRefused p { r with cells := [], discard := true, why := 1 } v = limitCounted p r.bytes.length v := by
    unfold rxRefused limitCounted
    rw [h.owed]
    rfl
  obtain ⟨hview, -, -, -⟩ := limitCounted_facts p r.bytes.length v
  have hview := hheld.withCtr.view.trans hview
  have hmax' : r.bytes.length ≤ maxLen (limitCounted p r.bytes.length v) p := by rwa [hview.maxLen]
  have hne : ∀ off, off < 0x1000 → pa pgClr cClr_RX_LIMIT_DROP ≠ pa (macPage p) off := fun off ho h => by
    simp only [pa, pgClr, cClr_RX_LIMIT_DROP, macPage] at h
    omega
  refine ⟨v, hheld, ?_⟩
  by_cases hfcs : FcsGood r.bytes
  · have hout := rxEnd_discarded (s := v) (r := { r with cells := [], discard := true, why := 1 }) h.ignore (by dsimp only; omega)
      (by rw [href]; exact hmax') hfcs (by rw [href, hview.consumed]; exact hc) rfl
    rw [href] at hout
    rw [hend, hout]
    refine ⟨onlyPortsCtr_rxCounted p _ _, rx_rxCounted p _ _, (counts_rxCounted p _ _).other ?_⟩
    rw [mfind, if_neg (hne _ (by decide)), mfind, if_neg (hne _ (by decide)), mfind]
  · have hout := rxEnd_fcs (s := v) (r := { r with cells := [], discard := true, why := 1 }) h.ignore (by dsimp only; omega)
      (by rw [href]; exact hmax') hfcs
    have hfail : rxFail p { r with cells := [], discard := true, why := 1 } (limitCounted p r.bytes.length v) =
        rxClosed p (limitCounted p r.bytes.length v) := rxFail_none h.pass
    rw [href, hfail] at hout
    rw [hend, hout]
    refine ⟨(onlyPorts_rxClosed p _).withCtr.trans (onlyCtr_count _ _ _).withPorts, ?_, ?_⟩
    · rw [port_count, port_rxClosed]
    · refine (ctr_setCtr_other _ _ _ _ (hne _ (by decide))).trans ?_
      rw [ctr, (onlyPorts_rxClosed p _).bus, ctr]

/-! ### Frames for the Rootway (R336) -/

theorem rxNext_rootway (h : RxOpen r) (hn : 64 ≤ r.bytes.length) (hmax : r.bytes.length ≤ maxLen s p) (hfcs : FcsGood r.bytes)
    (hmac : isMacCtl r.bytes = false) (hcop : isCoppice s p r.bytes = false) (hrw : isRootway s p r.bytes = true) :
    ∃ x, rxNext p true r s = setRwLink p { rwLink s p with
        inbox := (rwLink s p).inbox ++ [r.bytes.take (r.bytes.length - 4)] } x ∧ OnlyPortsCtr s x ∧
      Counts [(pa (macPage p) cMac_RX_FRAMES, 1), (pa (macPage p) cMac_RX_BYTES, r.bytes.length)] s x := by
  have hc : consumed s p r.bytes = true := by rw [consumed, hmac, hcop, hrw]; rfl
  have hheld := (onlyPorts_rxHeld p r s).withCtr
  have href := rxRefused_none (s := rxHeld p r s) (p := p) h.why h.owed
  have hall := hheld.trans (onlyPortsCtr_rxCounted p r.bytes.length (rxHeld p r s))
  refine ⟨rxCounted p r.bytes.length (rxHeld p r s), ?_, hall,
    (counts_rxCounted p _ _).ofCells (onlyPorts_rxHeld p r s).cells⟩
  have hlink : rwLink (rxCounted p r.bytes.length (rxHeld p r s)) p = rwLink s p := by rw [rwLink, hall.rw_eq, rwLink]
  rw [rxNext_kept h.ignore h.discard (rxStore_consumed hc) h.discard, rxLast, if_pos rfl,
    rxEnd_consumed h.ignore hn (by rw [href, hheld.view.maxLen]; exact hmax) hfcs (by rw [href, hheld.view.consumed]; exact hc),
    href, consume, hmac, if_neg Bool.false_ne_true, hall.view.isCoppice, hcop, if_neg Bool.false_ne_true, hlink]

/-! ### Heads that go ahead (R271) -/

theorem rxEarly_ahead (hpass : r.pass = none) (hd : r.discard = false) (hi : r.ignore = false) (hn : 256 < r.bytes.length)
    (hc : consumed s p r.bytes = false)
    (hct : (live s (pa pgClr (offCLR_CT_RX (p / 32)))).toNat.testBit (p % 32) = true) :
    rxEarly p r s = ({ r with pass := some s.disp.nextPass },
      (newPass (rxPass p r (rxSegs r (rxBody s p r.bytes).length) false) s).2) := by
  unfold rxEarly
  rw [if_neg (by simp [hpass, hd, hi, hn, hc, hct])]
  rfl

/-- The state in which the body so far of a frame is stored. -/
@[irreducible] def partStored (s : State) (p : Nat) (r : RxFrame) : State :=
  writeChain (rxGot s p r).1 (rxBody s p r.bytes) (rxGot s p r).2.1

theorem onlyCells_partStored (s : State) (p : Nat) (r : RxFrame) : OnlyCells s (partStored s p r) := by
  unfold partStored
  exact (onlyCells_bodyCells (p / 8) false p r.cls _ [] s).trans (onlyCells_writeChain _ _ _)

theorem rxNext_ahead (h : RxOpen r) (hn : 256 < r.bytes.length) (hc : consumed s p r.bytes = false)
    (hgot : (rxGot s p r).2.2 = 0) (hct : (live s (pa pgClr (offCLR_CT_RX (p / 32)))).toNat.testBit (p % 32) = true) :
    ∃ segs, rxNext p false r s = rxHeld p { r with cells := (rxGot s p r).1, pass := some s.disp.nextPass }
      (newPass (rxPass p r segs false) (partStored s p r)).2 := by
  have hw := onlyCells_partStored s p r
  refine ⟨rxSegs { r with cells := (rxGot s p r).1 } (rxBody (partStored s p r) p r.bytes).length, ?_⟩
  have hstore : rxStore p r s = ({ r with cells := (rxGot s p r).1 }, partStored s p r) := by
    unfold partStored
    exact rxStore_stored h hc hgot
  rw [rxNext_kept h.ignore h.discard hstore h.discard, rxLast, if_neg Bool.false_ne_true,
    rxEarly_ahead (r := { r with cells := (rxGot s p r).1 }) h.pass h.discard h.ignore hn
      (by rw [hw.view.consumed]; exact hc) (by rw [hw.view.live]; exact hct), hw.disp]
  rfl

/-! ### The end of a frame whose head went ahead (R271) -/

/-- A frame no longer than a head, whose head went ahead. -/
structure RxAhead (k : Nat) (r : RxFrame) : Prop where
  ignore : r.ignore = false
  discard : r.discard = false
  pass : r.pass = some k
  cells : r.cells = []
  why : r.why = 0
  owed : r.owed = []

variable {k : Nat} {q : Pass}

/-- Its pass takes up no body. -/
theorem rxStore_ahead (h : RxAhead k r) (hc : consumed s p r.bytes = false) (hn : r.bytes.length ≤ 260)
    (hcopies : rxCopies s k = []) (hpass : pass? s k = some q) :
    ∃ segs, rxStore p r s = (r, setPass k { q with segs := segs, flen := r.bytes.length } s) := by
  have hsame : ({ r with cells := [], discard := r.discard || decide (0 ≠ 0), why := 0 } : RxFrame) = r := by
    obtain ⟨-, hd, -, hcells, hwhy, -⟩ := h
    cases r
    simp_all
  refine ⟨rxSegs r 0, ?_⟩
  have hcells := rxCells_first (s := s) (p := p) h.cells
  rw [rxGot_short hn, rxBody_short hn] at hcells
  dsimp only at hcells
  rw [hsame] at hcells
  unfold rxStore
  dsimp only
  rw [hc, if_neg Bool.false_ne_true, rxBody_short hn, hcells]
  dsimp only
  rw [h.discard, if_neg Bool.false_ne_true, h.pass, h.cells]
  have hchain : writeChain [] [] s = s := rfl
  dsimp only
  rw [hchain, hcopies]
  have hgrow : (if r.cut.isSome = true then s else
      forAll (growCopy (rxSegs r ([] : Bytes).length) (List.drop ([] : List Nat).length [])) [] s) = s := by
    split_ifs <;> rfl
  rw [hgrow, hpass]
  dsimp only
  rw [updPass_some _ hpass]
  rfl

/-- The end of it finds its pass with nothing more than its length. -/
theorem rxNext_whole_ahead (h : RxAhead k r) (hc : consumed s p r.bytes = false) (hn : r.bytes.length ≤ 260)
    (hcopies : rxCopies s k = []) (hpass : pass? s k = some q) : ∃ segs v,
    rxNext p true r s = rxEnd p r v ∧ OnlyPorts (setPass k { q with segs := segs, flen := r.bytes.length } s) v := by
  obtain ⟨segs, hstore⟩ := rxStore_ahead h hc hn hcopies hpass
  refine ⟨segs, _, ?_, onlyPorts_rxHeld p r _⟩
  rw [rxNext_kept h.ignore h.discard hstore h.discard, rxLast, if_pos rfl]

end

end Sys2Proof.Machine
end

section
/-!
PROOFS. The end of a frame whose head went ahead, and FRAME_RECEIVE as a whole (R72, R73, R75, R257, R271, R308).
-/

namespace Sys2Proof.Machine
open Sys2Proof

/-! ### Passes that a frame's end completes (R271) -/

/-- Only passes, threads and the Clearing changed. -/
def OnlyHeads (s t : State) : Prop := t = { s with disp := t.disp, grv := t.grv, clr := t.clr }

section
variable {s t u : State} {k : Nat} {q : Pass}

theorem onlyHeads_refl (s : State) : OnlyHeads s s := rfl

theorem OnlyHeads.trans (h : OnlyHeads s t) (h' : OnlyHeads t u) : OnlyHeads s u := Eq.trans h' (by rw [h])

theorem onlyHeads_setPass (k : Nat) (q : Pass) (s : State) : OnlyHeads s (setPass k q s) := rfl
theorem onlyHeads_setThread (n : Nat) (v : Thread) (s : State) : OnlyHeads s (setThread n v s) := rfl
theorem onlyHeads_setCell (c : Nat) (d : Bytes) (l : Nat) (s : State) : OnlyHeads s (setCell c d l s) := rfl

theorem OnlyHeads.ports (h : OnlyHeads s t) : t.ports = s.ports := by rw [h]
theorem OnlyHeads.ctrs (h : OnlyHeads s t) : t.bus.ctr = s.bus.ctr := by rw [h]
theorem OnlyHeads.view (h : OnlyHeads s t) : SameView s t := ⟨fun a => by rw [h]; rfl, fun a => by rw [h]; rfl⟩

theorem setFrameLen_facts (n : Nat) (cells : List Nat) (s : State) :
    OnlyHeads s (setFrameLen n cells s) ∧ (setFrameLen n cells s).disp = s.disp := by
  unfold setFrameLen
  split
  · exact ⟨onlyHeads_refl s, rfl⟩
  · exact ⟨onlyHeads_setCell _ _ _ s, setCell_disp (s := s) _ _ _⟩

/-- What a pass keeps of its head where `x` bytes are taken off its end. -/
structure Trimmed (k x : Nat) (q : Pass) (s t : State) : Prop where
  only : OnlyHeads s t
  clr : t.clr = s.clr
  pass : ∃ v, pass? t k = some v ∧ v.bad = q.bad ∧ v.raw = q.raw.take (q.raw.length - x)

theorem trimmed_trimPass (x : Nat) (h : pass? s k = some q) : Trimmed k x q s (trimPass x k s) := by
  unfold trimPass
  rw [h]
  dsimp only
  split_ifs
  · refine ⟨(onlyHeads_setPass k _ s).trans (onlyHeads_setThread _ _ _), ?_, ?_⟩
    · rw [setThread_clr, setPass_clr]
    · exact ⟨_, (pass_setThread _ _ k _).trans (pass_setPass_same _ k _), rfl, rfl⟩
  · refine ⟨onlyHeads_setPass k _ s, ?_, ?_⟩
    · rw [setPass_clr]
    · exact ⟨_, pass_setPass_same _ k _, rfl, rfl⟩

/-- The state in which the FCS bytes a head took with it are taken off (R73). -/
@[irreducible] def fcsTrimmed (k n : Nat) (s : State) : State := if 260 - n = 0 then s else trimPass (260 - n) k s

theorem trimmed_fcsTrimmed (n : Nat) (h : pass? s k = some q) : Trimmed k (260 - n) q s (fcsTrimmed k n s) := by
  unfold fcsTrimmed
  split_ifs with hx
  · exact ⟨onlyHeads_refl s, rfl, q, h, rfl, by rw [hx, Nat.sub_zero, List.take_length]⟩
  · exact trimmed_trimPass _ h

/-- The pass of a complete frame. -/
structure Completed (k n : Nat) (q : Pass) (s t : State) : Prop where
  only : OnlyHeads s t
  pass : ∃ v, pass? t k = some v ∧ v.complete = true ∧ v.flen = n ∧ v.bad = q.bad ∧
    v.raw = q.raw.take (q.raw.length - (260 - n))

theorem completed_rxComplete (n : Nat) (h : pass? s k = some q) (hcopies : rxCopies s k = []) :
    Completed k n q s (rxComplete k n s) := by
  obtain ⟨honly, hclr, v, hv, hbad, hraw⟩ := trimmed_fcsTrimmed n h
  have hnone : rxCopies (fcsTrimmed k n s) k = [] := by rw [rxCopies, hclr, ← rxCopies, hcopies]
  have hdone := honly.trans (onlyHeads_setPass k { v with complete := true, flen := n } (fcsTrimmed k n s))
  have hpass : pass? (setPass k { v with complete := true, flen := n } (fcsTrimmed k n s)) k =
      some { v with complete := true, flen := n } := pass_setPass_same _ k _
  have hupd := updPass_some (fun (q : Pass) => { q with complete := true, flen := n }) hv
  have hf : rxComplete k n s = setPass k { v with complete := true, flen := n } (fcsTrimmed k n s) ∨
      ∃ cells, rxComplete k n s = setFrameLen n cells (setPass k { v with complete := true, flen := n } (fcsTrimmed k n s)) := by
    have htrim : (if 260 - n = 0 then s else trimPass (260 - n) k s) = fcsTrimmed k n s := by unfold fcsTrimmed; rfl
    unfold rxComplete
    dsimp only
    rw [htrim, hnone, forAll, hupd, hpass]
    dsimp only
    split
    · exact .inr ⟨_, rfl⟩
    · exact .inl rfl
  rcases hf with hf | ⟨cells, hf⟩
  · rw [hf]
    exact ⟨hdone, _, hpass, rfl, rfl, hbad, hraw⟩
  · obtain ⟨hlen, hdisp⟩ := setFrameLen_facts n cells (setPass k { v with complete := true, flen := n } (fcsTrimmed k n s))
    rw [hf]
    exact ⟨hdone.trans hlen, { v with complete := true, flen := n }, Eq.trans (by rw [pass?, hdisp, pass?]) hpass, rfl, rfl,
      hbad, hraw⟩

theorem earlyFail_alone (h : pass? s k = some q) (hcopies : rxCopies s k = []) :
    earlyFail k s = setPass k { q with bad := true, complete := true } s := by
  have hupd := updPass_some (fun (q : Pass) => { q with bad := true, complete := true }) h
  have hnone : rxCopies (setPass k { q with bad := true, complete := true } s) k = [] := by
    rw [rxCopies, setPass_clr, ← rxCopies, hcopies]
  unfold earlyFail
  dsimp only
  rw [hupd, hnone, forAll]

end

/-! ### The command -/

section
variable {s : State} {p corr uncorr : Nat}

theorem onlyCtr_fecCount (p corr uncorr : Nat) (s : State) : OnlyCtr s (fecCount p corr uncorr s) := by
  unfold fecCount
  split_ifs
  · exact (onlyCtr_ctrAdd _ _ _ s).trans (onlyCtr_ctrAdd _ _ _ _)
  · exact onlyCtr_refl s

/-- Codewords are counted where a FEC runs (R75). -/
theorem counts_fecCount (hlink : macSts s p fMAC_STS_LINK = 1) (hfec : 2 ≤ macSts s p fMAC_STS_FEC) :
    Counts [(pa (macPage p) cMac_FEC_CORR_CW, corr), (pa (macPage p) cMac_FEC_UNCORR_CW, uncorr)] s (fecCount p corr uncorr s) := by
  unfold fecCount
  rw [if_pos (by simp [hlink, hfec])]
  exact ((counts_refl s).ctrAdd corr rfl).ctrAdd uncorr (mfind_pa_cons _ _ _ _ _ (by decide))

theorem ctr_fecCount_clr {off : Nat} (hp : p < 256) (ho : off < 0x1000) :
    ctr (fecCount p corr uncorr s) (pa pgClr off) = ctr s (pa pgClr off) := by
  have hne : ∀ o, o < 0x1000 → pa pgClr off ≠ pa (macPage p) o := fun o h1 h => by
    have := congrArg pageOf h
    rw [pageOf_pa _ _ ho, pageOf_pa _ _ h1] at this
    exact macPage_ne hp (by decide) this.symm
  unfold fecCount
  split_ifs
  · exact (ctr_setCtr_other _ _ _ _ (hne _ (by decide))).trans (ctr_setCtr_other _ _ _ _ (hne _ (by decide)))
  · rfl

theorem rxStamp_fecCount : rxStamp (fecCount p corr uncorr s) p = rxStamp s p := by
  have h := (onlyCtr_fecCount p corr uncorr s).withPorts
  unfold rxStamp
  rw [h.liveF, h.time]

theorem receiving_fecCount {r : RxFrame} (h : Receiving p r s) : Receiving p r (fecCount p corr uncorr s) := by
  have hcount := onlyCtr_fecCount p corr uncorr s
  have hfresh : rxFresh p (fecCount p corr uncorr s) = rxFresh p s := by
    rw [rxFresh, hcount.withPorts.rxAccepts, rxStamp_fecCount, rxFresh]
  rw [Receiving, hcount.port, hfresh]
  exact h

end

section
variable {s t u : State} {p : Nat} {r : RxFrame}

theorem rxEarly_waits (h : r.ignore = true ∨ r.bytes.length ≤ 256) : rxEarly p r s = (r, s) := by
  unfold rxEarly
  rw [if_pos (by rcases h with h | h <;> simp [h])]

/-- A frame that the port lets go by leaves it as it was before it (R72). -/
theorem rxNext_gone (hi : r.ignore = true) (hpass : r.pass = none) (hcells : r.cells = []) (hwhy : r.why = 0) (howed : r.owed = []) :
    rxNext p true r s = rxClosed p (rxHeld p r s) := by
  rw [rxNext_ignored hi, rxLast, if_pos rfl, rxEnd_ignored hi, rxRefused_none hwhy howed, rxFail_none hpass, hcells]
  rfl

theorem rxNext_going (hi : r.ignore = true) : rxNext p false r s = rxHeld p r s := by
  rw [rxNext_ignored hi, rxLast, if_neg Bool.false_ne_true, rxEarly_waits (.inl hi)]

theorem rxNext_short (h : RxOpen r) (hn : r.bytes.length ≤ 256) : rxNext p false r s = rxHeld p r s := by
  rw [rxNext_kept h.ignore h.discard (rxStore_short h (by omega)) h.discard, rxLast, if_neg Bool.false_ne_true,
    rxEarly_waits (.inr hn)]

theorem onlyPorts_gone (p : Nat) (r : RxFrame) (s : State) : OnlyPorts s (rxClosed p (rxHeld p r s)) :=
  (onlyPorts_rxHeld p r s).trans (onlyPorts_rxClosed p _)

theorem port_gone (p : Nat) (r : RxFrame) (s : State) : port (rxClosed p (rxHeld p r s)) p = { port s p with rx := none } := by
  rw [port_rxClosed, port_rxHeld]

theorem otherPorts_gone (p : Nat) (r : RxFrame) (s : State) : OtherPorts p s (rxClosed p (rxHeld p r s)) := fun q hq =>
  (otherPorts_rxClosed p _ q hq).trans (otherPorts_rxHeld p r s q hq)

theorem rxSegs_whole (h : r.cut = none) (n : Nat) : rxSegs r n = bodySegs r.cells n := by rw [rxSegs, h]

theorem FrameLost.boardKeeps {off : Nat} (h : FrameLost p off u t) (s : State) : FrameLost p off u (boardKeeps s t) :=
  ⟨h.counts, h.rx, h.disp, h.view.reg, h.view.live⟩

/-- A good frame is stored and counted, and is a head of its port, the newest. -/
structure FrameCame (p : Nat) (r : RxFrame) (s t : State) : Prop where
  counts : Counts [(pa (macPage p) cMac_RX_FRAMES, 1), (pa (macPage p) cMac_RX_BYTES, r.bytes.length)] s t
  rx : (port t p).rx = none
  head : HeadCame p (goodHead s p r) s t
  stored : (rxGot s p r).1.Nodup → segBytes t (bodySegs (rxGot s p r).1 (rxBody s p r.bytes).length) = rxBody s p r.bytes
  view : SameView s t

theorem FrameCame.boardKeeps (h : FrameCame p r s t) (v : State) : FrameCame p r s (boardKeeps v t) :=
  ⟨h.counts, h.rx, ⟨h.head.head, h.head.order, h.head.others⟩,
    fun hnd => (segBytes_congr (fun c => by rw [cell, boardKeeps_clr, cell]) _).trans (h.stored hnd), h.view.reg, h.view.live⟩

theorem frameCame_good (hgot : (rxGot s p r).2.2 = 0) : FrameCame p r s (newPass (goodHead s p r) (goodStored s p r)).2 := by
  obtain ⟨hcounts, hrx, hdisp, hview⟩ := goodStored_facts s p r
  refine ⟨fun a => ?_, ?_, headCame_newPass hdisp rfl, fun hnd => ?_, hview.trans (view_newPass _ _)⟩
  · rw [ctr_newPass]
    exact hcounts a
  · rw [port_newPass]
    exact hrx
  · have hcell : ∀ c, cell (newPass (goodHead s p r) (goodStored s p r)).2 c = cell (goodStored s p r) c := fun c => by
      rw [cell, newPass_clr, cell]
    rw [segBytes_congr hcell]
    exact segBytes_goodStored hgot hnd

end

/-! ### Frames whose head goes ahead (R271) -/

section
variable {s t : State} {p : Nat} {r : RxFrame}

/-- The head of a frame in reception is a head of its port, the newest. -/
structure HeadAhead (p : Nat) (r : RxFrame) (s t : State) : Prop where
  rx : ∃ q, (port t p).rx = some q ∧ q.bytes = r.bytes ∧ q.pass = some s.disp.nextPass
  head : ∃ segs, HeadCame p (rxPass p r segs false) s t
  ctrs : ∀ a, ctr t a = ctr s a
  view : SameView s t

theorem HeadAhead.boardKeeps (h : HeadAhead p r s t) (v : State) : HeadAhead p r s (boardKeeps v t) := by
  obtain ⟨hrx, ⟨segs, hhead, horder, hothers⟩, hctr, hreg, hlive⟩ := h
  exact ⟨hrx, ⟨segs, hhead, horder, hothers⟩, hctr, hreg, hlive⟩

theorem HeadCame.ofPorts {ps : Pass} {u : State} (h : HeadCame p ps s t) (hu : OnlyPorts t u) : HeadCame p ps s u := by
  have hdisp : u.disp = t.disp := hu.withCtr.disp
  have hpass : ∀ k, pass? u k = pass? t k := fun k => by rw [pass?, hdisp, pass?]
  exact ⟨(hpass _).trans h.head, by rw [hdisp, h.order], fun k hk => (hpass k).trans (h.others k hk)⟩

theorem rxNext_headAhead (h : RxOpen r) (hn : 256 < r.bytes.length) (hc : consumed s p r.bytes = false)
    (hgot : (rxGot s p r).2.2 = 0) (hct : (live s (pa pgClr (offCLR_CT_RX (p / 32)))).toNat.testBit (p % 32) = true) :
    HeadAhead p r s (rxNext p false r s) := by
  obtain ⟨segs, hnext⟩ := rxNext_ahead h hn hc hgot hct
  have hpart := onlyCells_partStored s p r
  have hheld := onlyPorts_rxHeld p { r with cells := (rxGot s p r).1, pass := some s.disp.nextPass }
    (newPass (rxPass p r segs false) (partStored s p r)).2
  rw [hnext]
  refine ⟨⟨{ r with cells := (rxGot s p r).1, pass := some s.disp.nextPass }, by rw [port_rxHeld], rfl, rfl⟩,
    ⟨segs, (headCame_newPass hpart.disp rfl).ofPorts hheld⟩, fun a => ?_,
    (hpart.view.trans (view_newPass _ _)).trans hheld.withCtr.view⟩
  rw [ctr, hheld.bus, ← ctr, ctr_newPass, ctr, hpart.ctrs, ctr]

end

/-! ### The end of a frame whose head went ahead (R271) -/

section
variable {s x : State} {p k : Nat} {r : RxFrame} {q : Pass}

/-- What happens on the ports leaves the pass of a frame, and the copies of it that wait. -/
theorem ahead_kept (hx : OnlyPortsCtr (setPass k q s) x) (hcopies : rxCopies s k = []) :
    pass? x k = some q ∧ rxCopies x k = [] := by
  constructor
  · rw [pass?, hx.disp]
    exact pass_setPass_same s k q
  · rw [rxCopies, hx.clr, setPass_clr, ← rxCopies, hcopies]

section
variable (h : RxAhead k r) (hc : consumed s p r.bytes = false) (hn : 64 ≤ r.bytes.length) (hn' : r.bytes.length ≤ 260)
  (hmax : r.bytes.length ≤ maxLen s p) (hcopies : rxCopies s k = []) (hpass : pass? s k = some q)
include h hc hn hn' hmax hcopies hpass

/-- A good frame is counted, and its pass is complete. -/
theorem rxNext_completes (hfcs : FcsGood r.bytes) :
    Counts [(pa (macPage p) cMac_RX_FRAMES, 1), (pa (macPage p) cMac_RX_BYTES, r.bytes.length)] s (rxNext p true r s) ∧
      (port (rxNext p true r s) p).rx = none ∧ ∃ v, pass? (rxNext p true r s) k = some v ∧ v.complete = true ∧
        v.flen = r.bytes.length ∧ v.bad = q.bad ∧ v.raw = q.raw.take (q.raw.length - (260 - r.bytes.length)) := by
  obtain ⟨segs, w, hend, hheld⟩ := rxNext_whole_ahead h hc hn' hcopies hpass
  have hview : SameView s w := (onlyHeads_setPass k _ s).view.trans hheld.withCtr.view
  have href : rxRefused p r w = w := rxRefused_none h.why h.owed
  obtain ⟨hq, hnone⟩ := ahead_kept (hheld.withCtr.trans (onlyPortsCtr_rxCounted p r.bytes.length w)) hcopies
  rw [hend, rxEnd_early h.ignore hn (by rw [href, hview.maxLen]; exact hmax) hfcs (by rw [href, hview.consumed]; exact hc)
    h.discard h.pass, href]
  obtain ⟨honly, hdone⟩ := completed_rxComplete r.bytes.length hq hnone
  refine ⟨fun a => ?_, ?_, hdone⟩
  · rw [ctr, honly.ctrs, ← ctr, counts_rxCounted p _ w a, ctr, hheld.bus, setPass_bus, ctr]
  · rw [port, honly.ports]
    exact rx_rxCounted p _ w

/-- A frame with a wrong FCS is counted as such, and its pass is bad. -/
theorem rxNext_spoils (hfcs : ¬ FcsGood r.bytes) :
    Counts [(pa (macPage p) cMac_RX_FCS_ERR, 1)] s (rxNext p true r s) ∧ (port (rxNext p true r s) p).rx = none ∧
      ∃ v, pass? (rxNext p true r s) k = some v ∧ v.complete = true ∧ v.bad = true := by
  obtain ⟨segs, w, hend, hheld⟩ := rxNext_whole_ahead h hc hn' hcopies hpass
  have hview : SameView s w := (onlyHeads_setPass k _ s).view.trans hheld.withCtr.view
  have href : rxRefused p r w = w := rxRefused_none h.why h.owed
  have hclosed := hheld.trans (onlyPorts_rxClosed p w)
  obtain ⟨hq, hnone⟩ := ahead_kept hclosed.withCtr hcopies
  have hfail : rxFail p r w = earlyFail k (rxClosed p w) := by
    unfold rxFail rxClosed
    rw [h.pass]
  rw [hend, rxEnd_fcs h.ignore hn (by rw [href, hview.maxLen]; exact hmax) hfcs, href, hfail, earlyFail_alone hq hnone]
  refine ⟨((counts_refl s).same ?_).count rfl, ?_,
    { q with segs := segs, flen := r.bytes.length, bad := true, complete := true }, ?_, rfl, rfl⟩
  · rw [setPass_bus, hclosed.bus, setPass_bus]
  · rw [port_count, port, setPass_ports, ← port, port_rxClosed]
  · rw [pass?, (onlyCtr_count _ _ _).withPorts.disp]
    exact pass_setPass_same _ k _

end

end

/-! ### FRAME_RECEIVE -/

section
variable {s v : State} {p corr uncorr : Nat} {f : Bytes} {r : RxFrame} {last : Bool} {P : State → Prop}

/-- FRAME_RECEIVE counts the codewords, and does with the frame and its new bytes what the port makes of them. -/
theorem gives_received (hs : stopped s = false) (hr : Receiving p r s) (hi : (r.ignore || safe s) = r.ignore)
    (h : P (boardKeeps s (rxNext p last { r with bytes := r.bytes ++ f } (fecCount p corr uncorr s)))) :
    Gives (.frameReceive p ⟨f, corr, uncorr⟩ last) s P := by
  have hsafe := (onlyCtr_fecCount p corr uncorr s).withPorts.view.safe
  refine gives_act (f := fun s => frameReceive p f last (fecCount p corr uncorr s)) hs rfl ?_
  rw [frameReceive_eq (receiving_fecCount hr) (by rw [hsafe]; exact hi)]
  exact h

/-- Where only ports and counters change, the answer is the effect itself. -/
theorem gives_received_line (hs : stopped s = false) (hr : Receiving p r s) (hi : (r.ignore || safe s) = r.ignore)
    (heq : rxNext p last { r with bytes := r.bytes ++ f } (fecCount p corr uncorr s) = v)
    (honly : OnlyPortsCtr (fecCount p corr uncorr s) v) (h : P v) : Gives (.frameReceive p ⟨f, corr, uncorr⟩ last) s P := by
  refine gives_received hs hr hi ?_
  rw [heq, ((onlyCtr_fecCount p corr uncorr s).withPorts.trans honly).boardKeeps]
  exact h

end

/-- Settles O29: with the codewords counted, each clause is one of the ends of a frame above, at the frame with its new bytes. -/
theorem receivedFramesAreCheckedInOrder : Obligations.ReceivedFramesAreCheckedInOrder := by
  intro s p corr uncorr f r hs hp hr part whole u g n body got fcs closed
  have hu : OnlyCtr s u := onlyCtr_fecCount p corr uncorr s
  have hview : SameView s u := hu.withPorts.view
  have hgot : rxGot u p { r with bytes := g } = got := by rw [rxGot, hview.rxBody]
  have hport : ∀ q, port u q = port s q := hu.port
  have hdisp : u.disp = s.disp := hu.withPorts.disp
  have hclr : u.clr = s.clr := hu.withPorts.clr
  have hpass? : ∀ k, pass? u k = pass? s k := fun k => by rw [pass?, hdisp, pass?]
  refine ⟨fun hlink hfec => counts_fecCount hlink hfec, fun hi hpass hcells hwhy howed => ⟨?_, ?_⟩,
    fun hsafe hi hd hpass hcells hwhy howed hcut => ?_,
    fun k q hsafe hi hd hpass hcells hwhy howed hcopies hq hn hn' hmax hc => ?_⟩
  · have honly := onlyPorts_gone p { r with bytes := g } u
    refine gives_received_line hs hr (by rw [hi]; rfl) (rxNext_gone hi hpass hcells hwhy howed) honly.withCtr
      ⟨?_, fun q hq => ?_, honly⟩
    · rw [port_gone, hport]
    · rw [otherPorts_gone p _ u q hq, hport]
  · have honly := onlyPorts_rxHeld p { r with bytes := g } u
    refine gives_received_line hs hr (by rw [hi]; rfl) (rxNext_going hi) honly.withCtr ⟨?_, fun q hq => ?_, honly⟩
    · rw [port_rxHeld]
    · rw [otherPorts_rxHeld p _ u q hq, hport]
  · have hopen : RxOpen { r with bytes := g } := ⟨hi, hd, hpass, hcells, hwhy, howed⟩
    have hig : (r.ignore || safe s) = r.ignore := by rw [hi, hsafe]; rfl
    have hkept : consumed s p g = true ∨ got.2.2 = 0 →
        consumed u p g = true ∨ (rxGot u p { r with bytes := g }).2.2 = 0 := by
      rw [hview.consumed, hgot]
      exact id
    refine ⟨fun hn => ?_, fun hn => ?_, fun hn hmax hk => ?_, fun hn hmax hfcs hk => ?_, fun hn hmax hfcs hc hnone => ?_,
      fun hn hmax hc hlim => ?_, fun hn hmax hfcs hmac hcop hrw => ?_, fun hn hc hnone hct => ?_⟩
    · have honly := onlyPorts_rxHeld p { r with bytes := g } u
      refine gives_received_line hs hr hig (rxNext_short hopen hn) honly.withCtr
        ⟨⟨{ r with bytes := g }, by rw [port_rxHeld], rfl, hcells, rfl, hi, hd⟩, fun q hq => ?_, honly⟩
      rw [otherPorts_rxHeld p _ u q hq, hport]
    · have honly := (onlyPorts_gone p { r with bytes := g } u).withCtr.trans
        (onlyCtr_count (macPage p) cMac_RX_RUNT (rxClosed p (rxHeld p { r with bytes := g } u))).withPorts
      refine gives_received_line hs hr hig (rxNext_runt hopen hn) honly
        ⟨((counts_refl u).same ?_).count rfl, ?_, fun q hq => ?_, honly⟩
      · rw [(onlyPorts_gone p _ u).bus]
      · rw [port_count, port_gone, hport]
      · rw [port_count, otherPorts_gone p _ u q hq, hport]
    · obtain ⟨hcounts, hrx, hd', hv⟩ := (frameLost_oversize (p := p) hopen (hkept hk) hn
        (by rw [hview.maxLen]; exact hmax)).boardKeeps s
      exact gives_received hs hr hig ⟨hcounts, hrx, hd'.trans hdisp, (hview.trans hv).reg⟩
    · obtain ⟨hcounts, hrx, hd', hv⟩ := (frameLost_fcs (p := p) hopen (hkept hk) hn
        (by rw [hview.maxLen]; exact hmax) hfcs).boardKeeps s
      exact gives_received hs hr hig ⟨hcounts, hrx, hd'.trans hdisp, (hview.trans hv).reg⟩
    · have hnext := rxNext_good (p := p) (s := u) hopen hn (by rw [hview.maxLen]; exact hmax) hfcs
        (by rw [hview.consumed]; exact hc) (by rw [hgot]; exact hnone)
      have hgood := frameCame_good (s := u) (p := p) (r := { r with bytes := g }) (by rw [hgot]; exact hnone)
      rw [← hnext] at hgood
      obtain ⟨hcounts, hrx, ⟨hhead, horder, hothers⟩, hstored, hv⟩ := hgood.boardKeeps s
      rw [hdisp] at hhead horder hothers
      have hsegs : (goodHead u p { r with bytes := g }).segs = bodySegs got.1 body.length :=
        (rxSegs_whole (r := { r with bytes := g, cells := (rxGot u p { r with bytes := g }).1 }) hcut _).trans
          (by rw [hgot, hview.rxBody])
      refine gives_received hs hr hig ⟨hcounts, hrx, ⟨_, hhead, rfl, rfl, rfl, rfl, rfl, hsegs, rfl, fun hnd => ?_⟩, horder,
        fun k hk => (hothers k hk).trans (hpass? k), (hview.trans hv).reg⟩
      rw [hsegs]
      rw [hgot, hview.rxBody] at hstored
      exact hstored hnd
    · obtain ⟨v, hv, ht, hrx, hctr⟩ := rxNext_limited (p := p) (s := u) hopen hn (by rw [hview.maxLen]; exact hmax)
        (by rw [hview.consumed]; exact hc) (by rw [hview.limit, rxc, hclr]; exact hlim)
      obtain ⟨-, hd', hc', hcount⟩ := limitCounted_facts p n v
      refine gives_received hs hr hig ⟨?_, hrx, ?_, ?_⟩
      · refine hctr.trans (hcount.trans ?_)
        rw [ctr, hv.bus, ← ctr, ctr_fecCount_clr hp (by decide)]
      · exact ht.disp.trans (hd'.trans (hv.withCtr.disp.trans hdisp))
      · rw [rxc, boardKeeps_clr, ht.clr, hc', hv.withCtr.clr, hclr, rxc]
    · obtain ⟨x, hnext, honly, hcounts⟩ := rxNext_rootway (p := p) (s := u) hopen hn (by rw [hview.maxLen]; exact hmax) hfcs hmac
        (by rw [hview.isCoppice]; exact hcop) (by rw [hview.isRootway]; exact hrw)
      refine gives_received hs hr hig ?_
      rw [hnext]
      refine ⟨fun a => ?_, ?_, ?_, ?_⟩
      · rw [ctr, boardKeeps_bus, setRwLink_bus]
        exact hcounts a
      · rw [rwLink, boardKeeps_rw, ← rwLink, rwLink_setRwLink_same, rwLink, hu.withPorts.rw_eq, rwLink]
      · rw [boardKeeps_disp, setRwLink_disp, honly.disp, hdisp]
      · rw [boardKeeps_clr, setRwLink_clr, honly.clr, hclr]
    · have hahead := rxNext_headAhead (p := p) (s := u) hopen hn (by rw [hview.consumed]; exact hc) (by rw [hgot]; exact hnone)
        (by rw [hview.live]; exact hct)
      obtain ⟨hrx, ⟨segs, hhead, horder, -⟩, hctr, hv⟩ := hahead.boardKeeps s
      rw [hdisp] at hrx hhead horder
      exact gives_received hs hr hig ⟨hrx, ⟨_, hhead, rfl, List.take_take, rfl, rfl, rfl⟩, horder, hctr, (hview.trans hv).reg⟩
  · have hahead : RxAhead k { r with bytes := g } := ⟨hi, hd, hpass, hcells, hwhy, howed⟩
    have hig : (r.ignore || safe s) = r.ignore := by rw [hi, hsafe]; rfl
    have hc' : consumed u p g = false := by rw [hview.consumed]; exact hc
    have hmax' : n ≤ maxLen u p := by rw [hview.maxLen]; exact hmax
    have hcopies' : rxCopies u k = [] := by rw [rxCopies, hclr, ← rxCopies, hcopies]
    have hq' := (hpass? k).trans hq
    exact ⟨fun hfcs => gives_received hs hr hig (rxNext_completes hahead hc' hn hn' hmax' hcopies' hq' hfcs),
      fun hfcs => gives_received hs hr hig (rxNext_spoils hahead hc' hn hn' hmax' hcopies' hq' hfcs)⟩

end Sys2Proof.Machine
end

section
/-!
PROOFS. What the outcome of a walk or of a hold leaves of the parse unit: its page's counters, and no fragment held that was not
(R47, R105, R113, R115).
-/

namespace Sys2Proof.Machine
open Sys2Proof

/-- The counter at `off` of the parse unit's page stayed, and no fragment is held that was not. -/
structure KeepsParse (off : Nat) (s t : State) : Prop where
  held : t.pgu.held ⊆ s.pgu.held
  ctr : ctr t (pa pgPgu off) = ctr s (pa pgPgu off)

section
variable {off : Nat} {s t u : State}

theorem KeepsParse.of_same (hpgu : t.pgu = s.pgu) (hctr : t.bus.ctr = s.bus.ctr) : KeepsParse off s t :=
  ⟨by rw [hpgu]; exact List.Subset.refl _, by rw [Machine.ctr, hctr]; rfl⟩

theorem KeepsParse.refl (s : State) : KeepsParse off s s := .of_same rfl rfl

theorem KeepsParse.trans (h : KeepsParse off s t) (h' : KeepsParse off t u) : KeepsParse off s u :=
  ⟨List.Subset.trans h'.held h.held, h'.ctr.trans h.ctr⟩

theorem KeepsParse.forAll {α : Type} {f : α → State → State} (hf : ∀ x s, KeepsParse off s (f x s)) (l : List α) (s : State) :
    KeepsParse off s (forAll f l s) :=
  forAll_rel KeepsParse.refl (fun _ _ _ h h' => h.trans h') hf l s

theorem OnlyCells.keepsParse (h : OnlyCells s t) : KeepsParse off s t := .of_same (by rw [h]) (by rw [h])

theorem OnlyPorts.keepsParse (h : OnlyPorts s t) : KeepsParse off s t := .of_same (by rw [h]) (by rw [h])

theorem OnlyCharged.keepsParse (h : OnlyCharged s t) : KeepsParse off s t := .of_same (by rw [h]) (by rw [h])

theorem OnlyNoted.keepsParse (h : OnlyNoted s t) : KeepsParse off s t := .of_same (by rw [h]) (by rw [h])

/-- Another counter that goes up leaves it. -/
theorem keepsParse_count {page o : Nat} (hne : pa pgPgu off ≠ pa page o) (s : State) : KeepsParse off s (count page o s) :=
  ⟨List.Subset.refl _, ctr_setCtr_other _ _ _ _ hne⟩

end

/-- A counter of another page is another counter. -/
theorem pa_pgu_ne {page off o : Nat} (hoff : off < 0x1000) (ho : o < 0x1000) (hpage : page ≠ pgPgu) :
    pa pgPgu off ≠ pa page o :=
  fun h => hpage (pa_inj _ _ _ _ hoff ho h).1.symm

section
variable {off : Nat}

/-! ### Drops and cells (R256, R275) -/

theorem keepsParse_dropPair (p k : Nat) (fl : FrameLen) (s : State) : KeepsParse off s (dropPair p k fl s) := by
  have hpair : ∀ i n m, KeepsParse off s (pairAdd i n m s) := fun i n m => (onlyCharged_setPair i _ _ s).keepsParse
  unfold dropPair oweDrop
  dsimp only
  split_ifs
  · split
    · exact hpair _ _ _
    · refine (hpair _ _ _).trans (KeepsParse.forAll (fun o u => ?_) _ _)
      split
      · split_ifs
        · exact (onlyPorts_setPort _ _ u).keepsParse
        · exact .refl u
      · exact .refl u
  · exact .refl s

theorem onlyCells_cellsReq (r : Nat) (b : Bool) (port cls n : Nat) (got : List Nat) (s : State) :
    OnlyCells s (cellsReq r b port cls n got s).2.1 := by
  induction n generalizing got s with
  | zero => rfl
  | succ n ih =>
    unfold cellsReq
    split
    · next h => exact (onlyCells_cellReq h).trans (ih _ _)
    · exact onlyCells_refl s
    · exact onlyCells_refl s

section
variable (hoff : off < 0x1000)
include hoff

theorem keepsParse_countRefusal (g : Grant) (p : Nat) (fl : FrameLen) (s : State) :
    KeepsParse off s (countRefusal g p fl s) := by
  have hclr : ∀ i b o, o < 0x1000 → KeepsParse off s (raiseIrq pgClr b (count pgClr o (dropPair p i fl s))) := fun i b o ho =>
    ((keepsParse_dropPair p i fl s).trans (keepsParse_count (pa_pgu_ne hoff ho (by decide)) _)).trans
      (onlyNoted_raiseIrq _ _ _).keepsParse
  unfold countRefusal
  split
  · exact .refl s
  · exact hclr _ _ _ (by decide)
  · have hempty := hclr 10 1 cClr_WOODPILE_EMPTY (by decide)
    dsimp only
    split_ifs
    · exact hempty.trans (keepsParse_count (pa_pgu_ne hoff (by decide) (by simp only [macPage, pgPgu]; omega)) _)
    · exact hempty

end

/-! ### Passes and threads (R15, R235) -/

theorem keepsParse_setPass (k : Nat) (p : Pass) (s : State) : KeepsParse off s (setPass k p s) := .of_same rfl rfl

theorem keepsParse_updPass (k : Nat) (f : Pass → Pass) (s : State) : KeepsParse off s (updPass k f s) := by
  rw [updPass_eq]; exact .of_same rfl rfl

theorem keepsParse_freeThread (t : Nat) (s : State) : KeepsParse off s (freeThread t s) := by
  unfold freeThread; split_ifs <;> exact .of_same rfl rfl

theorem keepsParse_leaveOrder (k : Nat) (s : State) : KeepsParse off s (leaveOrder k s) := by
  unfold leaveOrder; split <;> exact .of_same rfl rfl

theorem keepsParse_leaveFlight (k : Nat) (s : State) : KeepsParse off s (leaveFlight k s) := by
  unfold leaveFlight
  split
  · exact .refl s
  · split_ifs <;> exact .of_same rfl rfl

theorem keepsParse_readyPass (k : Nat) (s : State) : KeepsParse off s (readyPass k s) := by
  unfold readyPass
  split
  · exact .refl s
  · split_ifs <;> exact .of_same rfl rfl

/-- A pass that ends holds no fragment any more. -/
theorem keepsParse_endPass (k : Nat) (s : State) : KeepsParse off s (endPass k s) := by
  unfold endPass
  split
  · exact .refl s
  · next p _ =>
    have hgone : KeepsParse off s (dropRefs (passCells p) (leaveFlight k (leaveOrder k (cutReception k s)))) :=
      (((onlyPortsClr_cutReception k s).cells.keepsParse.trans (keepsParse_leaveOrder k _)).trans
        (keepsParse_leaveFlight k _)).trans (onlyPortsClr_dropRefs _ _).cells.keepsParse
    refine hgone.trans ?_
    dsimp only
    split_ifs <;> exact ⟨List.filter_subset_self _, rfl⟩

theorem keepsParse_unhold (k : Nat) (s : State) : KeepsParse off s (unhold k s) :=
  KeepsParse.trans (t := { s with pgu := { s.pgu with held := s.pgu.held.filter (fun x => x != k) } })
    ⟨List.filter_subset_self _, rfl⟩ (keepsParse_updPass k _ _)

/-! ### Outcomes (R105, R227) -/

section
variable (hoff : off < 0x1000)
include hoff

theorem keepsParse_toException (k reason : Nat) (exc : Bytes) (s : State) : KeepsParse off s (toException k reason exc s) := by
  unfold toException
  split
  · exact .refl s
  · next p _ =>
    split_ifs
    · exact (keepsParse_endPass k s).trans (keepsParse_count (pa_pgu_ne hoff (by decide) (by decide)) _)
    · split
      · next got u g hreq =>
        have hu := onlyCells_cellsReq (32 + p.grove % 32) true p.rxPort 8 (headCellsFor p.head.length) [] s
        rw [hreq] at hu
        exact ((hu.trans (onlyPortsClr_dropRefs got u).cells).keepsParse.trans (keepsParse_countRefusal hoff g _ _ _)).trans
          (keepsParse_endPass k _)
      · next got u hreq =>
        have hu := onlyCells_cellsReq (32 + p.grove % 32) true p.rxPort 8 (headCellsFor p.head.length) [] s
        rw [hreq] at hu
        have hstored := (hu.trans (onlyCells_writeChain got (headerBytes p 0 0 0 (0, 0) ++ p.head) u)).trans
          (onlyPortsClr_fcUpdate p.rxPort _).cells
        exact (((hstored.keepsParse.trans (keepsParse_leaveOrder k _)).trans (keepsParse_leaveFlight k _)).trans
          (keepsParse_updPass k _ _)).trans (.of_same rfl rfl)

theorem keepsParse_parseOutcome (k : Nat) (s : State) : KeepsParse off s (parseOutcome k s) := by
  unfold parseOutcome
  split
  · exact .refl s
  · dsimp only
    split
    · exact keepsParse_readyPass k s
    · exact (keepsParse_setPass k _ s).trans (keepsParse_readyPass k _)
    · exact (keepsParse_freeThread _ s).trans (keepsParse_endPass k _)
    · exact (keepsParse_freeThread _ s).trans (keepsParse_toException hoff k _ _ _)

/-! ### Orphans (R113 to R115) -/

/-- What follows the count of an orphan. -/
theorem keepsParse_orphanCounted (reason k : Nat) (s : State) :
    KeepsParse off (count pgPgu cPgu_ORPHAN s) (orphan reason k s) :=
  (keepsParse_updPass k _ _).trans (keepsParse_parseOutcome hoff k _)

theorem keepsParse_orphan (hne : off ≠ cPgu_ORPHAN) (reason k : Nat) (s : State) : KeepsParse off s (orphan reason k s) :=
  (keepsParse_count (pa_ne _ _ _ hne) s).trans (keepsParse_orphanCounted hoff reason k s)

theorem keepsParse_fragRemove (hne : off ≠ cPgu_ORPHAN) (i : Nat) (s : State) : KeepsParse off s (fragRemove i s) := by
  refine KeepsParse.trans (t := { setFrag i none s with
    pgu := { (setFrag i none s).pgu with fragAt := mdel (setFrag i none s).pgu.fragAt i } }) ⟨List.Subset.refl _, rfl⟩ ?_
  refine KeepsParse.forAll (fun k u => ?_) _ _
  split_ifs <;> exact (keepsParse_unhold k u).trans (keepsParse_orphan hoff hne _ _ _)

end

/-- Every orphan is counted once. -/
theorem ctr_orphan (reason k : Nat) (s : State) :
    ctr (orphan reason k s) (pa pgPgu cPgu_ORPHAN) = Nat.min maxCtr (ctr s (pa pgPgu cPgu_ORPHAN) + 1) :=
  (keepsParse_orphanCounted (by decide) reason k s).ctr.trans (ctr_count_same s _ _)

theorem held_orphan (reason k : Nat) (s : State) : (orphan reason k s).pgu.held ⊆ s.pgu.held :=
  (keepsParse_orphanCounted (off := 0) (by decide) reason k s).held

theorem not_mem_held_unhold (k : Nat) (s : State) : k ∉ (unhold k s).pgu.held := by
  unfold unhold
  rw [updPass_eq]
  simp

end

end Sys2Proof.Machine
end

section
/-!
PROOFS. HOLD_TIMEOUT and FRAG_AGED (R113, R115): what each element of a list brings about, the end of the list still finds, and each is
counted.
-/

namespace Sys2Proof.Machine
open Sys2Proof

/-! ### Steps over a list -/

/-- What a step brings about for its element and no step undoes holds of every element at the end. -/
theorem forAll_establishes {α : Type} {f : α → State → State} {P : α → State → Prop} (hdo : ∀ x s, P x (f x s))
    (hkeep : ∀ x y s, P y s → P y (f x s)) (l : List α) (s : State) : ∀ y ∈ l, P y (forAll f l s) := by
  induction l generalizing s with
  | nil => exact fun y hy => absurd hy List.not_mem_nil
  | cons x l ih =>
    intro y hy
    rcases List.mem_cons.mp hy with rfl | hy
    · exact forAll_rel (R := fun s t => P y s → P y t) (fun _ h => h) (fun _ _ _ h h' => h' ∘ h) (fun x u => hkeep x y u) l _
        (hdo y s)
    · exact ih _ y hy

/-- A counter that every step counts once has counted the list. -/
theorem ctr_forAll_count {α : Type} {f : α → State → State} {a : Nat}
    (hf : ∀ x s, ctr (f x s) a = Nat.min maxCtr (ctr s a + 1)) (l : List α) (s : State) (hl : l ≠ []) :
    ctr (forAll f l s) a = Nat.min maxCtr (ctr s a + l.length) := by
  induction l generalizing s with
  | nil => exact absurd rfl hl
  | cons x l ih =>
    cases l with
    | nil => exact hf x s
    | cons y l =>
      have hrest := ih (f x s) (List.cons_ne_nil y l)
      rw [hf] at hrest
      rw [forAll, hrest]
      simp only [List.length_cons, Nat.min_def]
      split_ifs <;> omega

/-! ### The commands -/

theorem exec_holdTimeout (s : State) : exec .holdTimeout s = act holdTimeout s := rfl

theorem exec_fragAged (s : State) : exec .fragAged s = act fragAged s := rfl

/-- Every fragment held too long leaves the hold list as an orphan (R113). -/
theorem holdTimeout_facts (s : State) (hold : s.pgu.held.filter (holdOver s) ≠ []) :
    (∀ k ∈ s.pgu.held, holdOver s k = true → k ∉ (holdTimeout s).pgu.held) ∧
      ctr (holdTimeout s) (pa pgPgu cPgu_ORPHAN) =
        Nat.min maxCtr (ctr s (pa pgPgu cPgu_ORPHAN) + (s.pgu.held.filter (holdOver s)).length) := by
  have hgone := forAll_establishes (f := fun k s => orphan 0x43 k (unhold k s)) (P := fun k u => k ∉ u.pgu.held)
    (fun k u hk => not_mem_held_unhold k u (held_orphan _ _ _ hk))
    (fun k j u hj hk => hj ((keepsParse_unhold (off := 0) k u).held (held_orphan _ _ _ hk)))
    (s.pgu.held.filter (holdOver s)) s
  refine ⟨fun k hk hover => hgone k (List.mem_filter.mpr ⟨hk, hover⟩), ctr_forAll_count (fun k u => ?_) _ s hold⟩
  rw [ctr_orphan, (keepsParse_unhold k u).ctr]

/-- Records past their lifetime, with the time of each (R115). -/
def fragsOver (s : State) : List (Nat × Nat) :=
  s.pgu.fragAt.filter (fun e => decide (e.2 + liveF s (pa pgPgu offFRAG_CFG) fFRAG_CFG_AGE_MS * tMs ≤ now s))

/-- Every record past its lifetime is removed (R115). -/
theorem fragAged_facts (s : State) (hold : fragsOver s ≠ []) :
    (∀ e ∈ fragsOver s, mfind (fragAged s).pgu.frag e.1 = none) ∧
      ctr (fragAged s) (pa pgPgu cPgu_FRAG_AGED) =
        Nat.min maxCtr (ctr s (pa pgPgu cPgu_FRAG_AGED) + (fragsOver s).length) := by
  have hgone := forAll_establishes (f := fun i s => count pgPgu cPgu_FRAG_AGED (fragRemove i s))
    (P := fun i u => mfind u.pgu.frag i = none)
    (fun i u => by
      change mfind (fragRemove i u).pgu.frag i = none
      rw [frag_fragRemove, mfind_mdel_same])
    (fun i j u hj => by
      change mfind (fragRemove i u).pgu.frag j = none
      rw [frag_fragRemove]
      by_cases h : j = i
      · rw [h, mfind_mdel_same]
      · rw [mfind_mdel_other _ _ _ h, hj])
    ((fragsOver s).map (fun e => e.1)) s
  have hcount := ctr_forAll_count (f := fun i s => count pgPgu cPgu_FRAG_AGED (fragRemove i s)) (a := pa pgPgu cPgu_FRAG_AGED)
    (fun i u => by rw [ctr_count_same, (keepsParse_fragRemove (by decide) (by decide) i u).ctr])
    ((fragsOver s).map (fun e => e.1)) s (by simpa using hold)
  rw [List.length_map] at hcount
  exact ⟨fun e he => hgone e.1 (List.mem_map_of_mem he), hcount⟩

end Sys2Proof.Machine
end

section
/-!
PROOFS. PARSE_WALK on a port without Trail (R90, R92, R100, R101, R105): where its walk runs, the record it leaves of the pass, and the
outcomes of a walk that ends OK and of a malformed one.
-/

namespace Sys2Proof.Machine
open Sys2Proof

/-! ### In-flight counts (R235) -/

@[simp] theorem inflight_setInflight_same (e n : Nat) (s : State) : inflight (setInflight e n s) e = n := by
  simp [inflight, setInflight]

/-- A pass that was not counted enters the count of its epoch; one that was stays where it is counted. -/
theorem enterFlight_some {s : State} {k : Nat} {p : Pass} (h : pass? s k = some p) (e : Nat) :
    enterFlight k e s = if p.inflight then setPass k { p with epoch := e, inflight := true } s
      else setInflight e (inflight s e + 1) (setPass k { p with epoch := e, inflight := true } s) := by
  unfold enterFlight
  rw [h]

/-- Only the records of the passes, the in-flight counts and the place among the free values changed. -/
def OnlyFlight (s t : State) : Prop :=
  t = { s with disp := { s.disp with passes := t.disp.passes }, ep := t.ep, freeCtr := t.freeCtr }

section
variable {s t u : State}

theorem OnlyFlight.trans (h : OnlyFlight s t) (h' : OnlyFlight t u) : OnlyFlight s u := Eq.trans h' (by rw [h])

theorem OnlyFlight.view (h : OnlyFlight s t) : SameView s t := ⟨fun a => by rw [h]; rfl, fun a => by rw [h]; rfl⟩

theorem OnlyFlight.ctr (h : OnlyFlight s t) (a : Nat) : ctr t a = ctr s a := by rw [h]; rfl

theorem onlyFlight_setPass (k : Nat) (p : Pass) (s : State) : OnlyFlight s (setPass k p s) := rfl

theorem onlyFlight_freeNext (s : State) : OnlyFlight s (freeNext s) := rfl

theorem onlyFlight_enterFlight (k e : Nat) (s : State) : OnlyFlight s (enterFlight k e s) := by
  unfold enterFlight
  split
  · rfl
  · dsimp only
    split_ifs <;> rfl

end

/-! ### The walk of a pass -/

/-- The epoch that a pass walks under: that of its first pass where it recirculates (R92, R253). -/
def walkEpoch (s : State) (p : Pass) : Nat := if p.recirc then p.epoch else curEpoch s

/-- The state in which the walk runs: the pass stands in its epoch's in-flight count. -/
def walkBegun (s : State) (k : Nat) (p : Pass) : State :=
  enterFlight k (walkEpoch s p) (if p.known then s else freeNext s)

/-- What the walk of a pass needs, on a port without Trail. -/
def walkEnv (s : State) (p : Pass) : WalkEnv :=
  ⟨p.raw, 256, if p.known then some (p.flen - 4) else none,
    liveB s (pa pgPgu offPGU_CFG) fPGU_CFG_FRAG_EN && !p.recirc, walkEpoch s p % 2, p.grove⟩

/-- The end of the walk, and what it built. -/
def walkEnded (s : State) (k : Nat) (p : Pass) : WalkEnd × Walk :=
  graphWalk (walkBegun s k p) (walkEnv s p) (liveF s (pa pgPgu (offPGU_PORT p.src)) fPGU_PORT_START)
    (walkStart (liveF s (pa pgPgu (offPGU_PORT p.src)) fPGU_PORT_PROFILE))

/-- The walk as its PRV shows it: UNCHECKED where the frame's length was not known (R109). -/
def walkShown (s : State) (k : Nat) (p : Pass) : Walk := { (walkEnded s k p).2 with unchecked := !p.known }

/-- FRAME_LEN of the PRV (R101, R109). -/
def walkLen (s : State) (p : Pass) : Nat := if p.known then p.flen else freeNow s % 16384

/-- DOMAIN of the PRV of a walk on entry port `src`: the extract slot that DOM_SLOT names where DOMSEL is set (R101). -/
def walkDomain (s : State) (src : Nat) (w : Walk) : Nat :=
  if liveB s (pa pgPgu (offPGU_PORT src)) fPGU_PORT_DOMSEL then
    mget (fun _ => 0) w.xs (liveF s (pa pgPgu offPGU_CFG) fPGU_CFG_DOM_SLOT) % 4096
  else 0

theorem SameView.walkDomain {s t : State} (h : SameView s t) (src : Nat) (w : Walk) :
    walkDomain t src w = walkDomain s src w := by
  rw [Machine.walkDomain, h.liveB, h.liveF, Machine.walkDomain]

/-- The record of a pass that its walk leaves. -/
def walkedPass (s : State) (k : Nat) (p : Pass) : Pass :=
  { p with
    head := p.raw, epoch := walkEpoch s p, inflight := true,
    prv := buildPrv (walkShown s k p) (walkEnded s k p).1 (walkEpoch s p) p.src (walkLen s p)
      (walkDomain s p.src (walkShown s k p)) p.rxTime.ns false false none }

theorem walkedPass_prv (s : State) (k : Nat) (p : Pass) : (walkedPass s k p).prv =
    buildPrv (walkShown s k p) (walkEnded s k p).1 (walkEpoch s p) p.src (walkLen s p) (walkDomain s p.src (walkShown s k p))
      p.rxTime.ns false false none := rfl

/-- The state once the PRV of the walk is written. -/
def walkWritten (s : State) (k : Nat) (p : Pass) : State := setPass k (walkedPass s k p) (walkBegun s k p)

/-- A walk without a Trail header that found no fragment: its end is counted, and its outcome is that of the PRV it left. -/
theorem finishWalk_noFragment {r : WalkEnd × Walk} (hfrag : r.2.frag = none) (k : Nat) (env : WalkEnv) (p : Pass)
    (epoch fl : Nat) (s : State) {w : Walk} (hw : { r.2 with unchecked := env.flen.isNone } = w) :
    finishWalk k env r p epoch fl false false none s =
      parseOutcome k (countStatus r.1 r.2.overlong (reportGraph env w r.1 (setPass k
        { p with prv := buildPrv w r.1 epoch p.src fl (walkDomain s p.src w) p.rxTime.ns false false none, epoch := epoch }
        s))) := by
  subst hw
  unfold finishWalk walkDomain liveB
  simp only [hfrag, Option.isSome_none, Bool.false_and, Bool.not_false, Bool.and_true]
  cases env.frags <;> rfl

theorem onlyFlight_walkBegun (s : State) (k : Nat) (p : Pass) : OnlyFlight s (walkBegun s k p) := by
  unfold walkBegun
  split_ifs
  · exact onlyFlight_enterFlight _ _ s
  · exact (onlyFlight_freeNext s).trans (onlyFlight_enterFlight _ _ _)

theorem onlyFlight_walkWritten (s : State) (k : Nat) (p : Pass) : OnlyFlight s (walkWritten s k p) :=
  (onlyFlight_walkBegun s k p).trans (onlyFlight_setPass _ _ _)

@[simp] theorem pass_walkWritten_same (s : State) (k : Nat) (p : Pass) :
    pass? (walkWritten s k p) k = some (walkedPass s k p) := pass_setPass_same _ _ _

section
variable {s : State} {k : Nat} {p : Pass} (hp : pass? s k = some p)
include hp

theorem walkBegun_eq : walkBegun s k p =
    if p.inflight then setPass k { p with epoch := walkEpoch s p, inflight := true } (if p.known then s else freeNext s)
    else setInflight (walkEpoch s p) (inflight s (walkEpoch s p) + 1)
      (setPass k { p with epoch := walkEpoch s p, inflight := true } (if p.known then s else freeNext s)) := by
  unfold walkBegun
  split_ifs with hknown hin hin
  · rw [enterFlight_some hp, if_pos hin]
  · rw [enterFlight_some hp, if_neg hin]
  · rw [enterFlight_some (s := freeNext s) hp, if_pos hin]
  · rw [enterFlight_some (s := freeNext s) hp, if_neg hin]
    rfl

theorem pass_walkBegun_same : pass? (walkBegun s k p) k = some { p with epoch := walkEpoch s p, inflight := true } := by
  rw [walkBegun_eq hp]
  split_ifs <;> exact pass_setPass_same _ _ _

theorem pass_walkBegun_other {j : Nat} (hj : j ≠ k) : pass? (walkBegun s k p) j = pass? s j := by
  rw [walkBegun_eq hp]
  split_ifs <;> exact pass_setPass_other _ _ _ _ hj

theorem inflight_walkBegun :
    (p.inflight = false → inflight (walkBegun s k p) (walkEpoch s p) = inflight s (walkEpoch s p) + 1) ∧
      (p.inflight = true → inflight (walkBegun s k p) (walkEpoch s p) = inflight s (walkEpoch s p)) := by
  rw [walkBegun_eq hp]
  refine ⟨fun hin => ?_, fun hin => ?_⟩
  · rw [if_neg (by simp [hin])]
    exact inflight_setInflight_same _ _ _
  · rw [if_pos hin]
    split_ifs <;> rfl

variable (hwalking : p.phase = .walking) (htrail : trailEn s p.src = false)
include hwalking htrail

/-- PARSE_WALK on a port without Trail is the end of the walk above. -/
theorem parseWalk_eq : parseWalk k s = finishWalk k (walkEnv s p) (walkEnded s k p)
    { p with epoch := walkEpoch s p, inflight := true, head := p.raw } (walkEpoch s p) (walkLen s p) false false none
    (walkBegun s k p) := by
  have hbegun : (pass? (walkBegun s k p) k).getD p = { p with epoch := walkEpoch s p, inflight := true } := by
    rw [pass_walkBegun_same hp]; rfl
  unfold parseWalk
  rw [hp]
  dsimp only
  rw [if_neg (not_not.mpr hwalking), htrail, if_neg Bool.false_ne_true]
  change finishWalk k (walkEnv s p) (walkEnded s k p) { (pass? (walkBegun s k p) k).getD p with head := p.raw } _ _ _ _ _ _ = _
  rw [hbegun]
  rfl

/-- A walk that found no fragment is counted by its end, and its outcome is that of the PRV it left. -/
theorem parseWalk_noFragment (hfrag : (walkEnded s k p).2.frag = none) : parseWalk k s =
    parseOutcome k (countStatus (walkEnded s k p).1 (walkEnded s k p).2.overlong
      (reportGraph (walkEnv s p) (walkShown s k p) (walkEnded s k p).1 (walkWritten s k p))) := by
  have hshown : { (walkEnded s k p).2 with unchecked := (walkEnv s p).flen.isNone } = walkShown s k p := by
    unfold walkShown walkEnv
    cases p.known <;> rfl
  rw [parseWalk_eq hp hwalking htrail, finishWalk_noFragment hfrag _ _ _ _ _ _ hshown,
    (onlyFlight_walkBegun s k p).view.walkDomain]
  rfl

end

/-! ### The status in the PRV (R101, R105) -/

/-- The first byte of a PRV holds STATUS, OVERLONG, PADDED, TRAIL and EPOCH_STALE. -/
theorem prv_byte (w : Walk) (e : WalkEnd) (epoch port fl dom ns : Nat) (trail stale : Bool) (ov : Option Bytes) :
    byteAt (buildPrv w e epoch port fl dom ns trail stale ov) 0 = BitVec.ofNat 8 (e.1 + (if w.overlong then 2 ^ 4 else 0) +
      (if w.padded then 2 ^ 5 else 0) + (if trail then 2 ^ 6 else 0) + (if stale then 2 ^ 7 else 0)) := rfl

/-- STATUS of a PRV is that of its walk. -/
theorem prv_status (w : Walk) (e : WalkEnd) (epoch port fl dom ns : Nat) (trail stale : Bool) (ov : Option Bytes) :
    (byteAt (buildPrv w e epoch port fl dom ns trail stale ov) 0).toNat % 16 = e.1 % 16 := by
  rw [prv_byte, BitVec.toNat_ofNat]
  split_ifs <;> omega

/-- The PRV of a walk that ended OK asks for no action of PGU_ACT. -/
theorem parseAction_ok {w : Walk} (hlong : w.overlong = false) {epoch port fl dom ns : Nat} {ov : Option Bytes} {p : Pass}
    (hprv : p.prv = buildPrv w (0, 0) epoch port fl dom ns false false ov) (s : State) : parseAction s p = 0 := by
  have hlow : (byteAt p.prv 0).toNat.testBit 4 = false := by
    rw [hprv, prv_byte, hlong]
    cases w.padded <;> rfl
  have hst : (byteAt p.prv 0).toNat % 16 = 0 := by rw [hprv, prv_status]; rfl
  unfold parseAction
  simp [hst, hlow]

/-- The PRV of a malformed walk asks for what PGU_ACT.MALF says. -/
theorem parseAction_malformed {w : Walk} {e : WalkEnd} (he : e.1 = 2) {epoch port fl dom ns : Nat} {trail stale : Bool}
    {ov : Option Bytes} {p : Pass} (hprv : p.prv = buildPrv w e epoch port fl dom ns trail stale ov) (s : State) :
    parseAction s p = liveF s (pa pgPgu offPGU_ACT) fPGU_ACT_MALF := by
  have hst : (byteAt p.prv 0).toNat % 16 = 2 := by rw [hprv, prv_status, he]
  unfold parseAction
  simp [hst]

/-! ### Outcomes of a walk (R105) -/

theorem parseOutcome_ready {s : State} {k : Nat} {p : Pass} (hp : pass? s k = some p) (hact : parseAction s p = 0)
    (htid : p.tid ≠ noThread) : parseOutcome k s = setPass k { p with phase := .ready } s := by
  unfold parseOutcome readyPass
  simp only [hp, hact, htid, if_false]

theorem parseOutcome_dropped {s : State} {k : Nat} {p : Pass} (hp : pass? s k = some p) (hact : parseAction s p = 2) :
    parseOutcome k s = endPass k (freeThread p.tid s) := by
  unfold parseOutcome
  simp only [hp, hact]

theorem exec_parseWalk (k : Nat) (s : State) : exec (.parseWalk k) s = act (parseWalk k) s := rfl

section
variable {s : State} {k : Nat} {p : Pass} (hs : stopped s = false) (hp : pass? s k = some p) (hwalking : p.phase = .walking)
  (htrail : trailEn s p.src = false) (hfrag : (walkEnded s k p).2.frag = none)
include hs hp hwalking htrail hfrag

/-- A walk that ends OK: the pass holds its PRV, stands in its epoch's count, and its routine can start. -/
theorem gives_walkOk (htid : p.tid ≠ noThread) (hend : (walkEnded s k p).1 = (0, 0))
    (hlong : (walkEnded s k p).2.overlong = false) :
    Gives (.parseWalk k) s (fun t => pass? t k = some { walkedPass s k p with phase := .ready } ∧
      (p.inflight = false → inflight t (walkEpoch s p) = inflight s (walkEpoch s p) + 1) ∧
      (p.inflight = true → inflight t (walkEpoch s p) = inflight s (walkEpoch s p)) ∧
      (∀ j, j ≠ k → pass? t j = pass? s j) ∧ SameRegs s t ∧ ∀ a, ctr t a = ctr s a) := by
  have hprv := walkedPass_prv s k p
  rw [hend] at hprv
  have hshown : (walkShown s k p).overlong = false := hlong
  have heffect : parseWalk k s = setPass k { walkedPass s k p with phase := .ready } (walkWritten s k p) := by
    rw [parseWalk_noFragment hp hwalking htrail hfrag, hend, hlong]
    exact parseOutcome_ready (pass_walkWritten_same s k p) (parseAction_ok hshown hprv _) htid
  have honly : OnlyFlight s (setPass k { walkedPass s k p with phase := .ready } (walkWritten s k p)) :=
    (onlyFlight_walkWritten s k p).trans (onlyFlight_setPass _ _ _)
  obtain ⟨hfirst, hagain⟩ := inflight_walkBegun hp
  refine gives_act hs (exec_parseWalk k s) ?_
  rw [heffect]
  refine ⟨pass_setPass_same _ _ _, hfirst, hagain, fun j hj => ?_, honly.view.reg, honly.ctr⟩
  exact (pass_setPass_other _ _ _ _ hj).trans ((pass_setPass_other _ _ _ _ hj).trans (pass_walkBegun_other hp hj))

/-- A malformed walk is counted; where PGU_ACT.MALF says drop, the pass is gone and its thread free. -/
theorem gives_walkMalformed (htid : p.tid < noThread) (hend : (walkEnded s k p).1.1 = 2)
    (hdrop : liveF s (pa pgPgu offPGU_ACT) fPGU_ACT_MALF = 2) :
    Gives (.parseWalk k) s (fun t => pass? t k = none ∧ (thread t p.tid).st = .free ∧
      ctr t (pa pgPgu cPgu_MALFORMED) = Nat.min maxCtr (ctr s (pa pgPgu cPgu_MALFORMED) + 1)) := by
  have hcounted : countStatus (walkEnded s k p).1 (walkEnded s k p).2.overlong (reportGraph (walkEnv s p) (walkShown s k p)
      (walkEnded s k p).1 (walkWritten s k p)) = count pgPgu cPgu_MALFORMED (walkWritten s k p) := by
    have hgraph : (walkEnded s k p).1 ≠ (5, 0x32) := fun h => by rw [h] at hend; exact absurd hend (by decide)
    rw [reportGraph, if_pos hgraph, countStatus, hend]
    rfl
  have hmalf : parseAction (count pgPgu cPgu_MALFORMED (walkWritten s k p)) (walkedPass s k p) = 2 := by
    rw [parseAction_malformed hend (walkedPass_prv s k p), ← hdrop]
    exact ((onlyFlight_walkWritten s k p).view.trans (onlyCtr_count _ _ _).withPorts.view).liveF _ _
  have heffect : parseWalk k s = endPass k (freeThread p.tid (count pgPgu cPgu_MALFORMED (walkWritten s k p))) := by
    rw [parseWalk_noFragment hp hwalking htrail hfrag, hcounted]
    exact parseOutcome_dropped (p := walkedPass s k p) (pass_walkWritten_same s k p) hmalf
  have hends := onlyPasses_endPass k (freeThread p.tid (count pgPgu cPgu_MALFORMED (walkWritten s k p)))
  refine gives_act hs (exec_parseWalk k s) ?_
  rw [heffect]
  refine ⟨pass_endPass_same _ _, ?_, ?_⟩
  · change (mget threadReset (endPass k _).grv.threads p.tid).st = .free
    rw [hends.grv_eq, freeThread, if_pos htid, ← thread, thread_setThread_same, threadReset]
  · rw [ctr_boardKeeps, (keepsParse_endPass k _).ctr, (keepsParse_freeThread _ _).ctr, ctr_count_same,
      (onlyFlight_walkWritten s k p).ctr]

end

/-- Settles O33: a walk that ends OK and a malformed one by the record the walk leaves, the holds and the ages by the lists they act on. -/
theorem walksHoldsAndFragmentAge : Obligations.WalksHoldsAndFragmentAge := by
  unfold Obligations.WalksHoldsAndFragmentAge
  intro s hs
  refine ⟨fun k p hp hwalking htrail htid hlt => ⟨fun hend hfrag hlong => ?_, fun hend hfrag hdrop => ?_⟩,
    fun hold => gives_act hs (exec_holdTimeout s) (holdTimeout_facts s hold),
    fun hold => gives_act hs (exec_fragAged s) (fragAged_facts s hold)⟩
  · have hok := gives_walkOk hs hp hwalking htrail hfrag htid hend hlong
    rw [walkedPass, show (walkEnded s k p).1 = (0, 0) from hend] at hok
    exact hok
  · exact gives_walkMalformed hs hp hwalking htrail hfrag hlt hend hdrop

end Sys2Proof.Machine
end

section
/-!
PROOFS. What a table holds once entries are taken out of it: the keys listed, the INDEX values they name under the table's geometry, and
the tag at each (R121, R125 to R127).
-/

namespace Sys2Proof.Machine
open Sys2Proof

/-! ### Keys of a sparse map -/

section
variable {α : Type}

theorem mem_insertBy (f : α → Nat) (x y : α) (l : List α) : y ∈ insertBy f x l ↔ y = x ∨ y ∈ l := by
  induction l with
  | nil => simp [insertBy]
  | cons z l ih =>
    unfold insertBy
    split_ifs
    · simp
    · simp only [List.mem_cons, ih]; tauto

/-- Sorting keeps the elements of a list. -/
theorem mem_sortBy (f : α → Nat) (y : α) (l : List α) : y ∈ sortBy f l ↔ y ∈ l := by
  have hfold : ∀ acc : List α, y ∈ l.foldl (fun acc x => insertBy f x acc) acc ↔ y ∈ acc ∨ y ∈ l := by
    induction l with
    | nil => simp
    | cons x l ih => intro acc; rw [List.foldl_cons, ih, mem_insertBy, List.mem_cons]; tauto
  simpa [sortBy] using hfold []

theorem mkeys_mdel_subset (m : NMap α) (q : Nat) : mkeys (mdel m q) ⊆ mkeys m := by
  rw [mdel_eq_filter, mfilter]
  exact List.map_subset _ (List.filter_subset_self m)

theorem mkeys_mput_subset {m : NMap α} {q : Nat} (h : q ∈ mkeys m) (v : α) : mkeys (mput m q v) ⊆ mkeys m := by
  induction m with
  | nil => exact absurd h List.not_mem_nil
  | cons e m ih =>
    obtain ⟨k, u⟩ := e
    unfold mput
    split_ifs with hq hlt
    · subst hq; exact List.Subset.refl _
    · exact List.cons_subset.mpr ⟨h, List.Subset.refl _⟩
    · have htail : q ∈ mkeys m := (List.mem_cons.mp h).resolve_left hq
      exact List.cons_subset_cons k (ih htail)

theorem mem_mkeys_of_mfind {m : NMap α} {q : Nat} {v : α} (h : mfind m q = some v) : q ∈ mkeys m := by
  induction m with
  | nil => exact absurd h (by simp [mfind])
  | cons e m ih =>
    obtain ⟨k, u⟩ := e
    unfold mfind at h
    split_ifs at h with hq
    · subst hq; exact List.mem_cons_self
    · exact List.mem_cons_of_mem _ (ih h)

/-- A key that does not read as an unlisted one is listed. -/
theorem mem_mkeys_of_mget_ne {d : Nat → α} {m : NMap α} {q : Nat} (h : mget d m q ≠ d q) : q ∈ mkeys m := by
  cases hf : mfind m q with
  | none => exact absurd (by rw [mget, hf]; rfl) h
  | some v => exact mem_mkeys_of_mfind hf

/-- A write at a listed key, or of what an unlisted key reads as, lists no further key. -/
theorem mkeys_mset_subset [DecidableEq α] {d : Nat → α} {m : NMap α} {q : Nat} {v : α} (h : v ≠ d q → q ∈ mkeys m) :
    mkeys (mset d m q v) ⊆ mkeys m := by
  unfold mset
  split_ifs with hv
  · exact mkeys_mdel_subset m q
  · exact mkeys_mput_subset (h hv) v

/-- VALID cleared in the tag at a key lists no further key. -/
theorem mkeys_mset_clear (m : NMap Nat) (q : Nat) :
    mkeys (mset (fun _ => 0) m q (natSetBit (mget (fun _ => 0) m q) 0 false)) ⊆ mkeys m := by
  refine mkeys_mset_subset fun hg => mem_mkeys_of_mget_ne (d := fun _ => 0) fun h0 => hg ?_
  rw [h0]
  rfl

end

/-! ### Geometry (R121, R122, R127) -/

/-- Table `t` has the same geometry and the same slice of the overflow store. -/
structure SameGeometry (t : Nat) (s u : State) : Prop where
  geo : emtGeo u t = emtGeo s t
  slice : reg u (pa pgEmt (offEMT_TBL_OVF t)) = reg s (pa pgEmt (offEMT_TBL_OVF t))

section
variable {t : Nat} {s u v : State}

theorem SameGeometry.refl (s : State) : SameGeometry t s s := ⟨rfl, rfl⟩

theorem SameGeometry.trans (h : SameGeometry t s u) (h' : SameGeometry t u v) : SameGeometry t s v :=
  ⟨h'.geo.trans h.geo, h'.slice.trans h.slice⟩

theorem SameGeometry.n (h : SameGeometry t s u) : emtN u t = emtN s t := by rw [emtN, h.geo]; rfl

theorem SameGeometry.bps (h : SameGeometry t s u) : emtBps u t = emtBps s t := by rw [emtBps, h.n]; rfl

theorem SameGeometry.buckets (h : SameGeometry t s u) : emtBuckets u t = emtBuckets s t := by
  rw [emtBuckets, h.geo, h.bps]; rfl

theorem SameGeometry.ovfBase (h : SameGeometry t s u) : emtOvfBase u t = emtOvfBase s t := by
  rw [emtOvfBase, regF, h.slice]; rfl

theorem SameGeometry.ovfEntries (h : SameGeometry t s u) : emtOvfEntries u t = emtOvfEntries s t := by
  rw [emtOvfEntries, regF, h.slice, h.n]; rfl

theorem SameGeometry.isOvf (h : SameGeometry t s u) (x : Nat) : emtIsOvf u t x = emtIsOvf s t x := by
  rw [emtIsOvf, h.buckets]; rfl

theorem SameGeometry.ovfSlot (h : SameGeometry t s u) (x : Nat) : emtOvfSlot u t x = emtOvfSlot s t x := by
  rw [emtOvfSlot, h.ovfBase, h.buckets, h.n]; rfl

theorem SameGeometry.quarter (h : SameGeometry t s u) (b j i : Nat) : emtQuarter u t b j i = emtQuarter s t b j i := by
  rw [emtQuarter, h.bps, h.n, h.geo]; rfl

/-- A tag is where the geometry puts it. -/
theorem SameGeometry.emtTag (h : SameGeometry t s u) (htag : u.emt.tag = s.emt.tag) (hovf : u.emt.ovfTag = s.emt.ovfTag)
    (x : Nat) : emtTag u t x = Machine.emtTag s t x := by
  rw [Machine.emtTag, h.isOvf, h.ovfSlot, h.quarter, htag, hovf]; rfl

end

/-! ### Tags -/

/-- A write of a tag touches the tags alone. -/
theorem setEmtTag_eq (t x g : Nat) (s : State) : setEmtTag t x g s =
    { s with emt := { s.emt with tag := (setEmtTag t x g s).emt.tag, ovfTag := (setEmtTag t x g s).emt.ovfTag } } := by
  unfold setEmtTag
  split_ifs <;> rfl

theorem setEmtTag_ovf {s : State} {t x : Nat} (h : emtIsOvf s t x = true) (g : Nat) : setEmtTag t x g s =
    { s with emt := { s.emt with ovfTag := mset (fun _ => 0) s.emt.ovfTag (emtOvfSlot s t x) g } } := if_pos h

theorem setEmtTag_slot {s : State} {t x : Nat} (h : ¬ emtIsOvf s t x = true) (g : Nat) : setEmtTag t x g s =
    { s with emt := { s.emt with tag := mset (fun _ => 0) s.emt.tag (emtQuarter s t (x / 4) (x % 4) 0) g } } := if_neg h

theorem emtTag_ovf {s : State} {t x : Nat} (h : emtIsOvf s t x = true) :
    emtTag s t x = mget (fun _ => 0) s.emt.ovfTag (emtOvfSlot s t x) := if_pos h

theorem emtTag_slot {s : State} {t x : Nat} (h : ¬ emtIsOvf s t x = true) :
    emtTag s t x = mget (fun _ => 0) s.emt.tag (emtQuarter s t (x / 4) (x % 4) 0) := if_neg h

theorem sameGeometry_setEmtTag (t x g : Nat) (s : State) : SameGeometry t s (setEmtTag t x g s) := by
  rw [setEmtTag_eq]
  exact ⟨rfl, rfl⟩

/-- An INDEX reads the tag last written to it. -/
theorem emtTag_setEmtTag_same (t x g : Nat) (s : State) : emtTag (setEmtTag t x g s) t x = g := by
  have hgeo := sameGeometry_setEmtTag t x g s
  by_cases hx : emtIsOvf s t x = true
  · rw [emtTag_ovf ((hgeo.isOvf x).trans hx), hgeo.ovfSlot, setEmtTag_ovf hx]
    exact mget_mset_same _ _ _ _
  · rw [emtTag_slot (by rwa [hgeo.isOvf]), hgeo.quarter, setEmtTag_slot hx]
    exact mget_mset_same _ _ _ _

/-- Any INDEX reads the tag written, or what it read before. -/
theorem emtTag_setEmtTag (t x y g : Nat) (s : State) :
    emtTag (setEmtTag t x g s) t y = g ∨ emtTag (setEmtTag t x g s) t y = emtTag s t y := by
  have hgeo := sameGeometry_setEmtTag t x g s
  by_cases hy : emtIsOvf s t y = true
  · rw [emtTag_ovf ((hgeo.isOvf y).trans hy), emtTag_ovf hy, hgeo.ovfSlot]
    by_cases hx : emtIsOvf s t x = true
    · rw [setEmtTag_ovf hx, mget_mset]
      split_ifs <;> simp
    · rw [setEmtTag_slot hx]; exact .inr rfl
  · rw [emtTag_slot (by rwa [hgeo.isOvf]), emtTag_slot hy, hgeo.quarter]
    by_cases hx : emtIsOvf s t x = true
    · rw [setEmtTag_ovf hx]; exact .inr rfl
    · rw [setEmtTag_slot hx, mget_mset]
      split_ifs <;> simp

/-- A tag with VALID 0 is of no entry (R125). -/
theorem tagUsed_of_valid {g : Nat} (h : g.testBit 0 = false) : tagUsed g = false := by rw [tagUsed, h]; rfl

/-! ### Entries removed (R138) -/

theorem valid_emtRemove_same (t x : Nat) (s : State) : (emtTag (emtRemove t x s) t x).testBit 0 = false := by
  rw [emtRemove, emtTag_setEmtTag_same, testBit_natSetBit_same]

/-- A removal sets VALID nowhere. -/
theorem valid_emtRemove (t x y : Nat) (s : State) (h : (emtTag s t y).testBit 0 = false) :
    (emtTag (emtRemove t x s) t y).testBit 0 = false := by
  rcases emtTag_setEmtTag t x y (natSetBit (emtTag s t x) 0 false) s with hg | hg
  · rw [emtRemove, hg, testBit_natSetBit_same]
  · rw [emtRemove, hg, h]

/-- Entries of table `t` were taken out, and none was put in. -/
structure Fewer (t : Nat) (s u : State) : Prop extends SameGeometry t s u where
  tag : mkeys u.emt.tag ⊆ mkeys s.emt.tag
  ovfTag : mkeys u.emt.ovfTag ⊆ mkeys s.emt.ovfTag

section
variable {t : Nat} {s u v : State}

theorem Fewer.refl (s : State) : Fewer t s s := ⟨.refl s, List.Subset.refl _, List.Subset.refl _⟩

theorem Fewer.trans (h : Fewer t s u) (h' : Fewer t u v) : Fewer t s v :=
  ⟨h.toSameGeometry.trans h'.toSameGeometry, fun _ hk => h.tag (h'.tag hk), fun _ hk => h.ovfTag (h'.ovfTag hk)⟩

theorem fewer_emtRemove (t x : Nat) (s : State) : Fewer t s (emtRemove t x s) := by
  refine ⟨sameGeometry_setEmtTag _ _ _ s, ?_, ?_⟩ <;> unfold emtRemove <;> by_cases hx : emtIsOvf s t x = true
  · rw [setEmtTag_ovf hx]; exact List.Subset.refl _
  · rw [setEmtTag_slot hx, emtTag_slot hx]
    exact mkeys_mset_clear _ _
  · rw [setEmtTag_ovf hx, emtTag_ovf hx]
    exact mkeys_mset_clear _ _
  · rw [setEmtTag_slot hx]; exact List.Subset.refl _

/-- No INDEX comes to be listed. -/
theorem Fewer.listed (h : Fewer t s u) {x : Nat} (hx : x ∈ emtSlotsListed u t ++ emtOvfListed u t) :
    x ∈ emtSlotsListed s t ++ emtOvfListed s t := by
  rw [List.mem_append] at hx ⊢
  refine hx.imp (fun hslot => ?_) (fun hovf => ?_)
  · simp only [emtSlotsListed, mem_sortBy, h.n, h.bps, h.geo, List.mem_filterMap] at hslot ⊢
    obtain ⟨k, hk, heq⟩ := hslot
    exact ⟨k, h.tag hk, heq⟩
  · simp only [emtOvfListed, h.n, h.ovfBase, h.ovfEntries, h.buckets, List.mem_map, List.mem_filter] at hovf ⊢
    obtain ⟨k, ⟨hk, hin⟩, heq⟩ := hovf
    exact ⟨k, ⟨h.ovfTag hk, hin⟩, heq⟩

/-- A table whose listed slots all show VALID 0 has no entry. -/
theorem Fewer.emtUsed_eq_nil (h : Fewer t s u)
    (hvalid : ∀ x ∈ emtSlotsListed s t ++ emtOvfListed s t, (Machine.emtTag u t x).testBit 0 = false) : emtUsed u t = [] := by
  rw [emtUsed, List.filter_eq_nil_iff]
  intro x hx
  rw [tagUsed_of_valid (hvalid x (h.listed hx))]
  exact Bool.false_ne_true

end

end Sys2Proof.Machine
end

section
/-!
PROOFS. The clears of a table and the visits of the aging sweep (R129, R144, R145, R152).
-/

namespace Sys2Proof.Machine
open Sys2Proof

/-! ### Words that the upkeep of the tables writes -/

@[simp] theorem raiseIrq_emt (page bit : Nat) (s : State) : (raiseIrq page bit s).emt = s.emt := by rw [onlyNoted_raiseIrq]

theorem ctr_count_other (page off a : Nat) (s : State) (h : a ≠ pa page off) : ctr (count page off s) a = ctr s a :=
  ctr_setCtr_other _ _ _ _ h

/-- The words of page 0x040 that the upkeep of a table writes: the interrupt, the tail of the Learn Queue, and the status of a table. -/
def UpkeepWord (a : Nat) : Prop := a = pa pgEmt offIRQ_STS ∨ a = pa pgEmt offLQ_TAIL ∨ ∃ t, a = pa pgEmt (offEMT_TBL_STS t)

theorem not_noise_emt {off : Nat} (ho : off < 0x1000) : ¬ Noise (pa pgEmt off) := by
  have hpage : pageOf (pa pgEmt off) = pgEmt := pageOf_pa _ _ ho
  exact not_noise_of_page (by rw [hpage]; decide) (by rw [hpage]; decide) (by rw [hpage]; decide)

/-- The configuration words of the tables lie beside them. -/
theorem not_upkeepWord {off : Nat} (hlo : 0x100 ≤ off) (hhi : off < 0x500) : ¬ UpkeepWord (pa pgEmt off) := by
  rintro (h | h | ⟨t, h⟩) <;> simp only [pa, offIRQ_STS, offLQ_TAIL, offEMT_TBL_STS] at h <;> omega

theorem SameGeometry.of_keepsRegs {s u : State} {t : Nat} (ht : t < 64) (h : KeepsRegs UpkeepWord s u) : SameGeometry t s u := by
  have hword : ∀ off, 0x100 ≤ off → off < 0x500 → reg u (pa pgEmt off) = reg s (pa pgEmt off) := fun off hlo hhi =>
    h.reg _ (not_noise_emt (by omega)) (not_upkeepWord hlo hhi)
  exact ⟨hword _ (by simp only [offEMT_TBL_GEO]; omega) (by simp only [offEMT_TBL_GEO]; omega),
    hword _ (by simp only [offEMT_TBL_OVF]; omega) (by simp only [offEMT_TBL_OVF]; omega)⟩

/-! ### The clear of an exact-match table (R129) -/

/-- Table `t` with VALID 0 in every slot listed. -/
def emtEmptied (t : Nat) (s : State) : State := forAll (emtRemove t) (emtSlotsListed s t ++ emtOvfListed s t) s

theorem emtClearDone_clearing {s : State} {t : Nat} (h : emtClearing s t = true) : emtClearDone t s =
    raiseIrq pgEmt 3 (setRegB (pa pgEmt (offEMT_TBL_STS t)) fEMT_TBL_STS_CLEARING false (emtEmptied t s)) := by
  rw [emtClearDone, h, Bool.not_true, if_neg Bool.false_ne_true]
  rfl

theorem fewer_emtEmptied (t : Nat) (s : State) : Fewer t s (emtEmptied t s) :=
  forAll_rel Fewer.refl (fun _ _ _ => Fewer.trans) (fewer_emtRemove t) _ s

theorem valid_emtEmptied (t : Nat) (s : State) :
    ∀ x ∈ emtSlotsListed s t ++ emtOvfListed s t, (emtTag (emtEmptied t s) t x).testBit 0 = false :=
  forAll_establishes (P := fun x u => (emtTag u t x).testBit 0 = false) (valid_emtRemove_same t) (valid_emtRemove t) _ s

/-- The end of the clear writes the table's status and raises the interrupt. -/
theorem keepsRegs_clearDone (t : Nat) (s : State) : KeepsRegs UpkeepWord (emtEmptied t s)
    (raiseIrq pgEmt 3 (setRegB (pa pgEmt (offEMT_TBL_STS t)) fEMT_TBL_STS_CLEARING false (emtEmptied t s))) :=
  (((Aside.refl _).setRegF (.inr (.inr (.inr ⟨t, rfl⟩))) _ _).raiseIrq (.inr (.inl rfl)) 3).toKeepsRegs

theorem emtUsed_clearDone {s : State} {t : Nat} (ht : t < 64) (h : emtClearing s t = true) : emtUsed (emtClearDone t s) t = [] := by
  rw [emtClearDone_clearing h]
  have hgeo := SameGeometry.of_keepsRegs ht (keepsRegs_clearDone t s)
  have hfewer := fewer_emtEmptied t s
  refine Fewer.emtUsed_eq_nil (s := s) ⟨hfewer.toSameGeometry.trans hgeo, ?_, ?_⟩ fun x hx => ?_
  · rw [raiseIrq_emt, setRegB_emt]; exact hfewer.tag
  · rw [raiseIrq_emt, setRegB_emt]; exact hfewer.ovfTag
  · rw [hgeo.emtTag (by rw [raiseIrq_emt, setRegB_emt]) (by rw [raiseIrq_emt, setRegB_emt])]
    exact valid_emtEmptied t s x hx

theorem emtClearing_clearDone {s : State} {t : Nat} (ht : t < 64) (h : emtClearing s t = true) :
    emtClearing (emtClearDone t s) t = false := by
  rw [emtClearDone_clearing h, emtClearing, regB]
  have hraise := ((Aside.refl (W := (· = pa pgEmt offIRQ_STS))
    (setRegB (pa pgEmt (offEMT_TBL_STS t)) fEMT_TBL_STS_CLEARING false (emtEmptied t s))).raiseIrq (.inr rfl) 3).reg
    (pa pgEmt (offEMT_TBL_STS t)) (not_noise_emt (by simp only [offEMT_TBL_STS]; omega))
    (pa_ne _ _ _ (by simp only [offEMT_TBL_STS, offIRQ_STS]; omega))
  rw [hraise]
  exact regB_setRegB_same _ _ 23 false (by decide)

/-! ### The clear of a Thicket table (R152) -/

@[simp] theorem raiseIrq_thk (page bit : Nat) (s : State) : (raiseIrq page bit s).thk = s.thk := by rw [onlyNoted_raiseIrq]

theorem thkRow_setThkRow (k j : Nat) (r : ThkRow) (s : State) :
    thkRow (setThkRow k r s) j = if j = k then r else thkRow s j := mget_mset _ _ _ _ _

/-- A bank row nothing lists reads as reset. -/
theorem thkRow_unlisted {s : State} {k : Nat} (h : k ∉ mkeys s.thk.rows) : thkRow s k = thkRowReset k := by
  by_contra hne
  exact h (mem_mkeys_of_mget_ne hne)

/-- A bank row's VALID bit cleared. -/
def thkRowClear (k : Nat) (s : State) : State := setThkRow k { thkRow s k with tag := natSetBit (thkRow s k).tag 0 false } s

theorem valid_thkRowClear_same (k : Nat) (s : State) : (thkRow (thkRowClear k s) k).tag.testBit 0 = false := by
  rw [thkRowClear, thkRow_setThkRow, if_pos rfl, testBit_natSetBit_same]

/-- A clear sets VALID nowhere. -/
theorem valid_thkRowClear (k j : Nat) (s : State) (h : (thkRow s j).tag.testBit 0 = false) :
    (thkRow (thkRowClear k s) j).tag.testBit 0 = false := by
  rw [thkRowClear, thkRow_setThkRow]
  split_ifs
  · rw [testBit_natSetBit_same]
  · exact h

/-- The rows listed in the banks of Thicket table `t`. -/
def thkRowsListed (s : State) (t : Nat) : List Nat :=
  (mkeys s.thk.rows).filter (fun k => thkFirstBank s t 0 ≤ k / 2048 && k / 2048 < thkFirstBank s t (thkCopies s t))

/-- Thicket table `t` with VALID 0 in every row of its banks. -/
def thkEmptied (t : Nat) (s : State) : State := forAll thkRowClear (thkRowsListed s t) s

theorem thkClearDone_clearing {s : State} {t : Nat} (h : thkClearing s t = true) : thkClearDone t s =
    raiseIrq pgThk 1 (setRegB (pa pgThk (offTHK_TBL_STS t)) fTHK_TBL_STS_CLEARING false (thkEmptied t s)) := by
  rw [thkClearDone, h, Bool.not_true, if_neg Bool.false_ne_true]
  rfl

theorem valid_thkEmptied {s : State} {t k : Nat} (hlo : thkFirstBank s t 0 ≤ k / 2048)
    (hhi : k / 2048 < thkFirstBank s t (thkCopies s t)) : (thkRow (thkEmptied t s) k).tag.testBit 0 = false := by
  by_cases hk : k ∈ mkeys s.thk.rows
  · exact forAll_establishes (P := fun k u => (thkRow u k).tag.testBit 0 = false) valid_thkRowClear_same valid_thkRowClear _ s k
      (List.mem_filter.mpr ⟨hk, by simp [hlo, hhi]⟩)
  · refine forAll_rel (R := fun u v => (thkRow u k).tag.testBit 0 = false → (thkRow v k).tag.testBit 0 = false) (fun _ => id)
      (fun _ _ _ h h' => h' ∘ h) (fun j u => valid_thkRowClear j k u) _ s ?_
    rw [thkRow_unlisted hk, thkRowReset, Nat.zero_testBit]

theorem thkRow_clearDone {s : State} {t k : Nat} (h : thkClearing s t = true) :
    thkRow (thkClearDone t s) k = thkRow (thkEmptied t s) k := by
  rw [thkClearDone_clearing h, thkRow, raiseIrq_thk, setRegB_thk, thkRow]

theorem thkClearing_clearDone {s : State} {t : Nat} (ht : t < 64) (h : thkClearing s t = true) :
    thkClearing (thkClearDone t s) t = false := by
  have hlt : offTHK_TBL_STS t < 0x1000 := by simp only [offTHK_TBL_STS]; omega
  have hpage : pageOf (pa pgThk (offTHK_TBL_STS t)) = pgThk := pageOf_pa _ _ hlt
  rw [thkClearDone_clearing h, thkClearing, regB]
  have hraise := ((Aside.refl (W := (· = pa pgThk offIRQ_STS))
    (setRegB (pa pgThk (offTHK_TBL_STS t)) fTHK_TBL_STS_CLEARING false (thkEmptied t s))).raiseIrq (.inr rfl) 1).reg
    (pa pgThk (offTHK_TBL_STS t))
    (not_noise_of_page (by rw [hpage]; decide) (by rw [hpage]; decide) (by rw [hpage]; decide))
    (pa_ne _ _ _ (by simp only [offTHK_TBL_STS, offIRQ_STS]; omega))
  rw [hraise]
  exact regB_setRegB_same _ _ 30 false (by decide)

/-! ### Notices of the sweep (R140 to R142) -/

/-- A notice enters the queue, and the tables stay as they are. -/
theorem emt_lqPush (n : Nat) (s : State) : (lqPush n s).emt = { s.emt with lq := (lqPush n s).emt.lq } := by
  unfold lqPush
  dsimp only
  split_ifs
  · rw [raiseIrq_emt]; rfl
  · rw [raiseIrq_emt]; rfl
  · rfl

theorem keepsRegs_lqPush (n : Nat) (s : State) : KeepsRegs UpkeepWord s (lqPush n s) := by
  have htail : ∀ v l, Aside UpkeepWord s
      (count pgEmt cEmt_LQ_ENQ (setReg (pa pgEmt offLQ_TAIL) v { s with emt := { s.emt with lq := l } })) := fun v l =>
    (((Aside.of_same rfl).setReg (.inr (.inr (.inl rfl))) v).same (aside_count _ _ _))
  unfold lqPush
  dsimp only
  split_ifs
  · exact (Aside.raiseIrq (.of_same (aside_count _ _ _)) (.inr (.inl rfl)) 1).toKeepsRegs
  · exact ((htail _ _).raiseIrq (.inr (.inl rfl)) 0).toKeepsRegs
  · exact (htail _ _).toKeepsRegs

/-- The queue counts what enters it and what it discards, and nothing else. -/
theorem ctr_lqPush {a : Nat} (henq : a ≠ pa pgEmt cEmt_LQ_ENQ) (hdrop : a ≠ pa pgEmt cEmt_LQ_DROP_FULL) (n : Nat) (s : State) :
    ctr (lqPush n s) a = ctr s a := by
  unfold lqPush
  dsimp only
  split_ifs
  · rw [ctr_raiseIrq, ctr_count_other _ _ _ _ hdrop]
  · rw [ctr_raiseIrq, ctr_count_other _ _ _ _ henq]; rfl
  · rw [ctr_count_other _ _ _ _ henq]; rfl

/-- An AGED notice is no LEARN notice, and passes no filter. -/
theorem lqEnter_aged (t memb prt payload : Nat) (s : State) :
    lqEnter (notice 3 t memb prt payload) s = lqPush (notice 3 t memb prt payload) s := by
  have htype : notice 3 t memb prt payload % 16 = 3 := by unfold notice; omega
  rw [lqEnter, if_neg (by omega)]

theorem emtTag_lqPush {t : Nat} (ht : t < 64) (n x : Nat) (s : State) : emtTag (lqPush n s) t x = emtTag s t x :=
  (SameGeometry.of_keepsRegs ht (keepsRegs_lqPush n s)).emtTag (by rw [emt_lqPush]) (by rw [emt_lqPush]) x

/-! ### A visit of the sweep (R144, R145) -/

/-- The notice of an entry at its limit. -/
def agedNotice (s : State) (t x : Nat) (remove : Bool) : Nat :=
  notice 3 t (tagMemb (emtTag s t x)) 0 (agedPayload x (emtImage s t x) remove)

/-- AGE_LIMIT and AGE_MODE of table `t`. -/
def ageLimit (s : State) (t : Nat) : Nat := fget (live s (pa pgEmt (offEMT_TBL_AGE t))) fEMT_TBL_AGE_AGE_LIMIT
def ageRemoves (s : State) (t : Nat) : Bool := fbit (live s (pa pgEmt (offEMT_TBL_AGE t))) fEMT_TBL_AGE_AGE_MODE

section
variable {s : State} {t x : Nat}

theorem ageEntry_static (h : tagStatic (emtTag s t x) = true) : ageEntry t x s = s := by simp [ageEntry, h]

section
variable (hused : tagUsed (emtTag s t x) = true) (hstatic : tagStatic (emtTag s t x) = false)
include hused hstatic

theorem ageEntry_hit (h : tagHit (emtTag s t x) = true) :
    ageEntry t x s = setEmtTag t x (mkTag (tagMemb (emtTag s t x)) false false 0) s := by
  simp [ageEntry, hused, hstatic, h]

variable (hhit : tagHit (emtTag s t x) = false)
include hhit

theorem ageEntry_grows (h : tagAge (emtTag s t x) < ageLimit s t) : ageEntry t x s =
    setEmtTag t x (mkTag (tagMemb (emtTag s t x)) false false (tagAge (emtTag s t x) + 1)) s := by
  rw [ageLimit] at h
  simp [ageEntry, hused, hstatic, hhit, h]

theorem ageEntry_beyond (hmode : ageRemoves s t = true) (h : ageLimit s t < tagAge (emtTag s t x)) : ageEntry t x s = s := by
  rw [ageLimit] at h
  rw [ageRemoves] at hmode
  simp [ageEntry, hused, hstatic, hhit, hmode, Nat.not_lt.mpr h.le, h.ne']

theorem ageEntry_removed (hmode : ageRemoves s t = true) (h : tagAge (emtTag s t x) = ageLimit s t) :
    ageEntry t x s = count pgEmt cEmt_AGED_REMOVED (lqPush (agedNotice s t x true) (emtRemove t x s)) := by
  rw [ageLimit] at h
  rw [ageRemoves] at hmode
  simp [ageEntry, hused, hstatic, hhit, hmode, h, lqEnter_aged, agedNotice]

theorem ageEntry_notified (hmode : ageRemoves s t = false) (h : ageLimit s t ≤ tagAge (emtTag s t x)) :
    ageEntry t x s = count pgEmt cEmt_AGED_NOTIFY (lqPush (agedNotice s t x false) s) := by
  rw [ageLimit] at h
  rw [ageRemoves] at hmode
  simp [ageEntry, hused, hstatic, hhit, hmode, Nat.not_lt.mpr h, lqEnter_aged, agedNotice]

end

end

/-! ### The sweep -/

/-- The next sweep of table `t` is due at `next`. -/
def sweepSet (t next : Nat) (s : State) : State :=
  { s with emt := { s.emt with sweepAt := mset (fun _ => 0) s.emt.sweepAt t next } }

/-- The sweep of a table with one entry in use visits it and sets its next instant. -/
theorem agingSweep_single {s : State} {t x : Nat} (hon : emtOn s t = true) (hclear : emtClearing s t = false)
    (hen : fbit (live s (pa pgEmt (offEMT_TBL_AGE t))) fEMT_TBL_AGE_AGE_EN = true)
    (hdue : mget (fun _ => 0) s.emt.sweepAt t ≤ now s) (hret : liveB s (pa pgEmt offLQ_CFG) fLQ_CFG_OVF_RET = false)
    (hused : emtUsed s t = [x]) : agingSweep t s =
    sweepSet t (now s + fget (live s (pa pgEmt (offEMT_TBL_AGE t))) fEMT_TBL_AGE_TICK_MS * tMs) (ageEntry t x s) := by
  simp [agingSweep, hon, hclear, hen, Nat.not_lt.mpr hdue, hret, hused, forAll, sweepSet]

end Sys2Proof.Machine
end

section
/-!
PROOFS. The clears and the sweep as commands (R129, R144, R145, R152).
-/

namespace Sys2Proof.Machine
open Sys2Proof

theorem exec_tableClearDone (t : Nat) (s : State) : exec (.tableClearDone t) s = act (emtClearDone t) s := rfl
theorem exec_thkTableClearDone (t : Nat) (s : State) : exec (.thkTableClearDone t) s = act (thkClearDone t) s := rfl
theorem exec_agingSweep (t : Nat) (s : State) : exec (.agingSweep t) s = act (agingSweep t) s := rfl

/-! ### Tables beside the pins that the board drives -/

section
variable (s u : State) (t x : Nat)

@[simp] theorem emtClearing_boardKeeps : emtClearing (boardKeeps s u) t = emtClearing u t := rfl
@[simp] theorem emtUsed_boardKeeps : emtUsed (boardKeeps s u) t = emtUsed u t := rfl
@[simp] theorem emtTag_boardKeeps : emtTag (boardKeeps s u) t x = emtTag u t x := rfl
@[simp] theorem thkClearing_boardKeeps : thkClearing (boardKeeps s u) t = thkClearing u t := rfl
@[simp] theorem thkRow_boardKeeps : thkRow (boardKeeps s u) x = thkRow u x := rfl

end

/-! ### What the sweep has done -/

section
variable (s : State) (t x next : Nat)

theorem emtTag_sweepSet : emtTag (sweepSet t next s) t x = emtTag s t x := rfl
theorem ctr_sweepSet (a : Nat) : ctr (sweepSet t next s) a = ctr s a := rfl
theorem emtTag_count (page off : Nat) : emtTag (count page off s) t x = emtTag s t x := rfl

theorem sweepAt_sweepSet : mget (fun _ => 0) (sweepSet t next s).emt.sweepAt t = next := mget_mset_same _ _ _ _

end

/-- The visit leaves an entry that is not static, and has not been hit, as its age says (R144, R145). -/
def Aged (s : State) (t x : Nat) (u : State) : Prop :=
  (ageRemoves s t = true → ageLimit s t < tagAge (emtTag s t x) → emtTag u t x = emtTag s t x) ∧
  (ageRemoves s t = true → tagAge (emtTag s t x) = ageLimit s t → tagUsed (emtTag u t x) = false ∧
    ctr u (pa pgEmt cEmt_AGED_REMOVED) = Nat.min maxCtr (ctr s (pa pgEmt cEmt_AGED_REMOVED) + 1)) ∧
  (ageRemoves s t = false → emtTag u t x = emtTag s t x ∧
    ctr u (pa pgEmt cEmt_AGED_NOTIFY) = Nat.min maxCtr (ctr s (pa pgEmt cEmt_AGED_NOTIFY) + 1))

theorem aged_ageEntry {s : State} {t x : Nat} (ht : t < 64) (hused : tagUsed (emtTag s t x) = true)
    (hstatic : tagStatic (emtTag s t x) = false) (hhit : tagHit (emtTag s t x) = false)
    (hlimit : ageLimit s t ≤ tagAge (emtTag s t x)) : Aged s t x (ageEntry t x s) := by
  refine ⟨fun hmode h => ?_, fun hmode h => ?_, fun hmode => ?_⟩
  · rw [ageEntry_beyond hused hstatic hhit hmode h]
  · rw [ageEntry_removed hused hstatic hhit hmode h]
    refine ⟨?_, ?_⟩
    · rw [emtTag_count, emtTag_lqPush ht]
      exact tagUsed_of_valid (valid_emtRemove_same t x s)
    · rw [ctr_count_same, ctr_lqPush (pa_ne _ _ _ (by decide)) (pa_ne _ _ _ (by decide)), emtRemove, setEmtTag_eq]
      rfl
  · rw [ageEntry_notified hused hstatic hhit hmode hlimit]
    refine ⟨?_, ?_⟩
    · rw [emtTag_count, emtTag_lqPush ht]
    · rw [ctr_count_same, ctr_lqPush (pa_ne _ _ _ (by decide)) (pa_ne _ _ _ (by decide))]

/-- Settles O46: a clear leaves VALID 0 in every slot listed and lists no further one; the sweep of a table with one entry is one visit,
taken by the entry's tag. -/
theorem tableClearAndAging : Obligations.TableClearAndAging := by
  unfold Obligations.TableClearAndAging
  intro s t hs ht
  refine ⟨fun hclear => gives_act hs (exec_tableClearDone t s) ?_,
    fun hclear => gives_act hs (exec_thkTableClearDone t s) ?_,
    fun hon hclear hen hdue hret x hone => gives_act hs (exec_agingSweep t s) ?_⟩
  · simp only [emtClearing_boardKeeps, emtUsed_boardKeeps, reg_boardKeeps]
    refine ⟨emtClearing_clearDone ht hclear, emtUsed_clearDone ht hclear, ?_⟩
    rw [emtClearDone_clearing hclear]
    exact testBit_raiseIrq pgEmt 3 _ (by decide)
  · simp only [thkClearing_boardKeeps, thkRow_boardKeeps, reg_boardKeeps]
    refine ⟨thkClearing_clearDone ht hclear, fun k hlo hhi => ?_, ?_⟩
    · rw [thkRow_clearDone hclear]
      exact valid_thkEmptied hlo hhi
    · rw [thkClearDone_clearing hclear]
      exact testBit_raiseIrq pgThk 1 _ (by decide)
  · have hused : tagUsed (emtTag s t x) = true := by
      have hmem : x ∈ emtUsed s t := by rw [hone]; exact List.mem_singleton_self x
      exact (List.mem_filter.mp hmem).2
    rw [agingSweep_single hon hclear hen hdue hret hone]
    rw [boardKeeps_emt, emtTag_boardKeeps, emtTag_sweepSet, ctr_boardKeeps, ctr_boardKeeps, ctr_sweepSet, ctr_sweepSet]
    refine ⟨sweepAt_sweepSet _ t _, fun hstatic => ?_, fun hstatic hhit => ?_, fun hstatic hhit hage => ?_,
      fun hstatic hhit hlimit => aged_ageEntry ht hused hstatic hhit hlimit⟩
    · rw [ageEntry_static hstatic]
    · rw [ageEntry_hit hused hstatic hhit, emtTag_setEmtTag_same]
    · rw [ageEntry_grows hused hstatic hhit hage, emtTag_setEmtTag_same]

end Sys2Proof.Machine
end

section
/-!
PROOFS. Two statements about lookups and exact-match tables that fail, each with the state that shows it. They speak of every state, and so
of one whose geometry holds a reserved encoding (R128) and of one whose map of threads is not in the canonical form of a map.
-/

namespace Sys2Proof.Machine
open Sys2Proof

/-! ### An entry wider than a command's data -/

/-- WRITE of INDEX 0 in exact-match table 0, with 96 bytes of data that are 0. -/
def zeroWriteCmd : TaeCmd := ⟨mkTaeCmdAt opWrite 1 0 3 0 0 65 [], 0⟩

/-- Table 0 is enabled with WIDTH 3, which R128 reserves: an entry of 128 bytes. The command waits in the Sapwood queue. -/
def reservedWidth : State :=
  setReg (pa pgEmt (offEMT_TBL_GEO 0)) (mkWord [(fEMT_TBL_GEO_ENABLE, 1), (fEMT_TBL_GEO_WIDTH, 3), (fEMT_TBL_GEO_KEY_BYTES, 8)])
    { booted with tae := { booted.tae with sapQ := [zeroWriteCmd] } }

theorem reservedWidth_meets :
    stopped reservedWidth = false ∧ taeNext reservedWidth 1 = some zeroWriteCmd ∧ taeFormatOk zeroWriteCmd.bytes = true ∧
    tcSpace zeroWriteCmd.bytes = 1 ∧ emtOn reservedWidth (tcTable zeroWriteCmd.bytes) = true ∧
    emtClearing reservedWidth (tcTable zeroWriteCmd.bytes) = false ∧ tcLen zeroWriteCmd.bytes = 65 ∧
    emtPadOk reservedWidth (tcTable zeroWriteCmd.bytes) (tcData zeroWriteCmd.bytes) = true ∧
    tcOp zeroWriteCmd.bytes = opWrite ∧
    emtIndexOk reservedWidth (tcTable zeroWriteCmd.bytes) (tcIndex zeroWriteCmd.bytes) = true := by
  decide +kernel

/-- The entry written has 128 bytes, the data of a command 96. -/
theorem reservedWidth_image :
    shown (fun t => (emtImage t (tcTable zeroWriteCmd.bytes) (tcIndex zeroWriteCmd.bytes)).length)
      (exec (.write 1 false) reservedWidth) = some 128 ∧
    ((tcData zeroWriteCmd.bytes).take (16 * emtN reservedWidth (tcTable zeroWriteCmd.bytes))).length = 96 := by
  decide +kernel

/-- Refutes O43: of a table with the reserved WIDTH 3 an entry has 128 bytes, and a WRITE leaves it longer than the image that the
statement takes from the 96 bytes of the command. A write of EMT_TBL_GEO with that WIDTH is refused (R128), but the statement does
not exclude it. -/
theorem not_tableEngineOnExactMatchTables : ¬ Obligations.TableEngineOnExactMatchTables := by
  intro h
  obtain ⟨hrun, hnext, hformat, hspace, hon, hclear, hlen, hpad, hop, hindex⟩ := reservedWidth_meets
  obtain ⟨hdata, -⟩ := h reservedWidth 1 zeroWriteCmd hrun (by decide) hnext hformat hspace hon hclear
  obtain ⟨-, -, -, hwrite⟩ := hdata hlen hpad
  obtain ⟨t, hexec, -, himage, -⟩ := hwrite hop hindex
  obtain ⟨hshown, hlength⟩ := reservedWidth_image
  rw [shown_of_exec _ hexec, himage, hlength] at hshown
  exact absurd hshown (by decide)

/-! ### A map of threads out of order -/

/-- A thread at its first word, with 16 requests in the X5 queue of bank 0. -/
def searchingThread : Thread :=
  { threadReset 0 with st := .ready, pend := (List.range 16).map (fun g => ⟨1, true, false, 0, false, none, g, 1⟩) }

/-- Thread 0 is about to search Thicket table 0, of two copies of one bank; copy 0 alone holds an entry, and it matches every key. The map
lists thread 1 before thread 0, so that a write of thread 0 lists it a second time, and its requests count twice. -/
def threadsOutOfOrder : State :=
  let s := setReg (pa pgThk (offTHK_TBL_CFG 0))
    (mkWord [(fTHK_TBL_CFG_ENABLE, 1), (fTHK_TBL_CFG_COPIES, 2), (fTHK_TBL_CFG_DEPTH, 1)]) booted
  { s with
    disp := { s.disp with passes := [(0, passReset)] }
    grv := { s.grv with cs := [(0, 2 * 2 ^ 65)], threads := [(1, threadReset 1), (0, searchingThread)] }
    thk := { s.thk with rows := [(0, ⟨0, 0, 7, mkThkTag 1 0 0⟩)] } }

theorem threadsOutOfOrder_meets :
    stopped threadsOutOfOrder = false ∧ passOf threadsOutOfOrder 0 = some passReset ∧
    issuing threadsOutOfOrder 0 = some 0 ∧ (mwSpace (wordOf threadsOutOfOrder 0) == 2) = true ∧
    fieldDue (thread threadsOutOfOrder 0) (wordOf threadsOutOfOrder 0) 2 = true ∧ wordGoesOn threadsOutOfOrder 0 = true ∧
    mwPred (wordOf threadsOutOfOrder 0) = false := by
  decide +kernel

/-- The key that thread 0 of the state asks for. -/
def askedKey : Nat :=
  let s := threadsOutOfOrder
  let w := wordOf s 0
  beNat (padTo (if thkWide (thkCfg s (mwTable w)) = 1 then 40 else 20)
    (templateBytes s passReset (wordThread s 0) (mwImm w) (mwTemplate w)))

/-- Before the word begins copy 0 has room, and the search hits; when the lookup has begun the copy counts as full, and the search of copy
1 misses. -/
theorem threadsOutOfOrder_hit :
    (thkSearch (mwTable (wordOf threadsOutOfOrder 0)) askedKey passReset.epoch false
      (x5CopyFull threadsOutOfOrder (mwTable (wordOf threadsOutOfOrder 0))) threadsOutOfOrder).1.1 = true ∧
    shown (fun u => (thread u 0).pend.getLast?.map (fun x => x.hit)) (exec (.lookupThicket 0 false) threadsOutOfOrder) =
      some (some false) := by
  decide +kernel

/-- Refutes O38: in a state whose map of threads is not in order a thread written is listed twice, its requests fill the X5 queue of
the copy that the statement's search takes, and the lookup goes to the other copy. A write keeps the canonical form of a map
(`mwf_mset`), but the statement does not ask for it. -/
theorem not_lookupsReachResultRegisters : ¬ Obligations.LookupsReachResultRegisters := by
  intro h
  obtain ⟨hrun, hpass, hissue, hspace, hdue, hgoes, hpred⟩ := threadsOutOfOrder_meets
  obtain ⟨-, -, hthk, -⟩ := h threadsOutOfOrder 0 0 passReset hrun hpass
  obtain ⟨u, hexec, -, ⟨chan, hpend⟩, -⟩ := hthk ⟨hissue, hspace, hdue, hgoes⟩ fun hp => absurd (hpred.symm.trans hp) (by decide)
  obtain ⟨hhit, hshown⟩ := threadsOutOfOrder_hit
  rw [shown_of_exec _ hexec, hpend, List.getLast?_concat, Option.map_some] at hshown
  exact absurd (hhit.symm.trans (Option.some.inj (Option.some.inj hshown))) (by decide)

end Sys2Proof.Machine
end

section
/-!
PROOFS. The rows of a Thicket table (R148 to R150): what a write of an entry or of a tag reads as, in one copy and in every one, and that
it leaves all but rows and slots.
-/

namespace Sys2Proof.Machine
open Sys2Proof

/-! ### Rows alone -/

/-- Only rows of the Thicket changed, and the slots that their banks have taken (R148). -/
def OnlyRows (s t : State) : Prop := t = { s with thk := { s.thk with rows := t.thk.rows, slots := t.thk.slots } }

section
variable {s t u : State}

theorem onlyRows_refl (s : State) : OnlyRows s s := rfl

theorem OnlyRows.trans (h : OnlyRows s t) (h' : OnlyRows t u) : OnlyRows s u := Eq.trans h' (by rw [h])

theorem OnlyRows.forAll {α : Type} {f : α → State → State} (hf : ∀ x s, OnlyRows s (f x s)) (l : List α) (s : State) :
    OnlyRows s (Machine.forAll f l s) :=
  forAll_rel onlyRows_refl (fun _ _ _ h h' => h.trans h') hf l s

theorem onlyRows_setThkRow (k : Nat) (r : ThkRow) (s : State) : OnlyRows s (setThkRow k r s) := rfl

theorem onlyRows_setThkTag (t c x g : Nat) (s : State) : OnlyRows s (setThkTag t c x g s) := onlyRows_setThkRow _ _ s

theorem onlyRows_setThkEntry (t c x : Nat) (e : ThkRow) (s : State) : OnlyRows s (setThkEntry t c x e s) := by
  unfold setThkEntry
  dsimp only
  split_ifs
  · exact (onlyRows_setThkRow _ _ s).trans (onlyRows_setThkRow _ _ _)
  · exact onlyRows_setThkRow _ _ s

theorem onlyRows_thkWriteAll (t x : Nat) (e : ThkRow) (s : State) : OnlyRows s (thkWriteAll t x e s) :=
  .forAll (fun c u => onlyRows_setThkEntry t c x e u) _ s

theorem onlyRows_thkTagAll (t x g : Nat) (s : State) : OnlyRows s (thkTagAll t x g s) :=
  .forAll (fun c u => onlyRows_setThkTag t c x g u) _ s

theorem OnlyRows.tae (h : OnlyRows s t) : t.tae = s.tae := by rw [h]

theorem OnlyRows.reg (h : OnlyRows s t) (a : Nat) : reg t a = reg s a := by rw [h]; rfl

theorem OnlyRows.ctr (h : OnlyRows s t) (a : Nat) : ctr t a = ctr s a := by rw [h]; rfl

theorem OnlyRows.thkCfg (h : OnlyRows s t) (n : Nat) : thkCfg t n = thkCfg s n := h.reg _

theorem OnlyRows.thkCopies (h : OnlyRows s t) (n : Nat) : thkCopies t n = thkCopies s n := by
  rw [Machine.thkCopies, h.thkCfg]; rfl

end

/-! ### A table read in two states -/

/-- Table `t` has the same configuration and the Thicket the same rows. -/
structure SameTable (t : Nat) (s u : State) : Prop where
  cfg : thkCfg u t = thkCfg s t
  rows : u.thk.rows = s.thk.rows

section
variable {t : Nat} {s u : State} (h : SameTable t s u)
include h

theorem SameTable.ranked : thkRanked u t = thkRanked s t := by rw [thkRanked, h.cfg]; rfl

theorem SameTable.copies : thkCopies u t = thkCopies s t := by rw [thkCopies, h.cfg]; rfl

theorem SameTable.size : thkSize u t = thkSize s t := by rw [thkSize, thkDepth, h.cfg]; rfl

theorem SameTable.row (k : Nat) : thkRow u k = thkRow s k := by rw [thkRow, h.rows]; rfl

theorem SameTable.rowKey (c x : Nat) : thkRowKey u t c x = thkRowKey s t c x := by rw [thkRowKey, h.cfg]; rfl

theorem SameTable.entry (c x : Nat) : thkEntry u t c x = thkEntry s t c x := by
  simp only [thkEntry, h.rowKey, h.row, h.cfg]

theorem SameTable.used (c : Nat) : thkUsed u t c = thkUsed s t c := by simp only [thkUsed, h.cfg, h.rows]

theorem SameTable.prio (g : Nat) : thkPrio u t g = thkPrio s t g := by rw [thkPrio, h.ranked]; rfl

theorem SameTable.plan (p : Nat) : thkPlan u t p = thkPlan s t p := by
  simp only [thkPlan, h.used, h.size, h.prio, h.entry]

theorem SameTable.holders (rank : Nat) (data : Bytes) : thkHolders u t rank data = thkHolders s t rank data := by
  simp only [thkHolders, h.used, h.entry, h.ranked]

theorem SameTable.selected (memb rank : Nat) (data : Bytes) : thkSelected u t memb rank data = thkSelected s t memb rank data := by
  simp only [thkSelected, h.holders, h.entry]

theorem SameTable.returned (x : Nat) : thkReturn u t x = thkReturn s t x := by simp only [thkReturn, h.entry]

end

@[simp] theorem thkEntry_count (page off t c x : Nat) (s : State) :
    thkEntry (count page off s) t c x = thkEntry s t c x :=
  SameTable.entry (s := s) (u := count page off s) ⟨rfl, rfl⟩ c x

@[simp] theorem thkEntry_boardKeeps (s u : State) (t c x : Nat) : thkEntry (boardKeeps s u) t c x = thkEntry u t c x :=
  SameTable.entry (s := u) (u := boardKeeps s u) ⟨rfl, rfl⟩ c x

/-! ### One copy -/

section
variable (s : State) (t c x : Nat)

/-- Result word and tag of an entry stand in the row of its first bank (R149). -/
theorem thkEntry_tag : (thkEntry s t c x).tag = (thkRow s (thkRowKey s t c x)).tag := by
  unfold thkEntry; dsimp only; split_ifs <;> rfl

theorem thkEntry_result : (thkEntry s t c x).result = (thkRow s (thkRowKey s t c x)).result := by
  unfold thkEntry; dsimp only; split_ifs <;> rfl

/-- The low half of a value too. -/
theorem thkEntry_value : (thkEntry s t c x).value % 2 ^ 160 = (thkRow s (thkRowKey s t c x)).value % 2 ^ 160 := by
  unfold thkEntry
  dsimp only
  split_ifs
  · exact Nat.add_mul_mod_self_right _ _ _
  · rfl

/-- A row of an entry is a row of its position. -/
theorem thkRowKey_mod : thkRowKey s t c x % 2048 = x % 2048 := by simp only [thkRowKey]; omega

/-- In a wide table no copy's entry begins in the upper half of another's (R149, R150). -/
theorem thkRowKey_ne_upper (hwide : thkWide (thkCfg s t) = 1) (d : Nat) :
    thkRowKey s t d x ≠ thkRowKey s t c x + 2048 := by
  have hbanks : ∀ c, c * thkK (thkCfg s t) = 2 * (c * fget (thkCfg s t) fTHK_TBL_CFG_DEPTH) := fun c => by
    rw [thkK, hwide]; ring
  simp only [thkRowKey, hwide, hbanks]
  omega

end

section
variable {t c x g : Nat} {e : ThkRow} {s u : State}

/-- After a write of rows alone an entry's row is where it was. -/
theorem OnlyRows.thkRowKey (h : OnlyRows s u) (t c x : Nat) : thkRowKey u t c x = thkRowKey s t c x := by
  rw [Machine.thkRowKey, h.thkCfg]; rfl

/-- A row of an entry's first bank after a write of the entry. -/
theorem thkRow_setThkEntry {k : Nat} (hk : thkWide (thkCfg s t) = 1 → k ≠ thkRowKey s t c x + 2048) :
    thkRow (setThkEntry t c x e s) k =
      if k = thkRowKey s t c x then { e with value := e.value % 2 ^ 160, mask := e.mask % 2 ^ 160 } else thkRow s k := by
  unfold setThkEntry
  dsimp only
  by_cases hwide : thkWide (thkCfg s t) = 1
  · rw [if_pos hwide, thkRow_setThkRow, if_neg (hk hwide), thkRow_setThkRow]
  · rw [if_neg hwide, thkRow_setThkRow]

/-- The row that holds an entry, after a write of the entry. -/
theorem thkRow_setThkEntry_same : thkRow (setThkEntry t c x e s) (thkRowKey (setThkEntry t c x e s) t c x) =
    { e with value := e.value % 2 ^ 160, mask := e.mask % 2 ^ 160 } := by
  rw [(onlyRows_setThkEntry t c x e s).thkRowKey, thkRow_setThkEntry fun _ => by omega, if_pos rfl]

theorem tag_setThkEntry : (thkEntry (setThkEntry t c x e s) t c x).tag = e.tag := by
  rw [thkEntry_tag, thkRow_setThkEntry_same]

theorem result_setThkEntry : (thkEntry (setThkEntry t c x e s) t c x).result = e.result := by
  rw [thkEntry_result, thkRow_setThkEntry_same]

theorem value_setThkEntry : (thkEntry (setThkEntry t c x e s) t c x).value % 2 ^ 160 = e.value % 2 ^ 160 := by
  rw [thkEntry_value, thkRow_setThkEntry_same]
  exact Nat.mod_mod _ _

/-- The tag of an entry, after a write of the tag. -/
theorem tag_setThkTag : (thkEntry (setThkTag t c x g s) t c x).tag = g := by
  rw [thkEntry_tag, (onlyRows_setThkTag t c x g s).thkRowKey, setThkTag, thkRow_setThkRow, if_pos rfl]

end

/-! ### Every copy (R162) -/

section
variable {t x g : Nat} {e : ThkRow} {s : State}

/-- An entry written in one copy is, in any other, the entry written or the one that stood there. -/
theorem entry_setThkEntry (c d : Nat) :
    let u := setThkEntry t c x e s
    ((thkEntry u t d x).tag = e.tag ∧ (thkEntry u t d x).result = e.result) ∨
      ((thkEntry u t d x).tag = (thkEntry s t d x).tag ∧ (thkEntry u t d x).result = (thkEntry s t d x).result) := by
  dsimp only
  rw [thkEntry_tag, thkEntry_result, thkEntry_tag s, thkEntry_result s, (onlyRows_setThkEntry t c x e s).thkRowKey,
    thkRow_setThkEntry fun hwide => thkRowKey_ne_upper s t c x hwide d]
  split_ifs
  · exact .inl ⟨rfl, rfl⟩
  · exact .inr ⟨rfl, rfl⟩

/-- Every copy holds the entry written to all of them. -/
theorem entry_thkWriteAll {c : Nat} (hc : c < thkCopies s t) :
    (thkEntry (thkWriteAll t x e s) t c x).tag = e.tag ∧ (thkEntry (thkWriteAll t x e s) t c x).result = e.result := by
  refine forAll_establishes (P := fun c u => (thkEntry u t c x).tag = e.tag ∧ (thkEntry u t c x).result = e.result)
    (fun c u => ⟨tag_setThkEntry, result_setThkEntry⟩) (fun c d u hd => ?_) _ s c (List.mem_range.mpr hc)
  rcases entry_setThkEntry c d with hnew | ⟨htag, hresult⟩
  · exact hnew
  · exact ⟨htag.trans hd.1, hresult.trans hd.2⟩

/-- Every copy holds the tag written to all of them. -/
theorem tag_thkTagAll {c : Nat} (hc : c < thkCopies s t) : (thkEntry (thkTagAll t x g s) t c x).tag = g := by
  refine forAll_establishes (P := fun c u => (thkEntry u t c x).tag = g) (fun c u => tag_setThkTag) (fun c d u hd => ?_) _ s c
    (List.mem_range.mpr hc)
  rw [thkEntry_tag, (onlyRows_setThkTag t c x g u).thkRowKey, setThkTag, thkRow_setThkRow]
  split_ifs
  · rfl
  · exact (thkEntry_tag u t d x).symm.trans hd

end

end Sys2Proof.Machine
end

section
/-!
PROOFS. What the completion of a command shows of the Table Access Engine (R51, R54, R58), and that a Thicket table it does not touch
reads as before.
-/

namespace Sys2Proof.Machine
open Sys2Proof

/-! ### Completions (R51, R54) -/

section
variable (c : Bytes) (r : TaeRes) (s : State)

theorem tae_taeFinish_host : (taeFinish 0 c r s).tae =
    { s.tae with hostDone := (s.tae.hostDone + 1) % 512, comp := (hostCompleted c r s).tae.comp } := by
  rw [(aside_taeFinish_host c r s).tae, hostCompleted_eq]

/-- A host completion stands in the slot of its position. -/
theorem comp_taeFinish {i : Nat} (hi : i < 128) :
    mget (fun _ => 0) (taeFinish 0 c r s).tae.comp (s.tae.hostDone % 256 * 128 + i) = byteAt (completion c r s.tae.hostDone) i := by
  rw [tae_taeFinish_host]
  exact comp_compWrite _ i _ _ (by rw [length_completion]; exact hi)

theorem tae_taeFinish_sap : (taeFinish 1 c r s).tae =
    { s.tae with sapDone := (s.tae.sapDone + 1) % 512, sapC := s.tae.sapC ++ [completion c r s.tae.sapDone] } := rfl

/-- The answer to a TABLE_OP writes HEAD of the completion queue and no other word. -/
theorem aside_tableAnswer_head (k : Nat) (comp : Bytes) :
    Aside (· = pa pgTae offTAE_HCQ_HEAD) s (tableAnswer k comp s) := by
  have htable : ∀ l, Aside (· = pa pgTae offTAE_HCQ_HEAD) s { s with rw := { s.rw with tables := l } } := fun _ => .of_same rfl
  unfold tableAnswer
  split
  · exact .refl s
  · refine Aside.rwAnswer ?_ _ _ _ _
    split_ifs
    · exact (htable _).setRegF (.inr rfl) _ _
    · exact htable _

theorem not_noise_tae {off : Nat} (ho : off < 0x1000) : ¬ Noise (pa pgTae off) := by
  have hpage : pageOf (pa pgTae off) = pgTae := pageOf_pa _ _ ho
  exact not_noise_of_page (by rw [hpage]; decide) (by rw [hpage]; decide) (by rw [hpage]; decide)

/-- A host command that asks for it raises the interrupt with its completion (R58). -/
theorem testBit_taeFinish (hirq : tcIrq c = true) :
    (reg (taeFinish 0 c r s) (pa pgTae offIRQ_STS)).toNat.testBit 0 = true := by
  have hfinish : taeFinish 0 c r s = tableAnswer s.tae.hostDone (completion c r s.tae.hostDone)
      (if tcIrq c then raiseIrq pgTae 0 (hostCompleted c r s) else hostCompleted c r s) := rfl
  rw [hfinish, if_pos hirq, (aside_tableAnswer_head _ _ _).reg _ (not_noise_tae (by decide)) (pa_ne _ _ _ (by decide))]
  exact testBit_raiseIrq pgTae 0 _ (by decide)

theorem not_noise_thk {off : Nat} (ho : off < 0x1000) : ¬ Noise (pa pgThk off) := by
  have hpage : pageOf (pa pgThk off) = pgThk := pageOf_pa _ _ ho
  exact not_noise_of_page (by rw [hpage]; decide) (by rw [hpage]; decide) (by rw [hpage]; decide)

/-- A completion leaves the Thicket's tables. -/
theorem sameTable_taeFinish {t : Nat} (ht : t < 64) (q : Nat) : SameTable t s (taeFinish q c r s) := by
  refine ⟨(keepsRegs_taeFinish q c r s).reg _ (not_noise_thk (by simp only [offTHK_TBL_CFG]; omega)) ?_, ?_⟩
  · simp only [CompWord, pa, offIRQ_STS, pgTae, pgThk, offTAE_HCQ_HEAD, offTHK_TBL_CFG]; omega
  · rw [(thk_taeFinish q c r s).1]

end

/-! ### A command done (R59) -/

theorem tcTable_lt (b : Bytes) : tcTable b < 64 := natField_lt _ 21 16

theorem taeFetch_thk (q : Nat) (s : State) : (taeFetch q s).thk = s.thk := by unfold taeFetch; split_ifs <;> rfl

theorem sameTable_taeFetch {t : Nat} (ht : t < 64) (q : Nat) (s : State) : SameTable t s (taeFetch q s) := by
  refine ⟨?_, by rw [taeFetch_thk]⟩
  unfold taeFetch
  split_ifs
  · refine reg_setReg_other _ _ _ _ ?_
    simp only [pa, pgTae, pgThk, offTAE_HSQ_HEAD, offTHK_TBL_CFG]; omega
  · rfl

section
variable {s u : State} {q : Nat} {b : Bytes}

/-- A command that writes rows alone completes: what its completion shows (R51, R54, R58). -/
theorem taeDone_taeFinish (h : OnlyRows s u) (hq : q < 2) (r : TaeRes) (v : State) :
    TaeDone s q b r (boardKeeps v (taeFinish q b r (taeFetch q u))) := by
  refine ⟨?_, ?_⟩
  · rintro rfl
    have htae : (taeFetch 0 u).tae = s.tae := h.tae
    refine ⟨?_, ?_, fun i hi => ?_, fun hirq => testBit_taeFinish b r _ hirq⟩
    · have hkeep : hsqHead (taeFinish 0 b r (taeFetch 0 u)) = hsqHead (taeFetch 0 u) := by
        rw [hsqHead, regF, (keepsRegs_taeFinish 0 b r _).reg _ (not_noise_tae (by decide)) (by unfold CompWord; decide)]; rfl
      have hhead : hsqHead u = hsqHead s := by rw [hsqHead, regF, h.reg]; rfl
      have hfetch : hsqHead (taeFetch 0 u) = (hsqHead u + 1) % 512 % 2 ^ 9 :=
        regF_setRegF_same u _ fTAE_HSQ_HEAD_HEAD _ (by decide) (by decide)
      exact hkeep.trans (by rw [hfetch, hhead]; omega)
    · rw [boardKeeps_tae, tae_taeFinish_host, htae]
    · have hcomp := comp_taeFinish b r (taeFetch 0 u) hi
      rwa [htae] at hcomp
  · rintro rfl
    rw [boardKeeps_tae, tae_taeFinish_sap]
    simp [taeFetch, h.tae]

end

end Sys2Proof.Machine
end

section
/-!
PROOFS. The commands of a Thicket table that nothing keeps waiting (R152, R158, R159, R162, R163).
-/

namespace Sys2Proof.Machine
open Sys2Proof

/-! ### What a command computes -/

/-- Thicket table `t` takes its commands (R152, R163, R168). -/
structure ThkOpen (s : State) (t : Nat) : Prop where
  on : thkOn s t = true
  clearing : thkClearing s t = false
  shifting : thkShifting s t = false
  repairing : thkRepairing s t = false

/-- The tag that a command gives its entry (R148, R158). -/
def cmdTag (s : State) (t memb rank : Nat) (data : Bytes) : Nat :=
  mkThkTag memb (if thkRanked s t then rank else 0) (popcount (thkMaskOf data) 320)

/-- The entry in the data area of a command (R158). -/
def cmdEntry (s : State) (t memb rank : Nat) (data : Bytes) : ThkRow :=
  ⟨thkValueOf data, thkMaskOf data, leAt data 80 8, cmdTag s t memb rank data⟩

/-- The insertion of an entry as it begins: every copy has all its moves and both its writes before it (R161). -/
def thkShiftOf (s : State) (t : Nat) (plan : ThkPlan) (e : ThkRow) : ThkShift :=
  ⟨t, plan.pos, e.value, e.mask, e.result, e.tag, plan.moves,
    (List.range (thkCopies s t)).map (fun c => ⟨c, plan.moves, 0, 0⟩)⟩

/-- One more insertion is under way. -/
def shiftAdded (h : ThkShift) (s : State) : State := { s with thk := { s.thk with shifts := s.thk.shifts ++ [h] } }

theorem SameTable.cmdTag {t : Nat} {s u : State} (h : SameTable t s u) (memb rank : Nat) (data : Bytes) :
    cmdTag u t memb rank data = Machine.cmdTag s t memb rank data := by rw [Machine.cmdTag, h.ranked]; rfl

theorem SameTable.cmdEntry {t : Nat} {s u : State} (h : SameTable t s u) (memb rank : Nat) (data : Bytes) :
    cmdEntry u t memb rank data = Machine.cmdEntry s t memb rank data := by rw [Machine.cmdEntry, h.cmdTag]; rfl

theorem SameTable.shiftOf {t : Nat} {s u : State} (h : SameTable t s u) (plan : ThkPlan) (e : ThkRow) :
    thkShiftOf u t plan e = thkShiftOf s t plan e := by rw [thkShiftOf, h.copies]; rfl

/-- The compare takes slots and no more. -/
theorem thkCompare_eq (t op memb : Nat) (s : State) :
    thkCompare t op memb s = { s with thk := { s.thk with slots := (thkCompare t op memb s).thk.slots } } := by
  unfold thkCompare
  split_ifs
  · rfl
  · exact forAll_rel (R := fun s u => u = { s with thk := { s.thk with slots := u.thk.slots } }) (fun _ => rfl)
      (fun _ _ _ h h' => Eq.trans h' (by rw [h])) (fun _ _ => rfl) _ s

theorem onlyRows_thkCompare (t op memb : Nat) (s : State) : OnlyRows s (thkCompare t op memb s) := by
  rw [OnlyRows, thkCompare_eq]

theorem sameTable_thkCompare (t op memb : Nat) (s : State) : SameTable t s (thkCompare t op memb s) := by
  rw [thkCompare_eq]
  exact ⟨rfl, rfl⟩

/-- What a well-formed command of an open table answers (R159). -/
def thkAnswer (op t memb rank x : Nat) (data : Bytes) (s : State) : ThkOut :=
  let s0 := thkCompare t op memb s
  let out (r : State × TaeRes) : ThkOut := .done r.1 r.2
  match op with
  | 1 => thkInsert t memb rank data s0
  | 2 => out (thkDelete t memb rank data s0)
  | 3 => out (thkModify t memb rank data s0)
  | 4 => out (thkSearchCmd t memb rank data s0)
  | 5 => out (thkWriteCmd t memb rank x data s)
  | 6 => out (thkReadCmd t x s)
  | 8 => out (thkSetMemb t memb rank data s0)
  | _ => .done s (resPlain tsBadFormat 0)

section
variable {s : State} {t memb rank x : Nat} {data : Bytes}

/-- Nothing keeps it waiting and nothing refuses it (R158, R163). -/
theorem thkCommand_open (h : ThkOpen s t) {op len : Nat} (hlen : len = if op = opRead then 0 else 88)
    (hpad : thkPadOk s t data = true) : thkCommand op t memb rank x len data s = thkAnswer op t memb rank x data s := by
  obtain ⟨hon, hclear, hshift, hrepair⟩ := h
  simp only [thkCommand, hon, hclear, hshift, hrepair, hpad, hlen, Bool.not_true, Bool.or_self, ne_eq, not_true_eq_false,
    decide_false, Bool.false_eq_true, if_false]
  rfl

/-! #### INSERT (R159, R160) -/

section
variable {plan : ThkPlan} (hmemb : memb ≠ 0)
  (hclash : (thkHolders s t rank data).filter (fun y => (tagMemb (thkEntry s t 0 y).tag &&& memb) != 0) = [])
  (hplan : thkPlan s t (thkPrio s t (cmdTag s t memb rank data)) = some plan)
include hmemb hclash hplan

/-- Where a place is free of moves the entry goes into every copy. -/
theorem thkInsert_placed (hmoves : plan.moves = []) : thkInsert t memb rank data s =
    .done (thkWriteAll t plan.pos (cmdEntry s t memb rank data) s) (resPlain tsOk plan.pos) := by
  rw [cmdTag] at hplan
  simp only [thkInsert, if_neg hmemb, hclash, hplan, hmoves]
  rfl

/-- Where rows must move the moves of every copy begin (R161). -/
theorem thkInsert_moving (hmoves : plan.moves ≠ []) : thkInsert t memb rank data s =
    .started (shiftAdded (thkShiftOf s t plan (cmdEntry s t memb rank data)) s) := by
  rw [cmdTag] at hplan
  obtain ⟨pos, moves⟩ := plan
  cases moves with
  | nil => exact absurd rfl hmoves
  | cons m ms =>
    simp only [thkInsert, if_neg hmemb, hclash, hplan]
    rfl

end

/-! #### Commands that select an entry (R159) -/

section
variable {y : Nat} (hsel : thkSelected s t memb rank data = [y])
include hsel

theorem thkDelete_single : thkDelete t memb rank data s =
    (thkTagAll t y (natSetBit (thkEntry s t 0 y).tag 0 false) s, resPlain tsOk y) := by
  simp only [thkDelete, hsel]
  rfl

theorem thkModify_single : thkModify t memb rank data s =
    (thkWriteAll t y { thkEntry s t 0 y with result := leAt data 80 8 } s, resPlain tsOk y) := by
  simp only [thkModify, hsel]
  rfl

theorem thkSetMemb_single (hmemb : memb ≠ 0) : thkSetMemb t memb rank data s =
    (thkTagAll t y ((thkEntry s t 0 y).tag - tagMemb (thkEntry s t 0 y).tag * 2 + memb * 2) s, resPlain tsOk y) := by
  simp only [thkSetMemb, if_neg hmemb, hsel]

end

/-- A tag reads the members put in place of its own (R148). -/
theorem tagMemb_replace (g : Nat) {memb : Nat} (h : memb < 4) : tagMemb (g - tagMemb g * 2 + memb * 2) = memb := by
  simp only [tagMemb, natField, Nat.shiftRight_eq_div_pow]
  omega

end

/-! ### The command taken from its queue (R49, R59) -/

/-- The next command of queue `q` is `c`, of a Thicket table that takes it. -/
structure ThkNext (s : State) (q : Nat) (c : TaeCmd) : Prop where
  running : stopped s = false
  queue : q < 2
  next : taeNext s q = some c
  format : taeFormatOk c.bytes = true
  space : tcSpace c.bytes = 2
  opened : ThkOpen s (tcTable c.bytes)

/-- What the command answers, its bytes taken apart. -/
def cmdAnswer (b : Bytes) (s : State) : ThkOut :=
  thkAnswer (tcOp b) (tcTable b) (tcMemb b) (tcRank b) (tcIndex b) (tcData b) s

/-- LEN and the padding of the data are as R158 wants them. -/
def CmdFits (s : State) (b : Bytes) : Prop :=
  tcLen b = (if tcOp b = opRead then 0 else 88) ∧ thkPadOk s (tcTable b) (tcData b) = true

section
variable {s u : State} {q op : Nat} {c : TaeCmd} {r : TaeRes} {cmd : Instr} {P : State → Prop}

/-- No FENCE names the Thicket space (R50). -/
theorem not_fence {b : Bytes} (hformat : taeFormatOk b = true) (hspace : tcSpace b = 2) : tcOp b ≠ opFence := by
  intro hop
  simp [taeFormatOk, hop, hspace, taeAccepts] at hformat

theorem taeRun_thk (h : ThkNext s q c) (hfits : CmdFits s c.bytes) : taeRun q c false s = cmdAnswer c.bytes s := by
  have hrun : taeRun q c false s = thkRun c.bytes false s := by
    simp [taeRun, h.format, h.space, not_fence h.format h.space]
  have hcommand : thkCommand (tcOp c.bytes) (tcTable c.bytes) (tcMemb c.bytes) (tcRank c.bytes) (tcIndex c.bytes) (tcLen c.bytes)
      (tcData c.bytes) s = cmdAnswer c.bytes s := thkCommand_open h.opened hfits.1 hfits.2
  rw [hrun, thkRun, hcommand]
  cases cmdAnswer c.bytes s <;> rfl

/-- A command that writes rows alone is done at once. -/
theorem gives_thkDone (h : ThkNext s q c) (hfits : CmdFits s c.bytes) (hop : tcOp c.bytes = op)
    (hexec : exec cmd s = act (taeCommand op (q % 2) false) s) (hanswer : cmdAnswer c.bytes s = .done u r) (hrows : OnlyRows s u)
    (hP : ∀ v, TaeDone s q c.bytes r v → v.thk = u.thk → SameTable (tcTable c.bytes) u v → P v) : Gives cmd s P := by
  have hrun := (taeRun_thk h hfits).trans hanswer
  have heffect : taeCommand op (q % 2) false s = taeFinish q c.bytes r (taeFetch q u) := by
    rw [Nat.mod_eq_of_lt h.queue]
    simp [taeCommand, h.next, hop, hrun]
  refine gives_act h.running hexec ?_
  rw [heffect]
  refine hP _ (taeDone_taeFinish hrows h.queue r s) ?_ ?_
  · rw [boardKeeps_thk, (thk_taeFinish _ _ _ _).1, taeFetch_thk]
  · obtain ⟨hcfg, hsame⟩ := sameTable_taeFetch (tcTable_lt c.bytes) q u
    obtain ⟨hcfg', hsame'⟩ := sameTable_taeFinish c.bytes r (taeFetch q u) (tcTable_lt c.bytes) q
    exact ⟨hcfg'.trans hcfg, hsame'.trans hsame⟩

/-- A command whose moves have begun leaves its queue and is in execution (R59, R163). -/
theorem gives_thkStarted (h : ThkNext s q c) (hfits : CmdFits s c.bytes) (hop : tcOp c.bytes = op)
    (hexec : exec cmd s = act (taeCommand op (q % 2) false) s) (hanswer : cmdAnswer c.bytes s = .started u)
    (hP : ∀ v, mfind v.tae.exec q = some c → v.thk = u.thk → P v) : Gives cmd s P := by
  have hrun := (taeRun_thk h hfits).trans hanswer
  have heffect : taeCommand op (q % 2) false s =
      { taeFetch q u with tae := { (taeFetch q u).tae with exec := mput (taeFetch q u).tae.exec q c } } := by
    rw [Nat.mod_eq_of_lt h.queue]
    simp [taeCommand, h.next, hop, hrun]
  refine gives_act h.running hexec ?_
  rw [heffect]
  exact hP _ (mfind_mput_same _ _ _) (taeFetch_thk q u)

end

/-! ### The commands (R159) -/

/-- The state after the compare of a command (R158). -/
def compared (b : Bytes) (s : State) : State := thkCompare (tcTable b) (tcOp b) (tcMemb b) s

theorem onlyRows_compared (b : Bytes) (s : State) : OnlyRows s (compared b s) := onlyRows_thkCompare _ _ _ s

theorem sameTable_compared (b : Bytes) (s : State) : SameTable (tcTable b) s (compared b s) := sameTable_thkCompare _ _ _ s

/-- The entries that a command of a Thicket table selects (R159). -/
def cmdSelected (b : Bytes) (s : State) : List Nat := thkSelected s (tcTable b) (tcMemb b) (tcRank b) (tcData b)

/-- What a SEARCH answers: its first entry, or none (R159). -/
def cmdFound (b : Bytes) (s : State) : TaeRes :=
  match cmdSelected b s with
  | [] => resPlain tsNotFound 0
  | x :: _ => thkReturn s (tcTable b) x

/-- The entries of an INSERT's identity that share a member with it (R159). -/
def cmdClash (b : Bytes) (s : State) : List Nat :=
  (thkHolders s (tcTable b) (tcRank b) (tcData b)).filter
    (fun x => (tagMemb (thkEntry s (tcTable b) 0 x).tag &&& tcMemb b) != 0)

/-- The entry that a command brings, and where it goes (R158, R160). -/
def broughtEntry (b : Bytes) (s : State) : ThkRow := cmdEntry s (tcTable b) (tcMemb b) (tcRank b) (tcData b)
def broughtPlan (b : Bytes) (s : State) : Option ThkPlan :=
  thkPlan s (tcTable b) (thkPrio s (tcTable b) (broughtEntry b s).tag)

theorem cmdClash_compared (b : Bytes) (s : State) : cmdClash b (compared b s) = cmdClash b s := by
  have hsame := sameTable_compared b s
  simp only [cmdClash, hsame.holders, hsame.entry]

theorem broughtPlan_compared (b : Bytes) (s : State) : broughtPlan b (compared b s) = broughtPlan b s := by
  have hsame := sameTable_compared b s
  simp only [broughtPlan, broughtEntry, hsame.plan, hsame.prio, hsame.cmdEntry]

section
variable {b : Bytes} {s : State} {plan : ThkPlan} (hop : tcOp b = opInsert) (hmemb : tcMemb b ≠ 0) (hclash : cmdClash b s = [])
  (hplan : broughtPlan b s = some plan)
include hop hmemb hclash hplan

theorem cmdAnswer_insert_placed (hmoves : plan.moves = []) : cmdAnswer b s =
    .done (thkWriteAll (tcTable b) plan.pos (broughtEntry b s) (compared b s)) (resPlain tsOk plan.pos) := by
  have hsame := sameTable_compared b s
  have hinsert := thkInsert_placed hmemb ((cmdClash_compared b s).trans hclash) ((broughtPlan_compared b s).trans hplan) hmoves
  rw [hsame.cmdEntry, compared, hop] at hinsert
  simp only [cmdAnswer, compared, hop, thkAnswer, hinsert, broughtEntry]

theorem cmdAnswer_insert_moving (hmoves : plan.moves ≠ []) : cmdAnswer b s =
    .started (shiftAdded (thkShiftOf s (tcTable b) plan (broughtEntry b s)) (compared b s)) := by
  have hsame := sameTable_compared b s
  have hinsert := thkInsert_moving hmemb ((cmdClash_compared b s).trans hclash) ((broughtPlan_compared b s).trans hplan) hmoves
  rw [hsame.cmdEntry, hsame.shiftOf, compared, hop] at hinsert
  simp only [cmdAnswer, compared, hop, thkAnswer, hinsert, broughtEntry]

end

section
variable {b : Bytes} {s : State} {x : Nat}

theorem cmdAnswer_delete (hop : tcOp b = opDelete) (hsel : cmdSelected b s = [x]) : cmdAnswer b s =
    .done (thkTagAll (tcTable b) x (natSetBit (thkEntry s (tcTable b) 0 x).tag 0 false) (compared b s)) (resPlain tsOk x) := by
  have hsame := sameTable_compared b s
  have hdelete := thkDelete_single ((hsame.selected _ _ _).trans hsel)
  rw [hsame.entry, compared, hop] at hdelete
  simp only [cmdAnswer, compared, hop, thkAnswer, hdelete]

theorem cmdAnswer_modify (hop : tcOp b = opModify) (hsel : cmdSelected b s = [x]) : cmdAnswer b s =
    .done (thkWriteAll (tcTable b) x { thkEntry s (tcTable b) 0 x with result := leAt (tcData b) 80 8 } (compared b s))
      (resPlain tsOk x) := by
  have hsame := sameTable_compared b s
  have hmodify := thkModify_single ((hsame.selected _ _ _).trans hsel)
  rw [hsame.entry, compared, hop] at hmodify
  simp only [cmdAnswer, compared, hop, thkAnswer, hmodify]

theorem cmdAnswer_setMemb (hop : tcOp b = opSetMemb) (hmemb : tcMemb b ≠ 0) (hsel : cmdSelected b s = [x]) : cmdAnswer b s =
    .done (thkTagAll (tcTable b) x
      ((thkEntry s (tcTable b) 0 x).tag - tagMemb (thkEntry s (tcTable b) 0 x).tag * 2 + tcMemb b * 2) (compared b s))
      (resPlain tsOk x) := by
  have hsame := sameTable_compared b s
  have hset := thkSetMemb_single ((hsame.selected _ _ _).trans hsel) hmemb
  rw [hsame.entry, compared, hop] at hset
  simp only [cmdAnswer, compared, hop, thkAnswer, hset]

theorem cmdAnswer_search (hop : tcOp b = opSearch) : cmdAnswer b s = .done (compared b s) (cmdFound b s) := by
  have hsame := sameTable_compared b s
  have hfound : thkSearchCmd (tcTable b) (tcMemb b) (tcRank b) (tcData b) (compared b s) = (compared b s, cmdFound b s) := by
    have hsel : thkSelected (compared b s) (tcTable b) (tcMemb b) (tcRank b) (tcData b) = cmdSelected b s := hsame.selected _ _ _
    rw [thkSearchCmd, cmdFound, hsel]
    cases cmdSelected b s with
    | nil => rfl
    | cons x l => simp only [hsame.returned]
  rw [compared, hop] at hfound
  simp only [cmdAnswer, compared, hop, thkAnswer, hfound]

theorem cmdAnswer_write (hop : tcOp b = opWrite) (hx : tcIndex b < thkSize s (tcTable b)) : cmdAnswer b s =
    .done (thkWriteAll (tcTable b) (tcIndex b) (cmdEntry s (tcTable b) (tcMemb b) (tcRank b) (tcData b)) s)
      (resPlain tsOk (tcIndex b)) := by
  simp only [cmdAnswer, hop, thkAnswer, thkWriteCmd, Nat.not_le.mpr hx, if_false]
  rfl

theorem cmdAnswer_read (hop : tcOp b = opRead) (hx : tcIndex b < thkSize s (tcTable b)) :
    cmdAnswer b s = .done s (thkReturn s (tcTable b) (tcIndex b)) := by
  simp only [cmdAnswer, hop, thkAnswer, thkReadCmd, Nat.not_le.mpr hx, if_false]

end

section
variable {s : State} {q x : Nat} {c : TaeCmd} (h : ThkNext s q c) (hfits : CmdFits s c.bytes)
include h hfits

theorem gives_thkInsert_placed {plan : ThkPlan} (hop : tcOp c.bytes = opInsert) (hmemb : tcMemb c.bytes ≠ 0)
    (hclash : cmdClash c.bytes s = []) (hplan : broughtPlan c.bytes s = some plan) (hmoves : plan.moves = []) :
    Gives (.insert q false) s (fun t => TaeDone s q c.bytes (resPlain tsOk plan.pos) t ∧
      ∀ k, k < thkCopies s (tcTable c.bytes) → (thkEntry t (tcTable c.bytes) k plan.pos).tag = (broughtEntry c.bytes s).tag ∧
        (thkEntry t (tcTable c.bytes) k plan.pos).result = (broughtEntry c.bytes s).result) := by
  refine gives_thkDone h hfits hop rfl (cmdAnswer_insert_placed hop hmemb hclash hplan hmoves)
    ((onlyRows_compared c.bytes s).trans (onlyRows_thkWriteAll _ _ _ _)) fun v hdone _ htable => ⟨hdone, fun k hk => ?_⟩
  rw [htable.entry]
  exact entry_thkWriteAll (by rwa [(sameTable_compared c.bytes s).copies])

theorem gives_thkInsert_moving {plan : ThkPlan} (hop : tcOp c.bytes = opInsert) (hmemb : tcMemb c.bytes ≠ 0)
    (hclash : cmdClash c.bytes s = []) (hplan : broughtPlan c.bytes s = some plan) (hmoves : plan.moves ≠ []) :
    Gives (.insert q false) s (fun t => mfind t.tae.exec q = some c ∧ t.thk.rows = s.thk.rows ∧
      t.thk.shifts = s.thk.shifts ++ [thkShiftOf s (tcTable c.bytes) plan (broughtEntry c.bytes s)]) := by
  refine gives_thkStarted h hfits hop rfl (cmdAnswer_insert_moving hop hmemb hclash hplan hmoves)
    fun v hexec hthk => ⟨hexec, ?_, ?_⟩ <;> rw [hthk, shiftAdded, compared, thkCompare_eq]

theorem gives_thkDelete (hop : tcOp c.bytes = opDelete) (hsel : cmdSelected c.bytes s = [x]) :
    Gives (.delete q false) s (fun t => TaeDone s q c.bytes (resPlain tsOk x) t ∧
      ∀ k, k < thkCopies s (tcTable c.bytes) → tagUsed (thkEntry t (tcTable c.bytes) k x).tag = false) := by
  refine gives_thkDone h hfits hop rfl (cmdAnswer_delete hop hsel)
    ((onlyRows_compared c.bytes s).trans (onlyRows_thkTagAll _ _ _ _)) fun v hdone _ htable => ⟨hdone, fun k hk => ?_⟩
  rw [htable.entry, tag_thkTagAll (by rwa [(sameTable_compared c.bytes s).copies])]
  exact tagUsed_of_valid (testBit_natSetBit_same _ 0 false)

theorem gives_thkModify (hop : tcOp c.bytes = opModify) (hsel : cmdSelected c.bytes s = [x]) :
    Gives (.modify q false) s (fun t => TaeDone s q c.bytes (resPlain tsOk x) t ∧
      ∀ k, k < thkCopies s (tcTable c.bytes) → (thkEntry t (tcTable c.bytes) k x).result = leAt (tcData c.bytes) 80 8 ∧
        (thkEntry t (tcTable c.bytes) k x).tag = (thkEntry s (tcTable c.bytes) 0 x).tag) := by
  refine gives_thkDone h hfits hop rfl (cmdAnswer_modify hop hsel)
    ((onlyRows_compared c.bytes s).trans (onlyRows_thkWriteAll _ _ _ _)) fun v hdone _ htable => ⟨hdone, fun k hk => ?_⟩
  rw [htable.entry]
  exact (entry_thkWriteAll (by rwa [(sameTable_compared c.bytes s).copies])).symm

theorem gives_thkSetMemb (hop : tcOp c.bytes = opSetMemb) (hmemb : tcMemb c.bytes ≠ 0) (hsel : cmdSelected c.bytes s = [x]) :
    Gives (.setMemb q false) s (fun t => TaeDone s q c.bytes (resPlain tsOk x) t ∧
      ∀ k, k < thkCopies s (tcTable c.bytes) → tagMemb (thkEntry t (tcTable c.bytes) k x).tag = tcMemb c.bytes) := by
  refine gives_thkDone h hfits hop rfl (cmdAnswer_setMemb hop hmemb hsel)
    ((onlyRows_compared c.bytes s).trans (onlyRows_thkTagAll _ _ _ _)) fun v hdone _ htable => ⟨hdone, fun k hk => ?_⟩
  rw [htable.entry, tag_thkTagAll (by rwa [(sameTable_compared c.bytes s).copies])]
  exact tagMemb_replace _ (natField_lt _ 23 22)

theorem gives_thkSearch (hop : tcOp c.bytes = opSearch) : Gives (.search q false) s (fun t =>
    TaeDone s q c.bytes (cmdFound c.bytes s) t ∧ t.thk = { s.thk with slots := t.thk.slots }) := by
  refine gives_thkDone h hfits hop rfl (cmdAnswer_search hop) (onlyRows_compared c.bytes s) fun v hdone hthk _ => ⟨hdone, ?_⟩
  rw [hthk, compared, thkCompare_eq]

theorem gives_thkWrite (hop : tcOp c.bytes = opWrite) (hx : tcIndex c.bytes < thkSize s (tcTable c.bytes)) :
    Gives (.write q false) s (fun t => TaeDone s q c.bytes (resPlain tsOk (tcIndex c.bytes)) t ∧
      ∀ k, k < thkCopies s (tcTable c.bytes) → (thkEntry t (tcTable c.bytes) k (tcIndex c.bytes)).tag =
          cmdTag s (tcTable c.bytes) (tcMemb c.bytes) (tcRank c.bytes) (tcData c.bytes) ∧
        (thkEntry t (tcTable c.bytes) k (tcIndex c.bytes)).result = leAt (tcData c.bytes) 80 8) := by
  refine gives_thkDone h hfits hop rfl (cmdAnswer_write hop hx) (onlyRows_thkWriteAll _ _ _ s)
    fun v hdone _ htable => ⟨hdone, fun k hk => ?_⟩
  rw [htable.entry]
  exact entry_thkWriteAll hk

theorem gives_thkRead (hop : tcOp c.bytes = opRead) (hx : tcIndex c.bytes < thkSize s (tcTable c.bytes)) :
    Gives (.read q false) s (fun t => TaeDone s q c.bytes (thkReturn s (tcTable c.bytes) (tcIndex c.bytes)) t ∧ t.thk = s.thk) :=
  gives_thkDone h hfits hop rfl (cmdAnswer_read hop hx) (onlyRows_refl s) fun _ hdone hthk _ => ⟨hdone, hthk⟩

end

/-! ### The obligation -/

/-- Settles O44: each command comes to one write of every copy, or to none, after a compare that takes slots alone; its completion is
the one stated above for every command that writes rows alone. -/
theorem tableEngineOnThicketTables : Obligations.TableEngineOnThicketTables := by
  intro s q c hs hq hnext hformat hspace hon hclear hshift hrepair
  have h : ThkNext s q c := ⟨hs, hq, hnext, hformat, hspace, hon, hclear, hshift, hrepair⟩
  have hfits : ∀ {op}, op ≠ opRead → tcOp c.bytes = op → tcLen c.bytes = 88 →
      thkPadOk s (tcTable c.bytes) (tcData c.bytes) = true → CmdFits s c.bytes := fun hne hop hlen hpad =>
    ⟨by rw [hop, if_neg hne, hlen], hpad⟩
  refine ⟨fun hlen hpad => ⟨fun hop hmemb hclash plan hplan => ⟨fun hmoves => ?_, fun hmoves => ?_⟩,
    fun x hsel => ⟨fun hop => ?_, fun hop => ?_, fun hop hmemb => ?_⟩, fun hop => ?_, fun hop hx => ?_⟩,
    fun hop hlen hpad hx => ?_⟩
  · exact gives_thkInsert_placed h (hfits (by decide) hop hlen hpad) hop hmemb hclash hplan hmoves
  · obtain ⟨v, hexec, hcmd, hrows, hshifts⟩ :=
      gives_thkInsert_moving h (hfits (by decide) hop hlen hpad) hop hmemb hclash hplan hmoves
    refine ⟨v, hexec, hcmd, hrows, _, hshifts, rfl, rfl, rfl, rfl, by simp [thkShiftOf], fun y hy => ?_⟩
    obtain ⟨k, -, rfl⟩ := List.mem_map.mp hy
    exact ⟨rfl, rfl⟩
  · exact gives_thkDelete h (hfits (by decide) hop hlen hpad) hop hsel
  · exact gives_thkModify h (hfits (by decide) hop hlen hpad) hop hsel
  · exact gives_thkSetMemb h (hfits (by decide) hop hlen hpad) hop hmemb hsel
  · exact gives_thkSearch h (hfits (by decide) hop hlen hpad) hop
  · exact gives_thkWrite h (hfits (by decide) hop hlen hpad) hop hx
  · exact gives_thkRead h ⟨by rw [hop, if_pos rfl, hlen], hpad⟩ hop hx

end Sys2Proof.Machine
end

section
/-!
PROOFS. SHIFT_MOVE (R161, R162, R163): one move or write of a copy, the commit of the entry in every copy, and the end of an insertion
whose table is off (R152).
-/

namespace Sys2Proof.Machine
open Sys2Proof

/-! ### A move or a write of one copy -/

section
variable {h : ThkShift} {x : ThkCopy} {s : State}

theorem shiftCopy_move {a b : Nat} {ms : List (Nat × Nat)} (hmoves : x.moves = (a, b) :: ms) : shiftCopy h x s =
    ({ x with moves := ms, made := x.made + 1 },
      count pgThk cThk_MOVES (setThkEntry h.table x.copy b (thkEntry s h.table x.copy a) s)) := by
  simp only [shiftCopy, hmoves]

theorem shiftCopy_free (hmoves : x.moves = []) (hwrites : x.writes = 0) : shiftCopy h x s =
    ({ x with writes := 1 },
      setThkTag h.table x.copy h.pos (natSetBit (thkEntry s h.table x.copy h.pos).tag 0 false) s) := by
  simp only [shiftCopy, hmoves, if_pos hwrites]

theorem shiftCopy_write (hmoves : x.moves = []) (hwrites : x.writes = 1) : shiftCopy h x s =
    ({ x with writes := 2 },
      setThkEntry h.table x.copy h.pos ⟨h.value, h.mask, h.result, natSetBit h.tag 0 false⟩ s) := by
  simp only [shiftCopy, hmoves, if_neg (by omega : ¬ x.writes = 0)]

/-- A move or write leaves all but rows and the count of moves. -/
theorem onlyRows_shiftCopy (h : ThkShift) (x : ThkCopy) (s : State) :
    ∃ u, OnlyRows s u ∧ OnlyCtr u (shiftCopy h x s).2 := by
  unfold shiftCopy
  split
  · exact ⟨_, onlyRows_setThkEntry _ _ _ _ s, onlyCtr_count _ _ _⟩
  · split_ifs
    · exact ⟨_, onlyRows_setThkTag _ _ _ _ s, onlyCtr_refl _⟩
    · exact ⟨_, onlyRows_setThkEntry _ _ _ _ s, onlyCtr_refl _⟩

theorem shiftCopy_tae (h : ThkShift) (x : ThkCopy) (s : State) : (shiftCopy h x s).2.tae = s.tae := by
  obtain ⟨u, hrows, hctr⟩ := onlyRows_shiftCopy h x s
  rw [hctr, ← hrows.tae]

theorem shiftCopy_thkCfg (h : ThkShift) (x : ThkCopy) (s : State) (t : Nat) :
    thkCfg (shiftCopy h x s).2 t = thkCfg s t := by
  obtain ⟨u, hrows, hctr⟩ := onlyRows_shiftCopy h x s
  rw [hctr, ← hrows.thkCfg]
  rfl

end

/-! ### The copies of an insertion -/

/-- The insertion with copy `c` as the move or write leaves it. -/
def shiftWith (h : ThkShift) (c : Nat) (y : ThkCopy) : List ThkCopy := h.copies.map (fun z => if z.copy == c then y else z)

/-- The Thicket with these insertions under way. -/
def withShifts (l : List ThkShift) (s : State) : State := { s with thk := { s.thk with shifts := l } }

/-- Without the insertion of table `t`, whose entry has VALID as its tag says in every copy. -/
def shiftValid (t : Nat) (h : ThkShift) (s : State) : State :=
  thkTagAll t h.pos h.tag (withShifts (s.thk.shifts.filter (fun y => y.table != t)) s)

/-- The command of queue `q` is no longer in execution. -/
def execTaken (q : Nat) (s : State) : State := { s with tae := { s.tae with exec := mdel s.tae.exec q } }

theorem onlyRows_shiftValid (t : Nat) (h : ThkShift) (s : State) :
    OnlyRows (withShifts (s.thk.shifts.filter (fun y => y.table != t)) s) (shiftValid t h s) := onlyRows_thkTagAll _ _ _ _

theorem shiftValid_tae (t : Nat) (h : ThkShift) (s : State) : (shiftValid t h s).tae = s.tae := (onlyRows_shiftValid t h s).tae

theorem tag_shiftValid (t : Nat) (h : ThkShift) {k : Nat} {s : State} (hk : k < thkCopies s t) :
    (thkEntry (shiftValid t h s) t k h.pos).tag = h.tag :=
  tag_thkTagAll (s := withShifts (s.thk.shifts.filter (fun y => y.table != t)) s) hk

theorem thkShifting_shiftValid (t : Nat) (h : ThkShift) (s : State) : thkShifting (shiftValid t h s) t = false := by
  rw [thkShifting, onlyRows_shiftValid]
  simp [withShifts]

/-- Copy `c` of table `t` holds a shifter for its insertion `h`, and stands there at `x`. -/
structure HoldsShifter (s : State) (t c : Nat) (h : ThkShift) (x : ThkCopy) : Prop where
  shift : s.thk.shifts.find? (fun h => h.table == t) = some h
  held : (shiftersHeld s).contains (t, c) = true
  copy : h.copies.find? (fun x => x.copy == c) = some x

section
variable {s : State} {t c : Nat} {h : ThkShift} {x y : ThkCopy} (hx : HoldsShifter s t c h x)
include hx

theorem HoldsShifter.table_eq : h.table = t := by
  have heq := List.find?_some (p := fun h : ThkShift => h.table == t) hx.shift
  simpa using heq

theorem HoldsShifter.copy_eq : x.copy = c := by simpa using List.find?_some hx.copy

theorem HoldsShifter.shifting : thkShifting s t = true :=
  List.any_eq_true.mpr ⟨h, List.mem_of_find?_eq_some hx.shift, by simp [hx.table_eq]⟩

theorem HoldsShifter.mem_shiftWith : y ∈ shiftWith h c y :=
  List.mem_map.mpr ⟨x, List.mem_of_find?_eq_some hx.copy, by simp [hx.copy_eq]⟩

/-! ### The command (R161, R162) -/

/-- A table that is off makes no move. -/
theorem shiftStep_off (hoff : thkOn s t = false) : shiftStep t c s = shiftOff t s := by
  simp [shiftStep, shiftMove, hx.shift, hoff]

/-- While a repair of the table is in progress its copies wait (R168). -/
theorem shiftStep_repairing (hon : thkOn s t = true) (hrepair : thkRepairing s t = true) : shiftStep t c s = s := by
  simp [shiftStep, shiftMove, hx.shift, hrepair, shiftOff, hon]

section
variable (hon : thkOn s t = true) (hrepair : thkRepairing s t = false)
include hon hrepair

/-- While a copy has writes before it the move or write is all. -/
theorem shiftMove_goesOn (hmore : ∃ y ∈ shiftWith h c (shiftCopy h x s).1, y.writes ≠ 2) :
    ∃ l, shiftMove t c s = (withShifts l (shiftCopy h x s).2, none) := by
  obtain ⟨y, hy, hwrites⟩ := hmore
  have hall : (shiftWith h c (shiftCopy h x s).1).all (fun y => y.writes == 2) = false :=
    List.all_eq_false.mpr ⟨y, hy, by simpa using hwrites⟩
  refine ⟨(shiftCopy h x s).2.thk.shifts.map (fun y =>
    if y.table == t then { h with copies := shiftWith h c (shiftCopy h x s).1 } else y), ?_⟩
  rw [shiftWith] at hall
  simp only [shiftMove, hx.shift, hx.held, hx.copy, hon, hrepair, hall, Bool.not_true, Bool.or_self, Bool.false_eq_true, if_false]
  rfl

theorem shiftStep_goesOn (hmore : ∃ y ∈ shiftWith h c (shiftCopy h x s).1, y.writes ≠ 2) :
    ∃ l, shiftStep t c s = withShifts l (shiftCopy h x s).2 := by
  obtain ⟨l, hmove⟩ := shiftMove_goesOn hx hon hrepair hmore
  have hstill : thkOn (withShifts l (shiftCopy h x s).2) t = true := by
    have hcfg : thkCfg (withShifts l (shiftCopy h x s).2) t = thkCfg s t := shiftCopy_thkCfg h x s t
    rwa [thkOn, hcfg]
  exact ⟨l, by simp [shiftStep, hmove, shiftOff, hstill]⟩

/-- The last write of the last copy commits the entry in every copy. -/
theorem shiftMove_commits (hall : ∀ y ∈ shiftWith h c (shiftCopy h x s).1, y.writes = 2) :
    shiftMove t c s = (shiftValid t h (shiftCopy h x s).2, some h.pos) := by
  have htrue : (shiftWith h c (shiftCopy h x s).1).all (fun y => y.writes == 2) = true :=
    List.all_eq_true.mpr fun y hy => by simpa using hall y hy
  rw [shiftWith] at htrue
  simp only [shiftMove, hx.shift, hx.held, hx.copy, hon, hrepair, htrue, Bool.not_true, Bool.or_self, Bool.false_eq_true, if_false,
    if_true]
  rfl

/-- With it the command that began the insertion completes (R58). -/
theorem shiftStep_commits (hall : ∀ y ∈ shiftWith h c (shiftCopy h x s).1, y.writes = 2) {q : Nat} {cmd : TaeCmd}
    (hexec : s.tae.exec.find? (fun e => tcSpace e.2.bytes == 2 && tcTable e.2.bytes == t) = some (q, cmd)) :
    shiftStep t c s = taeFinish q cmd.bytes (resPlain tsOk h.pos) (execTaken q (shiftValid t h (shiftCopy h x s).2)) := by
  have htae : (shiftValid t h (shiftCopy h x s).2).tae = s.tae := (shiftValid_tae _ _ _).trans (shiftCopy_tae _ _ _)
  rw [← htae] at hexec
  simp only [shiftStep, shiftMove_commits hx hon hrepair hall, hexec]
  rfl

end

/-! ### What SHIFT_MOVE shows -/

/-- The end of an insertion whose table is off (R152). -/
theorem gives_shiftMove_off (hs : stopped s = false) (hoff : thkOn s t = false) : Gives (.shiftMove t c) s (fun u =>
    thkShifting u t = false ∧ u.thk.rows = s.thk.rows ∧
    ∀ cmd, s.tae.exec.find? (fun e => tcSpace e.2.bytes == 2 && tcTable e.2.bytes == t) = some (1, cmd) →
      u.tae.sapC = s.tae.sapC ++ [completion cmd.bytes (resPlain tsBadFormat 0) s.tae.sapDone]) := by
  have hended : ∀ v : State, v.thk = (shiftStopped t 0 s).thk → thkShifting v t = false ∧ v.thk.rows = s.thk.rows := fun v hthk => by
    rw [thkShifting, hthk]
    exact ⟨by simp [shiftStopped], rfl⟩
  refine gives_act hs rfl (f := shiftStep t c) ?_
  rw [shiftStep_off hx hoff]
  cases hexec : s.tae.exec.find? (fun e => tcSpace e.2.bytes == 2 && tcTable e.2.bytes == t) with
  | none =>
    have hoffs : shiftOff t s = withShifts (s.thk.shifts.filter (fun y => y.table != t)) s := by
      simp only [shiftOff, hoff, hx.shifting, Bool.not_true, Bool.or_self, Bool.false_eq_true, if_false, hexec]
      rfl
    rw [hoffs]
    obtain ⟨hshift, hrows⟩ := hended (boardKeeps s (withShifts (s.thk.shifts.filter (fun y => y.table != t)) s)) rfl
    exact ⟨hshift, hrows, fun cmd h => absurd h (by simp)⟩
  | some e =>
    obtain ⟨q, cmd⟩ := e
    rw [shiftOff_shifting hoff hx.shifting hexec]
    obtain ⟨hshift, hrows⟩ := hended _ (thk_taeFinish q cmd.bytes (resPlain tsBadFormat 0) (shiftStopped t q s)).1
    refine ⟨hshift, hrows, fun cmd' h => ?_⟩
    obtain ⟨rfl, rfl⟩ : q = 1 ∧ cmd = cmd' := by simpa using h
    rfl

section
variable (hs : stopped s = false) (hon : thkOn s t = true) (hrepair : thkRepairing s t = false)
include hs hon hrepair

/-- A move or write that is not the last of all shows itself in rows and the count of moves. -/
theorem gives_shiftCopy {P : State → Prop} (hmore : ∃ y ∈ shiftWith h c (shiftCopy h x s).1, y.writes ≠ 2)
    (hP : ∀ u, (∀ y, thkEntry u t c y = thkEntry (shiftCopy h x s).2 t c y) → (∀ a, ctr u a = ctr (shiftCopy h x s).2 a) →
      u.tae = s.tae → P u) : Gives (.shiftMove t c) s P := by
  obtain ⟨l, hstep⟩ := shiftStep_goesOn hx hon hrepair hmore
  refine gives_act hs rfl (f := shiftStep t c) ?_
  rw [hstep]
  exact hP _ (SameTable.entry ⟨rfl, rfl⟩ c) (fun _ => rfl) (shiftCopy_tae h x s)

/-- The next move of a copy (R161). -/
theorem gives_shiftMove_moves {a b : Nat} {ms : List (Nat × Nat)} (hmoves : x.moves = (a, b) :: ms) (hwrites : x.writes = 0) :
    Gives (.shiftMove t c) s (fun u => (thkEntry u t c b).tag = (thkEntry s t c a).tag ∧
      (thkEntry u t c b).result = (thkEntry s t c a).result ∧
      (thkEntry u t c b).value % 2 ^ 160 = (thkEntry s t c a).value % 2 ^ 160 ∧
      ctr u (pa pgThk cThk_MOVES) = Nat.min maxCtr (ctr s (pa pgThk cThk_MOVES) + 1) ∧ u.tae = s.tae) := by
  refine gives_shiftCopy hx hs hon hrepair ⟨_, hx.mem_shiftWith, ?_⟩ fun u hentry hctr htae => ?_
  · rw [shiftCopy_move hmoves]; simp [hwrites]
  · rw [shiftCopy_move hmoves, hx.table_eq, hx.copy_eq] at hentry hctr
    rw [hentry, thkEntry_count, hctr, ctr_count_same, (onlyRows_setThkEntry t c b (thkEntry s t c a) s).ctr]
    exact ⟨tag_setThkEntry, result_setThkEntry, value_setThkEntry, rfl, htae⟩

/-- The row of the new entry is freed once the moves of the copy are made (R162). -/
theorem gives_shiftMove_frees (hmoves : x.moves = []) (hwrites : x.writes = 0) : Gives (.shiftMove t c) s (fun u =>
    (thkEntry u t c h.pos).tag = natSetBit (thkEntry s t c h.pos).tag 0 false ∧ u.tae = s.tae) := by
  refine gives_shiftCopy hx hs hon hrepair ⟨_, hx.mem_shiftWith, ?_⟩ fun u hentry _ htae => ⟨?_, htae⟩
  · rw [shiftCopy_free hmoves hwrites]; simp
  · rw [hentry, shiftCopy_free hmoves hwrites, hx.table_eq, hx.copy_eq, tag_setThkTag]

/-- It is then written with VALID 0 (R162). -/
theorem gives_shiftMove_writes (hmoves : x.moves = []) (hwrites : x.writes = 1)
    (hmore : ∃ y ∈ h.copies, y.copy ≠ c ∧ y.writes ≠ 2) : Gives (.shiftMove t c) s (fun u =>
    (thkEntry u t c h.pos).tag = natSetBit h.tag 0 false ∧ (thkEntry u t c h.pos).result = h.result ∧ u.tae = s.tae) := by
  obtain ⟨y, hy, hother, hy2⟩ := hmore
  refine gives_shiftCopy hx hs hon hrepair ⟨y, List.mem_map.mpr ⟨y, hy, by simp [hother]⟩, hy2⟩ fun u hentry _ htae => ?_
  rw [hentry, shiftCopy_write hmoves hwrites, hx.table_eq, hx.copy_eq]
  exact ⟨tag_setThkEntry, result_setThkEntry, htae⟩

/-- The last write of the last copy (R58, R162). -/
theorem gives_shiftMove_commits {q : Nat} {cmd : TaeCmd} (hmoves : x.moves = []) (hwrites : x.writes = 1)
    (hall : ∀ y ∈ h.copies, y.copy ≠ c → y.writes = 2)
    (hexec : s.tae.exec.find? (fun e => tcSpace e.2.bytes == 2 && tcTable e.2.bytes == t) = some (q, cmd)) :
    Gives (.shiftMove t c) s (fun u => thkShifting u t = false ∧ mfind u.tae.exec q = none ∧
      (q = 0 → u.tae.hostDone = (s.tae.hostDone + 1) % 512 ∧
        ∀ i, i < 128 → mget (fun _ => 0) u.tae.comp (s.tae.hostDone % 256 * 128 + i) =
          byteAt (completion cmd.bytes (resPlain tsOk h.pos) s.tae.hostDone) i) ∧
      (q = 1 → u.tae.sapC = s.tae.sapC ++ [completion cmd.bytes (resPlain tsOk h.pos) s.tae.sapDone]) ∧
      ∀ k, k < thkCopies s t → (thkEntry u t k h.pos).tag = h.tag) := by
  have hdone : ∀ y ∈ shiftWith h c (shiftCopy h x s).1, y.writes = 2 := by
    intro y hy
    obtain ⟨z, hz, rfl⟩ := List.mem_map.mp hy
    split_ifs with hzc
    · rw [shiftCopy_write hmoves hwrites]
    · exact hall z hz (by simpa using hzc)
  have htbl : t < 64 := by
    have hcmd := List.find?_some hexec
    simp only [Bool.and_eq_true, beq_iff_eq] at hcmd
    exact hcmd.2 ▸ tcTable_lt cmd.bytes
  have hstep := shiftStep_commits hx hon hrepair hdone hexec
  have htae : (shiftValid t h (shiftCopy h x s).2).tae = s.tae := (shiftValid_tae _ _ _).trans (shiftCopy_tae _ _ _)
  have htag : ∀ k, k < thkCopies s t → (thkEntry (shiftValid t h (shiftCopy h x s).2) t k h.pos).tag = h.tag := fun k hk =>
    tag_shiftValid t h (by rw [thkCopies, shiftCopy_thkCfg]; exact hk)
  have hshift := thkShifting_shiftValid t h (shiftCopy h x s).2
  generalize shiftValid t h (shiftCopy h x s).2 = v at *
  obtain ⟨hthk, hexecs⟩ := thk_taeFinish q cmd.bytes (resPlain tsOk h.pos) (execTaken q v)
  refine gives_act hs rfl (f := shiftStep t c) ?_
  rw [hstep]
  refine ⟨?_, ?_, ?_, ?_, fun k hk => ?_⟩
  · rw [thkShifting, boardKeeps_thk, hthk]
    exact hshift
  · rw [boardKeeps_tae, hexecs]
    exact mfind_mdel_same _ _
  · rintro rfl
    have htaken : (execTaken 0 v).tae.hostDone = s.tae.hostDone := by rw [← htae]; rfl
    refine ⟨?_, fun i hi => ?_⟩
    · rw [boardKeeps_tae, tae_taeFinish_host, htaken]
    · have hcomp := comp_taeFinish cmd.bytes (resPlain tsOk h.pos) (execTaken 0 v) hi
      rwa [htaken] at hcomp
  · rintro rfl
    rw [boardKeeps_tae, tae_taeFinish_sap, ← htae]
    rfl
  · exact (congrArg ThkRow.tag ((sameTable_taeFinish _ _ (execTaken q v) htbl q).entry k h.pos)).trans (htag k hk)

end

end

end Sys2Proof.Machine
end

section
/-!
PROOFS. The scrub of the Thicket and the repair of its rows (R166, R167, R168).
-/

namespace Sys2Proof.Machine
open Sys2Proof

/-! ### A lost entry (R168) -/

section
variable (t x : Nat) (s : State)

/-- It is counted and recorded, and raises the interrupt of its page. -/
theorem onlyNoted_thkLost : OnlyNoted (count pgThk cThk_LOST_ENTRIES s) (thkLost t x s) := by
  unfold thkLost
  dsimp only
  split_ifs
  · exact onlyNoted_setReg _ _ _
  · exact (onlyNoted_setReg _ _ _).trans (onlyNoted_raiseIrq _ _ _)

@[simp] theorem thkLost_thk : (thkLost t x s).thk = s.thk := by rw [onlyNoted_thkLost]; rfl
@[simp] theorem thkLost_lko : (thkLost t x s).lko = s.lko := by rw [onlyNoted_thkLost]; rfl
@[simp] theorem thkLost_time : (thkLost t x s).time = s.time := by rw [onlyNoted_thkLost]; rfl

theorem ctr_thkLost : ctr (thkLost t x s) (pa pgThk cThk_LOST_ENTRIES) =
    Nat.min maxCtr (ctr s (pa pgThk cThk_LOST_ENTRIES) + 1) := by
  rw [← ctr_count_same, onlyNoted_thkLost]
  rfl

/-- VALID of THK_LOST is 1 from the first loss on. -/
theorem thkLost_valid : regB (thkLost t x s) (pa pgThk offTHK_LOST) fTHK_LOST_VALID = true := by
  unfold thkLost
  dsimp only
  split_ifs with hvalid
  · have hkeep := regF_setRegF_field (count pgThk cThk_LOST_ENTRIES s) (pa pgThk offTHK_LOST) fTHK_LOST_MORE fTHK_LOST_VALID
      1 (by decide) (by decide) (by decide) (by decide)
    rw [regB, fbit, setRegB, if_pos rfl]
    rw [regF] at hkeep
    rw [hkeep]
    exact hvalid
  · have hraise := fun v => ((Aside.refl (W := (· = pa pgThk offIRQ_STS)) v).raiseIrq (.inr rfl) 2).reg (pa pgThk offTHK_LOST)
      (not_noise_thk (by decide)) (pa_ne _ _ _ (by decide))
    rw [regB, hraise, reg_setReg_same, fbit, fget_fset_other _ _ _ _ (by decide) (by decide) (by decide) (by decide),
      fget_fset_other _ _ _ _ (by decide) (by decide) (by decide) (by decide), fget_fset_same _ _ _ (by decide) (by decide)]
    rfl

end

/-! ### Rows that lose their VALID bit (R166, R168) -/

/-- VALID went to 0 in rows of position `row` of their banks and to 1 nowhere; the scrub's place and the clocks stayed. -/
structure RowsOff (row : Nat) (s t : State) : Prop where
  scrub : t.thk.scrub = s.thk.scrub
  time : t.time = s.time
  off : ∀ k, (thkRow s k).tag.testBit 0 = false → (thkRow t k).tag.testBit 0 = false
  other : ∀ k, k % 2048 ≠ row % 2048 → thkRow t k = thkRow s k

section
variable {row : Nat} {s t u : State}

theorem RowsOff.trans (h : RowsOff row s t) (h' : RowsOff row t u) : RowsOff row s u :=
  ⟨h'.scrub.trans h.scrub, h'.time.trans h.time, fun k hk => h'.off k (h.off k hk),
    fun k hk => (h'.other k hk).trans (h.other k hk)⟩

/-- Where the rows stay nothing of them goes. -/
theorem RowsOff.of_rows (hrows : t.thk.rows = s.thk.rows) (hscrub : t.thk.scrub = s.thk.scrub) (htime : t.time = s.time) :
    RowsOff row s t := by
  have hrow : ∀ k, thkRow t k = thkRow s k := fun k => by rw [thkRow, hrows]; rfl
  exact ⟨hscrub, htime, fun k hk => by rwa [hrow], fun k _ => hrow k⟩

theorem RowsOff.refl (s : State) : RowsOff row s s := .of_rows rfl rfl rfl

theorem RowsOff.lost (n x : Nat) (s : State) : RowsOff row s (thkLost n x s) :=
  .of_rows (by rw [thkLost_thk]) (by rw [thkLost_thk]) (thkLost_time n x s)

theorem RowsOff.waiting (k : Nat) (s : State) :
    RowsOff row s { s with thk := { s.thk with repair := nsInsert s.thk.repair k } } := .of_rows rfl rfl rfl

theorem RowsOff.setThkRow {k : Nat} (hk : k % 2048 = row % 2048) (r : ThkRow) (g : Nat) (s : State) :
    RowsOff row s (setThkRow k { r with tag := natSetBit g 0 false } s) := by
  refine ⟨rfl, rfl, fun j hj => ?_, fun j hj => ?_⟩ <;> rw [thkRow_setThkRow]
  · split_ifs
    · exact testBit_natSetBit_same g 0 false
    · exact hj
  · rw [if_neg (by rintro rfl; exact hj hk)]

/-- A position that a bank row belongs to has its row in the bank. -/
theorem thkPlaceOf_mod {bank c x n : Nat} (h : thkPlaceOf s bank row = some (n, c, x)) : x % 2048 = row % 2048 := by
  unfold thkPlaceOf at h
  split at h
  · exact absurd h (by simp)
  · obtain ⟨-, -, rfl⟩ : _ ∧ _ ∧ _ := by simpa using h
    omega

end

section
variable (bank row : Nat) (s : State)

/-- A bank row with VALID 0. -/
def rowOff : State :=
  setThkRow (bank * 2048 + row)
    { thkRow s (bank * 2048 + row) with tag := natSetBit (thkRow s (bank * 2048 + row)).tag 0 false } s

theorem rowsOff_rowOff : RowsOff row s (rowOff bank row s) :=
  .setThkRow (Nat.mul_add_mod_self_right bank 2048 row) _ _ s

theorem valid_rowOff : (thkRow (rowOff bank row s) (bank * 2048 + row)).tag.testBit 0 = false := by
  rw [rowOff, thkRow_setThkRow, if_pos rfl, testBit_natSetBit_same]

/-- A row that cannot be read loses its VALID bit, and so does its entry; then the error is reported (R167, R168). -/
theorem thkRowError_eq : ∃ u, RowsOff row (rowOff bank row s) u ∧ u.lko = s.lko ∧
    thkRowError bank row false s = capture (pgThk + bank / 8) (2 * (bank % 8) + 1) clsUC false (resId 3 (2048 * bank + row)) u := by
  unfold thkRowError
  simp only [Bool.false_eq_true, if_false, ← rowOff.eq_def]
  split
  · exact ⟨_, .refl _, rfl, rfl⟩
  · next n c x hplace =>
    have htag : RowsOff row (rowOff bank row s)
        (setThkTag n c x (natSetBit (thkEntry s n c x).tag 0 false) (rowOff bank row s)) :=
      .setThkRow ((thkRowKey_mod _ n c x).trans (thkPlaceOf_mod hplace)) _ _ _
    have hlko : (setThkTag n c x (natSetBit (thkEntry s n c x).tag 0 false) (rowOff bank row s)).lko = s.lko := rfl
    generalize setThkTag n c x (natSetBit (thkEntry s n c x).tag 0 false) (rowOff bank row s) = v at htag hlko ⊢
    split_ifs
    · exact ⟨v, htag, hlko, rfl⟩
    · exact ⟨_, htag.trans (.waiting _ v), hlko, rfl⟩
    · exact ⟨_, htag.trans (.lost n x v), (thkLost_lko n x v).trans hlko, rfl⟩
    · exact ⟨v, htag, hlko, rfl⟩

end

/-! ### The scrub (R166) -/

/-- The scrubber finds a row of bank `b` it cannot read. -/
def scrubBad (row b : Nat) (s : State) : State := if b < 64 then thkRowError b row false s else s

/-- Its report (R167). -/
def scrubReport (row t0 b : Nat) : Report := ⟨pgThk + b / 8, 2 * (b % 8) + 1, clsUC, false, resId 3 (2048 * b + row), t0⟩

section
variable (row b : Nat) (s : State)

theorem rowsOff_thkRowError : RowsOff row s (thkRowError b row false s) := by
  obtain ⟨u, hoff, -, heq⟩ := thkRowError_eq b row s
  rw [heq]
  exact ((rowsOff_rowOff b row s).trans hoff).trans (.of_rows rfl rfl rfl)

theorem valid_thkRowError : (thkRow (thkRowError b row false s) (b * 2048 + row)).tag.testBit 0 = false := by
  obtain ⟨u, hoff, -, heq⟩ := thkRowError_eq b row s
  rw [heq]
  exact hoff.off _ (valid_rowOff b row s)

theorem cap_thkRowError : (thkRowError b row false s).lko.cap = s.lko.cap ++ [scrubReport row (kNow s) b] := by
  obtain ⟨u, hoff, hlko, heq⟩ := thkRowError_eq b row s
  have htime : u.time = s.time := hoff.time
  rw [heq, scrubReport, kNow, ← htime, ← hlko]
  rfl

theorem rowsOff_scrubBad : RowsOff row s (scrubBad row b s) := by
  unfold scrubBad
  split_ifs
  · exact rowsOff_thkRowError row b s
  · exact .refl s

theorem rowsOff_scrub (bad : List Nat) : RowsOff row s (forAll (scrubBad row) bad s) :=
  forAll_rel .refl (fun _ _ _ => .trans) (rowsOff_scrubBad row) bad s

variable {bad : List Nat} (hbad : ∀ b ∈ bad, b < 64)
include hbad

/-- Each row it cannot read loses its VALID bit. -/
theorem valid_scrub : ∀ b ∈ bad, (thkRow (forAll (scrubBad row) bad s) (b * 2048 + row)).tag.testBit 0 = false := fun b hb =>
  forAll_establishes (P := fun b u => b < 64 → (thkRow u (b * 2048 + row)).tag.testBit 0 = false)
    (fun b u hlt => by rw [scrubBad, if_pos hlt]; exact valid_thkRowError row b u)
    (fun d b u hu hlt => (rowsOff_scrubBad row d u).off _ (hu hlt)) bad s b hb (hbad b hb)

/-- Each is reported. -/
theorem cap_scrub : (forAll (scrubBad row) bad s).lko.cap = s.lko.cap ++ bad.map (scrubReport row (kNow s)) := by
  induction bad generalizing s with
  | nil => simp [forAll]
  | cons b l ih =>
    have hb : scrubBad row b s = thkRowError b row false s := if_pos (hbad b (by simp))
    have htime : kNow (thkRowError b row false s) = kNow s := by rw [kNow, (rowsOff_thkRowError row b s).time, kNow]
    rw [forAll, hb, ih _ fun d hd => hbad d (by simp [hd]), cap_thkRowError, htime]
    simp

end

/-! ### The repair of a row (R168) -/

section
variable {s : State} {bank row t c x : Nat}

theorem thkRepair_idle (h : s.thk.repair.contains (bank * 2048 + row) = false) : thkRepair bank row s = s := by
  simp only [thkRepair, h, Bool.not_false, if_true]

/-- The row no longer waits. -/
def repairDone (k : Nat) (s : State) : State := { s with thk := { s.thk with repair := nsErase s.thk.repair k } }

/-- Where the entry of a row may be taken from, in order: the copies after its own, where their moves have taken it. -/
def repairSources (s : State) (t c x : Nat) : List (Nat × Nat) :=
  ((List.range (thkCopies s t - 1)).map (fun i => (c + 1 + i) % thkCopies s t)).flatMap
    (fun d => (rowNow s t d (rowBefore s t c x)).map (fun y => (d, y)))

section
variable (h : s.thk.repair.contains (bank * 2048 + row) = true)
include h

theorem thkRepair_nowhere (hplace : thkPlaceOf s bank row = none) :
    thkRepair bank row s = repairDone (bank * 2048 + row) s := by
  simp only [thkRepair, h, hplace, Bool.not_true, Bool.false_eq_true, if_false]
  rfl

variable (hplace : thkPlaceOf s bank row = some (t, c, x))
include hplace

theorem thkRepair_found {d y : Nat}
    (hfound : (repairSources s t c x).find? (fun e => !thkPending s t e.1 e.2) = some (d, y)) : thkRepair bank row s =
    count pgThk cThk_REPAIRS (setThkEntry t c x (thkEntry s t d y) (repairDone (bank * 2048 + row) s)) := by
  rw [repairSources] at hfound
  simp only [thkRepair, h, hplace, hfound, Bool.not_true, Bool.false_eq_true, if_false]
  rfl

theorem thkRepair_lost (hnone : (repairSources s t c x).find? (fun e => !thkPending s t e.1 e.2) = none) :
    thkRepair bank row s = thkLost t x (repairDone (bank * 2048 + row) s) := by
  rw [repairSources] at hnone
  simp only [thkRepair, h, hplace, hnone, Bool.not_true, Bool.false_eq_true, if_false]
  rfl

end

end

/-! ### What the commands show -/

section
variable {s : State} (hs : stopped s = false)
include hs

theorem gives_thicketScrub {bad : List Nat} (hbad : ∀ b ∈ bad, b < 64) : Gives (.thicketScrub bad) s (fun t =>
    t.thk.scrub = (s.thk.scrub + 1) % 2048 ∧ (bad = [] → t.thk.rows = s.thk.rows) ∧
    (∀ b ∈ bad, (thkRow t (b * 2048 + s.thk.scrub)).tag.testBit 0 = false) ∧
    (∀ k, k % 2048 ≠ s.thk.scrub % 2048 → thkRow t k = thkRow s k) ∧
    t.lko.cap = s.lko.cap ++ bad.map (scrubReport s.thk.scrub (kNow s))) := by
  refine gives_act hs rfl (f := thkScrub bad) ⟨rfl, ?_, ?_, ?_, ?_⟩
  · rintro rfl; rfl
  · exact valid_scrub s.thk.scrub s hbad
  · exact (rowsOff_scrub s.thk.scrub s bad).other
  · exact cap_scrub s.thk.scrub s hbad

variable {bank row t c x : Nat} (h : s.thk.repair.contains (bank * 2048 + row) = true)
  (hplace : thkPlaceOf s bank row = some (t, c, x))
include h hplace

theorem gives_thkRowRepair_found {d y : Nat}
    (hfound : (repairSources s t c x).find? (fun e => !thkPending s t e.1 e.2) = some (d, y)) :
    Gives (.thkRowRepair bank row) s (fun u => (thkEntry u t c x).tag = (thkEntry s t d y).tag ∧
      (thkEntry u t c x).result = (thkEntry s t d y).result ∧ u.thk.repair.contains (bank * 2048 + row) = false ∧
      ctr u (pa pgThk cThk_REPAIRS) = Nat.min maxCtr (ctr s (pa pgThk cThk_REPAIRS) + 1)) := by
  have hrows := onlyRows_setThkEntry t c x (thkEntry s t d y) (repairDone (bank * 2048 + row) s)
  refine gives_act hs rfl (f := thkRepair bank row) ?_
  rw [thkRepair_found h hplace hfound]
  rw [thkEntry_boardKeeps, thkEntry_count, ctr_boardKeeps, ctr_count_same, hrows.ctr]
  refine ⟨tag_setThkEntry, result_setThkEntry, ?_, rfl⟩
  change (setThkEntry t c x _ _).thk.repair.contains _ = false
  rw [hrows]
  exact contains_nsErase_same _ _

theorem gives_thkRowRepair_lost (hnone : (repairSources s t c x).find? (fun e => !thkPending s t e.1 e.2) = none) :
    Gives (.thkRowRepair bank row) s (fun u => u.thk.rows = s.thk.rows ∧
      u.thk.repair.contains (bank * 2048 + row) = false ∧ regB u (pa pgThk offTHK_LOST) fTHK_LOST_VALID = true ∧
      ctr u (pa pgThk cThk_LOST_ENTRIES) = Nat.min maxCtr (ctr s (pa pgThk cThk_LOST_ENTRIES) + 1)) := by
  refine gives_act hs rfl (f := thkRepair bank row) ?_
  rw [thkRepair_lost h hplace hnone, boardKeeps_thk, thkLost_thk, ctr_boardKeeps, ctr_thkLost]
  exact ⟨rfl, contains_nsErase_same _ _, thkLost_valid t x _, rfl⟩

end

/-! ### The obligation -/

/-- Settles O47: SHIFT_MOVE by what stands next for the copy, the scrub by what one bank's error leaves to the others, the repair by what
the copies after the row's own hold. -/
theorem thicketMovesScrubAndRepair : Obligations.ThicketMovesScrubAndRepair := by
  intro s hs
  refine ⟨fun t c h x hshift hheld hcopy => ?_, fun bad hbad => gives_thicketScrub hs hbad,
    fun bank row _ _ => ⟨fun hidle => ?_, fun hwaits => ⟨fun hnowhere => ?_, fun t c x hplace =>
      ⟨fun d y => gives_thkRowRepair_found hs hwaits hplace, gives_thkRowRepair_lost hs hwaits hplace⟩⟩⟩⟩
  · have hx : HoldsShifter s t c h x := ⟨hshift, hheld, hcopy⟩
    refine ⟨gives_shiftMove_off hx hs, fun hon hrepair => ?_, fun hon hrepair =>
      ⟨fun a b ms => gives_shiftMove_moves hx hs hon hrepair, gives_shiftMove_frees hx hs hon hrepair,
        gives_shiftMove_writes hx hs hon hrepair,
        fun q cmd hmoves hwrites hall _ => gives_shiftMove_commits hx hs hon hrepair hmoves hwrites hall⟩⟩
    exact gives_act_eq hs rfl (shiftStep_repairing hx hon hrepair) rfl rfl
  · exact gives_act_eq hs rfl (thkRepair_idle hidle) rfl rfl
  · exact gives_act_eq hs rfl (thkRepair_nowhere hwaits hnowhere) rfl rfl

end Sys2Proof.Machine
end

section
/-!
PROOFS. The flags of an addition and of a subtraction (R190), against the signed and unsigned values of words.
-/

namespace Sys2Proof.Machine
open Sys2Proof

theorem msb_iff_neg (r : Word) : r.msb = true ↔ r.toInt < 0 := by
  rw [BitVec.msb_eq_toInt, decide_eq_true_iff]

/-- A sum of signed words overflows where the word that it leaves is not it: a word lies between -2^31 and 2^31 - 1. -/
theorem saddOverflow_iff (a b : Word) : a.saddOverflow b = true ↔ (a + b).toInt ≠ a.toInt + b.toInt := by
  refine ⟨fun h => ?_, fun h => by_contra fun hn => h (BitVec.toInt_add_of_not_saddOverflow hn)⟩
  have hlt := BitVec.toInt_lt (x := a + b)
  have hge := BitVec.le_toInt (a + b)
  simp only [BitVec.saddOverflow, Bool.or_eq_true, decide_eq_true_iff] at h
  omega

theorem ssubOverflow_iff (a b : Word) : a.ssubOverflow b = true ↔ (a - b).toInt ≠ a.toInt - b.toInt := by
  refine ⟨fun h => ?_, fun h => by_contra fun hn => h (BitVec.toInt_sub_of_not_ssubOverflow hn)⟩
  have hlt := BitVec.toInt_lt (x := a - b)
  have hge := BitVec.le_toInt (a - b)
  simp only [BitVec.ssubOverflow, Bool.or_eq_true, decide_eq_true_iff] at h
  omega

theorem outAdd_v (a b : Word) : (outAdd a b).v = a.saddOverflow b := (BitVec.saddOverflow_eq a b).symm

theorem outSub_v (a b : Word) : (outSub a b).v = a.ssubOverflow b := by
  rw [BitVec.ssubOverflow_eq]
  simp only [outSub]
  cases a.msb <;> cases b.msb <;> cases (a - b).msb <;> rfl

/-- Settles O36: Z, N and C by the definitions of the flags, V by the overflow of signed words. -/
theorem addAndSubtractFlags : Obligations.AddAndSubtractFlags := by
  intro a b
  refine ⟨rfl, rfl, ?_, ?_, msb_iff_neg _, msb_iff_neg _, ?_, ?_, ?_, ?_⟩
  · simp [outAdd]
  · simp [outSub, BitVec.sub_eq_iff_eq_add]
  · simp only [outAdd, decide_eq_true_iff, BitVec.toNat_add]
    omega
  · simp [outSub]
  · exact outAdd_v a b ▸ saddOverflow_iff a b
  · exact outSub_v a b ▸ ssubOverflow_iff a b

end Sys2Proof.Machine
end

section
/-!
PROOFS. The word that an engine issues (R178, R181, R183): how it begins, what a field of it changes, and what its sequencing does
last. Fields and sequencing change the thread, the count of issues and the engine's round-robin place alone.
-/

namespace Sys2Proof.Machine
open Sys2Proof

/-! ### The issuing thread -/

/-- The thread that an engine issues is READY, and it is one of the engine's four. -/
theorem issuing_spec {s : State} {eng t : Nat} (h : issuing s eng = some t) : (thread s t).st = .ready ∧ t < 4096 := by
  unfold issuing at h
  dsimp only at h
  split_ifs at h with hshut
  have heng : eng < 1024 := by
    simp only [Bool.or_eq_true, decide_eq_true_iff, not_or, not_le] at hshut
    exact hshut.2
  split at h
  · next u hfind =>
    obtain rfl : u = t := Option.some.inj h
    obtain ⟨i, hi, rfl⟩ := List.mem_map.mp (List.mem_of_find?_eq_some hfind)
    have hok := List.find?_some hfind
    rw [List.mem_range] at hi
    exact ⟨by simpa using (Bool.and_eq_true_iff.mp hok).1, by omega⟩
  · obtain ⟨i, hi, rfl⟩ := List.mem_map.mp (List.mem_of_find?_eq_some h)
    have hok := List.find?_some h
    exact ⟨by simpa using (Bool.and_eq_true_iff.mp hok).1, by omega⟩

/-! ### Threads -/

section
variable {s u : State} {t : Nat}

@[simp] theorem thread_updThread_same (f : Thread → Thread) : thread (updThread t f s) t = f (thread s t) :=
  thread_setThread_same s t _

theorem OnlyThread.setThread (h : OnlyThread t s u) (v : Thread) : OnlyThread t s (setThread t v u) := by
  obtain ⟨hother, hcounts, hframe⟩ := h
  refine ⟨fun x hx => (thread_setThread_other u t x v hx).trans (hother x hx), hcounts, ?_⟩
  rw [hframe]
  rfl

theorem OnlyThread.updThread (h : OnlyThread t s u) (f : Thread → Thread) : OnlyThread t s (updThread t f u) := h.setThread _

theorem OnlyThread.boardKeeps (h : OnlyThread t s u) : boardKeeps s u = u := by
  obtain ⟨-, -, hframe⟩ := h
  exact boardKeeps_eq_self (by rw [hframe]) (by rw [hframe])

end

/-! ### A word begins -/

/-- The state in which the fields of a word act that begins or has begun. -/
def wordBegun (s : State) (t : Nat) : State := (beginWord t (wordOf s t) s).2

section
variable {s : State} {t : Nat}

theorem beginWord_inProgress (w : Nat) (h : (thread s t).done.isEmpty = false) : beginWord t w s = (true, s) := by
  simp [beginWord, h]

theorem wordThread_inProgress (h : (thread s t).done.isEmpty = false) : wordThread s t = thread s t := by
  simp [wordThread, h]

/-- A word that goes on as it begins is counted, and the thread keeps what its registers held before it. -/
theorem beginWord_begins (hnew : (thread s t).done.isEmpty = true) (h : wordGoesOn s t = true) :
    beginWord t (wordOf s t) s = (true, setThread t (wordThread s t) (count (grvPage (thGrove t)) cGrv_ISSUES
      { s with grv := { s.grv with last := mset (fun _ => 3) s.grv.last (t / 4) (t % 4) } })) := by
  simp only [wordGoesOn, hnew, Bool.not_true, Bool.false_or, Bool.and_eq_true, Bool.not_eq_true', Bool.or_eq_true,
    decide_eq_true_iff, beq_iff_eq] at h
  obtain ⟨hbad, hlast⟩ := h
  have hlimit : ¬ ((thread s t).issued + 1 = 512 ∧ mwSeq (wordOf s t) ≠ 7) := fun hn => hlast.elim (· hn.1) hn.2
  simp only [beginWord, wordThread, hnew, Bool.not_true, if_true, if_false, hbad, hlimit, Bool.false_eq_true, decide_not,
    Bool.and_eq_true, decide_eq_true_iff, Bool.not_eq_true', decide_eq_false_iff_not, ← ne_eq]

theorem beginWord_goesOn (h : wordGoesOn s t = true) : beginWord t (wordOf s t) s = (true, wordBegun s t) := by
  unfold wordBegun
  cases hnew : (thread s t).done.isEmpty with
  | true => rw [beginWord_begins hnew h]
  | false => rw [beginWord_inProgress _ hnew]

theorem thread_wordBegun (h : wordGoesOn s t = true) : thread (wordBegun s t) t = wordThread s t := by
  unfold wordBegun
  cases hnew : (thread s t).done.isEmpty with
  | true => rw [beginWord_begins hnew h]; exact thread_setThread_same _ t _
  | false => rw [beginWord_inProgress _ hnew, wordThread_inProgress hnew]

theorem onlyThread_wordBegun (h : wordGoesOn s t = true) : OnlyThread t s (wordBegun s t) := by
  unfold wordBegun
  cases hnew : (thread s t).done.isEmpty with
  | true =>
    rw [beginWord_begins hnew h]
    have hcounted : OnlyThread t s (count (grvPage (thGrove t)) cGrv_ISSUES
        { s with grv := { s.grv with last := mset (fun _ => 3) s.grv.last (t / 4) (t % 4) } }) := by
      refine ⟨fun _ _ => rfl, ?_, rfl⟩
      rw [hnew, if_pos rfl]
      exact ((counts_refl s).same rfl).count rfl
    exact hcounted.setThread _
  | false =>
    rw [beginWord_inProgress _ hnew]
    refine ⟨fun _ _ => rfl, ?_, rfl⟩
    rw [hnew]
    exact counts_refl s

end
end Sys2Proof.Machine
end

section
/-!
PROOFS. The ALU operations (R183, R189, R190): a field that acts first changes its thread and is done, and each operation is that with
its own result.
-/

namespace Sys2Proof.Machine
open Sys2Proof

/-! ### A field of an ALU acts -/

section
variable {s : State} {t : Nat}

theorem st_wordThread (s : State) (t : Nat) : (wordThread s t).st = (thread s t).st := by
  unfold wordThread
  dsimp only
  split_ifs <;> rfl

theorem pass_wordThread (s : State) (t : Nat) : (wordThread s t).pass = (thread s t).pass := by
  unfold wordThread
  dsimp only
  split_ifs <;> rfl

theorem OnlyThread.pass_eq {u : State} (h : OnlyThread t s u) (k : Nat) : pass? u k = pass? s k := by
  obtain ⟨-, -, hframe⟩ := h
  rw [hframe]
  rfl

theorem passOf_wordBegun (h : wordGoesOn s t = true) : passOf (wordBegun s t) t = passOf s t := by
  rw [passOf, thread_wordBegun h, pass_wordThread, (onlyThread_wordBegun h).pass_eq, passOf]

theorem scratch_wordBegun (h : wordGoesOn s t = true) : (wordBegun s t).grv.scratch = s.grv.scratch := by
  obtain ⟨-, -, hframe⟩ := onlyThread_wordBegun h
  rw [hframe]

theorem time_wordBegun (h : wordGoesOn s t = true) : (wordBegun s t).time = s.time := by
  obtain ⟨-, -, hframe⟩ := onlyThread_wordBegun h
  rw [hframe]

/-- A thread of whose word field k has acted (R183). -/
def fieldActed (k : Nat) (th : Thread) : Thread := { th with done := nsInsert th.done k }

theorem markDone_ready {k : Nat} (h : (thread s t).st = .ready) :
    markDone t k s = updThread t (fieldActed k) s := by
  simp [markDone, updThread, fieldActed, h]

end

section
variable {s : State} {c : Instr} {eng k t : Nat} {ok : Nat → Bool}

theorem runField_alu (h : FieldReady s eng k t ok) (hk : k < 2) (f : Nat → Nat → State → State) :
    runField eng k ok f s = markDone t k (f t (wordOf s t) (wordBegun s t)) := by
  obtain ⟨hissue, hok, hdue, hgoes⟩ := h
  simp only [runField, hissue, hok, hdue, Bool.not_true, Bool.or_self, Bool.false_eq_true, if_false, beginWord_goesOn hgoes,
    if_true, hk]

/-- A field whose action leaves state `v`, its thread READY: the field is done, and nothing else follows (R183). -/
theorem gives_field (hs : stopped s = false) (h : FieldReady s eng k t ok) (hk : k < 2) {f : Nat → Nat → State → State}
    {v : State} (hexec : exec c s = act (runField eng k ok f) s) (hf : f t (wordOf s t) (wordBegun s t) = v)
    (hready : (thread v t).st = .ready) (hkeep : boardKeeps s v = v) :
    Gives c s (fun u => u = updThread t (fieldActed k) v) := by
  refine gives_act_eq hs hexec ((runField_alu h hk f).trans ?_) ?_ rfl
  · rw [hf, markDone_ready hready]
  · exact congrArg (updThread t (fieldActed k)) hkeep

theorem ready_wordThread (h : FieldReady s eng k t ok) : (wordThread s t).st = .ready := by
  obtain ⟨hissue, -⟩ := h
  rw [st_wordThread, (issuing_spec hissue).1]

/-- A field that changes its thread by `g`: the thread is so changed and the field done, and only that (R183). -/
theorem gives_threadField (hs : stopped s = false) (h : FieldReady s eng k t ok) (hk : k < 2) {f : Nat → Nat → State → State}
    {g : Thread → Thread} (hexec : exec c s = act (runField eng k ok f) s)
    (hf : f t (wordOf s t) (wordBegun s t) = updThread t g (wordBegun s t)) (hg : ∀ th, (g th).st = th.st) :
    Gives c s (fun u => thread u t = fieldActed k (g (wordThread s t)) ∧ OnlyThread t s u) := by
  obtain ⟨-, -, -, hgoes⟩ := id h
  have hthread : thread (updThread t g (wordBegun s t)) t = g (wordThread s t) := by
    rw [thread_updThread_same, thread_wordBegun hgoes]
  have honly := (onlyThread_wordBegun hgoes).updThread g
  obtain ⟨u, hu, rfl⟩ := gives_field hs h hk hexec hf (by rw [hthread, hg, ready_wordThread h]) honly.boardKeeps
  exact ⟨_, hu, by rw [thread_updThread_same, hthread], honly.updThread _⟩

end

/-! ### Results -/

section
variable {s u : State} {c : Instr} {eng slot t op : Nat}

theorem wreg_setWreg (d j : Nat) (v : Word) (th : Thread) :
    wreg (setWreg d v th) j = if j % 32 = d % 32 then v else wreg th j := mget_mset _ _ _ _ _

theorem st_aluWrite (d : Nat) (o : AluOut) (th : Thread) : (aluWrite slot d o th).st = th.st := by
  unfold aluWrite
  dsimp only
  split_ifs <;> rfl

/-- What an ALU writes to its thread is its result, and for ALU_A the flags (R190). -/
theorem aluDone_of_aluWrite (hslot : slot < 2) {d : Nat} {o : AluOut}
    (hthread : thread u t = fieldActed slot (aluWrite slot d o (wordThread s t))) (honly : OnlyThread t s u) :
    AluDone s t slot d o u := by
  have hreg (th : Thread) (j : Nat) : wreg (aluWrite slot d o th) j = if j % 32 = d % 32 then o.r else wreg th j := by
    rw [← wreg_setWreg d j o.r th]
    unfold aluWrite
    dsimp only
    split_ifs <;> rfl
  have hwreg (j : Nat) : wreg (thread u t) j = if j % 32 = d % 32 then o.r else wreg (wordThread s t) j := by
    rw [hthread, ← hreg]
    rfl
  refine ⟨by rw [hwreg, if_pos rfl], fun j hj => by rw [hwreg, if_neg hj], ?_, ?_, ?_, honly⟩
  · rintro rfl
    rw [hthread]
    exact ⟨rfl, rfl, rfl, rfl⟩
  · rintro rfl
    rw [hthread]
    exact ⟨rfl, rfl, rfl, rfl⟩
  · rw [hthread]
    obtain rfl | rfl : slot = 0 ∨ slot = 1 := by omega
    · rfl
    · rfl

/-- A field that writes a result computed from its thread. -/
theorem gives_aluWrite (hs : stopped s = false) (hslot : slot < 2) {ok : Nat → Bool} {f : Nat → Nat → State → State} {d : Nat}
    {o : Thread → AluOut} (hexec : exec c s = act (runField eng slot ok f) s) (h : FieldReady s eng slot t ok)
    (hf : f t (wordOf s t) (wordBegun s t) = updThread t (fun th => aluWrite slot d (o th) th) (wordBegun s t)) :
    Gives c s (AluDone s t slot d (o (wordThread s t))) := by
  obtain ⟨u, hu, hthread, honly⟩ := gives_threadField hs h hslot hexec hf (fun _ => st_aluWrite _ _ _)
  exact ⟨u, hu, aluDone_of_aluWrite hslot hthread honly⟩

/-- An operation on operands A and B. -/
theorem gives_aluBin (hs : stopped s = false) (hslot : slot < 2) {f : Word → Word → AluOut} {o : AluOut}
    (hexec : exec c s = act (aluBin eng slot op f) s)
    (ho : f (opA (wordThread s t) (mwAlu (wordOf s t) slot)) (opB (wordThread s t) (wordOf s t) (mwAlu (wordOf s t) slot)) = o)
    (h : FieldReady s eng slot t (aluIs slot op)) :
    Gives c s (AluDone s t slot (aluDest (mwAlu (wordOf s t) slot)) o) := by
  unfold aluBin at hexec
  rw [Nat.mod_eq_of_lt hslot] at hexec
  subst ho
  exact gives_aluWrite hs hslot hexec h rfl

/-- An operation that loads a value of the thread and its pass. -/
theorem gives_aluLoad (hs : stopped s = false) (hslot : slot < 2) {p : Pass} (hp : passOf s t = some p)
    {f : State → Nat → Thread → Pass → Nat → Word} {v : Word} (hexec : exec c s = act (aluLoad eng slot op f) s)
    (hv : f (wordBegun s t) t (wordThread s t) p (mwAlu (wordOf s t) slot) = v)
    (h : FieldReady s eng slot t (fun w => aluOp (mwAlu w slot) == op)) :
    Gives c s (AluDone s t slot (aluDest (mwAlu (wordOf s t) slot)) (outLogic v)) := by
  obtain ⟨-, -, -, hgoes⟩ := id h
  unfold aluLoad at hexec
  rw [Nat.mod_eq_of_lt hslot] at hexec
  subst hv
  exact gives_aluWrite hs hslot hexec h (o := fun th => outLogic (f (wordBegun s t) t th p (mwAlu (wordOf s t) slot)))
    (by rw [passOf_wordBegun hgoes, hp])

theorem exec_aluHash (eng slot : Nat) (s : State) : exec (.aluHash eng slot) s = act (aluHash eng slot) s := rfl

/-- HASH takes operand B as it is. -/
theorem gives_aluHash (hs : stopped s = false) (hslot : slot < 2) (h : FieldReady s eng slot t (aluIs slot 0x15)) :
    Gives (.aluHash eng slot) s (AluDone s t slot (aluDest (mwAlu (wordOf s t) slot))
      (outLogic (hashWord (opA (wordThread s t) (mwAlu (wordOf s t) slot))
        (opB0 (wordThread s t) (wordOf s t) (mwAlu (wordOf s t) slot)) ((aluAux (mwAlu (wordOf s t) slot)).testBit 0)))) := by
  have hexec := exec_aluHash eng slot s
  unfold aluHash at hexec
  rw [Nat.mod_eq_of_lt hslot] at hexec
  exact gives_aluWrite hs hslot hexec h rfl

theorem max_comm_word (a b : Word) : (if b.toNat ≤ a.toNat then a else b) = if a.toNat ≤ b.toNat then b else a := by
  split_ifs with h1 h2 h2
  · exact BitVec.eq_of_toNat_eq (by omega)
  · rfl
  · rfl
  · omega

end

/-- Settles O34: each operation writes the function of A and B that R190 gives. -/
theorem aluOperationsOnTwoOperands : Obligations.AluOperationsOnTwoOperands := by
  intro s eng slot t hs hslot
  exact ⟨gives_aluBin hs hslot rfl rfl, gives_aluBin hs hslot rfl rfl, gives_aluBin hs hslot rfl rfl, gives_aluBin hs hslot rfl rfl,
    gives_aluBin hs hslot rfl rfl, gives_aluBin hs hslot rfl rfl, gives_aluBin hs hslot rfl rfl, gives_aluBin hs hslot rfl rfl,
    gives_aluBin hs hslot rfl rfl, gives_aluBin hs hslot rfl (by rw [rotr, Nat.mod_mod]), gives_aluBin hs hslot rfl rfl,
    gives_aluBin hs hslot rfl (congrArg outLogic (max_comm_word _ _)), gives_aluBin hs hslot rfl rfl,
    gives_aluBin hs hslot rfl rfl, gives_aluHash hs hslot⟩

/-! ### NOP, CMP and STM -/

section
variable {s : State} {eng slot t : Nat}

theorem exec_aluNop (eng slot : Nat) (s : State) : exec (.aluNop eng slot) s = act (aluNop eng slot) s := rfl
theorem exec_aluCmp (eng slot : Nat) (s : State) : exec (.aluCmp eng slot) s = act (aluCmp eng slot) s := rfl
theorem exec_aluStm (eng slot : Nat) (s : State) : exec (.aluStm eng slot) s = act (aluStm eng slot) s := rfl

theorem gives_aluNop (hs : stopped s = false) (hslot : slot < 2)
    (h : FieldReady s eng slot t (fun w => aluOp (mwAlu w slot) == 0)) :
    Gives (.aluNop eng slot) s (fun u => thread u t = fieldActed slot (wordThread s t) ∧ OnlyThread t s u) := by
  obtain ⟨-, -, -, hgoes⟩ := id h
  have hexec := exec_aluNop eng slot s
  unfold aluNop at hexec
  rw [Nat.mod_eq_of_lt hslot] at hexec
  have honly := onlyThread_wordBegun hgoes
  obtain ⟨u, hu, rfl⟩ := gives_field hs h hslot hexec rfl (by rw [thread_wordBegun hgoes, ready_wordThread h]) honly.boardKeeps
  exact ⟨_, hu, by rw [thread_updThread_same, thread_wordBegun hgoes], honly.updThread _⟩

theorem st_aluFlags (o : AluOut) (th : Thread) : (aluFlags slot o th).st = th.st := by
  unfold aluFlags
  split_ifs <;> rfl

theorem gives_aluCmp (hs : stopped s = false) (hslot : slot < 2) (h : FieldReady s eng slot t (aluIs slot 0x0F)) :
    Gives (.aluCmp eng slot) s (fun u => thread u t = fieldActed slot (aluFlags slot
      (outSub (opA (wordThread s t) (mwAlu (wordOf s t) slot)) (opB (wordThread s t) (wordOf s t) (mwAlu (wordOf s t) slot)))
      (wordThread s t)) ∧ OnlyThread t s u) := by
  have hexec := exec_aluCmp eng slot s
  unfold aluCmp at hexec
  rw [Nat.mod_eq_of_lt hslot] at hexec
  exact gives_threadField hs h hslot hexec (g := fun th => aluFlags slot
    (outSub (opA th (mwAlu (wordOf s t) slot)) (opB th (wordOf s t) (mwAlu (wordOf s t) slot))) th) rfl (fun _ => st_aluFlags _ _)

/-- A state with other scratch words. -/
def withScratch (m : NMap Word) (s : State) : State := { s with grv := { s.grv with scratch := m } }

@[simp] theorem thread_withScratch (m : NMap Word) (s : State) (x : Nat) : thread (withScratch m s) x = thread s x := rfl

theorem boardKeeps_withScratch (m : NMap Word) (s u : State) :
    boardKeeps s (withScratch m u) = withScratch m (boardKeeps s u) := rfl

theorem withScratch_updThread (m m' : NMap Word) (f : Thread → Thread) (u : State) :
    withScratch m' (updThread t f (withScratch m u)) = updThread t f (withScratch m' u) := rfl

theorem withScratch_self {m : NMap Word} {u : State} (h : u.grv.scratch = m) : withScratch m u = u := by
  subst h
  rfl

theorem gives_aluStm (hs : stopped s = false) (hslot : slot < 2) (h : FieldReady s eng slot t (aluIs slot 0x14)) :
    Gives (.aluStm eng slot) s (fun u => thread u t = fieldActed slot (wordThread s t) ∧
      u.grv.scratch = mset scratchReset s.grv.scratch (scratchKey t (ldmAddr (wordThread s t) (mwAlu (wordOf s t) slot)))
        (opB0 (wordThread s t) (wordOf s t) (mwAlu (wordOf s t) slot)) ∧
      OnlyThread t s (withScratch s.grv.scratch u)) := by
  obtain ⟨-, -, -, hgoes⟩ := id h
  have hexec := exec_aluStm eng slot s
  unfold aluStm at hexec
  rw [Nat.mod_eq_of_lt hslot] at hexec
  have honly := onlyThread_wordBegun hgoes
  obtain ⟨u, hu, rfl⟩ := gives_field hs h hslot hexec
    (v := withScratch (mset scratchReset s.grv.scratch (scratchKey t (ldmAddr (wordThread s t) (mwAlu (wordOf s t) slot)))
        (opB0 (wordThread s t) (wordOf s t) (mwAlu (wordOf s t) slot))) (wordBegun s t))
    (by simp only [thread_wordBegun hgoes, scratch_wordBegun hgoes, withScratch])
    (by rw [thread_withScratch, thread_wordBegun hgoes, ready_wordThread h])
    (by rw [boardKeeps_withScratch, honly.boardKeeps])
  refine ⟨_, hu, ?_, rfl, ?_⟩
  · rw [thread_updThread_same, thread_withScratch, thread_wordBegun hgoes]
  · rw [withScratch_updThread, withScratch_self (scratch_wordBegun hgoes)]
    exact honly.updThread _

end

/-- Settles O35: the loads by `gives_aluLoad`, the three operations that write no register each by its own. -/
theorem aluLoadsComparesAndStores : Obligations.AluLoadsComparesAndStores := by
  intro s eng slot t hs hslot
  refine ⟨gives_aluNop hs hslot, fun h => ?_, fun p hp => ⟨gives_aluLoad hs hslot hp rfl rfl, gives_aluLoad hs hslot hp rfl rfl,
    gives_aluLoad hs hslot hp rfl rfl, gives_aluLoad hs hslot hp rfl rfl, gives_aluLoad hs hslot hp rfl rfl, fun h => ?_, fun h => ?_⟩,
    fun h => ?_⟩
  · obtain ⟨u, hu, hthread, honly⟩ := gives_aluCmp hs hslot h
    refine ⟨u, hu, hthread.trans ?_, honly⟩
    obtain rfl | rfl : slot = 0 ∨ slot = 1 := by omega
    · rfl
    · rfl
  · exact gives_aluLoad hs hslot hp rfl (by rw [scratch_wordBegun h.2.2.2]) h
  · exact gives_aluLoad hs hslot hp rfl (by rw [time_wordBegun h.2.2.2]) h
  · obtain ⟨u, hu, hthread, hscratch, honly⟩ := gives_aluStm hs hslot h
    refine ⟨u, hu, hthread, ?_, fun k hk => ?_, honly⟩
    · rw [hscratch, mget_mset_same]
    · rw [hscratch, mget_mset_other _ _ _ _ _ hk]

end Sys2Proof.Machine
end

section
/-!
PROOFS. Sequencing (R185, R186): it acts when the word's other fields have, and what it does to the thread is one change of it; an
ABANDON ends the attempt (R224 to R226).
-/

namespace Sys2Proof.Machine
open Sys2Proof

/-! ### The end of a word -/

/-- A thread whose word has ended: no field of the next one has acted. -/
def fieldsOver (th : Thread) : Thread := { th with done := [] }

/-- The state in which the sequencing of a word acts. -/
def wordEnded (s : State) (t : Nat) : State := updThread t fieldsOver (wordBegun s t)

section
variable {s : State} {c : Instr} {eng seq t : Nat}

theorem runSeq_ready (h : SeqReady s eng seq t) (f : Nat → Nat → State → State) :
    runSeq eng seq f s = f t (wordOf s t) (wordEnded s t) := by
  obtain ⟨hissue, hseq, hfields, hgoes⟩ := h
  have hall : (List.range 6).all (fun j => fieldNop (wordOf s t) j || (thread s t).done.contains j) = true := by
    simpa using hfields
  simp only [runSeq, hissue, hseq, hall, ne_eq, not_true_eq_false, decide_false, Bool.not_true, Bool.or_self, Bool.false_eq_true,
    if_false, beginWord_goesOn hgoes, if_true]
  rfl

theorem thread_wordEnded (h : SeqReady s eng seq t) : thread (wordEnded s t) t = fieldsOver (wordThread s t) := by
  obtain ⟨-, -, -, hgoes⟩ := h
  rw [wordEnded, thread_updThread_same, thread_wordBegun hgoes]

theorem onlyThread_wordEnded (h : SeqReady s eng seq t) : OnlyThread t s (wordEnded s t) :=
  (onlyThread_wordBegun h.2.2.2).updThread _

/-- Sequencing that changes nothing but the thread. -/
theorem gives_seq (hs : stopped s = false) (h : SeqReady s eng seq t) {f : Nat → Nat → State → State} {v : State} {x : Thread}
    (hexec : exec c s = act (runSeq eng seq f) s) (hf : f t (wordOf s t) (wordEnded s t) = v) (hv : OnlyThread t s v)
    (hx : thread v t = x) : Gives c s (fun u => thread u t = x ∧ OnlyThread t s u) :=
  gives_act_eq hs hexec ((runSeq_ready h f).trans hf) hv.boardKeeps ⟨hx, hv⟩

/-- Sequencing that is one change of the thread. -/
theorem gives_seqThread (hs : stopped s = false) (h : SeqReady s eng seq t) {f : Nat → Nat → State → State} {g : Thread → Thread}
    {x : Thread} (hexec : exec c s = act (runSeq eng seq f) s)
    (hf : f t (wordOf s t) (wordEnded s t) = updThread t g (wordEnded s t)) (hx : g (fieldsOver (wordThread s t)) = x) :
    Gives c s (fun u => thread u t = x ∧ OnlyThread t s u) :=
  gives_seq hs h hexec hf ((onlyThread_wordEnded h).updThread g) (by rw [thread_updThread_same, thread_wordEnded h, hx])

end

/-! ### The next word -/

theorem mwNext_lt (w : Nat) : mwNext w < 4096 := natField_lt w 159 148

theorem nextC_lt (th : Thread) (w : Nat) : nextC th w < 4096 := by
  have := mwNext_lt w
  unfold nextC
  split_ifs <;> omega

theorem or_dispField_lt (th : Thread) (w n : Nat) (hn : n ≤ 12) : mwNext w ||| dispField th w n < 4096 := by
  refine Nat.or_lt_two_pow (n := 12) (mwNext_lt w) (lt_of_lt_of_le (Nat.mod_lt _ (by positivity)) ?_)
  exact Nat.pow_le_pow_right (by decide) hn

/-- Where a thread goes on at `pc`. -/
def goneTo (pc : Nat) (th : Thread) : Thread := { th with pc := pc, cval := none }

theorem goTo_eq (t : Nat) {pc : Nat} (s : State) (h : pc < 4096) : goTo t pc s = updThread t (goneTo pc) s := by
  simp only [goTo, Nat.mod_eq_of_lt h]
  rfl

/-! ### Calls and waits -/

section
variable {s u : State} {t : Nat}

theorem OnlyThread.live_eq (h : OnlyThread t s u) (a : Nat) : live u a = live s a := by
  obtain ⟨-, -, hframe⟩ := h
  rw [hframe]
  rfl

theorem OnlyThread.wordOf_eq (h : OnlyThread t s u) (hpc : (thread u t).pc = (thread s t).pc) : wordOf u t = wordOf s t := by
  obtain ⟨-, -, hframe⟩ := h
  rw [wordOf, hpc, hframe]
  rfl

theorem svcSub_other (h : svcOn s = true → (thread s t).pc ≠ svcArpEntry ∧ (thread s t).pc ≠ svcNdEntry) : svcSub t s = s := by
  unfold svcSub
  cases hon : svcOn s with
  | false => simp
  | true => simp [h hon]

theorem wake_waits (h : (thread s t).await.any (pendingReg (thread s t)) = true) : wake t s = s := by
  simp [wake, h]

/-- A thread that wakes. -/
def woken (w : Nat) (th : Thread) : Thread := { th with st := .ready, await := [], pc := nextC th w }

theorem wake_goesOn (hst : (thread s t).st = .waiting) (h : (thread s t).await.any (pendingReg (thread s t)) = false) :
    wake t s = updThread t (woken (wordOf s t)) s := by
  simp only [wake, hst, h, beq_self_eq_true, Bool.not_false, Bool.and_self, if_true]
  rfl

/-- A thread that has begun to wait. -/
def asleep (w : Nat) (th : Thread) : Thread := { th with st := .waiting, await := waitMask w, cval := none }

/-- A thread that has noted where a subroutine returns to. -/
def calling (w : Nat) (th : Thread) : Thread := { th with ret := mwImm w % 4096 }

end

section
variable {s : State} {eng t : Nat}

theorem gives_seqCall (hs : stopped s = false) (h : SeqReady s eng 4 t)
    (hsub : svcOn s = true → nextC (wordThread s t) (wordOf s t) ≠ svcArpEntry ∧ nextC (wordThread s t) (wordOf s t) ≠ svcNdEntry) :
    Gives (.seqCall eng) s (fun u => thread u t = { wordThread s t with
      done := [], cval := none, ret := mwImm (wordOf s t) % 4096, pc := nextC (wordThread s t) (wordOf s t) } ∧ OnlyThread t s u) := by
  have hcall := ((onlyThread_wordEnded h).updThread (calling (wordOf s t))).updThread
    (goneTo (nextC (wordThread s t) (wordOf s t)))
  have hnext : nextC (thread (wordEnded s t) t) (wordOf s t) = nextC (wordThread s t) (wordOf s t) := by
    rw [thread_wordEnded h]
    rfl
  have hgo := goTo_eq t (updThread t (calling (wordOf s t)) (wordEnded s t)) (nextC_lt (wordThread s t) (wordOf s t))
  refine gives_seq hs h rfl ?_ hcall (by simp only [thread_updThread_same, thread_wordEnded h]; rfl)
  rw [hnext]
  refine (congrArg (svcSub t) hgo).trans ?_
  refine svcSub_other fun hon => ?_
  rw [thread_updThread_same]
  exact hsub (by rwa [svcOn, liveB, hcall.live_eq] at hon)

theorem gives_seqReturn (hs : stopped s = false) (h : SeqReady s eng 5 t) :
    Gives (.seqReturn eng) s (fun u => thread u t = { wordThread s t with
      done := [], cval := none, pc := (wordThread s t).ret % 4096 } ∧ OnlyThread t s u) :=
  gives_seqThread hs h (g := goneTo ((wordThread s t).ret % 4096)) rfl (by rw [thread_wordEnded h]; rfl) rfl

/-- A WAIT word sleeps while a register that it awaits is PENDING. -/
theorem gives_seqWait_sleeps (hs : stopped s = false) (h : SeqReady s eng 6 t)
    (hwait : (waitMask (wordOf s t)).any (pendingReg (wordThread s t)) = true) :
    Gives (.seqWait eng) s (fun u => thread u t = { wordThread s t with
      done := [], cval := none, st := .waiting, await := waitMask (wordOf s t) } ∧ OnlyThread t s u) := by
  refine gives_seqThread hs h (g := asleep (wordOf s t)) rfl (wake_waits ?_) rfl
  rw [thread_updThread_same, thread_wordEnded h]
  exact hwait

/-- One that awaits none goes on at once. -/
theorem gives_seqWait_goesOn (hs : stopped s = false) (h : SeqReady s eng 6 t)
    (hwait : (waitMask (wordOf s t)).any (pendingReg (wordThread s t)) = false) :
    Gives (.seqWait eng) s (fun u => thread u t = { wordThread s t with
      done := [], cval := none, await := [], pc := nextC { wordThread s t with cval := none } (wordOf s t) } ∧
      OnlyThread t s u) := by
  have hasleep := (onlyThread_wordEnded h).updThread (asleep (wordOf s t))
  have hthread : thread (updThread t (asleep (wordOf s t)) (wordEnded s t)) t = asleep (wordOf s t) (fieldsOver (wordThread s t)) := by
    rw [thread_updThread_same, thread_wordEnded h]
  have hpc : (wordThread s t).pc = (thread s t).pc := by
    unfold wordThread
    dsimp only
    split_ifs <;> rfl
  have hword : wordOf (updThread t (asleep (wordOf s t)) (wordEnded s t)) t = wordOf s t :=
    hasleep.wordOf_eq (by rw [hthread]; exact hpc)
  have hready : (wordThread s t).st = .ready := (st_wordThread s t).trans (issuing_spec h.1).1
  have hwake := wake_goesOn (t := t) (s := updThread t (asleep (wordOf s t)) (wordEnded s t)) (by rw [hthread]; rfl)
    (by rw [hthread]; exact hwait)
  refine gives_seq hs h rfl hwake (hasleep.updThread _) ?_
  rw [thread_updThread_same, hthread, hword]
  simp only [woken, asleep, fieldsOver, ← hready]
  rfl

end

end Sys2Proof.Machine
end

section
/-!
PROOFS. What becomes of a packet's copies and what is counted of it (R252, R256, R261, R269, R275): copies come and go in the Clearing and
the scheduler, and a drop is counted at few pages, in pairs only with CNT_EN, and raises the Clearing's interrupt alone.
-/

namespace Sys2Proof.Machine
open Sys2Proof

/-! ### What stays beside the end of a packet -/

/-- The counters that the end of a packet may add to: those of the ports and of the blocks behind the Groves, the parse unit's, and
four of the Groves and their device (R227, R230). -/
def PathCounter (a : Nat) : Prop :=
  0x40 ≤ pageOf a ∨ pageOf a = pgPgu ∨
    (a = pa dev cAct_EXC_DROPPED ∨ a = pa dev cAct_EXCEPTIONS ∨ a = pa dev cAct_NO_ACTION) ∨
    ∃ g, a = pa (grvPage g) cGrv_HEAD_LOST

theorem pathCounter_of_page {page off : Nat} (h : 0x40 ≤ page) : PathCounter (pa page off) := by
  refine .inl ?_
  unfold pageOf pa
  omega

/-- The one word beside what a drop writes: the multicast page's IRQ_STS. -/
def ResidueWord (a : Nat) : Prop := a = pa pgMc offIRQ_STS

/-- Registers and the other counters stay, and with CNT_EN 0 the counter pairs. -/
structure Apart (s t : State) : Prop where
  regs : KeepsRegs ResidueWord s t
  ctrs : ∀ a, ¬ PathCounter a → ctr t a = ctr s a
  pairs : liveB s (pa pgClr offCLR_CFG) fCLR_CFG_CNT_EN = false → t.store.pairs = s.store.pairs

section
variable {s t u : State}

theorem not_noise_clrCfg : ¬ Noise (pa pgClr offCLR_CFG) := by
  unfold Noise
  decide

theorem not_residueWord_clrCfg : ¬ ResidueWord (pa pgClr offCLR_CFG) := by
  unfold ResidueWord
  decide

theorem Apart.cntEn (h : Apart s t) : liveB t (pa pgClr offCLR_CFG) fCLR_CFG_CNT_EN = liveB s (pa pgClr offCLR_CFG) fCLR_CFG_CNT_EN := by
  rw [liveB, h.regs.live _ not_noise_clrCfg not_residueWord_clrCfg, liveB]

theorem Apart.refl (s : State) : Apart s s := ⟨.refl s, fun _ _ => rfl, fun _ => rfl⟩

theorem Apart.trans (h : Apart s t) (h' : Apart t u) : Apart s u :=
  ⟨h.regs.trans h'.regs, fun a ha => (h'.ctrs a ha).trans (h.ctrs a ha), fun hoff =>
    (h'.pairs (h.cntEn.trans hoff)).trans (h.pairs hoff)⟩

theorem Apart.of_same (hstraps : t.straps = s.straps) (hbus : t.bus = s.bus) (hstore : t.store = s.store) : Apart s t :=
  ⟨(KeepsRegs.refl s).same hstraps (by rw [hbus]) (by rw [hbus]), fun a _ => by rw [ctr, hbus, ctr], fun _ => by rw [hstore]⟩

theorem apart_count {page off : Nat} (h : PathCounter (pa page off)) (s : State) : Apart s (count page off s) :=
  ⟨.of_aside (aside_count _ _ s), fun a ha => ctr_count_other page off a s (by rintro rfl; exact ha h), fun _ => rfl⟩

/-- The interrupts that a packet's end raises. -/
theorem apart_raiseIrq {page : Nat} (h : page = pgClr ∨ page = pgMc) (bit : Nat) (s : State) : Apart s (raiseIrq page bit s) := by
  have honly := onlyNoted_raiseIrq page bit s
  have hword : Noise (pa page offIRQ_STS) ∨ ResidueWord (pa page offIRQ_STS) := by
    obtain rfl | rfl := h
    · exact .inl (.inl rfl)
    · exact .inr rfl
  exact ⟨((Aside.refl s).raiseIrq hword bit).toKeepsRegs, fun a _ => by rw [honly]; rfl, fun _ => by rw [honly]⟩

/-! ### Copies -/

/-- Only the parts of the state changed that copies and drops touch. -/
def CopyParts (s t : State) : Prop :=
  t = { s with bus := { s.bus with regs := t.bus.regs, ctr := t.bus.ctr }, ports := t.ports,
               store := { s.store with pairs := t.store.pairs }, clr := t.clr, sch := t.sch, lko := t.lko,
               rw := { s.rw with evtPend := t.rw.evtPend }, host := t.host, ic := t.ic }

theorem OnlyNoted.copyParts (h : OnlyNoted s t) : CopyParts s t := by rw [h]; rfl

/-- Only what copies and drops touch changed, and of the registers, counters and pairs those that the end of a packet may change. -/
structure OnlyCopies (s t : State) : Prop extends Apart s t where
  parts : CopyParts s t

theorem onlyCopies_refl (s : State) : OnlyCopies s s := ⟨.refl s, rfl⟩

theorem OnlyCopies.trans (h : OnlyCopies s t) (h' : OnlyCopies t u) : OnlyCopies s u :=
  ⟨h.toApart.trans h'.toApart, Eq.trans h'.parts (by rw [h.parts])⟩

theorem onlyCopies_forAll {α : Type} {f : α → State → State} (hf : ∀ x s, OnlyCopies s (f x s)) (l : List α) (s : State) :
    OnlyCopies s (forAll f l s) :=
  forAll_rel onlyCopies_refl (fun _ _ _ h h' => h.trans h') hf l s

theorem OnlyCells.copies (h : OnlyCells s t) : OnlyCopies s t := by
  rw [h]
  exact ⟨.of_same rfl rfl rfl, rfl⟩

theorem OnlyPortsClr.copies (h : OnlyPortsClr s t) : OnlyCopies s t := h.cells.copies
theorem OnlyPorts.copies (h : OnlyPorts s t) : OnlyCopies s t := h.cells.copies

theorem OnlyCopies.disp (h : OnlyCopies s t) : t.disp = s.disp := by rw [h.parts]
theorem OnlyCopies.emt (h : OnlyCopies s t) : t.emt = s.emt := by rw [h.parts]

theorem onlyCopies_count {page : Nat} (h : 0x40 ≤ page) (off : Nat) (s : State) : OnlyCopies s (count page off s) :=
  ⟨apart_count (pathCounter_of_page h) s, rfl⟩

theorem onlyCopies_raiseIrq {page : Nat} (h : page = pgClr ∨ page = pgMc) (bit : Nat) (s : State) :
    OnlyCopies s (raiseIrq page bit s) := ⟨apart_raiseIrq h bit s, (onlyNoted_raiseIrq page bit s).copyParts⟩

theorem onlyCopies_clr (x : ClrSt) (s : State) : OnlyCopies s { s with clr := x } := ⟨.of_same rfl rfl rfl, rfl⟩
theorem onlyCopies_setQueueList (q : Nat) (l : List Nat) (s : State) : OnlyCopies s (setQueueList q l s) :=
  ⟨.of_same rfl rfl rfl, rfl⟩
theorem onlyCopies_capture (page src cls res : Nat) (partner : Bool) (s : State) :
    OnlyCopies s (capture page src cls partner res s) := ⟨.of_same rfl rfl rfl, rfl⟩

theorem onlyCopies_pairs (h : liveB s (pa pgClr offCLR_CFG) fCLR_CFG_CNT_EN = true) (m : NMap Nat) :
    OnlyCopies s { s with store := { s.store with pairs := m } } :=
  ⟨⟨.of_aside (aside_store _ s), fun _ _ => rfl, fun hoff => absurd hoff (by rw [h]; decide)⟩, rfl⟩

/-- A drop counted in a pair, which needs CNT_EN. -/
theorem onlyCopies_pairAdd (h : liveB s (pa pgClr offCLR_CFG) fCLR_CFG_CNT_EN = true) (i n m : Nat) :
    OnlyCopies s (pairAdd i n m s) := by
  unfold pairAdd setPair
  exact onlyCopies_pairs h _

theorem onlyPorts_oweDrop (i : Nat) (fl : FrameLen) (s : State) : OnlyPorts s (oweDrop i fl s) := by
  unfold oweDrop
  split
  · rfl
  · refine forAll_rel onlyPorts_refl (fun _ _ _ h h' => h.trans h') (fun o u => ?_) _ s
    split
    · split_ifs <;> rfl
    · rfl

theorem onlyCopies_dropPair (p k : Nat) (fl : FrameLen) (s : State) : OnlyCopies s (dropPair p k fl s) := by
  unfold dropPair
  dsimp only
  split_ifs with hon
  · rw [Bool.and_eq_true] at hon
    exact (onlyCopies_pairAdd hon.1 _ _ _).trans (onlyPorts_oweDrop _ _ _).copies
  · exact onlyCopies_refl s

theorem onlyCopies_addCopy (d : Desc) (s : State) : OnlyCopies s (addCopy d s).2 := by
  have hrefs := (onlyPortsClr_addRefs (copyCells d)
    { s with clr := { s.clr with desc := mput s.clr.desc (freshFrom s.clr.desc 0) d } }).copies
  exact ((onlyCopies_clr _ s).trans hrefs).trans (onlyCopies_setQueueList _ _ _)

theorem onlyCopies_countAdmit (p c : Nat) (fl : FrameLen) (s : State) : OnlyCopies s (countAdmit p c fl s) :=
  (onlyCopies_dropPair p c fl s).trans (onlyCopies_count (by decide) _ _)

theorem onlyCopies_mirRefuse (k p c q : Nat) (fl : FrameLen) (s : State) : OnlyCopies s (mirRefuse k p c q fl s) := by
  have hdrop : OnlyCopies s (mirDrop k s) := onlyCopies_count (by decide) _ s
  unfold mirRefuse
  dsimp only
  split_ifs
  · exact hdrop.trans (onlyCopies_countAdmit _ _ _ _)
  · exact hdrop

theorem onlyCopies_mirCopy {after : Desc → State → State} (hafter : ∀ d s, OnlyCopies s (after d s)) (epoch : Nat)
    (fl : FrameLen) (k : Nat) (d : Desc) (s : State) : OnlyCopies s (mirCopy after epoch fl k d s) := by
  unfold mirCopy
  dsimp only
  split_ifs
  · exact ((onlyCopies_addCopy _ s).trans (onlyCopies_count (by decide) _ _)).trans (hafter _ _)
  · exact onlyCopies_mirRefuse _ _ _ _ _ s

theorem onlyCopies_txMirrorsN (epoch : Nat) (fl : FrameLen) (n : Nat) (d : Desc) (s : State) :
    OnlyCopies s (txMirrorsN epoch fl n d s) := by
  induction n generalizing d s with
  | zero => exact onlyCopies_refl s
  | succ n ih =>
    unfold txMirrorsN
    refine onlyCopies_forAll (fun k u => ?_) _ s
    dsimp only
    split_ifs
    · exact (onlyCopies_clr _ u).trans (onlyCopies_mirCopy ih _ _ _ _ _)
    · exact onlyCopies_clr _ u
    · exact onlyCopies_refl u

theorem onlyCopies_admitCopy (epoch : Nat) (fl : FrameLen) (d : Desc) (s : State) : OnlyCopies s (admitCopy epoch fl d s) :=
  (onlyCopies_addCopy d s).trans (onlyCopies_txMirrorsN _ _ _ _ _)

theorem onlyCopies_countDescEmpty (p : Nat) (fl : FrameLen) (s : State) : OnlyCopies s (countDescEmpty p fl s) :=
  (onlyCopies_dropPair _ _ _ s).trans (onlyCopies_count (by decide) _ _)

theorem onlyCopies_enqueueUni (epoch : Nat) (fl : FrameLen) (k : Nat) (d : Desc) (s : State) :
    OnlyCopies s (enqueueUni epoch fl k d s) := by
  have hadmit := onlyCopies_admitCopy epoch fl d s
  unfold enqueueUni
  split
  · dsimp only
    split_ifs
    · exact (hadmit.trans (onlyCopies_dropPair _ _ _ _)).trans (onlyCopies_count (by decide) _ _)
    · exact hadmit
  · exact onlyCopies_countDescEmpty _ _ s
  · exact onlyCopies_countAdmit _ _ _ s

theorem onlyCopies_holdCopy (d : Desc) (s : State) : OnlyCopies s (holdCopy d s) := by
  unfold holdCopy
  exact ((onlyCopies_addCopy { d with held := true } s).trans (onlyCopies_clr _ _)).trans (onlyCopies_count (by decide) _ _)

theorem onlyCopies_countResidueFull (p : Nat) (fl : FrameLen) (s : State) : OnlyCopies s (countResidueFull p fl s) := by
  have hfull := ((onlyCopies_dropPair p 11 fl s).trans (onlyCopies_count (by decide : 0x40 ≤ pgMc) cMc_MC_RESIDUE_FULL _)).trans
    (onlyCopies_raiseIrq (.inr rfl) 1 _)
  unfold countResidueFull
  dsimp only
  split_ifs
  · exact hfull.trans (onlyCopies_count (by unfold macPage; omega) _ _)
  · exact hfull

theorem onlyCopies_enqueueMember (epoch : Nat) (fl : FrameLen) (k : Nat) (d : Desc) (s : State) :
    OnlyCopies s (enqueueMember epoch fl k d s) := by
  unfold enqueueMember
  split
  · exact (onlyCopies_admitCopy epoch fl d s).trans (onlyCopies_count (by decide) _ _)
  · exact onlyCopies_countDescEmpty _ _ s
  · exact onlyCopies_countAdmit _ _ _ s
  · split_ifs
    · exact onlyCopies_holdCopy d s
    · exact onlyCopies_countResidueFull _ _ s

theorem onlyCopies_replicate (epoch : Nat) (fl : FrameLen) (k group entry : Nat) (d : Desc) (s : State) :
    OnlyCopies s (replicate epoch fl k group entry d s) := by
  unfold replicate
  dsimp only
  split_ifs
  · exact (onlyCopies_count (by decide : 0x40 ≤ pgMc) cMc_MC_INVALID s).trans (onlyCopies_capture _ _ _ _ _ _)
  · exact onlyCopies_count (by decide) _ s
  · exact (onlyCopies_forAll (fun _ u => onlyCopies_enqueueMember _ _ _ _ u) _ s).trans (onlyCopies_count (by decide) _ _)

theorem onlyCopies_enqueuePass (k : Nat) (p : Pass) (c : Committed) (s : State) : OnlyCopies s (enqueuePass k p c s) := by
  unfold enqueuePass
  dsimp only
  split
  · split_ifs
    · exact onlyCopies_refl s
    · exact onlyCopies_enqueueUni _ _ _ _ s
  · exact onlyCopies_replicate _ _ _ _ _ _ s
  · exact onlyCopies_enqueueUni _ _ _ _ s
  · split_ifs
    · exact onlyCopies_refl s
    · exact onlyCopies_enqueueUni _ _ _ _ s
  · exact onlyCopies_refl s

end
end Sys2Proof.Machine
end

section
/-!
PROOFS. A statement about the control store that fails, with the state that shows it: the word that a remap has written with zero data
(R172, R416) reads as zero until it is repaired.
-/

namespace Sys2Proof.Machine
open Sys2Proof

/-- Word 0 of Grove 0 is 1, a remap has written copy 0 of it with zero data, and a read of that copy waits for its scrub slot. -/
def remappedAsked : State :=
  { booted with grv := { booted.grv with cs := [(0, 1)], csRead := [(0, 0)], csZero := [csCopyKey 0 0 0] } }

theorem remappedAsked_meets :
    stopped remappedAsked = false ∧ mfind remappedAsked.grv.csRead 0 = some (0 * 4096 + 0) ∧
    remappedAsked.grv.csBad.contains (csCopyKey 0 0 0) = false := by
  decide +kernel

/-- The scrub of the copy brings 0 into the data registers; the control store's word is 1. -/
theorem remappedAsked_reads :
    shown (fun t => dRegs t (pa (grvPage 0) (offGRV_CS_D 0)) 5) (exec (.csScrub 0 0 0) remappedAsked) = some 0 ∧
    csWord remappedAsked 0 0 % 2 ^ 160 = 1 := by
  decide +kernel

/-- Refutes O16: a read of a copy whose word a remap has written with zero data answers 0 and not the word (R172, R416); such a copy is
not among those with an uncorrectable word. -/
theorem not_controlStoreCommands : ¬ Obligations.ControlStoreCommands := by
  intro h
  obtain ⟨hrun, hread, hgood⟩ := remappedAsked_meets
  obtain ⟨-, -, -, hscrub, -, -⟩ := h remappedAsked 0 0 0 hrun (by decide) (by decide)
  obtain ⟨t, hexec, hdata, -, -⟩ := hscrub 0 (by decide) hread hgood
  obtain ⟨hshown, hword⟩ := remappedAsked_reads
  rw [shown_of_exec _ hexec, hdata, hword] at hshown
  exact absurd (Option.some.inj hshown) (by decide)

end Sys2Proof.Machine
end

section
/-!
PROOFS. How a pass ends or goes on (R105, R112 to R115, R225 to R227, R257, R381): it starts its routine or waits for a thread, enters
the exception queue, or is gone. Its thread is reset, and beside that only what `PassOver` names changes.
-/

namespace Sys2Proof.Machine
open Sys2Proof

/-- Only the parts of the state changed that the end of a pass touches. -/
def PathParts (s t : State) : Prop :=
  t = { s with bus := { s.bus with regs := t.bus.regs, ctr := t.bus.ctr }, ports := t.ports,
               store := { s.store with pairs := t.store.pairs }, clr := t.clr, sch := t.sch, lko := t.lko,
               rw := { s.rw with evtPend := t.rw.evtPend }, host := t.host, ic := t.ic, disp := t.disp,
               grv := { s.grv with threads := t.grv.threads }, pgu := t.pgu, ep := t.ep, svc := t.svc }

/-- Only what the end of a pass touches changed, and threads by their reset alone. -/
structure PassOver (s t : State) : Prop extends Apart s t where
  parts : PathParts s t
  threads : ∀ x, thread t x = thread s x ∨ thread t x = threadReset x

section
variable {s t u : State}

theorem passOver_refl (s : State) : PassOver s s := ⟨.refl s, rfl, fun _ => .inl rfl⟩

theorem PassOver.trans (h : PassOver s t) (h' : PassOver t u) : PassOver s u := by
  refine ⟨h.toApart.trans h'.toApart, Eq.trans h'.parts (by rw [h.parts]), fun x => ?_⟩
  obtain hsame | hreset := h'.threads x
  · rw [hsame]
    exact h.threads x
  · exact .inr hreset

theorem passOver_forAll {α : Type} {f : α → State → State} (hf : ∀ x s, PassOver s (f x s)) (l : List α) (s : State) :
    PassOver s (forAll f l s) :=
  forAll_rel passOver_refl (fun _ _ _ h h' => h.trans h') hf l s

theorem thread_of_grv (h : t.grv = s.grv) (x : Nat) : thread t x = thread s x := by rw [thread, h, thread]

theorem CopyParts.pathParts (h : CopyParts s t) : PathParts s t := by rw [h]; rfl

theorem CopyParts.grv (h : CopyParts s t) : t.grv = s.grv := by rw [h]

theorem OnlyCopies.passOver (h : OnlyCopies s t) : PassOver s t :=
  ⟨h.toApart, h.parts.pathParts, fun x => .inl (thread_of_grv h.parts.grv x)⟩

theorem OnlyPasses.pathParts (h : OnlyPasses s t) : PathParts s t := by rw [h]; rfl

theorem OnlyPasses.passOver (h : OnlyPasses s t) : PassOver s t :=
  ⟨.of_same (by rw [h]) h.bus_eq (by rw [h]), h.pathParts, fun x => .inl (thread_of_grv h.grv_eq x)⟩

theorem PassOver.free (h : PassOver s t) {x : Nat} (hx : (thread s x).st = .free) : (thread t x).st = .free := by
  obtain hsame | hreset := h.threads x
  · rw [hsame, hx]
  · rw [hreset]
    rfl

theorem PassOver.ctx (h : PassOver s t) : t.ctx = s.ctx := by rw [h.parts]
theorem PassOver.handoff (h : PassOver s t) : t.grv.handoff = s.grv.handoff := by rw [h.parts]
theorem PassOver.pol (h : PassOver s t) : t.store.pol = s.store.pol := by rw [h.parts]

theorem PassOver.boardKeeps (h : PassOver s t) : boardKeeps s t = t :=
  boardKeeps_eq_self (by rw [h.parts]) (by rw [h.parts])

/-! ### Steps of it -/

theorem passOver_disp (d : DispSt) (s : State) : PassOver s { s with disp := d } :=
  ⟨.of_same rfl rfl rfl, rfl, fun _ => .inl rfl⟩

theorem passOver_pgu (x : PguSt) (s : State) : PassOver s { s with pgu := x } :=
  ⟨.of_same rfl rfl rfl, rfl, fun _ => .inl rfl⟩

theorem passOver_setPass (k : Nat) (p : Pass) (s : State) : PassOver s (setPass k p s) := passOver_disp _ s

theorem passOver_updPass (k : Nat) (f : Pass → Pass) (s : State) : PassOver s (updPass k f s) := by
  unfold updPass
  split
  · exact passOver_refl s
  · exact passOver_setPass _ _ s

theorem passOver_count {page off : Nat} (h : PathCounter (pa page off)) (s : State) : PassOver s (count page off s) :=
  ⟨apart_count h s, rfl, fun _ => .inl rfl⟩

theorem thread_freeThread (t x : Nat) (s : State) :
    thread (freeThread t s) x = thread s x ∨ x = t ∧ thread (freeThread t s) x = threadReset x := by
  unfold freeThread
  split_ifs
  · obtain rfl | hne := eq_or_ne x t
    · exact .inr ⟨rfl, thread_setThread_same s x _⟩
    · exact .inl (thread_setThread_other s t x _ hne)
  · exact .inl rfl

theorem passOver_freeThread (t : Nat) (s : State) : PassOver s (freeThread t s) := by
  have hparts : PathParts s (freeThread t s) := by
    unfold freeThread
    split_ifs <;> rfl
  refine ⟨.of_same (by rw [hparts]) ?_ ?_, hparts, fun x => (thread_freeThread t x s).imp_right And.right⟩
  · unfold freeThread
    split_ifs <;> rfl
  · unfold freeThread
    split_ifs <;> rfl

theorem passOver_endPass (k : Nat) (s : State) : PassOver s (endPass k s) := (onlyPasses_endPass k s).passOver

/-! ### Outcomes of a walk (R105) -/

theorem passOver_readyPass (k : Nat) (s : State) : PassOver s (readyPass k s) := by
  unfold readyPass
  split
  · exact passOver_refl s
  · dsimp only
    split_ifs
    · exact (passOver_setPass _ _ s).trans (passOver_disp _ _)
    · exact passOver_setPass _ _ s

theorem onlyCopies_countRefusal (g : Grant) (p : Nat) (fl : FrameLen) (s : State) : OnlyCopies s (countRefusal g p fl s) := by
  unfold countRefusal
  split
  · exact onlyCopies_refl s
  · exact ((onlyCopies_dropPair _ _ _ s).trans (onlyCopies_count (by decide) _ _)).trans (onlyCopies_raiseIrq (.inl rfl) _ _)
  · have hempty := ((onlyCopies_dropPair p 10 fl s).trans (onlyCopies_count (by decide : 0x40 ≤ pgClr) cClr_WOODPILE_EMPTY _)).trans
      (onlyCopies_raiseIrq (.inl rfl) 1 _)
    dsimp only
    split_ifs
    · exact hempty.trans (onlyCopies_count (by unfold macPage; omega) _ _)
    · exact hempty

/-- Cells asked for, granted or not. -/
theorem OnlyCopies.ofCellsReq {r port cls n : Nat} {b : Bool} {got l : List Nat} {g : Option Grant}
    (h : cellsReq r b port cls n l s = (got, t, g)) : OnlyCopies s t := by
  have honly := onlyCells_cellsReq r b port cls n l s
  rw [h] at honly
  exact honly.copies

theorem onlyCopies_dropRefs (l : List Nat) (s : State) : OnlyCopies s (dropRefs l s) := (onlyPortsClr_dropRefs l s).copies

theorem passOver_toException (k reason : Nat) (exc : Bytes) (s : State) : PassOver s (toException k reason exc s) := by
  unfold toException
  split
  · exact passOver_refl s
  · next p _ =>
    split_ifs
    · exact (passOver_endPass k s).trans (passOver_count (pathCounter_of_page (by decide)) _)
    · split
      · next got v g hreq =>
        have hrefused := (OnlyCopies.ofCellsReq hreq).trans
          ((onlyCopies_dropRefs got v).trans (onlyCopies_countRefusal g p.rxPort (frameLenOf k p) _))
        exact hrefused.passOver.trans (passOver_endPass k _)
      · next got v hreq =>
        have hhead := onlyCells_writeChain got (headerBytes p 0 0 0 (0, 0) ++ p.head) v
        have hwritten := ((OnlyCopies.ofCellsReq hreq).trans hhead.copies).trans
          (onlyPortsClr_fcUpdate p.rxPort _).copies
        have hleft := hwritten.passOver.trans ((onlyPasses_leaveOrder k _).passOver.trans (onlyPasses_leaveFlight k _).passOver)
        exact (hleft.trans (passOver_updPass k _ _)).trans (passOver_disp _ _)

theorem passOver_parseOutcome (k : Nat) (s : State) : PassOver s (parseOutcome k s) := by
  unfold parseOutcome
  split
  · exact passOver_refl s
  · dsimp only
    split
    · exact passOver_readyPass k s
    · exact (passOver_setPass _ _ s).trans (passOver_readyPass k _)
    · exact (passOver_freeThread _ s).trans (passOver_endPass k _)
    · exact (passOver_freeThread _ s).trans (passOver_toException _ _ _ _)

/-! ### Held fragments (R112, R113) -/

theorem passOver_orphan (reason k : Nat) (s : State) : PassOver s (orphan reason k s) :=
  ((passOver_count (.inr (.inl (by decide))) s).trans (passOver_updPass _ _ _)).trans (passOver_parseOutcome _ _)

theorem passOver_applyRecord (e k : Nat) (s : State) : PassOver s (applyRecord e k s) :=
  ((passOver_count (.inr (.inl (by decide))) s).trans (passOver_updPass _ _ _)).trans (passOver_parseOutcome _ _)

theorem passOver_unhold (k : Nat) (s : State) : PassOver s (unhold k s) := (passOver_pgu _ s).trans (passOver_updPass _ _ _)

theorem passOver_releaseHeld (i : Nat) {f : Nat → State → State} (hf : ∀ k s, PassOver s (f k s)) (s : State) :
    PassOver s (releaseHeld i f s) := by
  refine passOver_forAll (fun k v => ?_) _ s
  split_ifs
  · exact (passOver_unhold k v).trans (passOver_orphan _ _ _)
  · exact (passOver_unhold k v).trans (hf _ _)

theorem passOver_fragDone (p : Pass) (dispo w30 w31 : Nat) (s : State) : PassOver s (fragDone p dispo w30 w31 s) := by
  unfold fragDone
  split
  · exact passOver_refl s
  · exact (passOver_pgu _ s).trans (passOver_releaseHeld _ (passOver_applyRecord _) _)

theorem passOver_fragFail (p : Pass) (s : State) : PassOver s (fragFail p s) := by
  unfold fragFail
  split
  · exact passOver_refl s
  · exact (passOver_pgu _ s).trans (passOver_releaseHeld _ (passOver_orphan _) _)

/-! ### Final abandon (R227) -/

theorem passOver_finalAbandon (k reason : Nat) (s : State) : PassOver s (finalAbandon k reason s) := by
  unfold finalAbandon
  split
  · exact passOver_refl s
  · next p _ =>
    have hfail := passOver_fragFail p s
    dsimp only
    split_ifs
    · exact (hfail.trans (passOver_endPass k _)).trans (passOver_count (.inr (.inr (.inl (.inl rfl)))) _)
    · have hexc := hfail.trans (passOver_toException k reason (excRecord p reason) _)
      split
      · exact hexc.trans (passOver_count (.inr (.inr (.inl (.inr (.inl rfl))))) _)
      · exact hexc

end
end Sys2Proof.Machine
end

section
/-!
PROOFS. An attempt abandoned (R224 to R226): its thread is freed, its locks are released and its policers' tokens returned; then the pass
waits for its restart, or ends.
-/

namespace Sys2Proof.Machine
open Sys2Proof

/-! ### The attempt is over (R225) -/

/-- The record of a pass whose attempt is abandoned. -/
def attemptLost (t cause faultPc : Nat) (p : Pass) : Pass :=
  { p with counted := p.counted + (if cause ≤ 5 then 1 else 0), cause := cause, lastTid := t, tid := noThread,
           lastCounted := if cause ≤ 5 then cause else p.lastCounted, faultPc := faultPc }

/-- The thread is freed and the abandon counted. -/
def attemptFreed (t cause : Nat) (s : State) : State :=
  freeThread t (count dev (causeCounter cause) (count (grvPage (thGrove t)) cGrv_ABANDONS s))

/-- The state in which an abandoned pass goes on or ends. -/
def attemptOver (t cause faultPc : Nat) (p : Pass) (s : State) : State :=
  forAll polReturn (thread s t).staged.pols
    (releaseLocks (thread s t).pass (setPass (thread s t).pass (attemptLost t cause faultPc p) (attemptFreed t cause s)))

/-- Only policers changed. -/
def OnlyPol (s t : State) : Prop := t = { s with store := { s.store with pol := t.store.pol } }

section
variable {s u : State} {t cause faultPc reason : Nat} {p : Pass}

theorem OnlyPol.ctr (h : OnlyPol s u) (a : Nat) : ctr u a = ctr s a := by rw [h]; rfl

theorem onlyPol_setPolicer (i v : Nat) (s : State) : OnlyPol s (setPolicer i v s) := rfl

theorem onlyPol_polReturns (l : List PolRes) (s : State) : OnlyPol s (forAll polReturn l s) :=
  forAll_rel (R := OnlyPol) (fun _ => rfl) (fun s t u h h' => Eq.trans h' (by rw [h]))
    (fun _ _ => onlyPol_setPolicer _ _ _) l s

theorem onlyPol_attemptOver (t cause faultPc : Nat) (p : Pass) (s : State) :
    OnlyPol (releaseLocks (thread s t).pass (setPass (thread s t).pass (attemptLost t cause faultPc p) (attemptFreed t cause s)))
      (attemptOver t cause faultPc p s) := onlyPol_polReturns _ _

theorem OnlyPol.thread (h : OnlyPol s u) (x : Nat) : thread u x = thread s x := by rw [h]; rfl
theorem OnlyPol.disp (h : OnlyPol s u) : u.disp = s.disp := by rw [h]
theorem OnlyPol.ctx (h : OnlyPol s u) : u.ctx = s.ctx := by rw [h]

theorem thread_releaseLocks (k : Nat) (s : State) (x : Nat) : thread (releaseLocks k s) x = thread s x := rfl
theorem thread_count (page off : Nat) (s : State) (x : Nat) : thread (count page off s) x = thread s x := rfl
theorem restarts_locksReleased (k : Nat) (q : Pass) (s : State) :
    (releaseLocks k (setPass k q s)).disp.restarts = s.disp.restarts := rfl
theorem disp_count (page off : Nat) (s : State) : (count page off s).disp = s.disp := rfl

theorem disp_freeThread (t : Nat) (s : State) : (freeThread t s).disp = s.disp := by
  unfold freeThread
  split_ifs <;> rfl

theorem thread_attemptOver (x : Nat) : thread (attemptOver t cause faultPc p s) x = thread (attemptFreed t cause s) x := by
  rw [(onlyPol_attemptOver t cause faultPc p s).thread, thread_releaseLocks, thread_setPass]

theorem thread_attemptOver_same (ht : t < 4096) : thread (attemptOver t cause faultPc p s) t = threadReset t := by
  rw [thread_attemptOver, attemptFreed, freeThread, if_pos ht, thread_setThread_same]

theorem thread_attemptOver_other {x : Nat} (hx : x ≠ t) : thread (attemptOver t cause faultPc p s) x = thread s x := by
  rw [thread_attemptOver, attemptFreed, (thread_freeThread t x _).resolve_right fun h => hx h.1, thread_count, thread_count]

theorem restarts_attemptOver : (attemptOver t cause faultPc p s).disp.restarts = s.disp.restarts := by
  rw [(onlyPol_attemptOver t cause faultPc p s).disp, restarts_locksReleased, attemptFreed, disp_freeThread, disp_count, disp_count]

theorem locks_released {k : Nat} : ∀ e ∈ (releaseLocks k s).ctx.lock, e.2 ≠ k := by
  intro e he
  simpa using (List.mem_filter.mp he).2

theorem not_locked_attemptOver : ∀ e ∈ (attemptOver t cause faultPc p s).ctx.lock, e.2 ≠ (thread s t).pass := by
  rw [(onlyPol_attemptOver t cause faultPc p s).ctx]
  exact locks_released

theorem aside_attemptOver : aside (attemptOver t cause faultPc p s) = aside s := by
  rw [attemptOver, aside_forAll aside_polReturn, aside_releaseLocks, aside_setPass, attemptFreed, aside_freeThread, aside_count,
    aside_count]

theorem ctr_freeThread (t a : Nat) (s : State) : ctr (freeThread t s) a = ctr s a := by
  unfold freeThread
  split_ifs <;> rfl

theorem ctr_attemptOver (a : Nat) : ctr (attemptOver t cause faultPc p s) a =
    ctr (count dev (causeCounter cause) (count (grvPage (thGrove t)) cGrv_ABANDONS s)) a := by
  rw [(onlyPol_attemptOver t cause faultPc p s).ctr]
  exact ctr_freeThread t a _

/-- The queue and the pins stay. -/
def SameBoard (s t : State) : Prop := t.pending = s.pending ∧ t.pin = s.pin

theorem SameBoard.trans {v : State} (h : SameBoard s u) (h' : SameBoard u v) : SameBoard s v :=
  ⟨h'.1.trans h.1, h'.2.trans h.2⟩

theorem SameBoard.boardKeeps (h : SameBoard s u) : boardKeeps s u = u := boardKeeps_eq_self h.1 h.2

theorem PassOver.sameBoard (h : PassOver s u) : SameBoard s u := ⟨by rw [h.parts], by rw [h.parts]⟩

theorem sameBoard_count (page off : Nat) (s : State) : SameBoard s (count page off s) := ⟨rfl, rfl⟩

theorem sameBoard_attemptOver : SameBoard s (attemptOver t cause faultPc p s) := by
  have hfreed : SameBoard s (attemptFreed t cause s) :=
    ((sameBoard_count _ _ s).trans (sameBoard_count _ _ _)).trans (passOver_freeThread t _).sameBoard
  refine hfreed.trans ?_
  rw [onlyPol_attemptOver]
  exact ⟨rfl, rfl⟩

/-! ### The pass restarts or ends (R226, R227) -/

/-- The pass waits for its restart. -/
def restartAwaited (k : Nat) (p1 : Pass) (s : State) : State :=
  { setPass k { p1 with phase := .restart, redo := true } s with
    disp := { (setPass k { p1 with phase := .restart, redo := true } s).disp with restarts := s.disp.restarts ++ [k] } }

theorem restarts_restartAwaited (k : Nat) (p1 : Pass) (s : State) :
    (restartAwaited k p1 s).disp.restarts = s.disp.restarts ++ [k] := rfl

/-- What an abandon does with the pass of the attempt that is over. -/
def attemptGone (t cause reason faultPc : Nat) (p : Pass) (s : State) : State :=
  let k := (thread s t).pass
  let v := attemptOver t cause faultPc p s
  let spent := (attemptLost t cause faultPc p).counted
  if cause = causeEdit then finalAbandon k reason v
  else if p.headLost && spent ≤ liveF s (pa dev offACT_CFG) fACT_CFG_RESTART_MAX then
    count (grvPage (thGrove t)) cGrv_HEAD_LOST (endPass k (fragFail p v))
  else if spent ≤ liveF s (pa dev offACT_CFG) fACT_CFG_RESTART_MAX then restartAwaited k (attemptLost t cause faultPc p) v
  else finalAbandon k (0x90 + (attemptLost t cause faultPc p).lastCounted) v

theorem abandon_eq (hp : pass? s (thread s t).pass = some p) (hcause : cause ≠ causeWatchdog) :
    abandon t cause reason faultPc s = attemptGone t cause reason faultPc p s := by
  unfold abandon
  simp only [hp, hcause, if_false]
  rfl

theorem passOver_attemptGone (t cause reason faultPc : Nat) (p : Pass) (s : State) :
    PassOver (attemptOver t cause faultPc p s) (attemptGone t cause reason faultPc p s) := by
  unfold attemptGone
  dsimp only
  split_ifs
  · exact passOver_finalAbandon _ _ _
  · exact ((passOver_fragFail p _).trans (passOver_endPass _ _)).trans
      (passOver_count (.inr (.inr (.inr ⟨_, rfl⟩))) _)
  · exact (passOver_setPass _ _ _).trans (passOver_disp _ _)
  · exact passOver_finalAbandon _ _ _

/-- Attempts left: the pass waits for its restart, and nothing else follows. -/
theorem attemptGone_restart (hcause : cause ≠ causeEdit) (hhead : p.headLost = false)
    (hleft : (attemptLost t cause faultPc p).counted ≤ liveF s (pa dev offACT_CFG) fACT_CFG_RESTART_MAX) :
    attemptGone t cause reason faultPc p s =
      restartAwaited (thread s t).pass (attemptLost t cause faultPc p) (attemptOver t cause faultPc p s) := by
  simp only [attemptGone, hcause, if_false, hhead, Bool.false_and, Bool.false_eq_true, hleft, if_true]

theorem free_attemptGone (ht : t < 4096) : (thread (attemptGone t cause reason faultPc p s) t).st = .free :=
  (passOver_attemptGone t cause reason faultPc p s).free (by rw [thread_attemptOver_same ht]; rfl)

theorem boardKeeps_attemptGone : boardKeeps s (attemptGone t cause reason faultPc p s) = attemptGone t cause reason faultPc p s :=
  (sameBoard_attemptOver.trans (passOver_attemptGone t cause reason faultPc p s).sameBoard).boardKeeps

/-- The count of an abandon by its cause (R230). -/
theorem ctr_cause_attemptGone (hcounter : ¬ PathCounter (pa dev (causeCounter cause)))
    (hoff : causeCounter cause < 0x1000) :
    ctr (attemptGone t cause reason faultPc p s) (pa dev (causeCounter cause)) =
      Nat.min maxCtr (ctr s (pa dev (causeCounter cause)) + 1) := by
  rw [(passOver_attemptGone t cause reason faultPc p s).ctrs _ hcounter, ctr_attemptOver, ctr_count_same, ctr_count_other]
  intro h
  have hpage : 0 = 0x020 + thGrove t := (pa_inj _ _ _ _ hoff (by decide) h).1
  omega

end
end Sys2Proof.Machine
end

section
/-!
PROOFS. A word that ends in ABANDON (R224 to R226), and what sequencing does as a whole.
-/

namespace Sys2Proof.Machine
open Sys2Proof

section
variable {s : State} {eng t : Nat} {p : Pass}

theorem OnlyThread.disp_eq {u : State} (h : OnlyThread t s u) : u.disp = s.disp := by
  obtain ⟨-, -, hframe⟩ := h
  rw [hframe]

/-- The issue counted with a word is not among the device's counters. -/
theorem OnlyThread.ctr_dev {u : State} (h : OnlyThread t s u) {off : Nat} (hoff : off < 0x1000) :
    ctr u (pa dev off) = ctr s (pa dev off) := by
  obtain ⟨-, hcounts, -⟩ := h
  refine hcounts.other ?_
  have hne : pa (grvPage (thGrove t)) cGrv_ISSUES ≠ pa dev off := by
    intro h
    have hpage : 0x020 + thGrove t = 0 := (pa_inj _ _ _ _ (by decide) hoff h).1
    omega
  split_ifs
  · simp [mfind, hne.symm]
  · rfl

theorem not_pathCounter_dev {off : Nat} (hoff : off < 0x1000) (hex : off ≠ cAct_EXCEPTIONS) (hdrop : off ≠ cAct_EXC_DROPPED)
    (hnone : off ≠ cAct_NO_ACTION) : ¬ PathCounter (pa dev off) := by
  have hpage : pageOf (pa dev off) = 0 := pageOf_pa 0 off hoff
  rintro (h | h | (h | h | h) | ⟨g, h⟩)
  · omega
  · rw [hpage] at h
    exact absurd h (by decide)
  · exact hdrop (pa_inj _ _ _ _ hoff (by decide) h).2
  · exact hex (pa_inj _ _ _ _ hoff (by decide) h).2
  · exact hnone (pa_inj _ _ _ _ hoff (by decide) h).2
  · have : 0 = 0x020 + g := (pa_inj _ _ _ _ hoff (by decide) h).1
    omega

/-- ABANDON ends the attempt with cause MICROCODE; the pass restarts while the count allows. -/
theorem gives_seqAbandon (hs : stopped s = false) (hp : passOf s t = some p) (h : SeqReady s eng 8 t) :
    Gives (.seqAbandon eng) s (fun u => (thread u t).st = .free ∧
      ctr u (pa dev cAct_ABANDON_MICROCODE) = Nat.min maxCtr (ctr s (pa dev cAct_ABANDON_MICROCODE) + 1) ∧
      (∀ e ∈ u.ctx.lock, e.2 ≠ (wordThread s t).pass) ∧
      (p.headLost = false → p.counted + 1 ≤ liveF s (pa dev offACT_CFG) fACT_CFG_RESTART_MAX →
        u.disp.restarts = s.disp.restarts ++ [(wordThread s t).pass] ∧
        ∃ q, pass? u (wordThread s t).pass = some q ∧ q.phase = .restart ∧ q.counted = p.counted + 1 ∧
          q.cause = causeMicrocode ∧ q.tid = noThread)) := by
  have honly := onlyThread_wordEnded h
  have ht := (issuing_spec h.1).2
  have hthread : (thread (wordEnded s t) t).pass = (wordThread s t).pass := by rw [thread_wordEnded h]; rfl
  have hpass : pass? (wordEnded s t) (thread (wordEnded s t) t).pass = some p := by
    rw [hthread, honly.pass_eq, pass_wordThread, ← passOf, hp]
  have hlive : liveF (wordEnded s t) (pa dev offACT_CFG) fACT_CFG_RESTART_MAX = liveF s (pa dev offACT_CFG) fACT_CFG_RESTART_MAX := by
    rw [liveF, honly.live_eq, liveF]
  have hcounter : ¬ PathCounter (pa dev (causeCounter causeMicrocode)) :=
    not_pathCounter_dev (by decide) (by decide) (by decide) (by decide)
  have hgone := passOver_attemptGone t causeMicrocode 0 0 p (wordEnded s t)
  refine gives_act_eq hs (u := attemptGone t causeMicrocode 0 0 p (wordEnded s t)) rfl
    ((runSeq_ready h _).trans (abandon_eq hpass (by decide)))
    (SameBoard.boardKeeps ?_) ⟨free_attemptGone ht, ?_, ?_, fun hhead hcount => ?_⟩
  · have hbegun : SameBoard s (wordEnded s t) := by
      obtain ⟨-, -, hframe⟩ := honly
      rw [hframe]
      exact ⟨rfl, rfl⟩
    exact (hbegun.trans sameBoard_attemptOver).trans hgone.sameBoard
  · rw [← honly.ctr_dev (off := cAct_ABANDON_MICROCODE) (by decide)]
    exact ctr_cause_attemptGone hcounter (by decide)
  · rw [hgone.ctx, ← hthread]
    exact not_locked_attemptOver
  · rw [attemptGone_restart (by decide) hhead (hlive ▸ hcount), hthread]
    refine ⟨?_, _, mfind_mput_same _ _ _, rfl, rfl, rfl, rfl⟩
    rw [restarts_restartAwaited, restarts_attemptOver, honly.disp_eq]

end

/-- Settles O37: each sequencing is one change of the thread after its word has ended, and ABANDON the end of the attempt. -/
theorem sequencingChoosesTheNextWord : Obligations.SequencingChoosesTheNextWord := by
  intro s eng t hs
  refine ⟨fun h => ?_, fun h => ?_, fun h => ?_, fun h => ?_, fun hsub h => gives_seqCall hs h hsub, gives_seqReturn hs,
    fun hwait h => gives_seqWait_sleeps hs h hwait, fun hwait h => gives_seqWait_goesOn hs h hwait, fun h => ?_,
    fun p hp h => gives_seqAbandon hs hp h⟩
  · exact gives_seqThread hs h rfl (goTo_eq t _ (mwNext_lt _)) rfl
  · exact gives_seqThread hs h rfl (goTo_eq t _ (nextC_lt _ _)) (by rw [thread_wordEnded h]; rfl)
  · exact gives_seqThread hs h rfl (goTo_eq t _ (or_dispField_lt _ _ 2 (by decide))) (by rw [thread_wordEnded h]; rfl)
  · exact gives_seqThread hs h rfl (goTo_eq t _ (or_dispField_lt _ _ 4 (by decide))) (by rw [thread_wordEnded h]; rfl)
  · exact gives_seqThread hs h rfl rfl rfl

end Sys2Proof.Machine
end

section
/-!
PROOFS. Threads cleared one by one (R200, R201): what a thread holds is abandoned or its reservation taken away, and it is free.
-/

namespace Sys2Proof.Machine
open Sys2Proof

section
variable {s : State} {t cause reason faultPc : Nat}

/-! ### Registers through an abandon -/

theorem keepsRegs_attemptGone (t cause reason faultPc : Nat) (p : Pass) (s : State) :
    KeepsRegs ResidueWord s (attemptGone t cause reason faultPc p s) :=
  (KeepsRegs.of_aside aside_attemptOver).trans (passOver_attemptGone t cause reason faultPc p s).regs

/-- Only a watchdog's abandon raises an interrupt of the Grove. -/
theorem keepsRegs_abandon (hcause : cause ≠ causeWatchdog) (s : State) :
    KeepsRegs ResidueWord s (abandon t cause reason faultPc s) := by
  cases hp : pass? s (thread s t).pass with
  | none =>
    have hfree : abandon t cause reason faultPc s = freeThread t s := by simp [abandon, hp]
    rw [hfree]
    exact .of_aside (aside_freeThread t s)
  | some p =>
    rw [abandon_eq hp hcause]
    exact keepsRegs_attemptGone t cause reason faultPc p s

theorem keepsRegs_clear (hcause : cause ≠ causeWatchdog) (t : Nat) (s : State) :
    KeepsRegs ResidueWord s (clearThread cause t s) := by
  unfold clearThread
  dsimp only
  split_ifs
  · exact .of_aside (aside_unreserve t s)
  · exact keepsRegs_abandon hcause s
  · exact .refl s

/-! ### Threads through an abandon -/

theorem thread_freeThread_same (ht : t < 4096) (s : State) : thread (freeThread t s) t = threadReset t := by
  rw [freeThread, if_pos ht]
  exact thread_setThread_same s t _

/-- The reservation is gone; what becomes of the pass touches no other thread. -/
theorem passOver_unreserve (t : Nat) (s : State) :
    PassOver (releaseLocks (thread s t).pass (freeThread t s)) (unreserve t s) := by
  have hupd := passOver_updPass (thread s t).pass (fun (p : Pass) => { p with tid := noThread })
    (releaseLocks (thread s t).pass (freeThread t s))
  unfold unreserve
  dsimp only
  split
  · exact hupd
  · split_ifs
    · exact (hupd.trans (passOver_setPass _ _ _)).trans (passOver_disp _ _)
    · exact hupd

theorem free_unreserve (ht : t < 4096) (s : State) : (thread (unreserve t s) t).st = .free :=
  (passOver_unreserve t s).free (congrArg Thread.st (thread_freeThread_same ht s))

theorem free_abandon (ht : t < 4096) (hcause : cause ≠ causeWatchdog) (s : State) :
    (thread (abandon t cause reason faultPc s) t).st = .free := by
  cases hp : pass? s (thread s t).pass with
  | none =>
    have hfree : abandon t cause reason faultPc s = freeThread t s := by simp [abandon, hp]
    rw [hfree, thread_freeThread_same ht]
    rfl
  | some p =>
    rw [abandon_eq hp hcause]
    exact free_attemptGone ht

/-- A thread that is neither reserved nor runs an attempt is free. -/
theorem free_of_idle {th : Thread} (hres : th.st ≠ .reserved) (hatt : attempting th = false) : th.st = .free := by
  unfold attempting at hatt
  cases hst : th.st with
  | free => rfl
  | reserved => exact absurd hst hres
  | ready | waiting | stalled | committing => simp [hst] at hatt

theorem clearThread_free (h : (thread s t).st = .free) : clearThread cause t s = s := by
  simp [clearThread, attempting, h]

theorem clearThread_attempting (h : attempting (thread s t) = true) : clearThread cause t s = abandon t cause 0 0 s := by
  have hres : (thread s t).st ≠ .reserved := by
    intro hst
    simp [attempting, hst] at h
  simp [clearThread, hres, h]

theorem free_clearThread (ht : t < 4096) (hcause : cause ≠ causeWatchdog) (s : State) :
    (thread (clearThread cause t s) t).st = .free := by
  unfold clearThread
  dsimp only
  split_ifs with hres hatt
  · exact free_unreserve ht s
  · exact free_abandon ht hcause s
  · exact free_of_idle (by simpa using hres) (by simpa using hatt)

/-- A free thread stays free through the clearing of any thread. -/
theorem clearThread_keeps_free (hcause : cause ≠ causeWatchdog) (t y : Nat) (h : (thread s y).st = .free) :
    (thread (clearThread cause t s) y).st = .free := by
  by_cases hty : y = t
  · subst hty
    rwa [clearThread_free h]
  have hfreed : (thread (freeThread t s) y).st = .free := (passOver_freeThread t s).free h
  unfold clearThread
  dsimp only
  split_ifs
  · exact (passOver_unreserve t s).free hfreed
  · cases hp : pass? s (thread s t).pass with
    | none =>
      have hfree : abandon t cause 0 0 s = freeThread t s := by simp [abandon, hp]
      rwa [hfree]
    | some p =>
      rw [abandon_eq hp hcause]
      exact (passOver_attemptGone t cause 0 0 p s).free (by rw [thread_attemptOver_other hty]; exact h)
  · exact h

/-- Threads cleared in turn are free in the end. -/
theorem free_clearThreads (hcause : cause ≠ causeWatchdog) (l : List Nat) (hl : ∀ t ∈ l, t < 4096) (s : State) :
    ∀ t ∈ l, (thread (forAll (clearThread cause) l s) t).st = .free := fun t ht =>
  forAll_establishes (P := fun t s => t < 4096 → (thread s t).st = .free) (fun _ s hx => free_clearThread hx hcause s)
    (fun x y _ h hy => clearThread_keeps_free hcause x y (h hy)) l s t ht (hl t ht)

theorem lt_of_mem_groveThreads {g t : Nat} (hg : g < 32) (h : t ∈ groveThreads g) : t < 4096 := by
  obtain ⟨i, hi, rfl⟩ := List.mem_map.mp h
  rw [List.mem_range] at hi
  omega

/-! ### The drain of a Grove (R201) -/

theorem thread_boardKeeps (s t : State) (x : Nat) : thread (boardKeeps s t) x = thread t x := rfl

theorem exec_drainTimeout (g : Nat) (s : State) : exec (.drainTimeout g) s = act (drainTimeout g) s := rfl

theorem gives_drainTimeout {g t0 : Nat} (hs : stopped s = false) (hg : g < 32) (hat : mfind s.grv.drainAt g = some t0)
    (hquiesce : quiesceReq s (grvPage g) = true)
    (hdue : t0 + liveF s (pa (grvPage g) offGRV_CFG) fGRV_CFG_DRAIN_US * tUs ≤ now s) :
    Gives (.drainTimeout g) s (fun t => ∀ x ∈ groveThreads g, (thread t x).st = .free) := by
  have hdrain : drainTimeout g s = forAll (clearThread causeDrain) (groveThreads g) s := by
    unfold drainTimeout
    rw [hat, hquiesce]
    dsimp only
    split_ifs with h
    · rfl
    · simp only [Bool.true_and, decide_eq_true_eq] at h
      exact absurd hdue h
  refine gives_act hs (exec_drainTimeout g s) (fun x hx => ?_)
  rw [hdrain, thread_boardKeeps]
  exact free_clearThreads (by decide) _ (fun _ => lt_of_mem_groveThreads hg) s x hx

end
end Sys2Proof.Machine
end

section
/-!
PROOFS. Engines in service (R199): the bits of a Grove's engines, and the write of GRV_ENG_SVC.
-/

namespace Sys2Proof.Machine
open Sys2Proof

/-! ### Bits of engines -/

section
variable {s t : State} {g : Nat}

theorem testBit_ofNat_word (n i : Nat) (hi : i < 32) : (BitVec.ofNat 32 n).toNat.testBit i = n.testBit i := by
  rw [BitVec.toNat_ofNat, Nat.testBit_mod_two_pow]
  simp [hi]

/-- An engine's bit reads what was written to it; every other bit stays. -/
theorem engBit_setEngBit {o o' g' e e' : Nat} (b : Bool) (s : State) (ho : o < 0x1000) (ho' : o' < 0x1000) (he' : e' < 32) :
    engBit (setEngBit o g e b s) o' g' e' = if o' = o ∧ g' = g ∧ e' = e then b else engBit s o' g' e' := by
  by_cases ha : pa (grvPage g') o' = pa (grvPage g) o
  · obtain ⟨hg, rfl⟩ : grvPage g' = grvPage g ∧ o' = o := pa_inj _ _ _ _ ho' ho ha
    obtain rfl : g' = g := Nat.add_left_cancel hg
    simp only [engBit, setEngBit, reg_setReg_same, testBit_ofNat_word _ _ he', testBit_natSetBit, true_and]
  · have hne : ¬ (o' = o ∧ g' = g ∧ e' = e) := fun ⟨h1, h2, _⟩ => ha (by rw [h1, h2])
    rw [if_neg hne, engBit, setEngBit, reg_setReg_other _ _ _ _ ha, engBit]

theorem onlyRegs_setEngBit {l : List Nat} (h : OnlyRegs l s t) {o g : Nat} (ha : pa (grvPage g) o ∈ l) (e : Nat) (b : Bool) :
    OnlyRegs l s (setEngBit o g e b t) := h.setReg ha _

/-- What each step of a list makes of its own element, and no other step touches, holds of every element at the end. -/
theorem forAll_each {β : Type} {f : Nat → State → State} {val : State → Nat → β} {F : Nat → β → β} {n : Nat}
    (hsame : ∀ e s, e < n → val (f e s) e = F e (val s e)) (hother : ∀ e x s, x < n → x ≠ e → val (f e s) x = val s x)
    (l : List Nat) (hl : l.Nodup) (s : State) : ∀ x < n, val (forAll f l s) x = if x ∈ l then F x (val s x) else val s x := by
  induction l generalizing s with
  | nil => exact fun x _ => by simp [forAll]
  | cons e l ih =>
    intro x hx
    obtain ⟨hnot, hnodup⟩ := List.nodup_cons.mp hl
    rw [forAll, ih hnodup _ x hx]
    by_cases hxe : x = e
    · subst hxe
      rw [if_neg hnot, if_pos List.mem_cons_self, hsame x s hx]
    · rw [hother e x s hx hxe]
      simp [hxe]

/-! ### A write of an engine register -/

theorem kindOf_grv : ∀ g < 32, kindOf (grvPage g) = some .grv := by decide
theorem capStaged_grv : ∀ g < 32, capStaged (grvPage g) = false := by decide
theorem hasHeader_grv : ∀ g < 32, hasHeader (grvPage g) = true := by decide

theorem rowAt_engSvc : ∀ g < 32, (rowAt (pa (grvPage g) offGRV_ENG_SVC)).any (fun r => r.half == .single) = true := by
  decide +kernel

theorem rowAt_engFence : ∀ g < 32, (rowAt (pa (grvPage g) offGRV_ENG_FENCE)).any (fun r => r.half == .single) = true := by
  decide +kernel

variable {req off : Nat} {v : Word}

theorem inReset_grv (hg : g < 32) (hoff : off < 0x1000) (hacc : accepts s req (pa (grvPage g) off) v = true) :
    inReset s (grvPage g) = false := by
  have hpage := pageOf_grv g hoff
  have hreset := inReset_of_accepts hacc (by rw [hpage]; exact hasHeader_grv g hg)
  rwa [hpage] at hreset

/-- An accepted write of a Grove's register takes the register's effect. -/
theorem reqWrite_grv (hg : g < 32) (hoff : off < 0x1000) (hblock : 0x40 ≤ off)
    (hrow : (rowAt (pa (grvPage g) off)).any (fun r => r.half == .single) = true)
    (hacc : accepts s req (pa (grvPage g) off) v = true) :
    ∃ r, reqWrite req (pa (grvPage g) off) v s = regEffect req .grv (grvPage g) r (pa (grvPage g) off) v s := by
  have hpage := pageOf_grv g hoff
  have hreg : isRegAddr (pa (grvPage g) off) = true := by
    have : pa (grvPage g) off < aSub := by simp only [pa, grvPage, aSub]; omega
    simp [isRegAddr, this]
  obtain ⟨r, hr, hhalf⟩ := exists_single hrow
  refine ⟨r, ?_⟩
  rw [reqWrite_accepted hacc hreg (k := .grv) (by rw [hpage]; exact kindOf_grv g hg) hr hhalf
    (by rw [offOf_pa _ _ hoff]; exact hblock) (by rw [hpage]; exact capStaged_grv g hg), hpage]
  rfl

theorem groveNo_grvPage (g : Nat) : grvPage g - 0x020 = g := by
  unfold grvPage
  omega

theorem reqWrite_engSvc (hg : g < 32) (hacc : accepts s req (pa (grvPage g) offGRV_ENG_SVC) v = true) :
    reqWrite req (pa (grvPage g) offGRV_ENG_SVC) v s = forAll (svcBit g v) (List.range 32) s := by
  obtain ⟨r, hwrite⟩ := reqWrite_grv hg (by decide) (by decide) (rowAt_engSvc g hg) hacc
  rw [hwrite]
  simp only [regEffect, offOf_pa (grvPage g) offGRV_ENG_SVC (by decide), groveNo_grvPage, if_true]
  rw [grvSvcWrite, inReset_grv hg (by decide) hacc]
  rfl

theorem reqWrite_engFence (hg : g < 32) (hacc : accepts s req (pa (grvPage g) offGRV_ENG_FENCE) v = true) :
    reqWrite req (pa (grvPage g) offGRV_ENG_FENCE) v s = forAll (fenceBit g v) (List.range 32) s := by
  obtain ⟨r, hwrite⟩ := reqWrite_grv hg (by decide) (by decide) (rowAt_engFence g hg) hacc
  rw [hwrite]
  have hne : offGRV_ENG_FENCE ≠ offGRV_ENG_SVC := by decide
  simp only [regEffect, offOf_pa (grvPage g) offGRV_ENG_FENCE (by decide), groveNo_grvPage, hne, if_false, if_true]
  rw [grvFenceWrite, inReset_grv hg (by decide) hacc]
  rfl

/-! ### Engines in service (R199) -/

/-- The bits of an engine that GRV_ENG_SVC reads and writes: in service, lent, fenced. -/
def svcBits (g : Nat) (s : State) (e : Nat) : Bool × Bool × Bool :=
  (engBit s offGRV_ENG_SVC g e, engBit s offGRV_ENG_LOAN g e, engBit s offGRV_ENG_FENCE g e)

/-- What a bit written makes of them. -/
def svcWritten (v : Word) (e : Nat) : Bool × Bool × Bool → Bool × Bool × Bool
  | (svc, loan, fence) => (v.toNat.testBit e && (!fence || svc), v.toNat.testBit e && loan, fence)

theorem svcBits_svcBit_same (v : Word) (e : Nat) (s : State) (he : e < 32) :
    svcBits g (svcBit g v e s) e = svcWritten v e (svcBits g s e) := by
  unfold svcBit svcWritten svcBits
  split_ifs with hbit hfence
  · simp [hbit, hfence]
  · simp [hbit, hfence, engBit_setEngBit, he, offGRV_ENG_SVC, offGRV_ENG_LOAN, offGRV_ENG_FENCE]
  · simp [hbit, engBit_setEngBit, he, offGRV_ENG_SVC, offGRV_ENG_LOAN, offGRV_ENG_FENCE]

theorem svcBits_svcBit_other (v : Word) (e x : Nat) (s : State) (hx : x < 32) (hne : x ≠ e) :
    svcBits g (svcBit g v e s) x = svcBits g s x := by
  unfold svcBit svcBits
  split_ifs with hbit hfence
  · rfl
  · simp [engBit_setEngBit, hx, hne, offGRV_ENG_SVC, offGRV_ENG_LOAN, offGRV_ENG_FENCE]
  · simp [engBit_setEngBit, hx, hne, offGRV_ENG_SVC, offGRV_ENG_LOAN, offGRV_ENG_FENCE]

theorem onlyRegs_svcBits (v : Word) (l : List Nat) (s : State) :
    OnlyRegs [pa (grvPage g) offGRV_ENG_SVC, pa (grvPage g) offGRV_ENG_LOAN] s (forAll (svcBit g v) l s) := by
  have hstep (e : Nat) (t : State) (h : OnlyRegs [pa (grvPage g) offGRV_ENG_SVC, pa (grvPage g) offGRV_ENG_LOAN] s t) :
      OnlyRegs [pa (grvPage g) offGRV_ENG_SVC, pa (grvPage g) offGRV_ENG_LOAN] s (svcBit g v e t) := by
    unfold svcBit
    split_ifs
    · exact h
    · exact onlyRegs_setEngBit h (by simp) _ _
    · exact onlyRegs_setEngBit (onlyRegs_setEngBit h (by simp) _ _) (by simp) _ _
  exact forAll_rel (R := fun t u => OnlyRegs _ s t → OnlyRegs _ s u) (fun _ h => h) (fun _ _ _ h h' => h' ∘ h) hstep l s onlyRegs_refl

theorem gives_inService (hs : stopped s = false) (hg : g < 32)
    (hacc : accepts s req (pa (grvPage g) offGRV_ENG_SVC) v = true) :
    Gives (.inService req g v) s (fun t =>
      (∀ e, e < 32 → engBit t offGRV_ENG_SVC g e = (v.toNat.testBit e &&
        (!engBit s offGRV_ENG_FENCE g e || engBit s offGRV_ENG_SVC g e))) ∧
      (∀ e, e < 32 → engBit t offGRV_ENG_LOAN g e = (v.toNat.testBit e && engBit s offGRV_ENG_LOAN g e)) ∧
      OnlyRegs [pa (grvPage g) offGRV_ENG_SVC, pa (grvPage g) offGRV_ENG_LOAN] s t) := by
  have hbits (e : Nat) (he : e < 32) :
      svcBits g (forAll (svcBit g v) (List.range 32) s) e = svcWritten v e (svcBits g s e) := by
    rw [forAll_each (fun e s he => svcBits_svcBit_same v e s he) (fun e x s => svcBits_svcBit_other v e x s) _
      List.nodup_range s e he, if_pos (List.mem_range.mpr he)]
  simp only [svcBits, svcWritten, Prod.mk.injEq] at hbits
  exact (onlyRegs_svcBits v _ s).gives hs rfl (reqWrite_engSvc hg hacc)
    ⟨fun e he => (hbits e he).1, fun e he => (hbits e he).2.1, onlyRegs_svcBits v _ s⟩

end
end Sys2Proof.Machine
end

section
/-!
PROOFS. A fence (R200): the engine's bits, what clears its threads, and the spare that takes its place; then GRV_ENG_FENCE written bit by
bit.
-/

namespace Sys2Proof.Machine
open Sys2Proof

section
variable {s t u : State} {g e : Nat} {v : Word}

/-! ### The engine's bits and its threads -/

/-- The bits of an engine as its fence leaves them. -/
def engFenced (g e : Nat) (s : State) : State :=
  setEngBit offGRV_ENG_LOAN g e false (setEngBit offGRV_ENG_SVC g e false (setEngBit offGRV_ENG_FENCE g e true s))

/-- The fence reported, the engine's threads cleared. -/
def fenceNoted (g : Nat) (s : State) : State := echoAfter (grvPage g) (raiseIrq (grvPage g) 0 s)

/-- The state in which a fenced engine's place is filled. -/
def engCleared (g e : Nat) (s : State) : State :=
  fenceNoted g (forAll (clearThread causeFence) (engThreads g e) (engFenced g e s))

/-- A fallow engine takes the place of a fenced one, or the Grove reports that there is none. -/
def spareTaken (g : Nat) (s : State) : State :=
  match spareFor s g with
  | some x => setEngBit offGRV_ENG_SVC (x / 32) (x % 32) true s
  | none => raiseIrq (grvPage g) 1 s

theorem fenceEngine_eq (h : engBit s offGRV_ENG_FENCE g e = false) :
    fenceEngine g e causeFence false s =
      if engBit s offGRV_ENG_SVC g e && liveB s (pa (grvPage g) offGRV_CFG) fGRV_CFG_AUTO_SPARE then spareTaken g (engCleared g e s)
      else engCleared g e s := by
  unfold fenceEngine
  simp only [h, Bool.false_eq_true, if_false]
  rfl

/-! ### Registers that a fence leaves -/

/-- The words that clearing threads and reporting a fence write beside what a drop writes. -/
def FenceWord (g a : Nat) : Prop := ResidueWord a ∨ a = pa (grvPage g) offIRQ_STS

/-- Words of a Grove that the report of a fence leaves. -/
theorem reg_of_fenceWord {x off : Nat} (h : KeepsRegs (FenceWord g) s t) (hx : x < 32) (hoff : off < 0x1000) (hne : off ≠ offIRQ_STS) :
    reg t (pa (grvPage x) off) = reg s (pa (grvPage x) off) := by
  refine h.reg _ (not_noise_grv hx hoff) ?_
  rintro (hres | hirq)
  · have hpage : grvPage x = pgMc := (pa_inj _ _ _ _ hoff (by decide) hres).1
    simp only [grvPage, pgMc] at hpage
    omega
  · exact hne (pa_inj _ _ _ _ hoff (by decide) hirq).2

theorem engBit_of_fenceWord {x o : Nat} (h : KeepsRegs (FenceWord g) s t) (hx : x < 32) (ho : o < 0x1000) (hne : o ≠ offIRQ_STS)
    (e : Nat) : engBit t o x e = engBit s o x e := by
  rw [engBit, reg_of_fenceWord h hx ho hne, engBit]

theorem keepsRegs_raiseGrv (g bit : Nat) (s : State) : KeepsRegs (FenceWord g) s (raiseIrq (grvPage g) bit s) :=
  ((Aside.refl s).raiseIrq (.inr (.inr rfl)) bit).toKeepsRegs

theorem keepsRegs_fenceNoted (g : Nat) (s : State) : KeepsRegs (FenceWord g) s (fenceNoted g s) :=
  (keepsRegs_raiseGrv g 0 s).same rfl rfl rfl

theorem keepsRegs_engCleared (g e : Nat) (s : State) : KeepsRegs (FenceWord g) (engFenced g e s) (engCleared g e s) := by
  have hclear : KeepsRegs ResidueWord (engFenced g e s) (forAll (clearThread causeFence) (engThreads g e) (engFenced g e s)) :=
    KeepsRegs.forAll (fun t u => keepsRegs_clear (by decide) t u) _ _
  exact (hclear.mono fun _ => .inl).trans (keepsRegs_fenceNoted g _)

/-- Of the four words of the engines, a fence writes three, one bit in each. -/
theorem engBit_engFenced {o x e' : Nat} (s : State) (ho : o < 0x1000) (he' : e' < 32) :
    engBit (engFenced g e s) o x e' =
      if x = g ∧ e' = e ∧ (o = offGRV_ENG_LOAN ∨ o = offGRV_ENG_SVC) then false
      else if x = g ∧ e' = e ∧ o = offGRV_ENG_FENCE then true else engBit s o x e' := by
  unfold engFenced
  rw [engBit_setEngBit _ _ (by decide) ho he', engBit_setEngBit _ _ (by decide) ho he', engBit_setEngBit _ _ (by decide) ho he']
  split_ifs <;> simp_all

theorem engBit_engCleared {o x e' : Nat} (s : State) (ho : o < 0x1000) (hne : o ≠ offIRQ_STS) (hx : x < 32) (he' : e' < 32) :
    engBit (engCleared g e s) o x e' =
      if x = g ∧ e' = e ∧ (o = offGRV_ENG_LOAN ∨ o = offGRV_ENG_SVC) then false
      else if x = g ∧ e' = e ∧ o = offGRV_ENG_FENCE then true else engBit s o x e' := by
  rw [engBit_of_fenceWord (keepsRegs_engCleared g e s) hx ho hne, engBit_engFenced s ho he']

/-- A spare enters service; no other word of an engine changes. -/
theorem engBit_spareTaken {o x e' : Nat} (s : State) (hx : x < 32) (he' : e' < 32) (ho : o < 0x1000) (hirq : o ≠ offIRQ_STS)
    (hsvc : o ≠ offGRV_ENG_SVC) : engBit (spareTaken g s) o x e' = engBit s o x e' := by
  unfold spareTaken
  split
  · rw [engBit_setEngBit _ _ (by decide) ho he', if_neg fun h => hsvc h.1]
  · exact engBit_of_fenceWord (keepsRegs_raiseGrv g 1 s) hx ho hirq e'

/-! ### GRV_ENG_FENCE written (R200) -/

/-- The bits of an engine that GRV_ENG_FENCE reads and writes: fenced, and fenced for good. -/
def fenceBits (g : Nat) (s : State) (e : Nat) : Bool × Bool := (engBit s offGRV_ENG_FENCE g e, engBit s offGRV_ENG_PERM g e)

/-- What a bit written makes of them. -/
def fenceWritten (v : Word) (e : Nat) : Bool × Bool → Bool × Bool
  | (fence, perm) => (v.toNat.testBit e || (fence && perm), perm)

theorem fenceBits_fenceEngine {x : Nat} (hg : g < 32) (hx : x < 32) (h : engBit s offGRV_ENG_FENCE g e = false) :
    fenceBits g (fenceEngine g e causeFence false s) x =
      if x = e then (true, engBit s offGRV_ENG_PERM g e) else fenceBits g s x := by
  have hcleared : fenceBits g (engCleared g e s) x =
      if x = e then (true, engBit s offGRV_ENG_PERM g e) else fenceBits g s x := by
    unfold fenceBits
    rw [engBit_engCleared s (by decide) (by decide) hg hx, engBit_engCleared s (by decide) (by decide) hg hx]
    by_cases hxe : x = e
    · subst hxe
      simp
    · simp [hxe]
  rw [fenceEngine_eq h]
  split_ifs with hspare hxe
  · rw [fenceBits, engBit_spareTaken _ hg hx (by decide) (by decide) (by decide),
      engBit_spareTaken _ hg hx (by decide) (by decide) (by decide), ← fenceBits, hcleared, if_pos hxe]
  · rw [fenceBits, engBit_spareTaken _ hg hx (by decide) (by decide) (by decide),
      engBit_spareTaken _ hg hx (by decide) (by decide) (by decide), ← fenceBits, hcleared, if_neg hxe]
  · rw [hcleared, if_pos ‹_›]
  · rw [hcleared, if_neg ‹_›]

theorem fenceBits_fenceBit_same (hg : g < 32) (v : Word) (e : Nat) (s : State) (he : e < 32) :
    fenceBits g (fenceBit g v e s) e = fenceWritten v e (fenceBits g s e) := by
  unfold fenceBit
  dsimp only
  split_ifs with hset hlift
  · simp only [Bool.and_eq_true, Bool.not_eq_true'] at hset
    rw [fenceBits_fenceEngine hg he hset.2, if_pos rfl]
    simp [fenceWritten, fenceBits, hset.1]
  · simp only [Bool.and_eq_true, Bool.not_eq_true'] at hlift
    obtain ⟨⟨hbit, -⟩, hperm⟩ := hlift
    simp only [fenceBits, fenceWritten]
    rw [engBit_setEngBit _ _ (by decide) (by decide) he, engBit_setEngBit _ _ (by decide) (by decide) he, hperm, hbit]
    simp
  · simp only [fenceBits, fenceWritten, Prod.mk.injEq, and_true]
    revert hset hlift
    cases v.toNat.testBit e <;> cases engBit s offGRV_ENG_FENCE g e <;> cases engBit s offGRV_ENG_PERM g e <;> decide

theorem fenceBits_fenceBit_other (hg : g < 32) (v : Word) (e x : Nat) (s : State) (hx : x < 32) (hne : x ≠ e) :
    fenceBits g (fenceBit g v e s) x = fenceBits g s x := by
  unfold fenceBit
  dsimp only
  split_ifs with hset hlift
  · simp only [Bool.and_eq_true, Bool.not_eq_true'] at hset
    rw [fenceBits_fenceEngine hg hx hset.2, if_neg hne]
  · simp only [fenceBits]
    rw [engBit_setEngBit _ _ (by decide) (by decide) hx, engBit_setEngBit _ _ (by decide) (by decide) hx]
    simp [hne]
  · rfl

theorem exec_fenced (req g : Nat) (v : Word) (s : State) :
    exec (.fenced req g v) s = act (reqWrite req (pa (grvPage g) offGRV_ENG_FENCE) v) s := rfl

theorem engBit_boardKeeps (s t : State) (o g e : Nat) : engBit (boardKeeps s t) o g e = engBit t o g e := rfl

theorem gives_fenced {req : Nat} (hs : stopped s = false) (hg : g < 32)
    (hacc : accepts s req (pa (grvPage g) offGRV_ENG_FENCE) v = true) :
    Gives (.fenced req g v) s (fun t => ∀ e, e < 32 → engBit t offGRV_ENG_FENCE g e =
      (v.toNat.testBit e || (engBit s offGRV_ENG_FENCE g e && engBit s offGRV_ENG_PERM g e))) := by
  refine gives_act hs (exec_fenced req g v s) fun e he => ?_
  have hbits := forAll_each (val := fenceBits g) (F := fenceWritten v) (fun e s he => fenceBits_fenceBit_same hg v e s he)
    (fun e x s => fenceBits_fenceBit_other hg v e x s) (List.range 32) List.nodup_range s e he
  rw [if_pos (List.mem_range.mpr he)] at hbits
  simp only [fenceBits, fenceWritten, Prod.mk.injEq] at hbits
  rw [engBit_boardKeeps, reqWrite_engFence hg hacc, hbits.1]

end
end Sys2Proof.Machine
end

section
/-!
PROOFS. One engine fenced while one of its threads runs an attempt (R200): the pass waits for its restart, and the spare that takes the
engine's place is the one that was fallow before.
-/

namespace Sys2Proof.Machine
open Sys2Proof

/-! ### One element of a list acts -/

/-- Where every other element of a list leaves the state, the list does what that one does. -/
theorem forAll_only {f : Nat → State → State} {Q : State → Prop} {e : Nat} (l : List Nat) (hl : l.Nodup) (he : e ∈ l) {s : State}
    (hstill : ∀ x ∈ l, x ≠ e → ∀ t, Q t → f x t = t) (hs : Q s) (hdone : Q (f e s)) : forAll f l s = f e s := by
  induction l with
  | nil => exact absurd he List.not_mem_nil
  | cons x l ih =>
    obtain ⟨hnot, hnodup⟩ := List.nodup_cons.mp hl
    have hrest : ∀ y ∈ l, y ≠ e → ∀ t, Q t → f y t = t := fun y hy => hstill y (List.mem_cons_of_mem _ hy)
    by_cases hxe : x = e
    · subst hxe
      have hid (m : List Nat) (hm : ∀ y ∈ m, y ∈ l) : forAll f m (f x s) = f x s := by
        induction m with
        | nil => rfl
        | cons y m ihm =>
          have hy := hm y List.mem_cons_self
          rw [forAll, hrest y hy (fun h => hnot (h ▸ hy)) _ hdone]
          exact ihm fun z hz => hm z (List.mem_cons_of_mem _ hz)
      exact hid l fun _ h => h
    · rw [forAll, hstill x List.mem_cons_self hxe s hs]
      exact ih hnodup ((List.mem_cons.mp he).resolve_left (Ne.symm hxe)) hrest

section
variable {s t u : State} {g e x k : Nat} {v : Word} {p : Pass}

/-! ### The attempt of the engine's thread -/

theorem mem_engThreads : x ∈ engThreads g e ↔ ∃ i < 4, x = 128 * g + 4 * e + i := by
  simp [engThreads, eq_comm]

theorem nodup_engThreads (g e : Nat) : (engThreads g e).Nodup :=
  List.nodup_range.map fun _ _ h => Nat.add_left_cancel h

theorem thGrove_of_mem (he : e < 32) (hx : x ∈ engThreads g e) : thGrove x = g := by
  obtain ⟨i, hi, rfl⟩ := mem_engThreads.mp hx
  unfold thGrove
  omega

/-- The state in which the fence has made the pass of the engine's one busy thread wait for its restart. -/
def fencedAttempt (x : Nat) (p : Pass) (s : State) : State :=
  restartAwaited (thread s x).pass (attemptLost x causeFence 0 p) (attemptOver x causeFence 0 p s)

theorem thread_fencedAttempt_same (hx : x < 4096) : thread (fencedAttempt x p s) x = threadReset x := thread_attemptOver_same hx

theorem thread_fencedAttempt_other {y : Nat} (hy : y ≠ x) : thread (fencedAttempt x p s) y = thread s y := thread_attemptOver_other hy

/-- A state whose threads stand so clears the engine by that one abandon. -/
theorem clearThreads_fenced (hx : x ∈ engThreads g e) (hfree : ∀ y ∈ engThreads g e, y ≠ x → (thread s y).st = .free)
    (hatt : attempting (thread s x) = true) (hp : pass? s (thread s x).pass = some p) (hhead : p.headLost = false)
    (hleft : p.counted ≤ liveF s (pa dev offACT_CFG) fACT_CFG_RESTART_MAX) :
    forAll (clearThread causeFence) (engThreads g e) s = fencedAttempt x p s := by
  have hleft' : (attemptLost x causeFence 0 p).counted ≤ liveF s (pa dev offACT_CFG) fACT_CFG_RESTART_MAX := hleft
  have hone : clearThread causeFence x s = fencedAttempt x p s := by
    rw [clearThread_attempting hatt, abandon_eq hp (by decide), attemptGone_restart (by decide) hhead hleft', fencedAttempt]
  rw [← hone]
  refine forAll_only (Q := fun t => ∀ y ∈ engThreads g e, y ≠ x → (thread t y).st = .free) _ (nodup_engThreads g e) hx
    (fun y hy hyx t ht => clearThread_free (ht y hy hyx)) hfree fun y hy hyx => ?_
  exact clearThread_keeps_free (by decide) x y (hfree y hy hyx)

/-! ### What follows it touches registers and reports alone -/

/-- Only register words, reports and what an interrupt leaves changed. -/
def OnlySignals (s t : State) : Prop :=
  t = { s with bus := { s.bus with regs := t.bus.regs }, rw := { s.rw with evtPend := t.rw.evtPend }, host := t.host, ic := t.ic,
               lko := t.lko }

theorem OnlySignals.trans (h : OnlySignals s t) (h' : OnlySignals t u) : OnlySignals s u := Eq.trans h' (by rw [h])

theorem OnlyNoted.signals (h : OnlyNoted s t) : OnlySignals s t := by rw [h]; rfl

theorem onlySignals_setEngBit (o g e : Nat) (b : Bool) (s : State) : OnlySignals s (setEngBit o g e b s) := rfl

theorem onlySignals_lko (x : LkoSt) (s : State) : OnlySignals s { s with lko := x } := rfl

theorem onlySignals_fenceNoted (g : Nat) (s : State) : OnlySignals s (fenceNoted g s) :=
  (onlyNoted_raiseIrq (grvPage g) 0 s).signals.trans (onlySignals_lko _ _)

theorem onlySignals_spareTaken (g : Nat) (s : State) : OnlySignals s (spareTaken g s) := by
  unfold spareTaken
  split
  · exact onlySignals_setEngBit _ _ _ _ s
  · exact (onlyNoted_raiseIrq _ _ s).signals

theorem onlySignals_engFenced (g e : Nat) (s : State) : OnlySignals s (engFenced g e s) :=
  ((onlySignals_setEngBit _ _ _ _ s).trans (onlySignals_setEngBit _ _ _ _ _)).trans (onlySignals_setEngBit _ _ _ _ _)

theorem OnlySignals.thread (h : OnlySignals s t) (y : Nat) : thread t y = thread s y := by rw [h]; rfl
theorem OnlySignals.disp (h : OnlySignals s t) : t.disp = s.disp := by rw [h]
theorem OnlySignals.ctr (h : OnlySignals s t) (a : Nat) : ctr t a = ctr s a := by rw [h]; rfl

/-- The clocks stay, and what the boot has noted. -/
def SameClock (s t : State) : Prop := t.time = s.time ∧ t.hw = s.hw

theorem SameClock.trans (h : SameClock s t) (h' : SameClock t u) : SameClock s u := ⟨h'.1.trans h.1, h'.2.trans h.2⟩

theorem OnlySignals.sameClock (h : OnlySignals s t) : SameClock s t := ⟨by rw [h], by rw [h]⟩

theorem PassOver.sameClock (h : PassOver s t) : SameClock s t := ⟨by rw [h.parts], by rw [h.parts]⟩

theorem sameClock_count (page off : Nat) (s : State) : SameClock s (count page off s) := ⟨rfl, rfl⟩

theorem sameClock_fencedAttempt : SameClock s (fencedAttempt x p s) := by
  have hfreed : SameClock s (attemptFreed x causeFence s) :=
    ((sameClock_count _ _ s).trans (sameClock_count _ _ _)).trans (passOver_freeThread x _).sameClock
  have hover : SameClock s (attemptOver x causeFence 0 p s) := by
    refine hfreed.trans ?_
    rw [onlyPol_attemptOver]
    exact ⟨rfl, rfl⟩
  exact hover

/-! ### The spare (R199, R200) -/

/-- The words of the fenced engine's Grove that the fence writes. -/
def EngineWord (g a : Nat) : Prop :=
  FenceWord g a ∨ a = pa (grvPage g) offGRV_ENG_SVC ∨ a = pa (grvPage g) offGRV_ENG_FENCE ∨ a = pa (grvPage g) offGRV_ENG_LOAN

theorem keepsRegs_engFenced (g e : Nat) (s : State) : KeepsRegs (EngineWord g) s (engFenced g e s) :=
  (((KeepsRegs.refl s).setReg (.inr (.inr (.inr (.inl rfl)))) _).setReg (.inr (.inr (.inl rfl))) _).setReg
    (.inr (.inr (.inr (.inr rfl)))) _

/-- Header words stay through a fence, and the boot's status. -/
theorem not_engineWord_header {y off : Nat} (hy : y < 32) (hoff : off < 0x30) : ¬ EngineWord g (pa (grvPage y) off) := by
  rintro ((h | h) | h | h | h)
  · have hpage : grvPage y = pgMc := (pa_inj _ _ _ _ (by omega) (by decide) h).1
    simp only [grvPage, pgMc] at hpage
    omega
  all_goals
    have := (pa_inj _ _ _ _ (by omega) (by decide) h).2
    simp only [offIRQ_STS, offGRV_ENG_SVC, offGRV_ENG_FENCE, offGRV_ENG_LOAN] at this
    omega

theorem not_engineWord_boot : ¬ EngineWord g (pa pgHmb offHW_BOOT_STS) := by
  rintro ((h | h) | h | h | h)
  · exact absurd (pa_inj _ _ _ _ (by decide) (by decide) h).1 (by decide)
  all_goals
    have hpage : pgHmb = grvPage g := (pa_inj _ _ _ _ (by decide) (by decide) h).1
    simp only [pgHmb, grvPage] at hpage
    omega

/-- Whether a Grove is open for dispatch goes by words that a fence leaves (R14, R201). -/
theorem groveOpen_of_keeps {y : Nat} (h : KeepsRegs (EngineWord g) s t) (hclock : SameClock s t) (hy : y < 32) :
    groveOpen t y = groveOpen s y := by
  obtain ⟨htime, hhw⟩ := hclock
  have hboot : reg t (pa pgHmb offHW_BOOT_STS) = reg s (pa pgHmb offHW_BOOT_STS) :=
    h.reg _ (by unfold Noise; decide) not_engineWord_boot
  have hctl : reg t (pa (grvPage y) offCtl) = reg s (pa (grvPage y) offCtl) :=
    h.reg _ (not_noise_grv hy (by decide)) (not_engineWord_header hy (by decide))
  have hsts : reg t (pa (grvPage y) offSts) = reg s (pa (grvPage y) offSts) :=
    h.reg _ (not_noise_grv hy (by decide)) (not_engineWord_header hy (by decide))
  have hdone : bootDone t = bootDone s := by rw [bootDone, regB, hboot, bootDone, regB]
  have hstart : notStarted t (grvPage y) = notStarted s (grvPage y) := by
    rw [notStarted, hdone, regF, hboot, hhw, htime]
    rfl
  simp only [groveOpen, hdone, running, enabled, quiesceReq, inReset, hstart, regB, hctl, hsts]

theorem engIdle_of_threads {y e' : Nat} (hthreads : ∀ z ∈ engThreads y e', thread t z = thread s z) (htime : t.time = s.time) :
    engIdle t y e' = engIdle s y e' := by
  unfold engIdle
  refine Bool.eq_iff_iff.mpr ?_
  rw [List.all_eq_true, List.all_eq_true]
  refine forall₂_congr fun z hz => ?_
  rw [threadFree, threadFree, hthreads z hz, now, now, htime]

/-- The fence of an engine in service leaves the choice of its spare. -/
theorem spareFor_fenced (hg : g < 32) (he : e < 32) (hsvc : engBit s offGRV_ENG_SVC g e = true)
    (hregs : KeepsRegs (EngineWord g) s t) (hclock : SameClock s t)
    (hbits : ∀ o y e', o < 0x1000 → o ≠ offIRQ_STS → y < 32 → e' < 32 → engBit t o y e' =
      if y = g ∧ e' = e ∧ (o = offGRV_ENG_LOAN ∨ o = offGRV_ENG_SVC) then false
      else if y = g ∧ e' = e ∧ o = offGRV_ENG_FENCE then true else engBit s o y e')
    (hthreads : ∀ y e', y < 32 → e' < 32 → ¬ (y = g ∧ e' = e) → ∀ z ∈ engThreads y e', thread t z = thread s z) :
    spareFor t g = spareFor s g := by
  have hfallow (y e' : Nat) (hy : y < 32) (he' : e' < 32) : engFallow t y e' = engFallow s y e' := by
    by_cases hsame : y = g ∧ e' = e
    · obtain ⟨rfl, rfl⟩ := hsame
      have hfence : engBit t offGRV_ENG_FENCE y e' = true := by
        rw [hbits _ _ _ (by decide) (by decide) hy he']
        simp
      simp [engFallow, hsvc, hfence]
    · have hbit (o : Nat) (ho : o < 0x1000) (hne : o ≠ offIRQ_STS) : engBit t o y e' = engBit s o y e' := by
        rw [hbits o y e' ho hne hy he', if_neg fun h => hsame ⟨h.1, h.2.1⟩, if_neg fun h => hsame ⟨h.1, h.2.1⟩]
      rw [engFallow, hbit _ (by decide) (by decide), hbit _ (by decide) (by decide), hbit _ (by decide) (by decide),
        engIdle_of_threads (hthreads y e' hy he' hsame) hclock.1, engFallow]
  have hown : (List.range 32).find? (engFallow t g) = (List.range 32).find? (engFallow s g) :=
    List.find?_congr fun e' h => hfallow g e' hg (List.mem_range.mp h)
  have hother : (List.range 1024).find? (fun x => x / 32 != g && groveOpen t (x / 32) && engFallow t (x / 32) (x % 32)) =
      (List.range 1024).find? (fun x => x / 32 != g && groveOpen s (x / 32) && engFallow s (x / 32) (x % 32)) := by
    refine List.find?_congr fun y h => ?_
    have hy : y < 1024 := List.mem_range.mp h
    rw [groveOpen_of_keeps hregs hclock (by omega), hfallow (y / 32) (y % 32) (by omega) (by omega)]
  rw [spareFor, spareFor, hown, hother]

/-! ### The engine's fence as a whole -/

theorem thGrove_lt (hg : g < 32) (he : e < 32) (hx : x ∈ engThreads g e) : x < 4096 := by
  obtain ⟨i, hi, rfl⟩ := mem_engThreads.mp hx
  omega

/-- Engines hold their own threads. -/
theorem eng_of_mem {y e' : Nat} (he : e < 32) (he' : e' < 32) (hx : x ∈ engThreads g e) (hx' : x ∈ engThreads y e') :
    y = g ∧ e' = e := by
  obtain ⟨i, hi, rfl⟩ := mem_engThreads.mp hx
  obtain ⟨j, hj, h⟩ := mem_engThreads.mp hx'
  omega

/-- A Grove's interrupt once raised stands. -/
theorem testBit_raiseGrv_other {bit b : Nat} (hg : g < 32) (hb : b < 32)
    (h : (reg s (pa (grvPage g) offIRQ_STS)).toNat.testBit b = true) :
    (reg (raiseIrq (grvPage g) bit s) (pa (grvPage g) offIRQ_STS)).toNat.testBit b = true := by
  have hsample : reg (raiseIrq (grvPage g) bit s) (pa (grvPage g) offIRQ_STS) =
      reg (setIrq (grvPage g) bit s) (pa (grvPage g) offIRQ_STS) :=
    ((Aside.refl (W := fun _ => False) (setIrq (grvPage g) bit s)).hevSample (grvPage g)).reg _ (not_noise_grv hg (by decide)) id
  have hset : reg (setIrq (grvPage g) bit s) (pa (grvPage g) offIRQ_STS) =
      BitVec.ofNat 32 (natSetBit (reg s (pa (grvPage g) offIRQ_STS)).toNat bit true) := by
    unfold setIrq lineRise icEdge
    dsimp only
    split_ifs <;> exact reg_setReg_same _ _ _
  rw [hsample, hset, testBit_ofNat_word _ _ hb, testBit_natSetBit, h]
  simp

theorem testBit_spareTaken (hg : g < 32) (h : (reg s (pa (grvPage g) offIRQ_STS)).toNat.testBit 0 = true) :
    (reg (spareTaken g s) (pa (grvPage g) offIRQ_STS)).toNat.testBit 0 = true := by
  unfold spareTaken
  split
  · next y _ =>
    have hne : pa (grvPage g) offIRQ_STS ≠ pa (grvPage (y / 32)) offGRV_ENG_SVC := fun h =>
      absurd (pa_inj _ _ _ _ (by decide) (by decide) h).2 (by decide)
    rwa [setEngBit, reg_setReg_other _ _ _ _ hne]
  · exact testBit_raiseGrv_other hg (by decide) h

/-- The spare is not the engine itself. -/
theorem engBit_svc_spareTaken (hg : g < 32) (he : e < 32) (hfence : engBit s offGRV_ENG_FENCE g e = true) :
    engBit (spareTaken g s) offGRV_ENG_SVC g e = engBit s offGRV_ENG_SVC g e := by
  unfold spareTaken
  split
  · next y hy =>
    rw [engBit_setEngBit _ _ (by decide) (by decide) he]
    refine if_neg ?_
    rintro ⟨-, hgy, hey⟩
    have hfallow : engFallow s (y / 32) (y % 32) = true := by
      unfold spareFor at hy
      split at hy
      · next e' hown =>
        obtain rfl : 32 * g + e' = y := Option.some.inj hy
        have he' : e' < 32 := List.mem_range.mp (List.mem_of_find?_eq_some hown)
        have hok := List.find?_some hown
        rwa [show (32 * g + e') / 32 = g by omega, show (32 * g + e') % 32 = e' by omega]
      · have hok := List.find?_some hy
        simp only [Bool.and_eq_true] at hok
        exact hok.2
    rw [← hgy, ← hey] at hfallow
    simp [engFallow, hfence] at hfallow
  · exact engBit_of_fenceWord (keepsRegs_raiseGrv g 1 s) hg (by decide) (by decide) e

end
end Sys2Proof.Machine
end

section
/-!
PROOFS. A write of GRV_ENG_FENCE that fences one engine (R200), and engines in service, fenced and drained as a whole.
-/

namespace Sys2Proof.Machine
open Sys2Proof

section
variable {s : State} {g e x : Nat} {v : Word} {p : Pass}

/-- A word that differs from the fences in one engine's bit fences that engine alone. -/
theorem fenceBits_one (hg : g < 32) (he : e < 32) (hopen : engBit s offGRV_ENG_FENCE g e = false)
    (hv : ∀ f, f < 32 → v.toNat.testBit f = (f == e || engBit s offGRV_ENG_FENCE g f)) :
    forAll (fenceBit g v) (List.range 32) s = fenceEngine g e causeFence false s := by
  have hone : fenceBit g v e s = fenceEngine g e causeFence false s := by
    unfold fenceBit
    simp [hv e he, hopen]
  rw [← hone]
  refine forAll_only (Q := fun t => ∀ f, f < 32 → f ≠ e → engBit t offGRV_ENG_FENCE g f = engBit s offGRV_ENG_FENCE g f) _
    List.nodup_range (List.mem_range.mpr he) (fun f hf hfe t ht => ?_) (fun _ _ _ => rfl) fun f hf hfe => ?_
  · have hf' : f < 32 := List.mem_range.mp hf
    have hbit : v.toNat.testBit f = engBit t offGRV_ENG_FENCE g f := by
      rw [hv f hf', ht f hf' hfe]
      simp [hfe]
    unfold fenceBit
    rw [hbit]
    cases engBit t offGRV_ENG_FENCE g f <;> simp
  · rw [hone]
    exact (Prod.mk.inj ((fenceBits_fenceEngine hg hf hopen).trans (if_neg hfe))).1

/-- One busy thread of an engine, and a pass of it that may restart. -/
structure FencedOne (s : State) (g e x : Nat) (p : Pass) : Prop where
  grove : g < 32
  engine : e < 32
  mem : x ∈ engThreads g e
  free : ∀ y ∈ engThreads g e, y ≠ x → (thread s y).st = .free
  busy : attempting (thread s x) = true
  pass : pass? s (thread s x).pass = some p
  head : p.headLost = false
  left : p.counted ≤ liveF s (pa dev offACT_CFG) fACT_CFG_RESTART_MAX

/-- The engine's bits are no part of the limit of restarts. -/
theorem liveF_engFenced (g e : Nat) (s : State) :
    liveF (engFenced g e s) (pa dev offACT_CFG) fACT_CFG_RESTART_MAX = liveF s (pa dev offACT_CFG) fACT_CFG_RESTART_MAX := by
  have hword : ¬ EngineWord g (pa dev offACT_CFG) := by
    rintro ((h | h) | h | h | h)
    · exact absurd (pa_inj _ _ _ _ (by decide) (by decide) h).1 (by decide)
    all_goals
      have hpage : dev = grvPage g := (pa_inj _ _ _ _ (by decide) (by decide) h).1
      simp only [dev, grvPage] at hpage
      omega
  rw [liveF, (keepsRegs_engFenced g e s).live _ (by unfold Noise; decide) hword, liveF]

/-- The state before the spare is chosen. -/
theorem engCleared_eq (h : FencedOne s g e x p) : engCleared g e s = fenceNoted g (fencedAttempt x p (engFenced g e s)) := by
  have hthread := (onlySignals_engFenced g e s).thread
  rw [engCleared, clearThreads_fenced h.mem (fun y hy hyx => by rw [hthread]; exact h.free y hy hyx) (by rw [hthread]; exact h.busy)
    (by rw [hthread, pass?, (onlySignals_engFenced g e s).disp]; exact h.pass) h.head (by rw [liveF_engFenced]; exact h.left)]

/-- The attempt's end, seen from a state that differs from it in registers and reports alone. -/
structure FenceEnds (s : State) (g e x : Nat) (p : Pass) (t : State) : Prop where
  free : ∀ y ∈ engThreads g e, (thread t y).st = .free
  others : ∀ y, y ≠ x → thread t y = thread s y
  pass : pass? t (thread s x).pass =
    some { p with lastTid := x, tid := noThread, cause := causeFence, faultPc := 0, phase := .restart, redo := true }
  waits : (thread s x).pass ∈ t.disp.restarts
  counted : ctr t (pa (grvPage g) cGrv_ABANDONS) = Nat.min maxCtr (ctr s (pa (grvPage g) cGrv_ABANDONS) + 1)

theorem FenceEnds.signals {t u : State} (h : FenceEnds s g e x p t) (hu : OnlySignals t u) : FenceEnds s g e x p u :=
  ⟨fun y hy => by rw [hu.thread]; exact h.free y hy, fun y hy => by rw [hu.thread]; exact h.others y hy,
    by rw [pass?, hu.disp]; exact h.pass, by rw [hu.disp]; exact h.waits, by rw [hu.ctr]; exact h.counted⟩

theorem ctr_abandons_attemptOver (hg : thGrove x = g) :
    ctr (attemptOver x causeFence 0 p s) (pa (grvPage g) cGrv_ABANDONS) =
      Nat.min maxCtr (ctr s (pa (grvPage g) cGrv_ABANDONS) + 1) := by
  have hne : pa (grvPage g) cGrv_ABANDONS ≠ pa dev (causeCounter causeFence) := by
    intro h
    have hpage : 0x020 + g = 0 := (pa_inj _ _ _ _ (by decide) (by decide) h).1
    omega
  rw [ctr_attemptOver, ctr_count_other _ _ _ _ hne, hg, ctr_count_same]

theorem fenceEnds_engCleared (h : FencedOne s g e x p) : FenceEnds s g e x p (engCleared g e s) := by
  have hsig := onlySignals_engFenced g e s
  have hx := thGrove_lt h.grove h.engine h.mem
  rw [engCleared_eq h]
  refine FenceEnds.signals ⟨fun y hy => ?_, fun y hy => ?_, ?_, ?_, ?_⟩ (onlySignals_fenceNoted g _)
  · by_cases hyx : y = x
    · rw [hyx, thread_fencedAttempt_same hx]
      rfl
    · rw [thread_fencedAttempt_other hyx, hsig.thread]
      exact h.free y hy hyx
  · rw [thread_fencedAttempt_other hy, hsig.thread]
  · rw [fencedAttempt, hsig.thread]
    exact mfind_mput_same _ _ _
  · rw [fencedAttempt, restarts_restartAwaited, hsig.thread]
    exact List.mem_append_right _ List.mem_cons_self
  · rw [← hsig.ctr]
    exact ctr_abandons_attemptOver (thGrove_of_mem h.engine h.mem)

/-- The spare is chosen as it would have been before the fence. -/
theorem spareFor_engCleared (h : FencedOne s g e x p) (hsvc : engBit s offGRV_ENG_SVC g e = true) :
    spareFor (engCleared g e s) g = spareFor s g := by
  have hclock : SameClock s (engCleared g e s) := by
    rw [engCleared_eq h]
    exact ((onlySignals_engFenced g e s).sameClock.trans sameClock_fencedAttempt).trans (onlySignals_fenceNoted g _).sameClock
  refine spareFor_fenced h.grove h.engine hsvc
    ((keepsRegs_engFenced g e s).trans ((keepsRegs_engCleared g e s).mono fun _ => .inl)) hclock
    (fun o y e' ho hne hy he' => engBit_engCleared s ho hne hy he') fun y e' hy he' hsame z hz => ?_
  refine (fenceEnds_engCleared h).others z fun hzx => hsame ?_
  exact eng_of_mem h.engine he' h.mem (hzx ▸ hz)

/-- The fence reported. -/
theorem testBit_engCleared (g e : Nat) (s : State) :
    (reg (engCleared g e s) (pa (grvPage g) offIRQ_STS)).toNat.testBit 0 = true := testBit_raiseIrq _ 0 _ (by decide)

/-- The fenced engine's own words, and its Grove's interrupt. -/
structure FenceShows (g e : Nat) (t : State) : Prop where
  fence : engBit t offGRV_ENG_FENCE g e = true
  svc : engBit t offGRV_ENG_SVC g e = false
  loan : engBit t offGRV_ENG_LOAN g e = false
  irq : (reg t (pa (grvPage g) offIRQ_STS)).toNat.testBit 0 = true

theorem fenceShows_engCleared (hg : g < 32) (he : e < 32) (s : State) : FenceShows g e (engCleared g e s) := by
  refine ⟨?_, ?_, ?_, testBit_engCleared g e s⟩ <;> rw [engBit_engCleared s (by decide) (by decide) hg he] <;> simp

theorem FenceShows.spareTaken (hg : g < 32) (he : e < 32) (h : FenceShows g e s) : FenceShows g e (spareTaken g s) :=
  ⟨by rw [engBit_spareTaken s hg he (by decide) (by decide) (by decide)]; exact h.fence,
    by rw [engBit_svc_spareTaken hg he h.fence]; exact h.svc,
    by rw [engBit_spareTaken s hg he (by decide) (by decide) (by decide)]; exact h.loan, testBit_spareTaken hg h.irq⟩

theorem engBit_spareTaken_some {f : Nat} (h : spareFor s g = some f) :
    engBit (spareTaken g s) offGRV_ENG_SVC (f / 32) (f % 32) = true := by
  rw [spareTaken, h]
  exact (engBit_setEngBit _ _ (by decide) (by decide) (Nat.mod_lt _ (by decide))).trans (if_pos ⟨rfl, rfl, rfl⟩)

theorem testBit_spareTaken_none (h : spareFor s g = none) :
    (reg (spareTaken g s) (pa (grvPage g) offIRQ_STS)).toNat.testBit 1 = true := by
  rw [spareTaken, h]
  exact testBit_raiseIrq _ 1 _ (by decide)

theorem fenceEngine_shows (h : FencedOne s g e x p) (hopen : engBit s offGRV_ENG_FENCE g e = false) :
    FenceEnds s g e x p (fenceEngine g e causeFence false s) ∧ FenceShows g e (fenceEngine g e causeFence false s) ∧
      (engBit s offGRV_ENG_SVC g e = true → liveB s (pa (grvPage g) offGRV_CFG) fGRV_CFG_AUTO_SPARE = true →
        (∀ f, spareFor s g = some f →
          engBit (fenceEngine g e causeFence false s) offGRV_ENG_SVC (f / 32) (f % 32) = true) ∧
        (spareFor s g = none →
          (reg (fenceEngine g e causeFence false s) (pa (grvPage g) offIRQ_STS)).toNat.testBit 1 = true)) := by
  have hends := fenceEnds_engCleared h
  have hshows := fenceShows_engCleared h.grove h.engine s
  rw [fenceEngine_eq hopen]
  split_ifs with hspare
  · rw [Bool.and_eq_true] at hspare
    have hchosen := spareFor_engCleared h hspare.1
    exact ⟨hends.signals (onlySignals_spareTaken g _), hshows.spareTaken h.grove h.engine, fun _ _ =>
      ⟨fun f hf => engBit_spareTaken_some (hchosen.trans hf), fun hnone => testBit_spareTaken_none (hchosen.trans hnone)⟩⟩
  · exact ⟨hends, hshows, fun hsvc hauto => absurd (by rw [hsvc, hauto]; rfl) hspare⟩

end

/-- Settles O17: a bit of GRV_ENG_SVC or GRV_ENG_FENCE acts on its own engine, a fence clears the engine's threads and leaves the choice
of the spare, and a thread cleared is free. -/
theorem engineServiceFencesAndDrain : Obligations.EngineServiceFencesAndDrain := by
  intro s req g v hs hg
  refine ⟨gives_inService hs hg, gives_fenced hs hg, fun e x k p he hacc hopen hv hx hfree hbusy hk hp hhead hleft => ?_,
    fun t0 hat hquiesce hdue => gives_drainTimeout hs hg hat hquiesce hdue⟩
  subst hk
  obtain ⟨hends, hshows, hspare⟩ := fenceEngine_shows ⟨hg, he, hx, hfree, hbusy, hp, hhead, hleft⟩ hopen
  have hwrite := (reqWrite_engFence hg hacc).trans (fenceBits_one hg he hopen hv)
  refine gives_act hs (exec_fenced req g v s) ?_
  rw [hwrite]
  exact ⟨hends.free, hends.pass, hends.waits, hends.counted, hshows.fence, hshows.svc, hshows.loan, hshows.irq, hspare⟩

end Sys2Proof.Machine
end

section
/-!
PROOFS. Held fragments released (R113) while another pass commits: its thread and its record stay.
-/

namespace Sys2Proof.Machine
open Sys2Proof

/-- Thread t and the record of pass k stay, and no other pass comes to hold another thread than before. -/
structure Spares (t k : Nat) (s u : State) : Prop where
  thread : thread u t = thread s t
  pass : pass? u k = pass? s k
  tids : ∀ j q, j ≠ k → pass? u j = some q → q.tid = noThread ∨ ∃ p, pass? s j = some p ∧ p.tid = q.tid

/-- Pass j is another one than k, and holds another thread than t. -/
def Elsewhere (t k j : Nat) (s : State) : Prop := j ≠ k ∧ ∀ q, pass? s j = some q → q.tid ≠ t

section
variable {t k j : Nat} {s u w : State}

theorem spares_refl (t k : Nat) (s : State) : Spares t k s s := ⟨rfl, rfl, fun _ q _ h => .inr ⟨q, h, rfl⟩⟩

theorem Spares.trans (h : Spares t k s u) (h' : Spares t k u w) : Spares t k s w := by
  refine ⟨h'.thread.trans h.thread, h'.pass.trans h.pass, fun j q hj hq => ?_⟩
  obtain hnone | ⟨p, hp, hpq⟩ := h'.tids j q hj hq
  · exact .inl hnone
  · rw [← hpq]
    exact h.tids j p hj hp

theorem Elsewhere.keep (h : Elsewhere t k j s) (ht : t < 4096) (hu : Spares t k s u) : Elsewhere t k j u := by
  obtain ⟨hj, htid⟩ := h
  refine ⟨hj, fun q hq => ?_⟩
  obtain hnone | ⟨p, hp, hpq⟩ := hu.tids j q hj hq
  · rw [hnone]
    exact Nat.ne_of_gt ht
  · rw [← hpq]
    exact htid p hp

/-- Threads and records as they were. -/
theorem spares_of_same (hgrv : u.grv = s.grv) (hpasses : u.disp.passes = s.disp.passes) : Spares t k s u := by
  have hpass (i : Nat) : pass? u i = pass? s i := by rw [pass?, hpasses, pass?]
  exact ⟨thread_of_grv hgrv t, hpass k, fun i q _ hq => .inr ⟨q, (hpass i).symm.trans hq, rfl⟩⟩

theorem spares_count (page off : Nat) (s : State) : Spares t k s (count page off s) := spares_of_same rfl rfl

theorem spares_pgu (x : PguSt) (s : State) : Spares t k s { s with pgu := x } := spares_of_same rfl rfl

theorem OnlyCopies.spares (h : OnlyCopies s u) : Spares t k s u := spares_of_same h.parts.grv (by rw [h.disp])

/-- Threads as they were, and of the records one alone changed, its thread as before or none. -/
theorem spares_of_pass (hj : j ≠ k) (hgrv : u.grv = s.grv) (hother : ∀ i, i ≠ j → pass? u i = pass? s i)
    (hown : ∀ q, pass? u j = some q → q.tid = noThread ∨ ∃ p, pass? s j = some p ∧ p.tid = q.tid) : Spares t k s u := by
  refine ⟨thread_of_grv hgrv t, hother k hj.symm, fun i q _ hq => ?_⟩
  by_cases hij : i = j
  · subst hij
    exact hown q hq
  · exact .inr ⟨q, (hother i hij).symm.trans hq, rfl⟩

theorem spares_setPass (hj : j ≠ k) {p q : Pass} (hp : pass? s j = some p) (hq : q.tid = noThread ∨ q.tid = p.tid) :
    Spares t k s (setPass j q s) := by
  refine spares_of_pass hj rfl (fun i hi => pass_setPass_other s j i q hi) fun r hr => ?_
  obtain rfl : q = r := Option.some.inj ((mfind_mput_same _ _ _).symm.trans hr)
  exact hq.imp_right fun h => ⟨p, hp, h.symm⟩

theorem spares_updPass (hj : j ≠ k) {f : Pass → Pass} (hf : ∀ p, (f p).tid = noThread ∨ (f p).tid = p.tid) (s : State) :
    Spares t k s (updPass j f s) := by
  unfold updPass
  split
  · exact spares_refl t k s
  · next p hp => exact spares_setPass hj hp (hf p)

theorem spares_freeThread {x : Nat} (hx : x ≠ t) (s : State) : Spares t k s (freeThread x s) := by
  have hpasses : (freeThread x s).disp = s.disp := by
    unfold freeThread
    split_ifs <;> rfl
  refine ⟨?_, by rw [pass?, hpasses, pass?], fun j q _ hq => .inr ⟨q, by rwa [pass?, hpasses] at hq, rfl⟩⟩
  exact (thread_freeThread x t s).resolve_right fun h => hx h.1.symm

/-! ### The end of a pass -/

theorem passes_leaveOrder (j : Nat) (s : State) : (leaveOrder j s).disp.passes = s.disp.passes := by
  unfold leaveOrder
  split <;> rfl

theorem spares_leaveOrder (j : Nat) (s : State) : Spares t k s (leaveOrder j s) :=
  spares_of_same (onlyPasses_leaveOrder j s).grv_eq (passes_leaveOrder j s)

theorem spares_leaveFlight (hj : j ≠ k) (s : State) : Spares t k s (leaveFlight j s) := by
  unfold leaveFlight
  split
  · exact spares_refl t k s
  · next p hp =>
    split_ifs
    · exact (spares_setPass hj (q := { p with inflight := false }) hp (.inr rfl)).trans (spares_of_same rfl rfl)
    · exact spares_refl t k s

theorem onlyCopies_cutReception (j : Nat) (s : State) : OnlyCopies s (cutReception j s) := (onlyPortsClr_cutReception j s).copies

/-- A state without the record of a pass. -/
def passForgotten (j : Nat) (s : State) : State :=
  { s with
    disp := { s.disp with
      passes := mdel s.disp.passes j
      age := mdel s.disp.age j
      restarts := s.disp.restarts.filter (fun x => x != j)
      excQ := s.disp.excQ.filter (fun x => x != j) }
    pgu := { s.pgu with held := s.pgu.held.filter (fun x => x != j) } }

theorem spares_passForgotten (hj : j ≠ k) (s : State) : Spares t k s (passForgotten j s) := by
  refine spares_of_pass hj rfl (fun i hi => mfind_mdel_other _ _ _ hi) fun q hq => ?_
  have hnone : some q = none := hq.symm.trans (mfind_mdel_same _ _)
  exact absurd hnone (by simp)

theorem spares_endPass (hj : j ≠ k) (s : State) : Spares t k s (endPass j s) := by
  unfold endPass
  split
  · exact spares_refl t k s
  · next p hp =>
    have hleft : Spares t k s (dropRefs (passCells p) (leaveFlight j (leaveOrder j (cutReception j s)))) :=
      (((onlyCopies_cutReception j s).spares.trans (spares_leaveOrder j _)).trans (spares_leaveFlight hj _)).trans
        (onlyCopies_dropRefs _ _).spares
    refine hleft.trans (Spares.trans ?_ (spares_passForgotten hj _))
    split_ifs
    · exact spares_of_same rfl rfl
    · exact spares_refl t k _

/-! ### Outcomes of a walk -/

theorem spares_readyPass (hj : j ≠ k) (s : State) : Spares t k s (readyPass j s) := by
  unfold readyPass
  split
  · exact spares_refl t k s
  · next p hp =>
    dsimp only
    split_ifs
    · exact (spares_setPass hj (q := { p with phase := .restart }) hp (.inr rfl)).trans (spares_of_same rfl rfl)
    · exact spares_setPass hj hp (.inr rfl)

theorem spares_toException (hj : j ≠ k) (reason : Nat) (exc : Bytes) (s : State) : Spares t k s (toException j reason exc s) := by
  unfold toException
  split
  · exact spares_refl t k s
  · next p _ =>
    split_ifs
    · exact (spares_endPass hj s).trans (spares_of_same rfl rfl)
    · split
      · next got v g hreq =>
        have hrefused := (OnlyCopies.ofCellsReq hreq).trans
          ((onlyCopies_dropRefs got v).trans (onlyCopies_countRefusal g p.rxPort (frameLenOf j p) _))
        exact hrefused.spares.trans (spares_endPass hj _)
      · next got v hreq =>
        have hhead := onlyCells_writeChain got (headerBytes p 0 0 0 (0, 0) ++ p.head) v
        have hwritten := ((OnlyCopies.ofCellsReq hreq).trans hhead.copies).trans
          (onlyPortsClr_fcUpdate p.rxPort _).copies
        have hleft := (hwritten.spares (t := t) (k := k)).trans ((spares_leaveOrder j _).trans (spares_leaveFlight hj _))
        exact (hleft.trans (spares_updPass hj (fun _ => .inl rfl) _)).trans (spares_of_same rfl rfl)

theorem spares_parseOutcome (h : Elsewhere t k j s) : Spares t k s (parseOutcome j s) := by
  obtain ⟨hj, htid⟩ := h
  unfold parseOutcome
  split
  · exact spares_refl t k s
  · next p hp =>
    have hfreed : Spares t k s (freeThread p.tid s) := spares_freeThread (htid p hp) s
    dsimp only
    split
    · exact spares_readyPass hj s
    · exact (spares_setPass hj (q := putPrv 2 _ p) hp (.inr rfl)).trans (spares_readyPass hj _)
    · exact hfreed.trans (spares_endPass hj _)
    · exact hfreed.trans (spares_toException hj _ _ _)

/-! ### Fragments released (R113) -/

theorem spares_orphan (ht : t < 4096) (reason : Nat) (h : Elsewhere t k j s) : Spares t k s (orphan reason j s) := by
  have hput : Spares t k s (updPass j (putStatus 4 reason) (count pgPgu cPgu_ORPHAN s)) :=
    (spares_count _ _ s).trans (spares_updPass h.1 (f := putStatus 4 reason) (fun _ => .inr rfl) _)
  exact hput.trans (spares_parseOutcome (h.keep ht hput))

theorem spares_applyRecord (ht : t < 4096) (e : Nat) (h : Elsewhere t k j s) : Spares t k s (applyRecord e j s) := by
  unfold applyRecord
  have hput := (spares_count (t := t) (k := k) pgPgu cPgu_FRAG_LATER s).trans (spares_updPass h.1
    (f := fun p => putPrv 2 (leBytes 1 (liveF s (pa pgPgu offPGU_CFG) fPGU_CFG_LATER_PROFILE)) (putPrv 40 (leBytes 16 (e / 2 ^ 384))
      (putPrv 5 [BitVec.ofNat 8 (natSetBit (byteAt p.prv 5).toNat 2 true)] p))) (fun _ => .inr rfl) _)
  exact hput.trans (spares_parseOutcome (h.keep ht hput))

theorem spares_unhold (hj : j ≠ k) (s : State) : Spares t k s (unhold j s) :=
  (spares_pgu _ s).trans (spares_updPass hj (f := fun (p : Pass) => { p with fragWait := none }) (fun _ => .inr rfl) _)

theorem spares_releaseHeld (ht : t < 4096) (i : Nat) {f : Nat → State → State}
    (hf : ∀ j s, Elsewhere t k j s → Spares t k s (f j s)) (h : ∀ j ∈ s.pgu.held, Elsewhere t k j s) :
    Spares t k s (releaseHeld i f s) := by
  have hlist (l : List Nat) : ∀ v, (∀ j ∈ l, Elsewhere t k j v) → Spares t k v
      (forAll (fun j s => if holdOver s j then orphan 0x43 j (unhold j s) else f j (unhold j s)) l v) := by
    induction l with
    | nil => exact fun v _ => spares_refl t k v
    | cons j l ih =>
      intro v hv
      have hj := hv j List.mem_cons_self
      have hout : Spares t k v (unhold j v) := spares_unhold hj.1 v
      have hstep : Spares t k v (if holdOver v j then orphan 0x43 j (unhold j v) else f j (unhold j v)) := by
        split_ifs
        · exact hout.trans (spares_orphan ht _ (hj.keep ht hout))
        · exact hout.trans (hf j _ (hj.keep ht hout))
      exact hstep.trans (ih _ fun i hi => (hv i (List.mem_cons_of_mem _ hi)).keep ht hstep)
  exact hlist _ s fun j hj => h j (List.mem_filter.mp hj).1

theorem spares_fragDone (ht : t < 4096) (p : Pass) (dispo w30 w31 : Nat) (h : ∀ j ∈ s.pgu.held, Elsewhere t k j s) :
    Spares t k s (fragDone p dispo w30 w31 s) := by
  unfold fragDone
  split
  · exact spares_refl t k s
  · next i e _ =>
    have hset (v : Nat) : Spares t k s (setFrag i (some v) s) := spares_of_same rfl rfl
    exact (hset _).trans (spares_releaseHeld ht i (fun _ _ => spares_applyRecord ht _) fun j hj => (h j hj).keep ht (hset _))

end
end Sys2Proof.Machine
end

section
/-!
PROOFS. COMMIT_ACCEPT (R180, R215, R222, R223): the updates of an accepted commit, its mirror copies, and its packet, which goes to the
reorder stage or is dropped.
-/

namespace Sys2Proof.Machine
open Sys2Proof

/-! ### The updates take effect (R215, R222, R223) -/

/-- Only counter pairs changed. -/
def OnlyPairs (s t : State) : Prop := t = { s with store := { s.store with pairs := t.store.pairs } }

/-- Only contexts changed. -/
def OnlyContexts (s t : State) : Prop := t = { s with ctx := { s.ctx with ctx := t.ctx.ctx } }

/-- The counter updates of a commit. -/
def pairsCounted (l : List (Nat × Nat)) (s : State) : State := forAll (fun (c : Nat × Nat) s => pairAdd c.1 1 c.2 s) l s

/-- The counter updates and context writes of a commit none of which is lost. -/
def updatesDone (st : Staged) (s : State) : State := applyCtx st.ctxs (pairsCounted st.cnts s)

/-- What an accepted commit first does: it enters the crossings, its thread hands off, and the pass is counted. -/
def commitNoted (t : Nat) (s : State) : State :=
  let st := (thread s t).staged
  count (grvPage (thGrove t)) cGrv_PASSES (handOff t (noteCommit (thGrove t) (headCellsFor st.copy.length)
    (st.cnts.length + st.pols.length + st.ctxs.length) st.notices.length s))

/-- The state in which the packet of an accepted commit goes on. -/
def commitTaken (t : Nat) (s : State) : State :=
  releaseLocks (thread s t).pass (updatesDone (thread s t).staged (commitNoted t s))

section
variable {s u : State} {t k : Nat} {p : Pass}

theorem keepUpdates_nil {α : Type} (l : List α) (n : Nat) : keepUpdates l n [] = l := by
  unfold keepUpdates
  rw [List.filter_eq_self.mpr (by simp)]
  exact List.ext_getElem (by simp) (by simp)

theorem onlyPairs_set (m : NMap Nat) (s : State) : OnlyPairs s { s with store := { s.store with pairs := m } } := rfl

theorem onlyPairs_pairAdd (i n m : Nat) (s : State) : OnlyPairs s (pairAdd i n m s) := by
  unfold pairAdd setPair
  exact onlyPairs_set _ s

theorem onlyPairs_pairsCounted (l : List (Nat × Nat)) (s : State) : OnlyPairs s (pairsCounted l s) :=
  forAll_rel (f := fun (c : Nat × Nat) s => pairAdd c.1 1 c.2 s) (R := OnlyPairs) (fun _ => rfl)
    (fun _ _ _ h h' => Eq.trans h' (by rw [h])) (fun c s => onlyPairs_pairAdd c.1 1 c.2 s) l s

theorem onlyContexts_set (i v : Nat) (s : State) : OnlyContexts s (setContext i v s) := rfl

theorem onlyContexts_applyCtx (l : List CtxOp) (s : State) : OnlyContexts s (applyCtx l s) :=
  forAll_rel (R := OnlyContexts) (fun _ => rfl) (fun _ _ _ h h' => Eq.trans h' (by rw [h])) (fun _ _ => onlyContexts_set _ _ _) l s

/-- A pair counted adds to both its counts, which saturate. -/
theorem pair_pairAdd (i n m j : Nat) (s : State) : pair (pairAdd i n m s) j =
    if j = i then (Nat.min maxCtr ((pair s i).1 + n), Nat.min maxCtr ((pair s i).2 + m)) else pair s j := by
  have hmax : Nat.min maxCtr ((pair s i).1 + n) < 2 ^ 64 := lt_of_le_of_lt (Nat.min_le_left _ _) (by decide)
  generalize ha : Nat.min maxCtr ((pair s i).1 + n) = a at hmax
  have hread : pair (pairAdd i n m s) j = if j = i then
      ((a + Nat.min maxCtr ((pair s i).2 + m) * 2 ^ 64) % 2 ^ 64, (a + Nat.min maxCtr ((pair s i).2 + m) * 2 ^ 64) / 2 ^ 64)
      else pair s j := by
    unfold pairAdd setPair pair
    dsimp only
    rw [mget_mset]
    unfold pair at ha
    dsimp only at ha
    rw [ha]
    split_ifs <;> rfl
  rw [hread]
  split_ifs
  · rw [Nat.add_mul_mod_self_right, Nat.mod_eq_of_lt hmax, Nat.add_mul_div_right _ _ (by positivity), Nat.div_eq_of_lt hmax, zero_add]
  · rfl

/-! ### What the updates leave -/

theorem OnlyPairs.thread (h : OnlyPairs s u) (x : Nat) : thread u x = thread s x := by rw [h]; rfl
theorem OnlyContexts.thread (h : OnlyContexts s u) (x : Nat) : thread u x = thread s x := by rw [h]; rfl
theorem OnlyPairs.ctr (h : OnlyPairs s u) (a : Nat) : ctr u a = ctr s a := by rw [h]; rfl
theorem OnlyContexts.ctr (h : OnlyContexts s u) (a : Nat) : ctr u a = ctr s a := by rw [h]; rfl
theorem OnlyPairs.live (h : OnlyPairs s u) (a : Nat) : live u a = live s a := by rw [h]; rfl
theorem OnlyContexts.live (h : OnlyContexts s u) (a : Nat) : live u a = live s a := by rw [h]; rfl
theorem OnlyPairs.ctx (h : OnlyPairs s u) : u.ctx = s.ctx := by rw [h]
theorem OnlyContexts.store (h : OnlyContexts s u) : u.store = s.store := by rw [h]
theorem OnlyPairs.pol (h : OnlyPairs s u) : u.store.pol = s.store.pol := by rw [h]
theorem OnlyPairs.kept (h : OnlyPairs s u) :
    u.disp = s.disp ∧ u.pgu = s.pgu ∧ u.grv = s.grv ∧ u.pending = s.pending ∧ u.pin = s.pin := by
  rw [h]
  exact ⟨rfl, rfl, rfl, rfl, rfl⟩
theorem OnlyContexts.kept (h : OnlyContexts s u) :
    u.disp = s.disp ∧ u.pgu = s.pgu ∧ u.grv = s.grv ∧ u.pending = s.pending ∧ u.pin = s.pin := by
  rw [h]
  exact ⟨rfl, rfl, rfl, rfl, rfl⟩

theorem kept_updatesDone (st : Staged) (s : State) :
    (updatesDone st s).disp = s.disp ∧ (updatesDone st s).pgu = s.pgu ∧ (updatesDone st s).grv = s.grv ∧
      (updatesDone st s).pending = s.pending ∧ (updatesDone st s).pin = s.pin := by
  obtain ⟨h1, h2, h3, h4, h5⟩ := (onlyPairs_pairsCounted st.cnts s).kept
  obtain ⟨g1, g2, g3, g4, g5⟩ := (onlyContexts_applyCtx st.ctxs (pairsCounted st.cnts s)).kept
  exact ⟨g1.trans h1, g2.trans h2, g3.trans h3, g4.trans h4, g5.trans h5⟩

theorem ctr_updatesDone (st : Staged) (s : State) (a : Nat) : ctr (updatesDone st s) a = ctr s a :=
  ((onlyContexts_applyCtx _ _).ctr a).trans ((onlyPairs_pairsCounted _ _).ctr a)

theorem live_updatesDone (st : Staged) (s : State) (a : Nat) : live (updatesDone st s) a = live s a :=
  ((onlyContexts_applyCtx _ _).live a).trans ((onlyPairs_pairsCounted _ _).live a)

theorem pol_updatesDone (st : Staged) (s : State) : (updatesDone st s).store.pol = s.store.pol := by
  rw [updatesDone, (onlyContexts_applyCtx _ _).store, (onlyPairs_pairsCounted _ _).pol]

theorem pair_of_pairs (h : u.store.pairs = s.store.pairs) (i : Nat) : pair u i = pair s i := by rw [pair, h, pair]
theorem policer_of_pol (h : u.store.pol = s.store.pol) (i : Nat) : policer u i = policer s i := by rw [policer, h, policer]
theorem context_of_ctx (h : u.ctx.ctx = s.ctx.ctx) (i : Nat) : context u i = context s i := by rw [context, h, context]

theorem pair_updatesDone_one {st : Staged} {i n : Nat} (h : st.cnts = [(i, n)]) (s : State) (j : Nat) :
    pair (updatesDone st s) j =
      if j = i then (Nat.min maxCtr ((pair s i).1 + 1), Nat.min maxCtr ((pair s i).2 + n)) else pair s j := by
  have hpairs : (updatesDone st s).store.pairs = (pairsCounted st.cnts s).store.pairs := by
    rw [updatesDone, (onlyContexts_applyCtx _ _).store]
  rw [pair_of_pairs hpairs, h]
  exact pair_pairAdd i 1 n j s

theorem context_updatesDone_one {st : Staged} {c v : Nat} (h : st.ctxs = [⟨c, some v, 0, 0⟩]) (s : State) (d : Nat) :
    context (updatesDone st s) d = if d = c then v else context s d := by
  have hctx := (onlyPairs_pairsCounted st.cnts s).ctx
  have hone : updatesDone st s = setContext c v (pairsCounted st.cnts s) := by
    rw [updatesDone, h]
    simp [applyCtx, forAll, ctxStaged]
  rw [hone]
  exact (mget_mset _ _ _ _ _).trans (by rw [hctx]; rfl)

/-! ### An accepted commit (R180, R222) -/

theorem thread_handOff (t : Nat) (s : State) : thread (handOff t s) t = { threadReset t with freeAt := now s + 4 } :=
  thread_setThread_same s t { threadReset t with freeAt := now s + 4 }

theorem handoff_handOff (t : Nat) (s : State) : mget (fun _ => 0) (handOff t s).grv.handoff (t / 4) = now s + 4 :=
  mget_mset_same (fun _ => 0) s.grv.handoff (t / 4) (now s + 4)

theorem grv_count (page off : Nat) (s : State) : (count page off s).grv = s.grv := rfl

theorem thread_commitNoted (t : Nat) (s : State) : thread (commitNoted t s) t = { threadReset t with freeAt := now s + 4 } := by
  rw [commitNoted, thread_count, thread_handOff]
  rfl

theorem thread_commitTaken (t : Nat) (s : State) : thread (commitTaken t s) t = { threadReset t with freeAt := now s + 4 } := by
  rw [commitTaken, thread_releaseLocks, thread_of_grv (kept_updatesDone _ _).2.2.1, thread_commitNoted]

theorem handoff_commitTaken (t : Nat) (s : State) : mget (fun _ => 0) (commitTaken t s).grv.handoff (t / 4) = now s + 4 := by
  have hgrv : (commitTaken t s).grv = (commitNoted t s).grv := (kept_updatesDone _ _).2.2.1
  rw [hgrv, commitNoted, grv_count, handoff_handOff]
  rfl

theorem ctr_commitTaken (t : Nat) (s : State) :
    ctr (commitTaken t s) (pa (grvPage (thGrove t)) cGrv_PASSES) =
      Nat.min maxCtr (ctr s (pa (grvPage (thGrove t)) cGrv_PASSES) + 1) := by
  refine (ctr_updatesDone _ _ _).trans ?_
  rw [commitNoted, ctr_count_same]
  rfl

theorem live_commitTaken (t : Nat) (s : State) (a : Nat) : live (commitTaken t s) a = live s a := live_updatesDone _ _ a

theorem disp_commitTaken (t : Nat) (s : State) : (commitTaken t s).disp = s.disp := (kept_updatesDone _ _).1

theorem pgu_commitTaken (t : Nat) (s : State) : (commitTaken t s).pgu = s.pgu := (kept_updatesDone _ _).2.1

theorem pass_commitTaken (t k : Nat) (s : State) : pass? (commitTaken t s) k = pass? s k := by
  rw [pass?, disp_commitTaken, pass?]

theorem sameBoard_commitTaken (t : Nat) (s : State) : SameBoard s (commitTaken t s) :=
  ⟨(kept_updatesDone _ _).2.2.2.1, (kept_updatesDone _ _).2.2.2.2⟩

theorem pol_commitTaken (t : Nat) (s : State) : (commitTaken t s).store.pol = s.store.pol := pol_updatesDone _ _

theorem not_locked_commitTaken (t : Nat) (s : State) : ∀ e ∈ (commitTaken t s).ctx.lock, e.2 ≠ (thread s t).pass := locks_released

end
end Sys2Proof.Machine
end

section
/-!
PROOFS. The packet of an accepted commit (R141, R221, R222, R228, R257, R269): its mirror copies are made, and it enters the reorder stage
with its notices, or is dropped.
-/

namespace Sys2Proof.Machine
open Sys2Proof

section
variable {s u v : State} {t k : Nat} {p : Pass}

/-! ### Mirror copies at a commit (R269) -/

theorem onlyCopies_mirDrop (j : Nat) (s : State) : OnlyCopies s (mirDrop j s) := onlyCopies_count (by decide) _ s

theorem onlyCopies_fcUpdate (p : Nat) (s : State) : OnlyCopies s (fcUpdate p s) := (onlyPortsClr_fcUpdate p s).copies

theorem onlyCopies_mirOwn (k : Nat) (p : Pass) (j : Nat) (res : Bool) (hdr head : Bytes) (s : State) :
    OnlyCopies s (mirOwn k p j res hdr head s) := by
  unfold mirOwn
  dsimp only
  split_ifs
  · exact onlyCopies_mirRefuse _ _ _ _ _ s
  · split
    · next got w g hreq => exact ((OnlyCopies.ofCellsReq hreq).trans (onlyCopies_dropRefs _ _)).trans (onlyCopies_mirDrop _ _)
    · next got w hreq =>
      have hwritten := ((OnlyCopies.ofCellsReq hreq).trans (onlyCells_writeChain got (hdr ++ head) w).copies).trans
        (onlyCopies_fcUpdate p.rxPort _)
      exact ((hwritten.trans (onlyCopies_admitCopy _ _ _ _)).trans (onlyCopies_count (by decide) _ _)).trans
        (onlyCopies_dropRefs _ _)

theorem onlyCopies_mirSample (p : Pass) (j : Nat) {f : State → State} (hf : ∀ s, OnlyCopies s (f s)) (s : State) :
    OnlyCopies s (mirSample p j f s) := by
  have hcounted : OnlyCopies s (mirCount p.epoch j s).2 := onlyCopies_clr _ s
  unfold mirSample
  dsimp only
  split_ifs
  · exact hcounted.trans (hf _)
  · exact hcounted

theorem onlyCopies_rxMirrors (k : Nat) (p : Pass) (dispo : Nat) (res : Bool) (s : State) :
    OnlyCopies s (rxMirrors k p dispo res s) := by
  unfold rxMirrors
  split_ifs
  · exact onlyCopies_refl s
  · refine onlyCopies_forAll (fun j u => ?_) _ s
    unfold rxMirror
    split_ifs
    · exact onlyCopies_mirSample p j (onlyCopies_mirOwn _ _ _ _ _ _) u
    · exact onlyCopies_refl u

theorem onlyCopies_flowMirror (p : Pass) (dispo : Nat) {f : Nat → State → State} (hf : ∀ j s, OnlyCopies s (f j s)) (s : State) :
    OnlyCopies s (flowMirror p dispo f s) := by
  unfold flowMirror
  dsimp only
  split_ifs
  · exact onlyCopies_mirSample p _ (hf _) s
  · exact onlyCopies_refl s

/-! ### The class of the packet's cells (R259) -/

theorem onlyCopies_setCellInfo (c : Nat) (m : CellMeta) (s : State) : OnlyCopies s (setCellInfo c m s) :=
  (onlyCells_setCellInfo c m s).copies

theorem onlyCopies_fcUpdateCells (cs : List Nat) (s : State) : OnlyCopies s (fcUpdateCells cs s) :=
  onlyCopies_forAll onlyCopies_fcUpdate _ s

theorem onlyCopies_setPort (p : Nat) (w : PortSt) (s : State) : OnlyCopies s (setPort p w s) := (onlyPorts_setPort p w s).copies

theorem onlyCopies_passClass (k : Nat) (p : Pass) (c : Nat) (s : State) : OnlyCopies s (passClass k p c s) := by
  have hcells : OnlyCopies s (classCells c (segCells p.segs) s) := onlyCopies_forAll (fun _ _ => onlyCopies_setCellInfo _ _ _) _ s
  refine (hcells.trans (onlyCopies_fcUpdateCells _ _)).trans (onlyCopies_forAll (fun q u => ?_) _ _)
  dsimp only
  split
  · split_ifs
    · exact onlyCopies_setPort _ _ u
    · exact onlyCopies_refl u
  · exact onlyCopies_refl u

/-! ### The reorder stage, or the drop (R15, R222, R228) -/

/-- The packet waits in the reorder stage with what is left to do. -/
def AwaitsRelease (k : Nat) (com : Committed) (u : State) : Prop :=
  ∃ q, pass? u k = some q ∧ q.phase = .reorder ∧ q.com = some com ∧ q.tid = noThread

theorem passOver_svc (x : SvcSt) (s : State) : PassOver s { s with svc := x } :=
  ⟨.of_same rfl rfl rfl, rfl, fun _ => .inl rfl⟩

theorem pass_updPass (f : Pass → Pass) (h : pass? s k = some p) : pass? (updPass k f s) k = some (f p) := by
  rw [updPass_some f h, pass_setPass_same]

/-- What a packet's way out leaves of the threads, and of the state beside it. -/
structure WayOut (s u : State) : Prop where
  ends : PassOver s u
  grv : u.grv = s.grv

theorem WayOut.trans (h : WayOut s u) (h' : WayOut u v) : WayOut s v := ⟨h.ends.trans h'.ends, h'.grv.trans h.grv⟩

theorem OnlyCopies.wayOut (h : OnlyCopies s u) : WayOut s u := ⟨h.passOver, h.parts.grv⟩

theorem OnlyPasses.wayOut (h : OnlyPasses s u) : WayOut s u := ⟨h.passOver, h.grv_eq⟩

theorem wayOut_updPass (k : Nat) (f : Pass → Pass) (s : State) : WayOut s (updPass k f s) :=
  ⟨passOver_updPass k f s, by rw [updPass_eq]⟩

theorem wayOut_count {page off : Nat} (h : PathCounter (pa page off)) (s : State) : WayOut s (count page off s) :=
  ⟨passOver_count h s, rfl⟩

/-- A timer entry's head is outstanding no longer (R321). -/
def timerDone (k : Nat) (s : State) : State :=
  match pass? s k with
  | some p => if p.src = 260 then
      { s with svc := { s.svc with outstanding := nsErase s.svc.outstanding (timerOf p) } } else s
  | none => s

theorem wayOut_timerDone (k : Nat) (s : State) : WayOut s (timerDone k s) := by
  unfold timerDone
  split
  · split_ifs
    · exact ⟨passOver_svc _ s, rfl⟩
    · exact ⟨passOver_refl s, rfl⟩
  · exact ⟨passOver_refl s, rfl⟩

theorem disp_timerDone (k : Nat) (s : State) : (timerDone k s).disp = s.disp := by
  unfold timerDone
  split
  · split_ifs <;> rfl
  · rfl

/-- The record of a packet that enters the reorder stage. -/
def inReorder (com : Committed) (p : Pass) : Pass := { p with phase := .reorder, com := some com, tid := noThread, prev := [] }

theorem toReorder_eq (k : Nat) (com : Committed) (s : State) : toReorder k com s =
    if unordered com.dispo then leaveOrder k (updPass k (inReorder com) (timerDone k s))
    else updPass k (inReorder com) (timerDone k s) := by
  unfold toReorder timerDone
  rfl

theorem wayOut_toReorder (k : Nat) (com : Committed) (s : State) : WayOut s (toReorder k com s) := by
  have hput : WayOut s (updPass k (inReorder com) (timerDone k s)) := (wayOut_timerDone k s).trans (wayOut_updPass _ _ _)
  rw [toReorder_eq]
  split_ifs
  · exact hput.trans (onlyPasses_leaveOrder k _).wayOut
  · exact hput

theorem awaitsRelease_toReorder (com : Committed) (h : pass? s k = some p) : AwaitsRelease k com (toReorder k com s) := by
  have hput : pass? (updPass k (inReorder com) (timerDone k s)) k = some (inReorder com p) :=
    pass_updPass _ (by rw [pass?, disp_timerDone, ← h, pass?])
  rw [toReorder_eq]
  split_ifs
  · exact ⟨_, by rw [pass?, passes_leaveOrder]; exact hput, rfl, rfl, rfl⟩
  · exact ⟨_, hput, rfl, rfl, rfl⟩

theorem pass_leaveFlight (h : pass? s k = some p) : ∃ q, pass? (leaveFlight k s) k = some q := by
  unfold leaveFlight
  rw [h]
  dsimp only
  split_ifs
  · exact ⟨_, mfind_mput_same _ _ _⟩
  · exact ⟨p, h⟩

theorem OnlyCopies.pass (h : OnlyCopies s u) (j : Nat) : pass? u j = pass? s j := by rw [pass?, h.disp, pass?]

/-- A packet dropped with no notice left is gone; one with notices waits to release them. -/
theorem dropCommitted_ends (notices : List Nat) (h : pass? s k = some p) :
    WayOut s (dropCommitted k notices s) ∧
      (notices = [] → pass? (dropCommitted k notices s) k = none) ∧
      (notices ≠ [] → AwaitsRelease k ⟨[], 0, [], 4, 0, notices, false⟩ (dropCommitted k notices s)) := by
  unfold dropCommitted
  rw [h]
  dsimp only
  split_ifs with hnone
  · rw [List.isEmpty_iff] at hnone
    exact ⟨(onlyPasses_endPass k s).wayOut, fun _ => pass_endPass_same k s, fun hsome => absurd hnone hsome⟩
  · rw [List.isEmpty_iff] at hnone
    have hcut := onlyCopies_cutReception k s
    have hgone := (hcut.wayOut.trans (onlyPasses_leaveFlight k _).wayOut).trans (onlyCopies_dropRefs (passCells p) _).wayOut
    obtain ⟨q, hq⟩ := pass_leaveFlight ((hcut.pass k).trans h)
    have hbody := pass_updPass (fun (q : Pass) => { q with segs := [], prev := [] })
      (((onlyCopies_dropRefs (passCells p) (leaveFlight k (cutReception k s))).pass k).trans hq)
    exact ⟨(hgone.trans (wayOut_updPass _ _ _)).trans (wayOut_toReorder _ _ _), fun hnil => absurd hnil hnone, fun _ =>
      awaitsRelease_toReorder _ hbody⟩

end
end Sys2Proof.Machine
end

section
/-!
PROOFS. COMMIT_ACCEPT as a whole (R17, R141, R180, R213, R216, R221 to R223).
-/

namespace Sys2Proof.Machine
open Sys2Proof

/-- The disposition that a commit's packet takes along: marked where a notice is a LEARN notice (R141, R221). -/
def commitDispo (st : Staged) : Nat :=
  if st.notices.any (fun n => n % 16 == 1) then putField st.dispo 42 42 1 else st.dispo

/-- Whether a commit reserves its cells (R256). -/
def commitReserves (p : Pass) (st : Staged) : Bool := entryReserved p || dAction (commitDispo st) == 3

/-- The packet header of a commit (R251). -/
def commitHeader (s : State) (p : Pass) (th : Thread) : Bytes :=
  headerBytes p (netSize p th) (commitDispo th.staged) th.staged.trail (ptpHeader s p th.staged)

/-- The packet of a commit is dropped; its frame's mirror copies take a head chain of their own (R221, R257, R269). -/
def commitDropped (s : State) (p : Pass) (th : Thread) (v : State) : State :=
  let res := commitReserves p th.staged
  dropCommitted th.pass th.staged.notices (flowMirror p (commitDispo th.staged)
    (fun j => mirOwn th.pass p j res (commitHeader s p th) th.staged.copy) (rxMirrors th.pass p (commitDispo th.staged) res v))

/-- What the reorder stage keeps of a commit's packet. -/
def commitStored (p : Pass) (st : Staged) (got : List Nat) : Committed :=
  ⟨got, st.copy.length, p.segs, commitDispo st, got.length + (segCells p.segs).length, st.notices, false⟩

/-- The packet of a commit has its head chain: the head is written, its copies made, and it enters the reorder stage. -/
def commitWritten (s : State) (p : Pass) (th : Thread) (got : List Nat) (v : State) : State :=
  let d := commitDesc th.pass p got th.staged.copy.length p.segs (got.length + (segCells p.segs).length)
  let s8 := dropRefs (p.prev.filter (fun c => !(segCells p.segs).contains c))
    (fcUpdateCells got (writeChain got (commitHeader s p th ++ th.staged.copy) v))
  toReorder th.pass (commitStored p th.staged got) (flowMirror p (commitDispo th.staged)
    (fun j => mirCopy (txMirrors p.epoch (frameLenOf th.pass p)) p.epoch (frameLenOf th.pass p) j d)
    (rxMirrors th.pass p (commitDispo th.staged) (commitReserves p th.staged) s8))

/-- The packet's body has its class, and the fragments held for it are released (R112, R259). -/
def commitClassed (p : Pass) (th : Thread) (v : State) : State :=
  passClass th.pass p (dClass (commitDispo th.staged)) (fragDone p (commitDispo th.staged) (wreg th 30).toNat (wreg th 31).toNat v)

/-- The packet of an accepted commit of thread `th`, as it stood in `s`. -/
def commitPacket (s : State) (p : Pass) (th : Thread) (v : State) : State :=
  let dispo := commitDispo th.staged
  let w := commitClassed p th v
  if redDropped s p dispo then commitDropped s p th (count pgPol cPol_RED_DROPPED w)
  else if dAction dispo = 0 then commitDropped s p th (count dev cAct_NO_ACTION w)
  else if p.bad || dAction dispo = 4 then commitDropped s p th w
  else match cellsReq (32 + p.grove % 32) (commitReserves p th.staged) p.rxPort (dClass dispo)
      (headCellsFor th.staged.copy.length) [] w with
    | (got, x, some g) => commitDropped s p th (countRefusal g p.rxPort (frameLenOf th.pass p) (dropRefs got x))
    | (got, x, none) => commitWritten s p th got x

section
variable {s u v : State} {t : Nat} {p : Pass} {th : Thread}

/-- Bytes of a commit's frame. -/
def commitFrame (p : Pass) (st : Staged) : Nat := st.copy.length + (p.segs.map (fun g => g.len)).sum

/-- Whether the crossings have room for a thread's commit. -/
def commitFits (s : State) (t : Nat) : Bool :=
  let st := (thread s t).staged
  commitRoom s (thGrove t) (headCellsFor st.copy.length) (st.cnts.length + st.pols.length + st.ctxs.length) st.notices.length

/-- A commit that finds no room stalls (R17). -/
theorem commitAccept_stalls (hroom : commitFits s t = false) (x6 : Bool) (x7 x8 : List Nat) : commitAccept t x6 x7 x8 s = s := by
  unfold commitFits at hroom
  unfold commitAccept
  dsimp only at hroom ⊢
  split
  · rfl
  · rw [hroom]
    simp

/-- A frame that is too short is an edit fault (R213). -/
theorem commitAccept_short (hp : passOf s t = some p) (hst : (thread s t).st = .committing) (hsafe : safe s = false)
    (hroom : commitFits s t = true) (hframe : commitFrame p (thread s t).staged < 14) (x6 : Bool) (x7 x8 : List Nat) :
    commitAccept t x6 x7 x8 s = editFault t faultShort s := by
  rw [passOf] at hp
  unfold commitFits at hroom
  unfold commitFrame at hframe
  unfold commitAccept
  dsimp only at hroom ⊢
  rw [hp]
  simp only [hst, hsafe, hroom, ne_eq, not_true_eq_false, decide_false, Bool.not_true, Bool.or_self, Bool.false_eq_true, if_false,
    hframe, if_true]

/-- A commit that is accepted and of which nothing is lost. -/
theorem commitAccept_taken (hp : passOf s t = some p) (hst : (thread s t).st = .committing) (hsafe : safe s = false)
    (hroom : commitFits s t = true) (hframe : 14 ≤ commitFrame p (thread s t).staged) :
    commitAccept t false [] [] s = commitPacket s p (thread s t) (commitTaken t s) := by
  rw [passOf] at hp
  unfold commitFits at hroom
  unfold commitFrame at hframe
  unfold commitAccept
  dsimp only at hroom ⊢
  rw [hp]
  simp only [hst, hsafe, hroom, ne_eq, not_true_eq_false, decide_false, Bool.not_true, Bool.or_self, Bool.false_eq_true, if_false,
    Nat.not_lt.mpr hframe, keepUpdates_nil, applyUpdates, List.filter_nil, List.dedup_nil]
  rfl

/-! ### Where the packet is left -/

/-- A packet dropped: gone, or it waits to release its notices. -/
def LeftDropped (th : Thread) (u : State) : Prop :=
  (th.staged.notices = [] → pass? u th.pass = none) ∧
    (th.staged.notices ≠ [] → AwaitsRelease th.pass ⟨[], 0, [], 4, 0, th.staged.notices, false⟩ u)

/-- A packet stored, which its disposition does not drop. -/
def LeftStored (p : Pass) (th : Thread) (u : State) : Prop :=
  dAction (commitDispo th.staged) ≠ 4 ∧ ∃ got, AwaitsRelease th.pass (commitStored p th.staged got) u

theorem commitDropped_ends {q : Pass} (h : pass? v th.pass = some q) :
    WayOut v (commitDropped s p th v) ∧ LeftDropped th (commitDropped s p th v) := by
  have hmirrors := (onlyCopies_rxMirrors th.pass p (commitDispo th.staged) (commitReserves p th.staged) v).trans
    (onlyCopies_flowMirror p (commitDispo th.staged)
      (fun j => onlyCopies_mirOwn th.pass p j (commitReserves p th.staged) (commitHeader s p th) th.staged.copy) _)
  obtain ⟨hway, hgone, hwaits⟩ := dropCommitted_ends th.staged.notices ((hmirrors.pass th.pass).trans h)
  exact ⟨hmirrors.wayOut.trans hway, hgone, hwaits⟩

theorem commitWritten_ends {q : Pass} {got : List Nat} (h : pass? v th.pass = some q) :
    WayOut v (commitWritten s p th got v) ∧ AwaitsRelease th.pass (commitStored p th.staged got) (commitWritten s p th got v) := by
  have hwritten := ((onlyCells_writeChain got (commitHeader s p th ++ th.staged.copy) v).copies.trans
    (onlyCopies_fcUpdateCells got _)).trans (onlyCopies_dropRefs (p.prev.filter (fun c => !(segCells p.segs).contains c)) _)
  have hmirrors := (hwritten.trans (onlyCopies_rxMirrors th.pass p (commitDispo th.staged) (commitReserves p th.staged) _)).trans
    (onlyCopies_flowMirror p (commitDispo th.staged) (fun j => onlyCopies_mirCopy (onlyCopies_txMirrorsN p.epoch
      (frameLenOf th.pass p) 1048576) p.epoch (frameLenOf th.pass p) j
        (commitDesc th.pass p got th.staged.copy.length p.segs (got.length + (segCells p.segs).length))) _)
  exact ⟨hmirrors.wayOut.trans (wayOut_toReorder _ _ _), awaitsRelease_toReorder _ ((hmirrors.pass th.pass).trans h)⟩

/-- The packet's way out of its commit. -/
theorem commitPacket_ends {q : Pass} (h : pass? (commitClassed p th v) th.pass = some q) :
    WayOut (commitClassed p th v) (commitPacket s p th v) ∧
      (LeftDropped th (commitPacket s p th v) ∨ LeftStored p th (commitPacket s p th v)) := by
  have hdrop {w : State} (hw : WayOut (commitClassed p th v) w) (hpass : pass? w th.pass = some q) :
      WayOut (commitClassed p th v) (commitDropped s p th w) ∧
        (LeftDropped th (commitDropped s p th w) ∨ LeftStored p th (commitDropped s p th w)) := by
    obtain ⟨hway, hleft⟩ := commitDropped_ends (s := s) (p := p) hpass
    exact ⟨hw.trans hway, .inl hleft⟩
  unfold commitPacket
  dsimp only
  split_ifs with hred hnone hbad
  · exact hdrop (wayOut_count (pathCounter_of_page (by decide)) _) h
  · exact hdrop (wayOut_count (.inr (.inr (.inl (.inr (.inr rfl))))) _) h
  · exact hdrop ⟨passOver_refl _, rfl⟩ h
  · split
    · next got x g hreq =>
      have hrefused := (OnlyCopies.ofCellsReq hreq).trans
        ((onlyCopies_dropRefs got x).trans (onlyCopies_countRefusal g p.rxPort (frameLenOf th.pass p) _))
      exact hdrop hrefused.wayOut ((hrefused.pass _).trans h)
    · next got x hreq =>
      have hgot := OnlyCopies.ofCellsReq hreq
      obtain ⟨hway, hwaits⟩ := commitWritten_ends (s := s) (p := p) (got := got) ((hgot.pass th.pass).trans h)
      simp only [Bool.or_eq_true, decide_eq_true_eq, not_or] at hbad
      exact ⟨hgot.wayOut.trans hway, .inr ⟨hbad.2, got, hwaits⟩⟩

end
end Sys2Proof.Machine
end

section
/-!
PROOFS. What an accepted commit leaves (R141, R180, R215, R216, R221 to R223), read off its two parts: the updates, and the packet's way
out.
-/

namespace Sys2Proof.Machine
open Sys2Proof

section
variable {s u v : State} {t : Nat} {p : Pass} {th : Thread} {st : Staged}

/-! ### The disposition that goes along (R141, R221) -/

theorem dAction_commitDispo (st : Staged) : dAction (commitDispo st) = dAction st.dispo := by
  unfold commitDispo
  split_ifs
  · exact natField_putField_other _ _ _ _ _ _ (by decide) (by decide) (by decide)
  · rfl

theorem commitDispo_none (h : st.notices = []) : commitDispo st = st.dispo := by
  simp [commitDispo, h]

/-- A LEARN notice is marked in bit 42. -/
theorem testBit_commitDispo {n : Nat} (h : st.notices = [n]) :
    (commitDispo st).testBit 42 = (st.dispo.testBit 42 || n % 16 == 1) := by
  have hbit : putField st.dispo 42 42 1 = natSetBit st.dispo 42 true := (natSetBit_eq_putField _ 42 true).symm
  unfold commitDispo
  rw [h, hbit, List.any_cons, List.any_nil, Bool.or_false]
  cases n % 16 == 1 with
  | true => rw [if_pos rfl, testBit_natSetBit_same, Bool.or_true]
  | false => simp

/-! ### The packet, with and without notices -/

/-- A packet without notices is gone, or waits with its disposition. -/
theorem left_without_notices (hleft : LeftDropped th u ∨ LeftStored p th u) (h : th.staged.notices = []) :
    (pass? u th.pass = none ∨ ∃ q c, pass? u th.pass = some q ∧ q.phase = .reorder ∧ q.com = some c ∧
        c.dispo = th.staged.dispo ∧ c.headLen = th.staged.copy.length ∧ q.tid = noThread) ∧
      (dAction th.staged.dispo = 4 → pass? u th.pass = none) := by
  obtain ⟨hgone, -⟩ | ⟨hkeeps, got, q, hq, hphase, hcom, htid⟩ := hleft
  · exact ⟨.inl (hgone h), fun _ => hgone h⟩
  · rw [commitDispo_none h] at hkeeps
    exact ⟨.inr ⟨q, _, hq, hphase, hcom, commitDispo_none h, rfl, htid⟩, fun hdrop => absurd hdrop hkeeps⟩

/-- A packet with a notice waits to release it. -/
theorem left_with_notice {n : Nat} (hleft : LeftDropped th u ∨ LeftStored p th u) (h : th.staged.notices = [n]) :
    ∃ q c, pass? u th.pass = some q ∧ q.phase = .reorder ∧ q.com = some c ∧ c.notices = [n] ∧ q.tid = noThread ∧
      (c.headCells ≠ [] → dAction c.dispo = dAction th.staged.dispo ∧
        c.dispo.testBit 42 = (th.staged.dispo.testBit 42 || n % 16 == 1)) := by
  obtain ⟨-, hwaits⟩ | ⟨-, got, q, hq, hphase, hcom, htid⟩ := hleft
  · obtain ⟨q, hq, hphase, hcom, htid⟩ := hwaits (by rw [h]; simp)
    exact ⟨q, _, hq, hphase, hcom, h, htid, fun hcells => absurd rfl hcells⟩
  · exact ⟨q, _, hq, hphase, hcom, h, htid, fun _ => ⟨dAction_commitDispo _, testBit_commitDispo h⟩⟩

/-! ### The updates stand through the packet's way out -/

/-- The state that an accepted commit leaves. -/
structure CommitLeaves (s : State) (t : Nat) (p : Pass) (u : State) : Prop where
  ends : PassOver (commitTaken t s) u
  thread : Machine.thread u t = Machine.thread (commitTaken t s) t
  left : LeftDropped (Machine.thread s t) u ∨ LeftStored p (Machine.thread s t) u

theorem commitLeaves (ht : t < 4096) (hp : passOf s t = some p)
    (hheld : ∀ k ∈ s.pgu.held, k ≠ (thread s t).pass ∧ ∀ q, pass? s k = some q → q.tid ≠ t) :
    CommitLeaves s t p (commitPacket s p (thread s t) (commitTaken t s)) := by
  have helse : ∀ j ∈ (commitTaken t s).pgu.held, Elsewhere t (thread s t).pass j (commitTaken t s) := by
    intro j hj
    rw [pgu_commitTaken] at hj
    obtain ⟨hne, htid⟩ := hheld j hj
    exact ⟨hne, fun q hq => htid q (by rwa [pass_commitTaken] at hq)⟩
  have hfrag := spares_fragDone ht p (commitDispo (thread s t).staged) (wreg (thread s t) 30).toNat (wreg (thread s t) 31).toNat helse
  have hclass := onlyCopies_passClass (thread s t).pass p (dClass (commitDispo (thread s t).staged)) (fragDone p
    (commitDispo (thread s t).staged) (wreg (thread s t) 30).toNat (wreg (thread s t) 31).toNat (commitTaken t s))
  have hspares : Spares t (thread s t).pass (commitTaken t s) (commitClassed p (thread s t) (commitTaken t s)) :=
    hfrag.trans hclass.spares
  have hover : PassOver (commitTaken t s) (commitClassed p (thread s t) (commitTaken t s)) :=
    (passOver_fragDone _ _ _ _ _).trans hclass.passOver
  have hpass : pass? (commitClassed p (thread s t) (commitTaken t s)) (thread s t).pass = some p := by
    rw [hspares.pass, pass_commitTaken, ← hp, passOf]
  obtain ⟨hway, hleft⟩ := commitPacket_ends (s := s) hpass
  exact ⟨hover.trans hway.ends, (thread_of_grv hway.grv t).trans hspares.thread, hleft⟩

theorem not_pathCounter_passes (g : Nat) (hg : g < 32) : ¬ PathCounter (pa (grvPage g) cGrv_PASSES) := by
  have hpage := pageOf_grv g (off := cGrv_PASSES) (by decide)
  rintro (h | h | (h | h | h) | ⟨x, h⟩)
  · rw [hpage, grvPage] at h
    omega
  · rw [hpage] at h
    simp only [grvPage, pgPgu] at h
    omega
  · exact absurd (pa_inj _ _ _ _ (by decide) (by decide) h).2 (by decide)
  · exact absurd (pa_inj _ _ _ _ (by decide) (by decide) h).2 (by decide)
  · exact absurd (pa_inj _ _ _ _ (by decide) (by decide) h).2 (by decide)
  · exact absurd (pa_inj _ _ _ _ (by decide) (by decide) h).2 (by decide)

section
variable (h : CommitLeaves s t p u)
include h

theorem CommitLeaves.free : (Machine.thread u t).st = .free := by
  rw [h.thread, thread_commitTaken]
  rfl

theorem CommitLeaves.freeAt : (Machine.thread u t).freeAt = now s + 4 := by rw [h.thread, thread_commitTaken]

theorem CommitLeaves.handoff : mget (fun _ => 0) u.grv.handoff (t / 4) = now s + 4 := by
  rw [h.ends.handoff, handoff_commitTaken]

theorem CommitLeaves.counted (ht : t < 4096) : ctr u (pa (grvPage (thGrove t)) cGrv_PASSES) =
    Nat.min maxCtr (ctr s (pa (grvPage (thGrove t)) cGrv_PASSES) + 1) := by
  rw [h.ends.ctrs _ (not_pathCounter_passes _ (by unfold thGrove; omega)), ctr_commitTaken]

theorem CommitLeaves.unlocked : ∀ e ∈ u.ctx.lock, e.2 ≠ (Machine.thread s t).pass := by
  rw [h.ends.ctx]
  exact not_locked_commitTaken t s

theorem CommitLeaves.contexts {c v : Nat} (hone : (Machine.thread s t).staged.ctxs = [⟨c, some v, 0, 0⟩]) :
    context u c = v ∧ ∀ d, d ≠ c → context u d = context s d := by
  have hread (d : Nat) : context u d = if d = c then v else context s d := by
    rw [context_of_ctx (congrArg CtxSt.ctx h.ends.ctx)]
    exact context_updatesDone_one hone (commitNoted t s) d
  exact ⟨by rw [hread, if_pos rfl], fun d hd => by rw [hread, if_neg hd]⟩

theorem CommitLeaves.pairs {i n : Nat} (hone : (Machine.thread s t).staged.cnts = [(i, n)])
    (hoff : liveB s (pa pgClr offCLR_CFG) fCLR_CFG_CNT_EN = false) :
    pair u i = (Nat.min maxCtr ((pair s i).1 + 1), Nat.min maxCtr ((pair s i).2 + n)) ∧ ∀ j, j ≠ i → pair u j = pair s j := by
  have hread (j : Nat) : pair u j =
      if j = i then (Nat.min maxCtr ((pair s i).1 + 1), Nat.min maxCtr ((pair s i).2 + n)) else pair s j := by
    rw [pair_of_pairs (h.ends.pairs (by rw [liveB, live_commitTaken]; exact hoff))]
    exact pair_updatesDone_one hone (commitNoted t s) j
  exact ⟨by rw [hread, if_pos rfl], fun j hj => by rw [hread, if_neg hj]⟩

theorem CommitLeaves.policers (i : Nat) : policer u i = policer s i :=
  policer_of_pol (h.ends.pol.trans (pol_commitTaken t s)) i

theorem CommitLeaves.board : boardKeeps s u = u := ((sameBoard_commitTaken t s).trans h.ends.sameBoard).boardKeeps

end

theorem exec_commitAccept (t : Nat) (x6 : Bool) (x7 x8 : List Nat) (s : State) :
    exec (.commitAccept t x6 x7 x8) s = act (commitAccept t x6 x7 x8) s := rfl

/-- A frame of less than 14 bytes (R213). -/
theorem gives_commitShort (hs : stopped s = false) (hsafe : safe s = false) (ht : t < 4096) (hp : passOf s t = some p)
    (hst : (thread s t).st = .committing) (hframe : commitFrame p (thread s t).staged < 14) (hroom : commitFits s t = true)
    (x6 : Bool) (x7 x8 : List Nat) :
    Gives (.commitAccept t x6 x7 x8) s (fun u => (thread u t).st = .free ∧
      ctr u (pa dev cAct_EDIT_FAULT) = Nat.min maxCtr (ctr s (pa dev cAct_EDIT_FAULT) + 1)) := by
  have hcounter : ¬ PathCounter (pa dev (causeCounter causeEdit)) :=
    not_pathCounter_dev (by decide) (by decide) (by decide) (by decide)
  refine gives_act_eq hs (exec_commitAccept t x6 x7 x8 s) ((commitAccept_short hp hst hsafe hroom hframe x6 x7 x8).trans
    (abandon_eq (reason := faultShort) hp (by decide))) boardKeeps_attemptGone ⟨free_attemptGone ht, ?_⟩
  exact ctr_cause_attemptGone hcounter (by decide)

end
end Sys2Proof.Machine
end

section
/-!
PROOFS. A packet leaves the reorder stage (R15): its place, its record and its cells are given up; the copies it made stay.
-/

namespace Sys2Proof.Machine
open Sys2Proof

/-! ### What the end of a pass leaves of the copies -/

section
variable {s u v : State} {k : Nat} {p : Pass} {c : Committed}

theorem desc_cutReception (k : Nat) (s : State) : (cutReception k s).clr = s.clr := by
  unfold cutReception
  split_ifs
  · rfl
  · refine forAll_rel (R := fun s t => t.clr = s.clr) (fun _ => rfl) (fun _ _ _ h h' => h'.trans h) (fun q u => ?_) _ s
    dsimp only
    split
    · split_ifs <;> rfl
    · rfl

theorem clr_leaveOrder (k : Nat) (s : State) : (leaveOrder k s).clr = s.clr := by
  unfold leaveOrder
  split <;> rfl

theorem clr_leaveFlight (k : Nat) (s : State) : (leaveFlight k s).clr = s.clr := by
  unfold leaveFlight
  split
  · rfl
  · split_ifs <;> rfl

theorem desc_endPass (k : Nat) (s : State) : (endPass k s).clr.desc = s.clr.desc := by
  unfold endPass
  split
  · rfl
  · next p _ =>
    have hleft : (dropRefs (passCells p) (leaveFlight k (leaveOrder k (cutReception k s)))).clr.desc = s.clr.desc := by
      rw [(keepsCopies_dropRefs _ _).desc, clr_leaveFlight, clr_leaveOrder, desc_cutReception]
    dsimp only
    split_ifs <;> exact hleft

/-! ### Its place in the order of its port (R15) -/

/-- The passes of a source that wait for an earlier one. -/
def orderOf (s : State) (src : Nat) : List Nat := mget (fun _ => []) s.disp.order src

theorem order_leaveOrder (h : pass? s k = some p) :
    orderOf (leaveOrder k s) p.src = (orderOf s p.src).filter (fun x => x != k) := by
  unfold leaveOrder
  rw [h]
  exact mget_mset_same (fun _ => []) s.disp.order p.src _

theorem order_leaveFlight (k : Nat) (s : State) : (leaveFlight k s).disp.order = s.disp.order := by
  unfold leaveFlight
  split
  · rfl
  · split_ifs <;> rfl

theorem OnlyCopies.order (h : OnlyCopies s u) (src : Nat) : orderOf u src = orderOf s src := by rw [orderOf, h.disp, orderOf]

/-- The way out of a pass gives its place free. -/
theorem order_released (h : pass? s k = some p) (l : List Nat) :
    orderOf (dropRefs l (leaveFlight k (leaveOrder k s))) p.src = (orderOf s p.src).filter (fun x => x != k) := by
  rw [(onlyCopies_dropRefs _ _).order, orderOf, order_leaveFlight, ← orderOf, order_leaveOrder h]

theorem order_endPass (h : pass? s k = some p) : orderOf (endPass k s) p.src = (orderOf s p.src).filter (fun x => x != k) := by
  have hcut := onlyCopies_cutReception k s
  have hleft : orderOf (dropRefs (passCells p) (leaveFlight k (leaveOrder k (cutReception k s)))) p.src =
      (orderOf s p.src).filter (fun x => x != k) := by
    rw [order_released ((hcut.pass k).trans h), hcut.order]
  unfold endPass
  rw [h]
  dsimp only
  split_ifs <;> exact hleft

/-! ### The packet is out (R15, R235, R271) -/

/-- A packet whose copy waits at a recirculation port is in flight no longer on its own account (R235). -/
def flightPassed (k : Nat) (c : Committed) (v : State) : State :=
  if staysInFlight v k c.dispo then updPass k (fun (q : Pass) => { q with inflight := false }) v else v

/-- A packet in reception, whose copies go on to fill (R271). -/
def releasedEarly (k : Nat) (p : Pass) (v : State) : State :=
  let w := dropRefs (passCells p) (leaveFlight k (leaveOrder k v))
  { w with disp := { w.disp with passes := mdel w.disp.passes k, age := mdel w.disp.age k } }

/-- The packet gives up its head chain, its place and its record. -/
def packetReleased (k : Nat) (p : Pass) (c : Committed) (v : State) : State :=
  let w := flightPassed k c v
  if !p.complete && w.clr.desc.any (fun e => e.2.rxPass == some k) then releasedEarly k p (dropRefs c.headCells w)
  else endPass k (dropRefs c.headCells w)

theorem flightPassed_facts (h : pass? v k = some p) :
    OnlyPasses v (flightPassed k c v) ∧ (flightPassed k c v).clr = v.clr ∧ orderOf (flightPassed k c v) p.src = orderOf v p.src ∧
      ∃ q, pass? (flightPassed k c v) k = some q ∧ q.src = p.src := by
  unfold flightPassed
  rw [updPass_some _ h]
  split_ifs
  · exact ⟨rfl, rfl, rfl, _, pass_setPass_same _ _ _, rfl⟩
  · exact ⟨rfl, rfl, rfl, p, h, rfl⟩

/-- What a released packet leaves. -/
structure Released (k : Nat) (p : Pass) (v u : State) : Prop where
  passes : OnlyPasses v u
  gone : pass? u k = none
  order : orderOf u p.src = (orderOf v p.src).filter (fun x => x != k)
  desc : u.clr.desc = v.clr.desc

theorem packetReleased_released (c : Committed) (h : pass? v k = some p) : Released k p v (packetReleased k p c v) := by
  obtain ⟨hpasses, hclr, horder, q, hq, hsrc⟩ := flightPassed_facts (c := c) h
  have hhead := onlyPortsClr_dropRefs c.headCells (flightPassed k c v)
  have hq' : pass? (dropRefs c.headCells (flightPassed k c v)) k = some q := (hhead.copies.pass k).trans hq
  have hfirst : OnlyPasses v (dropRefs c.headCells (flightPassed k c v)) :=
    onlyPasses_trans _ _ _ hpasses (onlyPasses_of_onlyPortsClr hhead)
  have hdesc : (dropRefs c.headCells (flightPassed k c v)).clr.desc = v.clr.desc := by
    rw [(keepsCopies_dropRefs _ _).desc, hclr]
  have hplace : orderOf (dropRefs c.headCells (flightPassed k c v)) p.src = orderOf v p.src := (hhead.copies.order _).trans horder
  unfold packetReleased
  dsimp only
  split_ifs
  · have hleft : OnlyPasses (dropRefs c.headCells (flightPassed k c v))
        (dropRefs (passCells p) (leaveFlight k (leaveOrder k (dropRefs c.headCells (flightPassed k c v))))) :=
      onlyPasses_trans _ _ _ (onlyPasses_leaveOrder k _) (onlyPasses_trans _ _ _ (onlyPasses_leaveFlight k _)
        (onlyPasses_of_onlyPortsClr (onlyPortsClr_dropRefs _ _)))
    refine ⟨onlyPasses_trans _ _ _ (onlyPasses_trans _ _ _ hfirst hleft) rfl, mfind_mdel_same _ _, ?_, ?_⟩
    · rw [← hplace, ← hsrc]
      exact order_released hq' _
    · refine Eq.trans ?_ hdesc
      refine (keepsCopies_dropRefs _ _).desc.trans ?_
      rw [clr_leaveFlight, clr_leaveOrder]
  · refine ⟨onlyPasses_trans _ _ _ hfirst (onlyPasses_endPass k _), pass_endPass_same k _, ?_, ?_⟩
    · rw [← hplace, ← hsrc]
      exact order_endPass hq'
    · rw [desc_endPass, hdesc]

/-! ### REORDER_RELEASE (R15, R222) -/

/-- The packet's notices and copies are handed on. -/
def packetHanded (k : Nat) (p : Pass) (c : Committed) (s : State) : State :=
  if p.bad then forAll lqEnter c.notices s else enqueuePass k p c (forAll lqEnter c.notices s)

theorem exec_reorderRelease (k : Nat) (s : State) : exec (.reorderRelease k) s = act (reorderRelease k) s := rfl

/-- A packet behind an earlier one stays. -/
theorem reorderRelease_behind (hp : pass? s k = some p) (hphase : p.phase = .reorder) (hcom : p.com = some c)
    (hin : (orderOf s p.src).contains k = true) (hhead : (orderOf s p.src).head? ≠ some k) : reorderRelease k s = s := by
  unfold orderOf at hin hhead
  unfold reorderRelease
  rw [hp]
  dsimp only
  rw [hphase, hcom]
  dsimp only
  rw [hin, bne_iff_ne.mpr hhead]
  rfl

/-- The first packet of its port leaves. -/
theorem reorderRelease_first (hp : pass? s k = some p) (hphase : p.phase = .reorder) (hcom : p.com = some c)
    (hfirst : (orderOf s p.src).contains k = false ∨ (orderOf s p.src).head? = some k) :
    reorderRelease k s = packetReleased k p c (packetHanded k p c s) := by
  have hnot : ((orderOf s p.src).contains k && (orderOf s p.src).head? != some k) = false := by
    obtain h | h := hfirst
    · rw [h]
      rfl
    · rw [h, bne_self_eq_false, Bool.and_false]
  unfold orderOf at hnot
  unfold reorderRelease
  rw [hp]
  dsimp only
  rw [hphase, hcom]
  dsimp only
  rw [hnot]
  rfl

end
end Sys2Proof.Machine
end

section
/-!
PROOFS. The notices of a released packet enter the Learn Queue (R141, R142), and what a release changes beside its copies.
-/

namespace Sys2Proof.Machine
open Sys2Proof

/-- Only register words and counters changed, what an interrupt leaves, and the tables with their Learn Queue. -/
def OnlyLearn (s t : State) : Prop :=
  t = { s with bus := { s.bus with regs := t.bus.regs, ctr := t.bus.ctr }, rw := { s.rw with evtPend := t.rw.evtPend }, host := t.host,
               ic := t.ic, emt := t.emt }

section
variable {s t u v : State} {k n : Nat} {p : Pass} {c : Committed}

theorem onlyLearn_refl (s : State) : OnlyLearn s s := rfl

theorem OnlyLearn.trans (h : OnlyLearn s t) (h' : OnlyLearn t u) : OnlyLearn s u := Eq.trans h' (by rw [h])

theorem OnlyNoted.learn (h : OnlyNoted s t) : OnlyLearn s t := by rw [h]; rfl
theorem OnlyCtr.learn (h : OnlyCtr s t) : OnlyLearn s t := by rw [h]; rfl

theorem onlyLearn_count (page off : Nat) (s : State) : OnlyLearn s (count page off s) := (onlyCtr_count page off s).learn
theorem onlyLearn_raiseIrq (page bit : Nat) (s : State) : OnlyLearn s (raiseIrq page bit s) := (onlyNoted_raiseIrq page bit s).learn
theorem onlyLearn_emt (x : EmtSt) (s : State) : OnlyLearn s { s with emt := x } := rfl
theorem onlyLearn_setReg (a : Nat) (w : Word) (s : State) : OnlyLearn s (setReg a w s) := rfl

theorem onlyLearn_lqPush (n : Nat) (s : State) : OnlyLearn s (lqPush n s) := by
  have htaken := ((onlyLearn_emt { s.emt with lq := s.emt.lq ++ [n] } s).trans (onlyLearn_setReg (pa pgEmt offLQ_TAIL)
    (BitVec.ofNat 32 (((reg s (pa pgEmt offLQ_TAIL)).toNat + 1) % 131072)) _)).trans (onlyLearn_count pgEmt cEmt_LQ_ENQ _)
  unfold lqPush
  dsimp only
  split_ifs
  · exact (onlyLearn_count _ _ s).trans (onlyLearn_raiseIrq _ _ _)
  · exact htaken.trans (onlyLearn_raiseIrq _ _ _)
  · exact htaken

theorem onlyLearn_lqEnter (n : Nat) (s : State) : OnlyLearn s (lqEnter n s) := by
  unfold lqEnter
  split_ifs
  · exact onlyLearn_count _ _ s
  · exact onlyLearn_lqPush n s
  · exact (onlyLearn_lqPush n s).trans (onlyLearn_emt _ _)
  · exact onlyLearn_lqPush n s

theorem onlyLearn_notices (l : List Nat) (s : State) : OnlyLearn s (forAll lqEnter l s) :=
  forAll_rel onlyLearn_refl (fun _ _ _ h h' => h.trans h') onlyLearn_lqEnter l s

theorem OnlyLearn.disp (h : OnlyLearn s t) : t.disp = s.disp := by rw [h]
theorem OnlyLearn.sameBoard (h : OnlyLearn s t) : SameBoard s t := ⟨by rw [h], by rw [h]⟩

/-! ### The Learn Queue (R141, R142) -/

/-- A Learn Queue with a place free takes the notice. -/
theorem lq_lqPush (h : s.emt.lq.length < 65536) : (lqPush n s).emt.lq = s.emt.lq ++ [n] := by
  unfold lqPush
  rw [if_neg (Nat.not_le.mpr h)]
  dsimp only
  split_ifs
  · rw [raiseIrq_emt]
    rfl
  · rfl

theorem lq_lqEnter (h : s.emt.lq.length < 65536) :
    (lqEnter n s).emt.lq = if n % 16 = 1 ∧ filtered s n = true then s.emt.lq else s.emt.lq ++ [n] := by
  unfold lqEnter
  by_cases hlearn : n % 16 = 1
  · by_cases hfilter : filtered s n = true
    · rw [if_pos hlearn, if_pos hfilter, if_pos ⟨hlearn, hfilter⟩]
      rfl
    · rw [if_pos hlearn, if_neg hfilter, if_neg (Nat.not_le.mpr h), if_neg fun hh => hfilter hh.2]
      exact lq_lqPush h
  · rw [if_neg hlearn, if_neg fun hh => hlearn hh.1]
    exact lq_lqPush h

/-! ### A release as a whole -/

theorem disp_packetHanded (k : Nat) (p : Pass) (c : Committed) (s : State) : (packetHanded k p c s).disp = s.disp := by
  have hnotices := (onlyLearn_notices c.notices s).disp
  unfold packetHanded
  split_ifs
  · exact hnotices
  · exact (onlyCopies_enqueuePass k p c _).disp.trans hnotices

theorem emt_packetHanded (k : Nat) (p : Pass) (c : Committed) (s : State) :
    (packetHanded k p c s).emt = (forAll lqEnter c.notices s).emt := by
  unfold packetHanded
  split_ifs
  · rfl
  · exact (onlyCopies_enqueuePass k p c _).emt

theorem sameBoard_packetHanded (k : Nat) (p : Pass) (c : Committed) (s : State) : SameBoard s (packetHanded k p c s) := by
  have hnotices := (onlyLearn_notices c.notices s).sameBoard
  unfold packetHanded
  split_ifs
  · exact hnotices
  · exact hnotices.trans (onlyCopies_enqueuePass k p c _).passOver.sameBoard

theorem OnlyPasses.emt (h : OnlyPasses s t) : t.emt = s.emt := by rw [h]
theorem OnlyPasses.sch (h : OnlyPasses s t) : t.sch = s.sch := by rw [h]

/-- What is known of a first packet's release. -/
theorem gives_released {P : State → Prop} (hs : stopped s = false) (hp : pass? s k = some p) (hphase : p.phase = .reorder)
    (hcom : p.com = some c) (hfirst : (orderOf s p.src).contains k = false ∨ (orderOf s p.src).head? = some k)
    (hP : ∀ u, Released k p (packetHanded k p c s) u → P u) : Gives (.reorderRelease k) s P := by
  have hpass : pass? (packetHanded k p c s) k = some p := by rw [pass?, disp_packetHanded, ← hp, pass?]
  have hreleased := packetReleased_released c hpass
  have hboard : SameBoard (packetHanded k p c s) (packetReleased k p c (packetHanded k p c s)) :=
    ⟨hreleased.passes.pending_eq, hreleased.passes.pin_eq⟩
  exact gives_act_eq hs (exec_reorderRelease k s) (reorderRelease_first hp hphase hcom hfirst)
    ((sameBoard_packetHanded k p c s).trans hboard).boardKeeps (hP _ hreleased)

theorem order_released_handed {u : State} (h : Released k p (packetHanded k p c s) u) :
    orderOf u p.src = (orderOf s p.src).filter (fun x => x != k) := by
  rw [h.order, orderOf, disp_packetHanded, orderOf]

/-- A packet that its disposition drops makes no copy. -/
theorem packetHanded_dropped (hnone : c.notices = []) (hdrop : dAction c.dispo = 4) : packetHanded k p c s = s := by
  unfold packetHanded enqueuePass
  rw [hnone]
  simp only [hdrop, forAll, ite_self]

theorem lq_released {n : Nat} (hone : c.notices = [n]) (hroom : s.emt.lq.length < 65536) {u : State}
    (h : Released k p (packetHanded k p c s) u) :
    u.emt.lq = if n % 16 = 1 ∧ filtered s n = true then s.emt.lq else s.emt.lq ++ [n] := by
  rw [h.passes.emt, emt_packetHanded, hone]
  exact lq_lqEnter hroom

end
end Sys2Proof.Machine
end

section
/-!
PROOFS. Copies admitted (R252, R261, R265): a copy takes a descriptor and goes to the end of its queue, a copy not admitted is counted, and
copies of one packet to ports of their own do not stand in each other's way.
-/

namespace Sys2Proof.Machine
open Sys2Proof

/-- Only ports, the Clearing and the queues changed. -/
def OnlyAdded (s t : State) : Prop := t = { s with ports := t.ports, clr := t.clr, sch := t.sch }

section
variable {s t u : State} {d : Desc}

/-! ### A copy takes its descriptor -/

theorem OnlyPortsClr.added (h : OnlyPortsClr s t) : OnlyAdded s t := by rw [h]; rfl

theorem OnlyAdded.trans (h : OnlyAdded s t) (h' : OnlyAdded t u) : OnlyAdded s u := Eq.trans h' (by rw [h])

theorem onlyAdded_addCopy (d : Desc) (s : State) : OnlyAdded s (addCopy d s).2 := by
  have hdesc (x : ClrSt) : OnlyAdded s { s with clr := x } := rfl
  have hqueue (q : Nat) (l : List Nat) (v : State) : OnlyAdded v (setQueueList q l v) := rfl
  exact ((hdesc _).trans (onlyPortsClr_addRefs (copyCells d) _).added).trans (hqueue _ _ _)

/-- A descriptor written and the cells of its copy held, before the copy is queued. -/
def descTaken (d : Desc) (s : State) : State :=
  forAll addRef (copyCells d) { s with clr := { s.clr with desc := mput s.clr.desc (freshFrom s.clr.desc 0) d } }

theorem addCopy_eq (d : Desc) (s : State) :
    addCopy d s = (freshFrom s.clr.desc 0, setQueueList d.queue (queueList (descTaken d s) d.queue ++ [freshFrom s.clr.desc 0])
      (descTaken d s)) := rfl

theorem desc_addCopy (d : Desc) (s : State) : (addCopy d s).2.clr.desc = mput s.clr.desc (addCopy d s).1 d :=
  (keepsCopies_addRefs (copyCells d) { s with clr := { s.clr with desc := mput s.clr.desc (freshFrom s.clr.desc 0) d } }).desc

theorem OnlyPortsClr.sch (h : OnlyPortsClr s t) : t.sch = s.sch := by rw [h]

theorem sch_descTaken (d : Desc) (s : State) : (descTaken d s).sch = s.sch := (onlyPortsClr_addRefs _ _).sch

theorem queueList_setQueueList (q x : Nat) (l : List Nat) (s : State) :
    queueList (setQueueList q l s) x = if x = q then l else queueList s x := mget_mset _ _ _ _ _

theorem queueList_addCopy (d : Desc) (s : State) (q : Nat) :
    queueList (addCopy d s).2 q = if q = d.queue then queueList s d.queue ++ [(addCopy d s).1] else queueList s q := by
  have hlist (x : Nat) : queueList (descTaken d s) x = queueList s x := by rw [queueList, sch_descTaken, queueList]
  rw [addCopy_eq, queueList_setQueueList, hlist, hlist]

theorem node_addCopy (d : Desc) (s : State) : (addCopy d s).2.sch.node = s.sch.node := by
  have hnode : (descTaken d s).sch.node = s.sch.node := by rw [sch_descTaken]
  exact hnode

/-! ### No mirror session takes a copy of it (R269) -/

theorem OnlyAdded.mirMatch (h : OnlyAdded s t) (epoch j ty p : Nat) : mirMatch t epoch j ty p = mirMatch s epoch j ty p := by
  rw [h]
  rfl

theorem txMirrorsN_none {epoch : Nat} (hnone : ∀ j, j < 16 → mirMatch s epoch j 1 d.port = false) (fl : FrameLen) (n : Nat) :
    txMirrorsN epoch fl n d s = s := by
  cases n with
  | zero => rfl
  | succ n =>
    have hlist (l : List Nat) (hl : ∀ j ∈ l, j < 16) : forAll (fun k s =>
        if mirMatch s epoch k 1 d.port then
          let r := mirCount epoch k s
          if r.1 then mirCopy (fun c s => txMirrorsN epoch fl n c s) epoch fl k d r.2 else r.2
        else s) l s = s := by
      induction l with
      | nil => rfl
      | cons j l ih =>
        rw [forAll, hnone j (hl j List.mem_cons_self)]
        exact ih fun i hi => hl i (List.mem_cons_of_mem _ hi)
    exact hlist _ fun j hj => List.mem_range.mp hj

/-- Where no mirror session takes a copy, a copy admitted is one more descriptor and nothing else. -/
theorem admitCopy_unmirrored {epoch : Nat} (hnone : ∀ j, j < 16 → mirMatch s epoch j 1 d.port = false) (fl : FrameLen) :
    admitCopy epoch fl d s = (addCopy d s).2 := by
  unfold admitCopy txMirrors
  exact txMirrorsN_none (fun j hj => by rw [(onlyAdded_addCopy d s).mirMatch]; exact hnone j hj) fl _

/-! ### Drops counted (R252, R275) -/

/-- A drop counted in a pair leaves copies, queues and counters. -/
theorem dropPair_kept (p k : Nat) (fl : FrameLen) (s : State) :
    (dropPair p k fl s).clr = s.clr ∧ (dropPair p k fl s).sch = s.sch ∧ (dropPair p k fl s).bus = s.bus := by
  unfold dropPair
  dsimp only
  split_ifs
  · have howed := onlyPorts_oweDrop (liveF s (pa pgClr offCLR_CNT_BASE) fCLR_CNT_BASE_BASE + 16 * p + k) fl (pairAdd
      (liveF s (pa pgClr offCLR_CNT_BASE) fCLR_CNT_BASE_BASE + 16 * p + k) 1 fl.n s)
    have hpair := onlyPairs_pairAdd (liveF s (pa pgClr offCLR_CNT_BASE) fCLR_CNT_BASE_BASE + 16 * p + k) 1 fl.n s
    rw [howed]
    dsimp only
    rw [hpair]
    exact ⟨rfl, rfl, rfl⟩
  · exact ⟨rfl, rfl, rfl⟩

theorem clr_dropCounted (page off p k : Nat) (fl : FrameLen) (s : State) : (count page off (dropPair p k fl s)).clr = s.clr :=
  (dropPair_kept p k fl s).1

theorem sch_dropCounted (page off p k : Nat) (fl : FrameLen) (s : State) : (count page off (dropPair p k fl s)).sch = s.sch :=
  (dropPair_kept p k fl s).2.1

theorem ctr_dropCounted (page off p k : Nat) (fl : FrameLen) (s : State) :
    ctr (count page off (dropPair p k fl s)) (pa page off) = Nat.min maxCtr (ctr s (pa page off) + 1) := by
  rw [ctr_count_same, ctr, (dropPair_kept p k fl s).2.2, ctr]

/-! ### One copy (R261) -/

/-- A copy stands in its queue, its descriptor written. -/
def CopyQueued (s : State) (d : Desc) (u : State) : Prop :=
  ∃ id, mfind u.clr.desc id = some d ∧ queueList u d.queue = queueList s d.queue ++ [id]

theorem CopyQueued.keep (h : CopyQueued s d t) (hdesc : u.clr.desc = t.clr.desc) (hsch : u.sch = t.sch) : CopyQueued s d u := by
  obtain ⟨id, hfind, hlist⟩ := h
  exact ⟨id, by rw [hdesc, hfind], by rw [queueList, hsch, ← hlist, queueList]⟩

theorem copyQueued_addCopy (d : Desc) (s : State) : CopyQueued s d (addCopy d s).2 :=
  ⟨(addCopy d s).1, by rw [desc_addCopy, mfind_mput_same], by rw [queueList_addCopy, if_pos rfl]⟩

/-- What becomes of a copy to one port. -/
theorem enqueueUni_outcome {epoch : Nat} (fl : FrameLen) (k : Nat) (hnone : ∀ j, j < 16 → mirMatch s epoch j 1 d.port = false) :
    (admitTest s d.port d.cls k d.cells = .ok → CopyQueued s d (enqueueUni epoch fl k d s)) ∧
    (admitTest s d.port d.cls k d.cells ≠ .ok → (enqueueUni epoch fl k d s).clr.desc = s.clr.desc) ∧
    (admitTest s d.port d.cls k d.cells = .noDesc → ctr (enqueueUni epoch fl k d s) (pa pgClr cClr_DESC_EMPTY) =
      Nat.min maxCtr (ctr s (pa pgClr cClr_DESC_EMPTY) + 1)) ∧
    (admitTest s d.port d.cls k d.cells = .limit ∨ admitTest s d.port d.cls k d.cells = .queue →
      ctr (enqueueUni epoch fl k d s) (pa pgClr cClr_ADMIT_DROP) = Nat.min maxCtr (ctr s (pa pgClr cClr_ADMIT_DROP) + 1)) := by
  have hcopy := copyQueued_addCopy d s
  unfold enqueueUni
  rw [admitCopy_unmirrored hnone]
  cases admitTest s d.port d.cls k d.cells with
  | ok =>
    refine ⟨fun _ => ?_, fun h => absurd rfl h, fun h => by simp at h, fun h => by simp at h⟩
    dsimp only
    split_ifs
    · exact hcopy.keep (by rw [clr_dropCounted]) (sch_dropCounted _ _ _ _ _ _)
    · exact hcopy
  | noDesc =>
    exact ⟨fun h => by simp at h, fun _ => congrArg ClrSt.desc (clr_dropCounted _ _ _ _ _ s), fun _ => ctr_dropCounted _ _ _ _ _ s,
      fun h => by simp at h⟩
  | queue =>
    exact ⟨fun h => by simp at h, fun _ => congrArg ClrSt.desc (clr_dropCounted _ _ _ _ _ s), fun h => by simp at h,
      fun _ => ctr_dropCounted _ _ _ _ _ s⟩
  | limit =>
    exact ⟨fun h => by simp at h, fun _ => congrArg ClrSt.desc (clr_dropCounted _ _ _ _ _ s), fun h => by simp at h,
      fun _ => ctr_dropCounted _ _ _ _ _ s⟩

end
end Sys2Proof.Machine
end

section
/-!
PROOFS. Copies to the members of a multicast group (R261, R265): each that its port admits takes a descriptor of its own, and none changes
what the others find.
-/

namespace Sys2Proof.Machine
open Sys2Proof

/-! ### One more descriptor (R261) -/

theorem length_mput_le {α : Type} (m : NMap α) (k : Nat) (v : α) : (mput m k v).length ≤ m.length + 1 := by
  induction m with
  | nil => simp [mput]
  | cons e m ih =>
    obtain ⟨j, u⟩ := e
    unfold mput
    split_ifs
    · simp
    · simp
    · simpa using ih

/-- An entry written adds its own share to a sum over the map, at most. -/
theorem sum_mput_le {α : Type} (f : Nat × α → Nat) (m : NMap α) (k : Nat) (v : α) :
    ((mput m k v).map f).sum ≤ (m.map f).sum + f (k, v) := by
  induction m with
  | nil => simp [mput]
  | cons e m ih =>
    obtain ⟨j, u⟩ := e
    unfold mput
    split_ifs
    · simp only [List.map_cons, List.sum_cons]
      omega
    · simp only [List.map_cons, List.sum_cons]
      omega
    · simp only [List.map_cons, List.sum_cons]
      omega

section
variable {s t u : State} {d : Desc} {dp cls q n : Nat}

theorem admitTest_ok_iff : admitTest s dp cls q n = .ok ↔
    s.clr.desc.length < 1048576 ∧
      (nQcount (node s (nodeKey 3 dp)) ≤ q || !nEn (node s (nodeKey 0 (globalQueue s dp q)))) = false ∧
      txcC s dp cls + n ≤ limit s dp cls ∧ txc s dp + n ≤ limit s dp 8 ∧
      qcells s (globalQueue s dp q) + n ≤ nTail (node s (nodeKey 0 (globalQueue s dp q))) := by
  unfold admitTest
  dsimp only
  rw [← Nat.not_le]
  split_ifs with hfull hqueue hfits
  · exact ⟨fun h => by simp at h, fun h => absurd hfull h.1⟩
  · exact ⟨fun h => by simp at h, fun h => absurd hqueue (by rw [h.2.1]; decide)⟩
  · simp only [Bool.and_eq_true, decide_eq_true_eq] at hfits
    exact ⟨fun _ => ⟨hfull, by simpa using hqueue, hfits.1.1, hfits.1.2, hfits.2⟩, fun _ => rfl⟩
  · simp only [Bool.and_eq_true, decide_eq_true_eq] at hfits
    exact ⟨fun h => by simp at h, fun h => absurd ⟨⟨h.2.2.1, h.2.2.2.1⟩, h.2.2.2.2⟩ hfits⟩

/-- A state in which a port finds no more than before: its tree and limits the same, its accounts no greater. -/
theorem admitTest_mono (hlive : ∀ a, live t a = live s a) (hnode : t.sch.node = s.sch.node) (hlen : t.clr.desc.length < 1048576)
    (hcls : txcC t dp cls ≤ txcC s dp cls) (hport : txc t dp ≤ txc s dp)
    (hqueue : qcells t (globalQueue s dp q) ≤ qcells s (globalQueue s dp q)) (h : admitTest s dp cls q n = .ok) :
    admitTest t dp cls q n = .ok := by
  have hn (k : Nat) : node t k = node s k := by rw [node, hnode, node]
  have hq : globalQueue t dp q = globalQueue s dp q := by rw [globalQueue, hn, globalQueue]
  have hl (w : Nat) : limit t dp w = limit s dp w := by
    simp only [limit, liveF, hlive]
  rw [admitTest_ok_iff] at h ⊢
  obtain ⟨-, hopen, h1, h2, h3⟩ := h
  rw [hq, hn, hn, hl, hl]
  exact ⟨hlen, hopen, by omega, by omega, by omega⟩

/-- A member's copy admitted and counted. -/
def memberAdded (d : Desc) (s : State) : State := count pgMc cMc_MC_COPIES (addCopy d s).2

theorem desc_memberAdded (d : Desc) (s : State) : (memberAdded d s).clr.desc = mput s.clr.desc (addCopy d s).1 d := desc_addCopy d s

theorem node_memberAdded (d : Desc) (s : State) : (memberAdded d s).sch.node = s.sch.node := node_addCopy d s

theorem OnlyAdded.live (h : OnlyAdded s t) (a : Nat) : live t a = live s a := by rw [h]; rfl
theorem OnlyAdded.ctr (h : OnlyAdded s t) (a : Nat) : ctr t a = ctr s a := by rw [h]; rfl

theorem live_memberAdded (d : Desc) (s : State) (a : Nat) : live (memberAdded d s) a = live s a := (onlyAdded_addCopy d s).live a

theorem mirMatch_memberAdded (d : Desc) (s : State) (epoch j ty p : Nat) :
    mirMatch (memberAdded d s) epoch j ty p = mirMatch s epoch j ty p := (onlyAdded_addCopy d s).mirMatch epoch j ty p

theorem globalQueue_memberAdded (d : Desc) (s : State) (dp q : Nat) : globalQueue (memberAdded d s) dp q = globalQueue s dp q := by
  rw [globalQueue, node, node_memberAdded, globalQueue, node]

/-- A copy at another port and in another queue leaves what a port admits, as long as descriptors are left. -/
theorem admitTest_memberAdded (hport : d.port ≠ dp) (hqueue : d.queue ≠ globalQueue s dp q)
    (hlen : s.clr.desc.length + 1 < 1048576) (h : admitTest s dp cls q n = .ok) : admitTest (memberAdded d s) dp cls q n = .ok := by
  refine admitTest_mono (live_memberAdded d s) (node_memberAdded d s) ?_ ?_ ?_ ?_ h
  · rw [desc_memberAdded]
    exact lt_of_le_of_lt (length_mput_le _ _ _) hlen
  · rw [txcC, desc_memberAdded]
    refine (sum_mput_le _ _ _ _).trans ?_
    simp [hport, txcC]
  · rw [txc, desc_memberAdded]
    refine (sum_mput_le _ _ _ _).trans ?_
    simp [hport, txc]
  · rw [qcells, desc_memberAdded]
    refine (sum_mput_le _ _ _ _).trans ?_
    simp [hqueue, qcells]

theorem enqueueMember_ok {epoch : Nat} (fl : FrameLen) (hnone : ∀ j, j < 16 → mirMatch s epoch j 1 d.port = false)
    (h : admitTest s d.port d.cls q d.cells = .ok) : enqueueMember epoch fl q d s = memberAdded d s := by
  unfold enqueueMember
  rw [h, admitCopy_unmirrored hnone]
  rfl

end

/-! ### The members one after another (R265) -/

/-- The copy to a member of a group. -/
def memberCopy (d0 : Desc) (group q dp : Nat) (s : State) : Desc :=
  { d0 with port := dp, queue := globalQueue s dp q, group := group + 1 }

/-- The copies to the members of a list. -/
def membersEnqueued (epoch : Nat) (fl : FrameLen) (q group : Nat) (d0 : Desc) (l : List Nat) (s : State) : State :=
  forAll (fun dp s => enqueueMember epoch fl q (memberCopy d0 group q dp s) s) l s

/-- Each member's port admits its copy, no mirror session takes one, each goes to a queue of its own, and descriptors are left. -/
structure MembersFit (epoch q : Nat) (d0 : Desc) (l : List Nat) (s : State) : Prop where
  ports : l.Nodup
  queues : (l.map (fun dp => globalQueue s dp q)).Nodup
  admitted : ∀ dp ∈ l, admitTest s dp d0.cls q d0.cells = .ok
  unmirrored : ∀ dp ∈ l, ∀ j, j < 16 → mirMatch s epoch j 1 dp = false
  room : s.clr.desc.length + l.length ≤ 1048576

section
variable {s : State} {d0 : Desc} {epoch q group dp : Nat} {fl : FrameLen} {l : List Nat}

theorem MembersFit.head (h : MembersFit epoch q d0 (dp :: l) s) :
    enqueueMember epoch fl q (memberCopy d0 group q dp s) s = memberAdded (memberCopy d0 group q dp s) s :=
  enqueueMember_ok fl (h.unmirrored dp List.mem_cons_self) (h.admitted dp List.mem_cons_self)

/-- The first member's copy leaves what the others find. -/
theorem MembersFit.tail (h : MembersFit epoch q d0 (dp :: l) s) :
    MembersFit epoch q d0 l (memberAdded (memberCopy d0 group q dp s) s) := by
  obtain ⟨hports, hqueues, hadmit, hmir, hroom⟩ := h
  obtain ⟨hnot, hports'⟩ := List.nodup_cons.mp hports
  rw [List.map_cons, List.nodup_cons] at hqueues
  obtain ⟨hfirst, hqueues'⟩ := hqueues
  rw [List.length_cons] at hroom
  refine ⟨hports', by simpa only [globalQueue_memberAdded] using hqueues', fun x hx => ?_, fun x hx j hj => ?_, ?_⟩
  · have hpos : 0 < l.length := List.length_pos_of_mem hx
    exact admitTest_memberAdded (by rintro rfl; exact hnot hx) (fun h => hfirst (List.mem_map.mpr ⟨x, hx, h.symm⟩)) (by omega)
      (hadmit x (List.mem_cons_of_mem _ hx))
  · rw [mirMatch_memberAdded]
    exact hmir x (List.mem_cons_of_mem _ hx) j hj
  · rw [desc_memberAdded]
    have := length_mput_le s.clr.desc (addCopy (memberCopy d0 group q dp s) s).1 (memberCopy d0 group q dp s)
    omega

theorem membersEnqueued_cons (h : MembersFit epoch q d0 (dp :: l) s) : membersEnqueued epoch fl q group d0 (dp :: l) s =
    membersEnqueued epoch fl q group d0 l (memberAdded (memberCopy d0 group q dp s) s) := by
  rw [membersEnqueued, forAll, h.head]
  rfl

theorem ctr_memberAdded (d : Desc) (s : State) :
    ctr (memberAdded d s) (pa pgMc cMc_MC_COPIES) = Nat.min maxCtr (ctr s (pa pgMc cMc_MC_COPIES) + 1) := by
  rw [memberAdded, ctr_count_same, (onlyAdded_addCopy d s).ctr]

theorem queueList_memberAdded (d : Desc) (s : State) (x : Nat) :
    queueList (memberAdded d s) x = if x = d.queue then queueList s d.queue ++ [(addCopy d s).1] else queueList s x :=
  queueList_addCopy d s x

/-- Each copy is counted (R265). -/
theorem ctr_membersEnqueued (h : MembersFit epoch q d0 l s) (hl : l ≠ []) :
    ctr (membersEnqueued epoch fl q group d0 l s) (pa pgMc cMc_MC_COPIES) =
      Nat.min maxCtr (ctr s (pa pgMc cMc_MC_COPIES) + l.length) := by
  induction l generalizing s with
  | nil => exact absurd rfl hl
  | cons dp l ih =>
    rw [membersEnqueued_cons h]
    have hone := ctr_memberAdded (memberCopy d0 group q dp s) s
    by_cases hl' : l = []
    · subst hl'
      exact hone
    · rw [ih h.tail hl', hone, List.length_cons]
      simp only [Nat.min_def]
      split_ifs <;> omega

/-- Queues that no member's copy goes to stay. -/
theorem queueList_membersEnqueued_other (h : MembersFit epoch q d0 l s) {x : Nat} (hx : ∀ dp ∈ l, x ≠ globalQueue s dp q) :
    queueList (membersEnqueued epoch fl q group d0 l s) x = queueList s x := by
  induction l generalizing s with
  | nil => rfl
  | cons dp l ih =>
    rw [membersEnqueued_cons h, ih h.tail fun y hy => by
      rw [globalQueue_memberAdded]
      exact hx y (List.mem_cons_of_mem _ hy)]
    exact (queueList_memberAdded _ _ _).trans (if_neg (hx dp List.mem_cons_self))

/-- Each member's queue has one copy more. -/
theorem queueList_membersEnqueued (h : MembersFit epoch q d0 l s) : ∀ dp ∈ l, ∃ id,
    queueList (membersEnqueued epoch fl q group d0 l s) (globalQueue s dp q) = queueList s (globalQueue s dp q) ++ [id] := by
  induction l generalizing s with
  | nil => exact fun dp hdp => absurd hdp List.not_mem_nil
  | cons dp l ih =>
    have hqueues := h.queues
    rw [List.map_cons, List.nodup_cons] at hqueues
    obtain ⟨hfirst, -⟩ := hqueues
    intro x hx
    rw [membersEnqueued_cons h]
    obtain rfl | hx := List.mem_cons.mp hx
    · refine ⟨(addCopy (memberCopy d0 group q x s) s).1, ?_⟩
      rw [queueList_membersEnqueued_other h.tail fun y hy heq => ?_, queueList_memberAdded]
      · exact if_pos rfl
      · rw [globalQueue_memberAdded] at heq
        exact hfirst (List.mem_map.mpr ⟨y, hy, heq.symm⟩)
    · have hstill : queueList (memberAdded (memberCopy d0 group q dp s) s) (globalQueue s x q) = queueList s (globalQueue s x q) :=
        (queueList_memberAdded _ _ _).trans (if_neg fun heq => hfirst (List.mem_map.mpr ⟨x, hx, heq⟩))
      obtain ⟨id, hid⟩ := ih (h.tail (group := group)) x hx
      rw [globalQueue_memberAdded, hstill] at hid
      exact ⟨id, hid⟩

end
end Sys2Proof.Machine
end

section
/-!
PROOFS. MC_PACKETS counts packets and no copy of them (R265), and the copies of a released packet as a whole (R252, R261, R265).
-/

namespace Sys2Proof.Machine
open Sys2Proof

/-! ### MC_PACKETS beside the copies -/

/-- MC_PACKETS stays. -/
def SamePackets (s t : State) : Prop := ctr t (pa pgMc cMc_MC_PACKETS) = ctr s (pa pgMc cMc_MC_PACKETS)

/-- A relation that the steps of a list keep, for the elements of that list. -/
theorem forAll_rel_mem {α : Type} {f : α → State → State} {R : State → State → Prop} (hrefl : ∀ s, R s s)
    (htrans : ∀ s t u, R s t → R t u → R s u) (l : List α) (hf : ∀ x ∈ l, ∀ s, R s (f x s)) (s : State) :
    R s (forAll f l s) := by
  induction l generalizing s with
  | nil => exact hrefl s
  | cons x l ih =>
    exact htrans _ _ _ (hf x List.mem_cons_self s) (ih (fun y hy => hf y (List.mem_cons_of_mem _ hy)) _)

section
variable {s t u : State} {d : Desc}

theorem SamePackets.trans (h : SamePackets s t) (h' : SamePackets t u) : SamePackets s u := Eq.trans h' h

theorem samePackets_refl (s : State) : SamePackets s s := rfl

theorem samePackets_of_bus (h : t.bus = s.bus) : SamePackets s t := by rw [SamePackets, ctr, h, ctr]

theorem samePackets_count {page off : Nat} (h : pa page off ≠ pa pgMc cMc_MC_PACKETS) (s : State) : SamePackets s (count page off s) :=
  ctr_count_other _ _ _ s h.symm

theorem samePackets_countMc {off : Nat} (h : off ≠ cMc_MC_PACKETS) (s : State) : SamePackets s (count pgMc off s) :=
  samePackets_count (pa_ne _ _ _ h) s

theorem samePackets_dropPair (p k : Nat) (fl : FrameLen) (s : State) : SamePackets s (dropPair p k fl s) :=
  samePackets_of_bus (dropPair_kept p k fl s).2.2

theorem samePackets_addCopy (d : Desc) (s : State) : SamePackets s (addCopy d s).2 := (onlyAdded_addCopy d s).ctr _

theorem clrCounter_ne {off : Nat} (h : off < 0x1000) : pa pgClr off ≠ pa pgMc cMc_MC_PACKETS := fun heq =>
  absurd (pa_inj _ _ _ _ h (by decide) heq).1 (by decide)

theorem samePackets_countAdmit (p c : Nat) (fl : FrameLen) (s : State) : SamePackets s (countAdmit p c fl s) :=
  (samePackets_dropPair p c fl s).trans (samePackets_count (clrCounter_ne (by decide)) _)

theorem samePackets_mirRefuse (k p c q : Nat) (fl : FrameLen) (s : State) :
    SamePackets s (mirRefuse k p c q fl s) := by
  have hdrop : SamePackets s (mirDrop k s) := samePackets_countMc (by simp only [cMc_MIR_DROPS, cMc_MC_PACKETS]; omega) s
  unfold mirRefuse
  dsimp only
  split_ifs
  · exact hdrop.trans (samePackets_countAdmit _ _ _ _)
  · exact hdrop

theorem samePackets_mirCopy {after : Desc → State → State} (hafter : ∀ d s, SamePackets s (after d s)) (epoch : Nat) (fl : FrameLen)
    {k : Nat} (hk : k < 16) (d : Desc) (s : State) : SamePackets s (mirCopy after epoch fl k d s) := by
  unfold mirCopy
  dsimp only
  split_ifs
  · exact ((samePackets_addCopy _ s).trans (samePackets_countMc (by simp only [cMc_MIR_COPIES, cMc_MC_PACKETS]; omega) _)).trans
      (hafter _ _)
  · exact samePackets_mirRefuse _ _ _ _ _ s

theorem samePackets_txMirrorsN (epoch : Nat) (fl : FrameLen) (n : Nat) (d : Desc) (s : State) :
    SamePackets s (txMirrorsN epoch fl n d s) := by
  induction n generalizing d s with
  | zero => exact samePackets_refl s
  | succ n ih =>
    unfold txMirrorsN
    refine forAll_rel_mem samePackets_refl (fun _ _ _ h h' => h.trans h') _ (fun k hk u => ?_) s
    have hcounted : SamePackets u (mirCount epoch k u).2 := samePackets_of_bus rfl
    dsimp only
    split_ifs
    · exact hcounted.trans (samePackets_mirCopy ih _ _ (List.mem_range.mp hk) _ _)
    · exact hcounted
    · exact samePackets_refl u

theorem samePackets_raiseIrq (page bit : Nat) (s : State) : SamePackets s (raiseIrq page bit s) := by
  have honly := onlyNoted_raiseIrq page bit s
  rw [SamePackets, ctr, ctr, honly]

theorem samePackets_holdCopy (d : Desc) (s : State) : SamePackets s (holdCopy d s) := by
  have hbus (x : ClrSt) (v : State) : SamePackets v { v with clr := x } := samePackets_of_bus rfl
  unfold holdCopy
  exact ((samePackets_addCopy { d with held := true } s).trans (hbus _ _)).trans (samePackets_countMc (by decide) _)

theorem samePackets_countResidueFull (p : Nat) (fl : FrameLen) (s : State) : SamePackets s (countResidueFull p fl s) := by
  have hfull := ((samePackets_dropPair p 11 fl s).trans (samePackets_countMc (by decide : cMc_MC_RESIDUE_FULL ≠ cMc_MC_PACKETS) _)).trans
    (samePackets_raiseIrq pgMc 1 _)
  unfold countResidueFull
  dsimp only
  split_ifs
  · refine hfull.trans (samePackets_count (fun heq => ?_) _)
    have hpage : macPage p = pgMc := (pa_inj _ _ _ _ (by decide) (by decide) heq).1
    simp only [macPage, pgMc] at hpage
    omega
  · exact hfull

theorem samePackets_enqueueMember (epoch : Nat) (fl : FrameLen) (k : Nat) (d : Desc) (s : State) :
    SamePackets s (enqueueMember epoch fl k d s) := by
  unfold enqueueMember
  split
  · exact ((samePackets_addCopy d s).trans (samePackets_txMirrorsN _ _ _ _ _)).trans (samePackets_countMc (by decide) _)
  · exact (samePackets_dropPair _ _ _ s).trans (samePackets_count (clrCounter_ne (by decide)) _)
  · exact samePackets_countAdmit _ _ _ s
  · split_ifs
    · exact samePackets_holdCopy d s
    · exact samePackets_countResidueFull _ _ s

theorem samePackets_membersEnqueued (epoch : Nat) (fl : FrameLen) (q group : Nat) (d0 : Desc) (l : List Nat) (s : State) :
    SamePackets s (membersEnqueued epoch fl q group d0 l s) :=
  forAll_rel (f := fun dp s => enqueueMember epoch fl q (memberCopy d0 group q dp s) s) samePackets_refl
    (fun _ _ _ h h' => h.trans h') (fun _ _ => samePackets_enqueueMember _ _ _ _ _) l s

end

/-! ### The copies of a released packet -/

/-- A copy of a released packet, before its port and queue are chosen. -/
def packetCopy (k : Nat) (p : Pass) (c : Committed) : Desc :=
  { commitDesc k p c.headCells c.headLen p.segs (c.headCells.length + (segCells p.segs).length) with cls := dClass c.dispo }

/-- The copy to one port. -/
def uniCopy (s : State) (k : Nat) (p : Pass) (c : Committed) (dp : Nat) : Desc :=
  { packetCopy k p c with
    port := dp
    queue := globalQueue s dp (dQueue c.dispo)
    ct := dAction c.dispo == 1 && cutThrough s p.src dp }

section
variable {s u v : State} {k dp : Nat} {p : Pass} {c : Committed}

theorem packetHanded_silent (hnone : c.notices = []) (hbad : p.bad = false) : packetHanded k p c s = enqueuePass k p c s := by
  rw [packetHanded, hbad, hnone]
  rfl

theorem enqueuePass_uni (hdest : dAction c.dispo = 3 ∧ dp = 256 ∨ (dAction c.dispo = 1 ∨ dAction c.dispo = 5) ∧ dp = dDest c.dispo)
    (hdp : dp < 260) :
    enqueuePass k p c s = enqueueUni p.epoch (frameLenOf k p) (dQueue c.dispo) (uniCopy s k p c dp) s := by
  have hin : ¬ 259 < dp := by omega
  obtain ⟨hact, rfl⟩ | ⟨hact | hact, rfl⟩ := hdest
  · unfold enqueuePass uniCopy
    rw [hact]
    rfl
  · unfold enqueuePass uniCopy
    rw [hact]
    exact if_neg hin
  · unfold enqueuePass uniCopy
    rw [hact]
    exact if_neg hin

theorem enqueuePass_group (hact : dAction c.dispo = 2) : enqueuePass k p c s =
    replicate p.epoch (frameLenOf k p) (dQueue c.dispo) (dDest c.dispo) p.src (packetCopy k p c) s := by
  unfold enqueuePass
  rw [hact]
  rfl

theorem replicate_invalid {epoch q group entry : Nat} {fl : FrameLen} {d : Desc} (hgood : s.store.mcgBad.contains group = false)
    (h : (mcGroup s group).testBit 261 = false ∨ mcMembers (mcGroup s group) entry = []) :
    replicate epoch fl q group entry d s = count pgMc cMc_MC_INVALID s := by
  have hinvalid : (!(mcGroup s group).testBit 261 || (mcMembers (mcGroup s group) entry).isEmpty) = true := by
    obtain h | h := h
    · rw [h]
      rfl
    · rw [h, Bool.or_eq_true]
      exact .inr rfl
  unfold replicate
  dsimp only
  rw [hgood, hinvalid]
  rfl

theorem replicate_valid {epoch q group entry : Nat} {fl : FrameLen} {d : Desc} (hgood : s.store.mcgBad.contains group = false)
    (hvalid : (mcGroup s group).testBit 261 = true) (hsome : mcMembers (mcGroup s group) entry ≠ []) :
    replicate epoch fl q group entry d s =
      count pgMc cMc_MC_PACKETS (membersEnqueued epoch fl q group d (mcMembers (mcGroup s group) entry) s) := by
  have hempty : (mcMembers (mcGroup s group) entry).isEmpty = false := by
    rw [← Bool.not_eq_true, List.isEmpty_iff]
    exact hsome
  unfold replicate
  dsimp only
  rw [hgood, hvalid, hempty]
  rfl

theorem nodup_mcMembers (g e : Nat) : (mcMembers g e).Nodup := List.nodup_range.filter _

/-! ### What a release shows of them -/

theorem Released.ctr (h : Released k p v u) (a : Nat) : ctr u a = ctr v a := by rw [Machine.ctr, h.passes.bus_eq, Machine.ctr]

theorem Released.queueList (h : Released k p v u) (q : Nat) : queueList u q = queueList v q := by
  rw [Machine.queueList, h.passes.sch, Machine.queueList]

theorem CopyQueued.released {d : Desc} (h : CopyQueued s d v) (hr : Released k p v u) : CopyQueued s d u :=
  h.keep hr.desc hr.passes.sch

theorem CopyQueued.counted {d : Desc} (h : CopyQueued s d v) (page off : Nat) : CopyQueued s d (count page off v) := h.keep rfl rfl

/-- A member's copy, where it is the only one (R265). -/
theorem copyQueued_member {epoch q group : Nat} {fl : FrameLen} {d0 : Desc} (h : MembersFit epoch q d0 [dp] s) :
    CopyQueued s (memberCopy d0 group q dp s) (membersEnqueued epoch fl q group d0 [dp] s) := by
  rw [membersEnqueued_cons h]
  exact (copyQueued_addCopy _ s).counted _ _

end
end Sys2Proof.Machine
end

section
/-!
PROOFS. COMMIT_ACCEPT and REORDER_RELEASE as a whole (R15, R141, R142, R180, R213, R221 to R223, R252, R261, R265).
-/

namespace Sys2Proof.Machine
open Sys2Proof

section
variable {s u : State} {k t : Nat} {p : Pass} {c : Committed}

/-! ### The statement's words for a copy -/

/-- Cells of a copy of a released packet. -/
def packetCells (p : Pass) (c : Committed) : Nat := c.headCells.length + (segCells p.segs).length

/-- A copy of a released packet waits at the end of its queue at a port. -/
def CopyAt (s : State) (k : Nat) (p : Pass) (c : Committed) (dp : Nat) (u : State) : Prop :=
  ∃ id d, mfind u.clr.desc id = some d ∧ d.headCells = c.headCells ∧ d.segs = p.segs ∧ d.cells = packetCells p c ∧ d.port = dp ∧
    d.cls = dClass c.dispo ∧ d.queue = globalQueue s dp (dQueue c.dispo) ∧ d.held = false ∧ d.pkt = k ∧
    queueList u d.queue = queueList s d.queue ++ [id]

theorem copyAt_uni {dp : Nat} (h : CopyQueued s (uniCopy s k p c dp) u) : CopyAt s k p c dp u := by
  obtain ⟨id, hfind, hlist⟩ := h
  exact ⟨id, _, hfind, rfl, rfl, rfl, rfl, rfl, rfl, rfl, rfl, hlist⟩

theorem copyAt_member {dp : Nat} (h : CopyQueued s (memberCopy (packetCopy k p c) (dDest c.dispo) (dQueue c.dispo) dp s) u) :
    CopyAt s k p c dp u := by
  obtain ⟨id, hfind, hlist⟩ := h
  exact ⟨id, _, hfind, rfl, rfl, rfl, rfl, rfl, rfl, rfl, rfl, hlist⟩

/-- A packet that waits in the reorder stage, and whose turn it is. -/
structure MayLeave (s : State) (k : Nat) (p : Pass) (c : Committed) : Prop where
  runs : stopped s = false
  pass : pass? s k = some p
  phase : p.phase = .reorder
  com : p.com = some c
  first : (orderOf s p.src).contains k = false ∨ (orderOf s p.src).head? = some k

theorem MayLeave.gives {P : State → Prop} (h : MayLeave s k p c) (hP : ∀ u, Released k p (packetHanded k p c s) u → P u) :
    Gives (.reorderRelease k) s P := gives_released h.runs h.pass h.phase h.com h.first hP

/-- A first packet's record is gone and its place free. -/
theorem gives_gone (h : MayLeave s k p c) (hnone : c.notices = []) :
    Gives (.reorderRelease k) s (fun u => pass? u k = none ∧ orderOf u p.src = (orderOf s p.src).filter (fun x => x != k) ∧
      (dAction c.dispo = 4 → ∀ id, mfind u.clr.desc id = mfind s.clr.desc id)) := by
  refine h.gives fun u hu => ⟨hu.gone, order_released_handed hu, fun hdrop id => ?_⟩
  rw [hu.desc, packetHanded_dropped hnone hdrop]

/-- The copy of a packet to one port (R252, R261). -/
theorem gives_uni {dp : Nat} (h : MayLeave s k p c) (hnone : c.notices = []) (hbad : p.bad = false)
    (hdest : dAction c.dispo = 3 ∧ dp = 256 ∨ (dAction c.dispo = 1 ∨ dAction c.dispo = 5) ∧ dp = dDest c.dispo) (hdp : dp < 260)
    (hmir : ∀ j, j < 16 → mirMatch s p.epoch j 1 dp = false) :
    Gives (.reorderRelease k) s (fun u =>
      (admitTest s dp (dClass c.dispo) (dQueue c.dispo) (packetCells p c) = .ok → CopyAt s k p c dp u) ∧
      (admitTest s dp (dClass c.dispo) (dQueue c.dispo) (packetCells p c) ≠ .ok → u.clr.desc = s.clr.desc) ∧
      (admitTest s dp (dClass c.dispo) (dQueue c.dispo) (packetCells p c) = .noDesc →
        ctr u (pa pgClr cClr_DESC_EMPTY) = Nat.min maxCtr (ctr s (pa pgClr cClr_DESC_EMPTY) + 1)) ∧
      (admitTest s dp (dClass c.dispo) (dQueue c.dispo) (packetCells p c) = .limit ∨
          admitTest s dp (dClass c.dispo) (dQueue c.dispo) (packetCells p c) = .queue →
        ctr u (pa pgClr cClr_ADMIT_DROP) = Nat.min maxCtr (ctr s (pa pgClr cClr_ADMIT_DROP) + 1))) := by
  refine h.gives fun u hu => ?_
  obtain ⟨hok, hnot, hempty, hdrop⟩ := enqueueUni_outcome (d := uniCopy s k p c dp) (frameLenOf k p) (dQueue c.dispo) hmir
  rw [packetHanded_silent hnone hbad, enqueuePass_uni hdest hdp] at hu
  exact ⟨fun hadmit => copyAt_uni ((hok hadmit).released hu), fun hadmit => hu.desc.trans (hnot hadmit),
    fun hadmit => (hu.ctr _).trans (hempty hadmit), fun hadmit => (hu.ctr _).trans (hdrop hadmit)⟩

/-- The group of a packet, and its members. -/
def packetGroup (s : State) (c : Committed) : Nat := mcGroup s (dDest c.dispo)
def packetMembers (s : State) (p : Pass) (c : Committed) : List Nat := mcMembers (packetGroup s c) p.src

/-- Copies to a group that is not valid, or has no member left (R265). -/
theorem invalid_released {u : State} (hgood : s.store.mcgBad.contains (dDest c.dispo) = false) (hact : dAction c.dispo = 2)
    (hinvalid : (packetGroup s c).testBit 261 = false ∨ packetMembers s p c = []) (hu : Released k p (enqueuePass k p c s) u) :
    u.clr.desc = s.clr.desc ∧ ctr u (pa pgMc cMc_MC_INVALID) = Nat.min maxCtr (ctr s (pa pgMc cMc_MC_INVALID) + 1) := by
  rw [enqueuePass_group hact, replicate_invalid hgood hinvalid] at hu
  exact ⟨hu.desc, by rw [hu.ctr, ctr_count_same]⟩

/-- A valid group's packet is counted once. -/
theorem valid_released {u : State} (hgood : s.store.mcgBad.contains (dDest c.dispo) = false) (hact : dAction c.dispo = 2)
    (hvalid : (packetGroup s c).testBit 261 = true) (hsome : packetMembers s p c ≠ []) (hu : Released k p (enqueuePass k p c s) u) :
    Released k p (count pgMc cMc_MC_PACKETS (membersEnqueued p.epoch (frameLenOf k p) (dQueue c.dispo) (dDest c.dispo)
      (packetCopy k p c) (packetMembers s p c) s)) u := by
  rwa [enqueuePass_group hact, replicate_valid hgood hvalid hsome] at hu

theorem packets_released {u : State} {l : List Nat} {epoch q group : Nat} {fl : FrameLen} {d0 : Desc}
    (hu : Released k p (count pgMc cMc_MC_PACKETS (membersEnqueued epoch fl q group d0 l s)) u) :
    ctr u (pa pgMc cMc_MC_PACKETS) = Nat.min maxCtr (ctr s (pa pgMc cMc_MC_PACKETS) + 1) := by
  rw [hu.ctr, ctr_count_same, samePackets_membersEnqueued epoch fl q group d0 l s]

/-- The copies to the members of a valid group, each of which its port admits. -/
theorem members_released {u : State} {l : List Nat} {fl : FrameLen} (hl : l ≠ [])
    (hfit : MembersFit p.epoch (dQueue c.dispo) (packetCopy k p c) l s)
    (hu : Released k p (count pgMc cMc_MC_PACKETS (membersEnqueued p.epoch fl (dQueue c.dispo) (dDest c.dispo) (packetCopy k p c) l s)) u) :
    ctr u (pa pgMc cMc_MC_COPIES) = Nat.min maxCtr (ctr s (pa pgMc cMc_MC_COPIES) + l.length) ∧
      (∀ dp, l = [dp] → CopyAt s k p c dp u) ∧
      ∀ dp ∈ l, ∃ id, queueList u (globalQueue s dp (dQueue c.dispo)) = queueList s (globalQueue s dp (dQueue c.dispo)) ++ [id] := by
  refine ⟨?_, fun dp hone => ?_, fun dp hdp => ?_⟩
  · rw [hu.ctr, ctr_count_other _ _ _ _ (pa_ne _ _ _ (by decide))]
    exact ctr_membersEnqueued hfit hl
  · subst hone
    exact copyAt_member (((copyQueued_member hfit).counted _ _).released hu)
  · obtain ⟨id, hid⟩ := queueList_membersEnqueued hfit (group := dDest c.dispo) (fl := fl) dp hdp
    exact ⟨id, (hu.queueList _).trans hid⟩

/-- The copies of a packet to a group (R265). -/
theorem gives_group (h : MayLeave s k p c) (hnone : c.notices = []) (hbad : p.bad = false) (hact : dAction c.dispo = 2)
    (hgood : s.store.mcgBad.contains (dDest c.dispo) = false) :
    Gives (.reorderRelease k) s (fun u =>
      ((packetGroup s c).testBit 261 = false ∨ packetMembers s p c = [] → u.clr.desc = s.clr.desc ∧
        ctr u (pa pgMc cMc_MC_INVALID) = Nat.min maxCtr (ctr s (pa pgMc cMc_MC_INVALID) + 1)) ∧
      ((packetGroup s c).testBit 261 = true → packetMembers s p c ≠ [] →
        ctr u (pa pgMc cMc_MC_PACKETS) = Nat.min maxCtr (ctr s (pa pgMc cMc_MC_PACKETS) + 1) ∧
        ((∀ dp ∈ packetMembers s p c, admitTest s dp (dClass c.dispo) (dQueue c.dispo) (packetCells p c) = .ok ∧
            ∀ j, j < 16 → mirMatch s p.epoch j 1 dp = false) →
          ((packetMembers s p c).map (fun dp => globalQueue s dp (dQueue c.dispo))).Nodup →
          s.clr.desc.length + (packetMembers s p c).length ≤ 1048576 →
          ctr u (pa pgMc cMc_MC_COPIES) = Nat.min maxCtr (ctr s (pa pgMc cMc_MC_COPIES) + (packetMembers s p c).length) ∧
          (∀ dp, packetMembers s p c = [dp] → CopyAt s k p c dp u) ∧
          ∀ dp ∈ packetMembers s p c, ∃ id, queueList u (globalQueue s dp (dQueue c.dispo)) =
            queueList s (globalQueue s dp (dQueue c.dispo)) ++ [id]))) := by
  refine h.gives fun u hu => ?_
  rw [packetHanded_silent hnone hbad] at hu
  refine ⟨fun hinvalid => invalid_released hgood hact hinvalid hu, fun hvalid hsome => ?_⟩
  have hu' := valid_released hgood hact hvalid hsome hu
  refine ⟨packets_released hu', fun hadmit hqueues hroom => members_released hsome ?_ hu'⟩
  exact ⟨nodup_mcMembers _ _, hqueues, fun dp hdp => (hadmit dp hdp).1, fun dp hdp => (hadmit dp hdp).2, hroom⟩

end

/-- Settles O42: a commit's updates stand through whatever becomes of its packet, and a release hands on notices and copies before it
gives up the packet's place and record. -/
theorem commitAndReorderRelease : Obligations.CommitAndReorderRelease := by
  intro s t p hs hsafe ht
  refine ⟨fun hp hst => ⟨fun hroom x6 x7 x8 => ?_, fun hframe hroom hheld => ?_, fun hframe hroom => ?_⟩,
    fun k c hp hphase hcom => ?_⟩
  · exact gives_act_eq hs (exec_commitAccept t x6 x7 x8 s) (commitAccept_stalls hroom x6 x7 x8) (boardKeeps_eq_self rfl rfl) rfl
  · have h := commitLeaves ht hp hheld
    refine gives_act_eq hs (exec_commitAccept t false [] [] s) (commitAccept_taken hp hst hsafe hroom hframe) h.board ?_
    exact ⟨h.free, h.freeAt, h.handoff, h.counted ht, h.unlocked, fun c v hone => h.contexts hone, fun i n hone hoff => h.pairs hone hoff,
      h.policers, fun hnone => left_without_notices h.left hnone, fun n hone => left_with_notice h.left hone⟩
  · exact gives_commitShort hs hsafe ht hp hst hframe hroom
  · refine ⟨fun hin hhead => ?_, fun hfirst hnone => gives_gone ⟨hs, hp, hphase, hcom, hfirst⟩ hnone, fun hfirst =>
      ⟨fun n hone hroom => ?_, fun hnone hbad _ => ⟨fun dp hdest hdp hmir => ?_, fun hact hgood => ?_⟩⟩⟩
    · exact gives_act_eq hs (exec_reorderRelease k s) (reorderRelease_behind hp hphase hcom hin hhead) (boardKeeps_eq_self rfl rfl) rfl
    · exact MayLeave.gives ⟨hs, hp, hphase, hcom, hfirst⟩ fun u hu => lq_released hone hroom hu
    · exact gives_uni ⟨hs, hp, hphase, hcom, hfirst⟩ hnone hbad hdest hdp hmir
    · exact gives_group ⟨hs, hp, hphase, hcom, hfirst⟩ hnone hbad hact hgood

end Sys2Proof.Machine
end
